-- ==== Sys2Proof/Word.lean ====
section
/-! DEFINITION. Sys2Proof/Word.lean: the word types of the block and nothing else. -/

namespace Sys2Proof

/-- A 32-bit register word (R8). -/
abbrev Word := BitVec 32

/-- A byte of host memory, device memory or the SPI NOR. -/
abbrev Byte := BitVec 8

/-- A byte string as the device reads it from outside: lowest address first (R8). -/
abbrev Bytes := List Byte

end Sys2Proof
end

