-- ==== Sys2Proof/Config.lean ====
section
/-! DEFINITION. Sys2Proof/Config.lean: what an implementation fixes, and the free values. -/

namespace Sys2Proof.Config

/-- A value the spec leaves open (TRNG output and the like). It has no body: no proof can know a value of it.
Applied to the counter `State.freeCtr`, which each draw advances (assumption 1). -/
opaque freeValue : Nat → Nat

/-- A byte of Choararok's own data, the first 256 MiB of the clean class, whose contents no rule states: a free value of
the address and the counter (assumption 1). -/
opaque coreByte : Nat → Nat → Byte

/-- Byte `i` of the SHA-384 of a byte string, and of an ECDSA P-384 signature over one with the random value `k`
(R437). The functions are uninterpreted: no proof can know a value of them (assumption 1). -/
opaque sha384Byte : Bytes → (i : Nat) → Byte
opaque signatureByte : (key : Option Nat) → Bytes → (k i : Nat) → Byte

/-- The unit root secret that the PUF gives, and the derivation of a key from it with a label and a context (R432; assumption 1). -/
opaque pufSecret : Nat
opaque deriveKey : (secret label context : Nat) → Nat

/-- Sizes no rule states (assumption 9): the DRAM bytes of one activation buffer of a layer whose output is `w` by `h` by
`c` values at precision code `prec`, of an activation set of a model with these layers, and of a stream's track state. They enter
the demand of R287 and the allocations of R300 and nothing else. Each is below 4 GiB, since a buffer is one run of DRAM (R299). -/
opaque activationSize : (w h c prec : Nat) → Fin (2 ^ 32)
opaque activationSetSize : List (Nat × Nat × Nat × Nat) → Fin (2 ^ 32)
opaque trackStateSize : Fin (2 ^ 32)

def activationBytes (w h c prec : Nat) : Nat := (activationSize w h c prec).val
def activationSetBytes (ls : List (Nat × Nat × Nat × Nat)) : Nat := (activationSetSize ls).val
def trackStateBytes : Nat := trackStateSize.val

/-- Sample (x, y) of plane `k` (0 Y, 1 Cb, 2 Cr) of a decoded picture, at its coded bit depth, by the key of the decode (R221): the
bitstream standards fix it and no rule states it (assumption 13). -/
opaque decodedSample : (key plane : Nat) → (x y : Int) → Nat

/-- Sample `i` of the chroma planes of a mirror picture: how T's full-size chroma becomes 4:2:0 no rule states (R246; assumption 13). -/
opaque mirrorChroma : (key i : Nat) → Byte

/-- Byte `pos` of the mirror access unit of job `key`, where it lies in a coded picture: the bitstream standard fixes it and no rule states
it (assumption 13). -/
opaque mirrorByte : (key pos : Nat) → Byte

/-- PROFILE of a stream whose profile has no code in the table of R213 (R223; assumption 94). -/
opaque otherProfile : Nat → Fin 256

/-- CHROMA of a JPEG image whose sampling is none of those of R213, by its factors (R223; assumption 94). -/
opaque otherChroma : (h v : Nat) → Fin 4

/-- The core that makes a load for a command, and where in Choararok's data an update's bytes lie while they are programmed (R38, R46;
assumption 95). -/
opaque loadCore : Fin 256
opaque chunkBuffer : Fin 266338304

/-- The scale SC of an output channel of a bf16 layer that writes int8, from its table entry: where it lies no rule states (R264;
assumption 97). -/
opaque bf16Scale : Bytes → Nat

/-- An accumulator of the FFT method, within its bound of R266 and of its exact value: which no rule states (assumption 13). -/
opaque fftError : (exact : Int) → (bound : Nat) → Int

/-- R2 of a least-squares fit whose values are all the same (0 / 0): no rule states it (R494; assumption 105). -/
opaque flatFit : Fin 1001

/-- The lane equalisation control words of the Secondary PCI Express capability, which the hardware initialises and no rule states
(assumption 83). -/
opaque eqControl : Nat → Nat

/-- Streams, clients, fences, vectors, jobs of R20 (01_frame_path.md). -/
def streams : Nat := 128
def clients : Nat := 1024
def fences : Nat := 131072
def vectors : Nat := 2048
def jobEntries : Nat := 256

/-- Packets fetched and not completed, device-wide, and those kept for client 0 (R169). -/
def pktMax : Nat := 512
def pktMaxOther : Nat := 496

/-- Object slots shared by models and ensembles, and the most of one kind (R295). -/
def objectSlots : Nat := 128
def objectsPerKind : Nat := 64

/-- Page slots of the weight staging store (At a glance, 12_scheduler_pager_admission.md). -/
def pageSlots : Nat := 512

/-- UTIL of R286 for engine details 1 to 8, index 0 to 7. -/
def util : Nat → Nat
  | 0 => 900 | 1 => 900 | 2 => 1000 | 3 => 950 | 4 => 900 | 5 => 950 | 6 => 900 | 7 => 800 | _ => 0

/-- The fixed value of GCTL_ID (R13). -/
def gctlId : Nat := 0x71170960

end Sys2Proof.Config
end

