-- ==== Sys2Proof/Syntax.lean ====
section
/-! DEFINITION. Sys2Proof/Syntax.lean: the commands the block takes, one constructor per row of spec/opcode_table.json,
and the values a command carries from outside the block (what the device reads from host memory, from a bitstream, from a
sensor or from its partner). The spec's rows have no bits, so a command is this term and nothing else. -/

namespace Sys2Proof

/-- One of the replicated units of R20 (01_frame_path.md). -/
inductive UnitName where
  | dec (n : Nat) | array (n : Nat) | cluster (n : Nat) | fft | lane (n : Nat) | menc (n : Nat)
  deriving DecidableEq, Repr

/-- What the header syntax of one codec holds beside sizes and depths (R213, R214): of an H.264 SPS, profile_idc,
constraint_set0_flag, constraint_set1_flag, constraint_set3_flag, level_idc and frame_mbs_only_flag; of an H.265 SPS,
general_profile_idc, compatibility flags 1 and 2, general_level_idc and field_seq_flag; of a JPEG image, the number n of its frame
header SOFn, its components and the sampling factors of the first of them. -/
inductive CodecHeader where
  | h264 (profileIdc : Nat) (set0 set1 set3 : Bool) (levelIdc : Nat) (frameMbsOnly : Bool)
  | h265 (profileIdc : Nat) (compat1 compat2 : Bool) (levelIdc : Nat) (fieldSeq : Bool)
  | jpeg (sof components lumaH lumaV : Nat)
  deriving DecidableEq, Repr

/-- The headers that a picture activates (R223), of its base layer (R214): the coded luma size, chroma_format_idc (not read of a
JPEG image), the luma bit depth, the size after cropping and the reference frames demanded (R222). -/
structure Header where
  width : Nat
  height : Nat
  chroma : Nat
  depth : Nat
  outW : Nat
  outH : Nat
  refs : Nat
  tools : CodecHeader
  deriving DecidableEq, Repr

/-- The header facts of R223. -/
structure HdrFacts where
  width : Nat
  height : Nat
  profile : Nat
  level : Nat
  chroma : Nat
  bitDepth : Nat
  outW : Nat
  outH : Nat
  deriving DecidableEq, Repr

/-- What the parameter sets and headers of an access unit say (R224 to R226): an IDR or IRAP picture or not; whether it starts a coded
video sequence; a slice that names a parameter set never received or failing its own syntax; the headers it activates, if any. -/
structure AuFacts where
  rap : Bool
  newSeq : Bool
  paramSetErr : Bool
  header : Option Header
  deriving DecidableEq, Repr

/-- What the headers and slices of one access unit hold (09_stream_decode.md), beside `au`: its picture order count; blocks concealed
out of the total; a missing reference; whether the picture is output; a JPEG scan error; the FSEQs of the pictures the decoded
picture buffer holds when the decode has ended. -/
structure DecodeOutcome where
  au : AuFacts
  poc : Int
  concealed : Nat
  total : Nat
  refMissing : Bool
  output : Bool
  jpegErr : Bool
  refs : List Nat
  deriving DecidableEq, Repr

/-- One entry of the detection table of R273. -/
structure Det where
  x0 : Nat
  y0 : Nat
  x1 : Nat
  y1 : Nat
  c16 : Nat
  cls : Nat
  crop : Nat
  deriving DecidableEq, Repr

/-- What a job finds that no rule gives a value for: the bytes of the detection table a tracker job reads (R273). -/
structure JobOutcome where
  table : Bytes
  deriving DecidableEq, Repr

/-- How a device read of host memory fails (R149). -/
inductive ReadFail where
  | timeout | poisoned | urca
  deriving DecidableEq, Repr

/-- What a repeated ring fetch reads (R149): the words, or a second failure. -/
inductive FetchRead where
  | words (ws : List Word) | failed (kind : ReadFail)
  deriving DecidableEq, Repr

/-- Whose request fails (R149, R179): the ring fetch of a client, the data read of a started packet, the CPL_HEAD writeback of a
client. -/
inductive ReadRequester where
  | ring (c : Nat) | packet (p : Nat) | writeback (c : Nat)
  deriving DecidableEq, Repr

/-- What the link finds wrong with a TLP the device receives (R148): poisoned data, an ECRC error, a completion nobody asked for, one
of the fatal errors (malformed, receiver overflow, flow control, data link protocol), an address outside every BAR. -/
inductive TlpFault where
  | poisoned | ecrc | unexpectedCompletion | malformed | receiverOverflow | flowControl | dlProtocol | outside
  deriving DecidableEq, Repr

/-- The correctable errors of R148. -/
inductive LinkError where
  | receiver | badTlp | badDllp | replayTimeout | replayRollover
  deriving DecidableEq, Repr

/-- A Recovery of the host link (R155): it begins, on `errs` errors of kind `kind` on `lane` or directed by the root port (no
error); it passes Recovery.Speed; it ends in L0 at a speed and width. -/
inductive RecoveryPhase where
  | enter (lane errs : Nat) (kind : Option LinkError) | speed | toL0 (speed width : Nat)
  deriving DecidableEq, Repr

/-- How the pairing handshake of R361 ends. -/
inductive HandshakeOutcome where
  | ok (serial : Nat) (norOk : Bool) | certRefused | authFail | partnerLab
  deriving DecidableEq, Repr

/-- What a boot ROM step finds (R120, R131): the verdicts of key derivation, of the two slots' signatures, of fuse programming,
of the certificate's key; the rate each channel trains at, 0 where it fails; the step 6 self-tests. -/
structure BootOutcome where
  pufOk : Bool
  slotAOk : Bool
  slotBOk : Bool
  fuseOk : Bool
  identityOk : Bool
  rates : List Nat
  selftestOk : Bool
  failedUnits : List UnitName
  deriving DecidableEq, Repr

/-- A JTAG access (R438, R524): an instruction of the TAP, a register read or write, a memory read of `n` bytes at a device address,
the read of a line of the tile store or the weight staging store, of working storage, control of the cores or their trace. -/
inductive JtagReq where
  | idcode | bypass | boundaryScan | regRead (off : Nat) | regWrite (off v : Nat) | memRead (addr n : Nat) | memWrite (addr : Nat) (b : Bytes)
  | lineRead (staging : Bool) (line : Nat) | workingRead | haltCores | stepCores | resumeCores | trace
  deriving DecidableEq, Repr

/-- The commands. The docstring of each gives the rule that governs it. -/
inductive Instr where
  /-- NOP command completes at start with OK and no other effect (R182). -/
  | nop
  /-- Creates a 64-bit fence with an initial value and share key and returns its handle, or NO_RESOURCE when none is free (R174). -/
  | fenceCreate (h : Nat)
  /-- The creator frees a fence; its waiters complete with FENCE_TIMEOUT detail 0x0002 and the handle returns to the free pool (R177). -/
  | fenceDestroy
  /-- SET or ADD update of a fence counter, which never decreases, followed by release of satisfied waiters and the reply (R175). -/
  | fenceSignal
  /-- Waits until a fence reaches TARGET; completes at start when already reached, otherwise parks (R176). -/
  | fenceWait
  /-- TIMEOUT ticks pass after a wait's start without its target being reached; the wait completes with FENCE_TIMEOUT detail 0x0001 (R176). -/
  | fenceWaitTimeout (p : Nat)
  /-- BARRIER starts in ring order and holds later packets of its client until it completes (R172). -/
  | barrier
  /-- Every earlier packet of the client and all the work it caused, including flue passes, has ended, so the BARRIER replies (R172). -/
  | barrierComplete (p : Nat)
  /-- Checks words, metadata ring and admission, then allocates the lowest free context and DRAM pools and links the stream to the opener's ring (R191). -/
  | streamOpen
  /-- Checks the feed (FSEQ, size, ownership, role, shed) and starts the ingest copy of the access unit into a free bitstream slot (R192). -/
  | streamFeed
  /-- The ingest DMA finishes copying and checking an access unit; the feed completes with OK or STREAM_ERROR and F is set or restored (R216). -/
  | feedCopyDone (s : Nat) (fseq : Nat) (au : Bytes)
  /-- Discards the stream's access units not yet taken by a decoder and abandons its batch under construction (R193). -/
  | streamFlush
  /-- Stops ingest at once, discards undecoded access units and waits for copies and decoded frames to finish (R34). -/
  | streamClose
  /-- The last waited-for copy and flue pass have ended; the close replies with frames completed and discarded and frees the context (R34). -/
  | streamCloseComplete (s : Nat)
  /-- Re-admits the stream against new priority, class, maximum size or frame rate, effective at the next frame boundary (R195). -/
  | streamReconfig
  /-- Starts copying a model bundle from host memory into the clean class (R196). -/
  | modelLoad
  /-- The bundle copy ends; the numbered bundle checks run and the model takes an object slot and handle or is freed (R294). -/
  | modelLoadCopyDone (p : Nat) (image : Bytes) (sigOk : Bool)
  /-- Frees a model's pages and slot unless a pipeline binds it (R196). -/
  | modelUnload
  /-- Reads and checks the pre-processing descriptor, admits the pipeline's demand and allocates batch, activation, track and tree buffers (R197). -/
  | pipelineBind (desc : Bytes)
  /-- Stops analysis of the stream from its next frame boundary and puts the stream in HOLD (R197). -/
  | pipelineUnbind
  /-- The flue pass of the last bound frame ends; the unbind replies and its demand is removed (R182). -/
  | pipelineUnbindDone (s : Nat)
  /-- Starts copying an ensemble image from host memory into the clean class (R196). -/
  | treeLoad
  /-- The ensemble copy ends; the numbered checks run and the ensemble takes an object slot or is freed (R313). -/
  | treeLoadCopyDone (p : Nat) (image : Bytes) (sigOk : Bool)
  /-- Frees an ensemble's blocks and slot unless a pipeline binds it (R196). -/
  | treeUnload
  /-- Sets budget, kind enables, status period, zone table or full-ring policy together, with budget clamped against the fuse ceiling (R198). -/
  | flueConfig (zones : Bytes)
  /-- Sets or unsets the client's metadata ring and its interrupt and fence options, zeroing META_HEAD and META_TAIL (R199). -/
  | metadataRingSet
  /-- Starts zeroing soot-class granules of scope STREAM, FREE or ALL, then clearing their tags, as C3 traffic (R55). -/
  | scrub
  /-- The scrub finishes; the scrubbed granules pass to the free pools and the reply gives the granules zeroed (R56). -/
  | scrubDone
  /-- Starts the pairing handshake with the partner, or with UNBIND destroys the session and stored identity and makes the role SOLO (R201). -/
  | pairBind
  /-- Authentication and key agreement end; the partner identity is stored, the session is KEYED and PAIR_BIND replies (R361). -/
  | pairHandshakeDone (outcome : HandshakeOutcome)
  /-- The partner has not started its PAIR_BIND within 10,000,000 ticks; the command completes with DEVICE_FAULT 0x0202 (R428). -/
  | pairBindTimeout
  /-- Changes role under a greater fencing generation, stored in SPI NOR first, or renews the ACTIVE lease under an equal generation (R202). -/
  | pairRole (norOk : Bool)
  /-- The last rolled flue pass of every stream is written or dropped; TAKEOVER_BUSY clears and TAKEOVER_DONE is set (R412). -/
  | takeoverRollDone
  /-- Checks and admits a stream's mirror buffer model and rates, or with ENABLE 0 stops mirroring and removes its demand (R391). -/
  | mirrorConfig
  /-- Sets the bay LED and, after its checks, drives partner power enable or a partner reset pulse (R421). -/
  | bayControl
  /-- Requests RUN, IDLE, DOZE or SLEEP, or stores only the D3hot mapping (R205). -/
  | powerSet
  /-- After any running SCRUB ends, DOZE or SLEEP entry stops patrol and tracking, pre-clears soot, scans retained eighths and enters self-refresh (R345). -/
  | powerTransitionStart
  /-- A wake source is captured in IDLE, DOZE or SLEEP; the unit goes to WAKING and starts its wake sequence (R447). -/
  | powerWake (src : Nat)
  /-- Non-retained eighths are zeroed, tags cleared and, after SLEEP, the slot re-verified and state restored; DEVICE_STATE returns to READY (R346). -/
  | wakeComplete (verified : Bool) (rates : List Nat)
  /-- Writes a SUMMARY or STREAM block to host memory, or DUMPs device memory through the egress soot check (R206). -/
  | healthQuery
  /-- Erases the inactive slot's header sector, programs BEGUN and clears the written-sector map (R461). -/
  | updateBegin (norOk : Bool)
  /-- Writes a chunk of the image sector by sector and programs COMPLETE once every sector is written (R462). -/
  | updateChunk (data : Bytes) (norOk : Bool)
  /-- Checks header, signature and security version of the downloaded image and programs VERIFIED (R463). -/
  | updateVerify (rootOk : Bool) (sigOk : Bool) (norOk : Bool)
  /-- Writes a TRIAL selector record for the verified slot so the next boot runs it in trial (R464). -/
  | updateActivate (norOk : Bool)
  /-- Writes a CONFIRMED record, programs the anti-rollback positions and, if provisioning, the model key fuses (R466). -/
  | updateConfirm (norOk : Bool) (copies : Option Nat)
  /-- Checks a debug token and on acceptance starts or widens the debug session and opens the JTAG port (R441). -/
  | debugToken (token : Bytes) (sigOk : Bool)
  /-- Writes the signed measurement, and the device certificate when room allows, to host memory (R437). -/
  | attest (nonce : Bytes)
  /-- Stops fetch and abandons every job of one client, discarding its pending records (R130). -/
  | clientReset
  /-- The client reset completes; its rings, fences, streams and control block are cleared and the reply to client 0 is written (R130). -/
  | clientResetDone (c : Nat)
  /-- Host write of a command doorbell value, accepted, latched before READY or discarded and counted (R164). -/
  | commandDoorbell (c : Nat) (off : Nat) (width : Nat) (v : Nat)
  /-- Host write of a completion doorbell value that frees completion slots, or is discarded and counted (R164). -/
  | completionDoorbell (c : Nat) (v : Nat)
  /-- Once a packet is fully covered and a slot and in-flight allowance are free, the device reserves a slot, fetches the packet and runs the common checks (R169). -/
  | packetFetch (c : Nat) (words : List Word)
  /-- One tick after a failed ring fetch the read is retried; a second failure stops fetch for the client (R149). -/
  | fetchRetry (c : Nat) (read : FetchRead)
  /-- A device read to host memory fails with timeout, poison, UR or CA; ring fetch is retried or the command completes with DEVICE_FAULT (R149). -/
  | deviceReadFail (kind : ReadFail) (requester : ReadRequester)
  /-- A CL_FLUSH write completes unstarted packets FLUSHED, skips whole packets to CMD_TAIL and writes one flush reply (R178). -/
  | clientFlush (c : Nat) (tag : Nat) (headers : List Word) (fail : ReadFail)
  /-- A control-block write that sets or clears ENABLE, checking ring fields and resetting ring counts (R160). -/
  | clientEnableWrite (c : Nat) (v : Nat)
  /-- A CL_CPL_FENCE write is accepted only for a live fence created by the client, setting CPL_FENCE_VALID (R161). -/
  | cplFenceWrite (c : Nat) (v : Nat)
  /-- Host advances the metadata consumer count, freeing slots, within the range checks (R83). -/
  | metaTailWrite (c : Nat) (v : Nat)
  /-- A write to RING_EN or IRQ_EN that enables the event ring only with a valid base and size, resetting head and tail (R114). -/
  | evuRingCtrlWrite (v : Nat)
  /-- Host advances the event ring consumer count, checked as META_TAIL is (R114). -/
  | evuRingTailWrite (v : Nat)
  /-- A GCTL_RESET write with key 0xC0DE and WARM set starts a warm reset (R131). -/
  | warmResetWrite (v : Nat)
  /-- A SEC_DBG_CTRL write with KEY 0xC105 and END ends the debug session (R443). -/
  | debugEndWrite (v : Nat)
  /-- A write to SEC_LAB_ARM that arms, completes or disarms the LAB entry sequence; completion zeroises, programs fuses and warm-resets (R444). -/
  | labArmWrite (v : Nat)
  /-- A keyed check-in write for an enabled slot owned by the writer marks that slot checked in for the period (R478). -/
  | wdgCheckin (w : Nat) (v : Nat) (byHost : Bool)
  /-- A period write accepted only inside the open window from the owner, applied from the next period (R479). -/
  | wdgPeriodWrite (w : Nat) (v : Nat) (byHost : Bool)
  /-- A slot enable write accepted only inside the open window from the owner, applied from the next period (R479). -/
  | wdgEnableWrite (w : Nat) (v : Nat) (byHost : Bool)
  /-- A host write of WRN_CTRL.RETRAIN starts a retrain of the Wren link (R357). -/
  | wrenRetrainWrite (v : Nat)
  /-- A host write of WIDTH_REQ makes this unit hold a width proposal and start a training (R358). -/
  | wrenWidthReq (v : Nat)
  /-- A host write of RESYNC makes the stream's next mirror picture a ROWRATE IDR resynchronisation (R390). -/
  | mirrorResyncWrite (s : Nat) (v : Nat)
  /-- A write that moves the clean/soot class boundary, discarded unless range, idle and tag conditions hold (R303). -/
  | cleanEighthsWrite (v : Nat)
  /-- Writing an interrupt enable bit from 0 to 1 while its cause bit is set signals the vector (R531). -/
  | irqEnableWrite (off : Nat) (v : Nat)
  /-- A host write to a register without behaviour of its own applies per access type, RW1C and LOCK rules (R9). -/
  | registerWrite (bar : Nat) (off : Nat) (width : Nat) (v : Nat)
  /-- A full-width read of an RC register returns its value and clears it, with a simultaneous hardware set winning (R9). -/
  | registerReadClear (bar : Nat) (off : Nat) (width : Nat)
  /-- A 32-bit read of a 64-bit register's low half loads its high half into the host shadow (R15). -/
  | shadowLowRead (off : Nat)
  /-- A 32-bit read of the high half returns and empties the shadow when it belongs to that register, otherwise the live value (R15). -/
  | shadowHighRead (off : Nat)
  /-- An oversized, misaligned or partially enabled BAR request is refused or discarded and sets BAD_ACCESS (R138). -/
  | badBarAccess (bar : Nat) (write : Bool) (off : Nat) (bytes : Nat) (be : Nat) (fault : Option TlpFault)
  /-- A vector with its pending bit set stops being blocked; one message is sent and the bit cleared (R140). -/
  | msixUnblock (vec : Option Nat) (enable : Bool) (fmask : Bool)
  /-- A PMCSR write to D3hot flushes staged output and enters the mapped DOZE or SLEEP, or sets D3_DENIED (R446). -/
  | pmcsrD3hot
  /-- Setting or clearing Bus Master Enable gates device requests, holds unissued reads and pends MSI-X (R158). -/
  | busMasterEnableWrite (bme : Bool) (mse : Bool)
  /-- PCI Express FLR stops fetch on all clients, abandons every job and clears host-facing state (R129). -/
  | functionLevelReset (gctlReset : Option Nat)
  /-- The function-level reset completes within 100 ms and DEVICE_STATE returns from FLR to READY (R129). -/
  | flrComplete
  /-- A PEC-checked SMBus block process call reads a GCTL or HLT register without clearing RC fields (R522). -/
  | smbusRead (addr : Nat) (cmd : Nat) (len : Nat) (off : Nat) (pecOk : Bool)
  /-- A JTAG access served according to debug state and scope, with sooted reads returning zero and a breach (R438). -/
  | jtagAccess (req : JtagReq)
  /-- TRST_N low resets the TAP only and ends no session (R524). -/
  | tapReset
  /-- PWROK falls or VDD_AON drops: the whole die including the always-on domain is reset and TICK_NOW restarts (R119). -/
  | powerOnReset (vddLost : Bool)
  /-- VDD_AON becomes valid at first power-up and the always-on domain leaves its power-on reset (R119). -/
  | aonValid
  /-- PERST_N or BAYRST_N falls; the device enters cold reset and boot state is destroyed (R127). -/
  | coldReset (bay : Bool)
  /-- All reset inputs are high; the LTSSM starts and, after PLL lock, SRAM zeroing and the boot ROM begin (R119). -/
  | resetRelease
  /-- A PCI Express Hot Reset causes a warm reset with link retraining (R127). -/
  | hotReset
  /-- Tile and weight staging stores and their tags are zeroed 1 ms after reset release; SRAM_READY is set and step 1 starts (R120). -/
  | sramZeroDone
  /-- A boot ROM step finishes after its duration; DEVICE_STATE advances, or FAULT is entered, and step 6 ends in READY (R120). -/
  | bootStepDone (outcome : BootOutcome)
  /-- DL_Down is reported; fetch stops, egress is discarded, outstanding reads are abandoned and DOWN is set (R152). -/
  | hostLinkDown (ltssm : Nat)
  /-- DL_Up returns after a link loss; a function-level reset is carried out and DOWN clears (R153). -/
  | dlUpReturn (speed : Nat) (width : Nat)
  /-- A lane's errors reach LANE_ERR_LIMIT with autonomous width permitted; the link retrains narrower and WIDTH_REDUCED is set (R156). -/
  | linkWidthReduce (lane : Nat) (errs : Nat)
  /-- A clock monitor sees no edge for its limit and declares the clock lost, stopping crossings and entering FAULT or a link-down consequence (R98). -/
  | clockLoss (id : Nat)
  /-- A junction sensor reads 115 °C or more; flues are fenced and engines stopped on the way to OFF (R111). -/
  | thermalTrip (sensor : Nat) (temp : Int)
  /-- 16 ticks after a thermal trip's stamp PWRDN_REQ_N is driven low and the device holds itself in reset (R527). -/
  | pwrdnReq
  /-- A rail reads out of band for 8 consecutive ticks or AVSBus reports a fault; SUPPLY_WARN is raised and ACLK drops to 400 MHz (R490). -/
  | supplyWarn (rail : Nat) (mv : Nat) (avs : Bool)
  /-- A rail reads within its band for 8 consecutive ticks and leaves warning (R490). -/
  | supplyRailClear (rail : Nat)
  /-- No rail has been in warning for 1,000,000 ticks; the governor resumes and OFFSET unfreezes (R489). -/
  | warningStateClear
  /-- Every 10 ticks while the lowest monitor margin is below 4 steps, OFFSET rises by 5 mV (R486). -/
  | avsOffsetRaise (margin : Nat)
  /-- At the end of each 1,048,576-tick interval HLT_VCORE, CPM and TEMP are updated and OFFSET may fall (R492). -/
  | hltIntervalEnd (margin : Nat) (dieTemp : Int) (dramTemp : Int)
  /-- At least every 1,024 ticks the deadline governor recomputes ACLK from admitted demand (R488). -/
  | governorRecompute
  /-- An enabled tamper source asserts; the session ends, flues fence, keys zeroise, PAIR_EPOCH advances and sooted storage is zeroised (R450). -/
  | tamper (src : Nat)
  /-- A bay input level has held 20,000 ticks; presence, button or power-good changes set BAY_EVENTS and SLOT_STATE (R418). -/
  | bayInputDebounced (input : Nat) (level : Bool)
  /-- PGOOD is not high within BAY_PGOOD_MS of powering; the slot enters FAULT and outputs drop (R420). -/
  | bayPowerTimeout
  /-- 100,000 ticks after PGOOD rises BAY_PERST_N is released and the slot is ON (R420). -/
  | bayPerstRelease
  /-- 1,000 ticks after power-off starts BAY_PWREN is driven low (R420). -/
  | bayPwrenDrop
  /-- BAY_PGOOD_MS after PWREN falls, the slot goes OFF, or to FAULT if PGOOD is still high (R420). -/
  | bayPoweroffEnd
  /-- A partner reset pulse ends after 10,000 ticks and BAY_PERST_N is released (R420). -/
  | bayPerstPulseEnd
  /-- In blink mode the bay lamp toggles every 500 ms (R417). -/
  | bayLedToggle
  /-- 25 TCLK cycles (24 or 26 while slewing) elapse and TICK_NOW increments by one (R100). -/
  | tick
  /-- After a tick with captured events, the HEAD and DETAIL records are formed, written to ring and history, and consequences start by precedence (R104). -/
  | eventGroup
  /-- Choararok appends a breach log entry to the SPI NOR log region within 1 s (R50). -/
  | breachLogAppend
  /-- A watchdog period ends; if any enabled slot missed its check-in, WDG_EXPIRE is raised, otherwise the next period starts (R475). -/
  | wdgPeriodEnd (w : Nat)
  /-- PREWARN ms before a period's end with the open window not started, WDG_IRQ.PREWARN is set and vector 5 signalled (R480). -/
  | wdgPrewarn (w : Nat)
  /-- The 20 ms control-core restart ends; started unreplied packets complete with DEVICE_FAULT 0x0401 and deferred consequences apply (R481). -/
  | fwRestartDone
  /-- An ACTIVE lease reaches GCTL_LEASE_END; flues are fenced, unwritten records discarded and the role becomes ORPHAN (R407). -/
  | leaseExpire
  /-- SEC_DBG_EXPIRY is reached; the session ends, cores resume, the port closes and a new challenge is drawn (R443). -/
  | debugSessionExpire
  /-- 600 s after READY in a trial without UPDATE_CONFIRM, Choararok reverts the slot and warm-resets (R465). -/
  | trialConfirmTimeout
  /-- At a frame end a decode engine chooses the next ready context by class, deadline and stream number (R218). -/
  | decodeStart (e : Nat)
  /-- A frame's decode or HOLD parse ends; the picture is delivered, concealed, not delivered or discarded and the AU slot is freed (R221). -/
  | decodeDone (e : Nat) (out : DecodeOutcome)
  /-- A frame still decoding after its overrun limit is abandoned with OVERRUN and the stream tainted (R220). -/
  | decodeOverrun (e : Nat) (au : AuFacts)
  /-- A decode engine has a parity error or no progress for 1,000 ticks; it leaves service and its frame is re-decoded elsewhere (R229). -/
  | decodeEngineFault (e : Nat) (cause : Nat) (au : AuFacts)
  /-- A 200-tick self-test after a repeated failure ends; the unit returns to service with CAUSE 5 or 4, or stays out with CAUSE 3 (R278). -/
  | selftestDone (unit : UnitName) (passed : Bool)
  /-- The pre-processor chooses a ready decoded frame and builds all its crops (R247). -/
  | preprocessStart
  /-- A batch's last crop is written and the batch enters the stream's queue (R249). -/
  | batchEnqueue
  /-- An uncorrectable line-buffer error or a crop exceeding 4 times its cost abandons the batch (R254). -/
  | preprocessFault
  /-- A freed job entry goes to the waiting job of lowest class and earliest deadline within class limits (R283). -/
  | jobEntryGrant
  /-- The pager takes the next job and fetches its non-resident pages, evicting unpinned pages as needed (R296). -/
  | pageStageStart
  /-- A job's pages are all resident and pinned, making an array or FFT job ready (R297). -/
  | pageStageDone
  /-- An engine issues its ready job first in class and deadline order (R284). -/
  | jobIssue (unit : UnitName)
  /-- A job's fixed cycle count ends; output tags are raised if needed and its buffers pass on (R43). -/
  | jobComplete (unit : UnitName) (out : JobOutcome)
  /-- TICK_NOW passes DA(k) with jobs unissued; the frame is dropped and its unissued jobs cancelled (R285). -/
  | frameDeadline (s : Nat) (fseq : Nat)
  /-- An array, cluster or FFT unit has a residue mismatch, uncorrectable operand error or hang; it leaves service and its jobs are re-issued (R277). -/
  | computeUnitFault (unit : UnitName) (cause : Nat)
  /-- An uncorrectable error in a weight staging line re-stages the page and re-issues the job (R276). -/
  | stagingStoreUe (slot : Nat) (line : Nat)
  /-- A tree lane has a mismatch, uncorrectable error or hang; it leaves service and the job re-issues on the other lanes (R321). -/
  | treeLaneFault (lane : Nat) (cause : Nat)
  /-- After a frame's tracker and tree jobs, or its drop, the gates form, budget, order and write its records and signal the client (R68). -/
  | fluePass (s : Nat) (writes : Nat) (bad : List Nat)
  /-- A mirror encode ends; the AU item is kept or dropped under the buffer model and exactly one MAU of S bytes is formed (R385). -/
  | mirrorEncodeDone (m : Nat) (bytes : Nat)
  /-- On the standby a complete AU item is decoded into the stream's decoded ring (R398). -/
  | mirrorDecodeDone (m : Nat) (ok : Bool)
  /-- A mirror encoder fails; its job re-issues on the other encoder or the picture is dropped (R397). -/
  | mirrorEncoderFault (m : Nat) (cause : Nat)
  /-- A C1 to C3 request waiting longer than AGE_LIMIT is served as C0 (R331). -/
  | dramAgePromotion (ch : Nat)
  /-- Every 1,024 ticks die temperatures are read and the channel's refresh multiplier steps up or down (R335). -/
  | dramTempRead (ch : Nat) (temp : Int)
  /-- At its slot every 65,536 ticks a channel runs WCK, ZQ, VREF and deskew tracking and records margins (R338). -/
  | trackingPass (ch : Nat) (rd : Nat) (wr : Nat)
  /-- A 400-tick runtime retrain ends at the same or a lower rate, or the channel is lost (R339). -/
  | runtimeRetrainDone (ch : Nat) (rate : Option Nat)
  /-- The patrol scrubber reads the next granule and writes back corrected data (R341). -/
  | patrolRead (ch : Nat)
  /-- A corrected error is counted and the corrected granule written back at C3 (R340). -/
  | dramCe (addr : Nat)
  /-- An uncorrectable data-granule error poisons the granule, is counted and raises DRAM_UE, contained or fatal (R342). -/
  | dramUe (addr : Nat)
  /-- An uncorrectable tag-word error makes its 512 granules sooted and writes back all ones (R59). -/
  | tagWordUe (ch : Nat) (word : Nat)
  /-- Every 1,024 ticks the admission unit recomputes budgets and enters degradation steps where sums exceed them (R501). -/
  | admissionRecompute
  /-- The most recent reduction has passed its test for 1,000,000 ticks and is undone (R506). -/
  | degradeUndo
  /-- The Wren link moves through DETECT, LOCK, ADAPT, DESKEW, CONFIG to DATA and re-keys a stored partner (R355). -/
  | wrenTrainAdvance (lanes : Nat)
  /-- The 64-tick width window closes; the leader decides the width and sends COMMIT (R358). -/
  | widthWindowEnd
  /-- With AUTO_WIDTH, a lane's errors reach LANE_ERR_LIMIT and the unit proposes x1 and retrains (R358). -/
  | wrenAutoPropose (lane : Nat) (errs : Nat)
  /-- A Wren lane loses block lock for 64 WCLK cycles and a retrain starts (R357). -/
  | laneLockLoss (lane : Nat)
  /-- The link leaves DATA and does not return within 2,000 ticks; keys zeroise, rings empty, the epoch is discarded (R360). -/
  | wrenLinkDown (reason : Nat)
  /-- No valid frame for 256 ticks in DATA brings the link down with reason KEEPALIVE (R360). -/
  | wrenKeepaliveExpire
  /-- The transmitter sends the next frame by class priority and credits, through the soot and cipher gate (R366). -/
  | wrenFrameTx
  /-- The receiver sends a CREDIT at least every 64 ticks and after each 64 frames accepted (R354). -/
  | wrenCreditSend
  /-- While KEYED the leader sends a TICK frame at each TICK_NOW multiple of 1,024 (R374). -/
  | wrenTickSend (cycle : Nat)
  /-- Before SEQ reaches 2^32 the sender starts a fresh signed ECDH rekey in KEY frames (R362). -/
  | rekeyStart
  /-- A received TRAIN_CFG gives serial, leadership, width proposals and the commit of the training (R356). -/
  | trainCfgRx (serial : Nat) (b8 : Nat)
  /-- A received CREDIT acknowledges frames, raises class limits, reports partner role, or with NAK triggers replay (R354). -/
  | creditRx (ack : Nat) (limMirror : Nat) (limEpoch : Nat) (w3 : Nat)
  /-- The follower computes its offset from a received TICK frame and requests slewing (R374). -/
  | tickRx (tick : Nat) (cycle : Nat) (own : Nat)
  /-- A received handshake piece advances certificate, signature and key-agreement exchange (R361). -/
  | pairFrameRx
  /-- A received rekey piece advances the rekey, with the new key taking effect at the named SEQ (R362). -/
  | keyFrameRx (last : Bool)
  /-- A partner's FAULT frame is kept in WRN_PARTNER_FAULT and the link goes down with reason 0x05 (R377). -/
  | faultFrameRx (code : Nat) (ch : Nat)
  /-- A partner's RETRAIN_REQ joins or starts a training (R357). -/
  | retrainReqRx
  /-- A PING is echoed, or an echo contributes a round trip to the link delay measure (R374). -/
  | pingRx (count : Nat) (echo : Bool) (own : Nat)
  /-- A received MIRROR frame body is moved to the stream's mirror buffer, sooted, and its credit returned (R398). -/
  | mirrorFrameRx (ctx : Nat) (body : Bytes)
  /-- A received EPOCH frame body goes to the receiving epoch buffer; COMMIT applies or discards the epoch (R373). -/
  | epochFrameRx (ctx : Nat) (body : Bytes)
  /-- At E(n) the ACTIVE unit starts an epoch, abandons an uncommitted previous one and queues snapshot jobs (R370). -/
  | epochStart
  /-- At E(n) plus half an epoch a stream without a new tracker job is snapshotted from its last completed state (R370). -/
  | snapshotDeadline
  /-- Every 1,024 ticks in DATA each lane adapts CTLE and DFE by at most one step (R491). -/
  | wrenEqAdapt (lane : Nat) (steps : List Int)
  /-- Every 65,536 ticks the second sampler measures eye height and width into HLT_WREN (R491). -/
  | wrenEyeMeasure (lane : Nat) (h : Nat) (w : Nat)
  /-- Every hour of RUN or IDLE the ageing indicators are sampled and EOL_DAYS and EOL_CONF recomputed (R493). -/
  | ageingSample (osc : List Nat) (ce : Nat)
  /-- A continuous SP 800-90B health test of the TRNG fails and SEC_KEY_STATUS.TRNG_FAIL is set until the next reset that runs the boot ROM (R435). -/
  | trngHealthFail
  /-- An uncorrectable error in a tile store line read by a job makes the line sooted and poisoned and causes the job to be re-issued (R276). -/
  | tileStoreUe (a : Nat) (line : Nat)
  /-- After PERST_N rises the LTSSM reaches L0 and DL_Up, and the device starts answering configuration requests and BAR accesses (R122). -/
  | hostLinkUp (ltssm : Nat) (speed : Nat) (width : Nat)
  /-- The PCI Express LTSSM enters Recovery on lane errors or on a retrain directed by the root port, holds TLPs, counts lane errors and returns to L0, possibly at full width again (R155). -/
  | linkRecovery (phase : RecoveryPhase)
  /-- A received Wren frame with a bad tag, an unexpected SEQ, an unknown TYPE, a nonzero reserved field or a wrong LEN is discarded and NAKed, and WRN_AUTH_FAILS is counted toward the AUTH_FAIL link-down (R364). -/
  | wrenFrameReject (tagBad : Bool)
  /-- A PMCSR write back to D0 while D3_DENIED holds ends the configuration-only state without any wake (R446). -/
  | pmcsrD0Write
  /-- PWROK rises: the device samples STRAP_SMB_ADDR and the power-on reset of the die ends, while PERST_N may still hold it in cold reset (R525). -/
  | pwrokRise (strap : Nat)
  deriving DecidableEq, Repr

end Sys2Proof
end

