-- ==== Sys2Proof/Decode.lean ====
section
/-! DEFINITION. Sys2Proof/Decode.lean: the command that a word spells by the bits of spec/opcode_table.json. No row of the table
has bits: the commands of the host are register accesses and packets in host memory, and the rest are events, so no word spells a
command. The packet encodings of R166 and R182 are read where a packet starts (Machine/Operands.lean). -/

namespace Sys2Proof

/-- The command of a word of `nbits` bits: none, since the table gives no row any bits. -/
def decodeTableWord (_nbits _w : Nat) : Option Instr := none

end Sys2Proof
end

