-- ==== Sys2Proof/Machine/Field.lean ====
section
/-! DEFINITION. Sys2Proof/Machine/Field.lean: the name of every BAR0 register field the spec gives the device, and its
value at reset. The register tables of the chapters are the source; INVENTORY.md lists each with its rule. -/

namespace Sys2Proof.Machine

/-- A register field, by the spec's name (with its block's letters in front where the chapters reuse a name). The number
of the repeated block (stream, client, channel, lane, log word) is kept beside it. -/
inductive Field where
  | GCTL_ID | DS_WARM | DS_DB_LATCHED | DS_TRIAL | DS_SLOT | DS_CHANNEL | DS_FAULT_CODE | DS_STATE | CERT_REASON
  | CERT_LIFETIME_OUT | CERT_CERTIFIED | GCTL_RESET_KEY | GCTL_RESET_WARM | RC_WAS_FAULT | RC_CAUSE | GCTL_SERIAL
  | LINK_LTSSM | LINK_BME | LINK_DOWN | LINK_DL_UP | LINK_WIDTH | LINK_SPEED | LINK_LANE_ERR_LIMIT | LINK_AUTO_WIDTH
  | GCTL_LINK_DISCARDS | GCTL_LINK_DOWNS | GCTL_LINK_ERR | GCTL_LANE_ERR | ROLE | LEASE_VALID | LAST_ACTIVE
  | HAS_EPOCH | TAKEOVER_BUSY | GCTL_GEN | GCTL_LEASE_END | GCTL_PAIR_IRQ | GCTL_PAIR_IRQ_EN | GCTL_ROLLED
  | GCTL_COLD_STREAMS | GCTL_RENEW_REFUSED | GCTL_PAIR_IGNORED | GCTL_TAKEOVER_TICK | PWR_STATE | PWR_LAST_STATE
  | PWR_D3HOT_MAP | PWR_D3_DENIED | PWR_WAKE_SRC | GCTL_PWR_ENTRY_TICK | GCTL_PWR_WAKE_TICK | EVU_TICK_NOW
  | EVU_RING_EN | EVU_IRQ_EN | EVU_TICK_STOPPED | EVU_SLEWING | EVU_ALIGNED | EVU_RING_FULL | EVU_RING_BASE
  | EVU_RING_LOG2 | EVU_RING_HEAD | EVU_RING_TAIL | EVU_LOST | EVU_SEQ | EVU_PENDING | EVU_SLEW_ADJ | EVU_SLEW_DIR
  | EVU_HISTORY | DBG_STATE | DBG_SESSION | DBG_PORT_OPEN | DBG_SUSPENDED | DBG_CORES_HALTED | DBG_SCOPE
  | SEC_DBG_CHALLENGE | SEC_DBG_EXPIRY | SEC_DBG_CTRL_END | SEC_DBG_CTRL_KEY | SEC_DBG_ACCEPTS | SEC_DBG_REFUSALS
  | FUSE_PROVISIONED | FUSE_LAB | FUSE_ROLLBACK | FUSE_PAIR_EPOCH | FUSE_FAULTS | KEY_IDENTITY_OK | KEY_MODEL_OK
  | KEY_DEBUG_OK | KEY_PAIRING_AVAILABLE | KEY_TRNG_FAIL | SEC_LAB_ARM | TAMPER_LATCHED | TAMPER_LEVEL
  | SEC_TAMPER_EN | SEC_TAMPER_COUNT | SOOT_LOCK | SOOT_PRECLEAR | SOOT_SCRUB_BUSY | SOOT_SRAM_READY
  | SOOT_TAGSTORE_READY | SEC_SOOT_IRQ | SEC_SOOT_IRQ_EN | SEC_BREACH_SEQ | SEC_BREACH_TOTAL | SEC_TAG_UE_COUNT
  | BREACH_LOG | FLU_FENCED | FLU_CEILING | FLU_DEFAULT | FLU_ZONES | FLU_KIND_EN | FLU_BUDGET_BITS | FLU_RECORDS
  | FLU_BUDGET_GAPS | FLU_SUPPRESSED | FLU_RING_DROPS | WDG_RUNNING | WDG_OPEN | WDG_PREWARNED | WDG_RESTARTING
  | WDG_PERIOD | WDG_ENABLE | WDG_CHECKIN | WDG_CHECKED | WDG_MISSED | WDG_PREWARN | WDG_IGNORED_WRITES
  | WDG_BAD_CHECKINS | WDG_EXPIRIES | WDG_IRQ | WDG_IRQ_EN | HLT_ACLK_MHZ | HLT_GOV_HELD | HLT_GOV_MODE
  | HLT_GOV_TARGET | HLT_VCORE_MV | HLT_OFFSET | HLT_CPM_MARGIN | HLT_WARN_RAILS | HLT_AVS_FAULT | HLT_SUPPLY_WARNS
  | HLT_XING_DISCARDS | HLT_DIE_TEMP | HLT_DRAM_TEMP | HLT_CAPACITY | HLT_EOL_DAYS | HLT_EOL_CONF | HLT_LIMITER
  | HLT_EOL_ALARM | HLT_IRQ | HLT_IRQ_EN | IND_VALUE | IND_LIMIT | IND_SLOPE | IND_DAYS | IND_R2 | IND_SAMPLES
  | WEQ_CTLE | WEQ_TAPS | WEQ_TAP5 | WEQ_EYE_H | WEQ_EYE_W | BAY_PRESENT | BAY_PGOOD | BAY_ATTN | BAY_PWREN
  | BAY_PERST | BAY_DRIVEN | BAY_LED | BAY_SLOT_STATE | BAY_EVENTS | BAY_IRQ_EN | BAY_PGOOD_MS | BAY_PRESSES
  | BAY_INSERTIONS | BAY_POWER_FAULTS | WRN_LSTATE | WRN_WIDTH | WRN_LANE | WRN_LEADER | WRN_SESSION | WRN_BOUND
  | WRN_PARTNER_ROLE | WRN_REASON | WRN_AUTO_WIDTH | WRN_WIDTH_REQ | WRN_REQ_LANE | WRN_LANE_ERR_LIMIT | WRN_RETRAIN
  | WRN_EPOCH_MS | WRN_EVENTS | WRN_PARTNER_SERIAL | WRN_TIME_OFFSET | WRN_LINK_DELAY | WRN_EPOCH_SENT
  | WRN_EPOCH_APPLIED | WRN_EPOCH_DISCARDED | WRN_EPOCH_ABANDONED | WRN_PAYLOAD_MBPS | WRN_TX_FRAMES | WRN_RX_FRAMES
  | WRN_REPLAYS | WRN_AUTH_FAILS | WRN_WITHDRAWALS | WRN_RETRAINS | WRN_RX_DISCARDS | WRN_PF_CODE | WRN_PF_CHANNEL
  | WRN_LANE_ERR | MENC_IN_SERVICE | MENC_BUSY | MENC_FAULTED | MENC_SELFTEST | MENC_DECODING | MENC_CAUSE
  | MENC_PICTURES | MENC_REISSUED | MENC_BUSY_TICKS | MS_ENABLE | MS_MODE | MS_ROWRATE_NOW | MS_FLOORED
  | MS_DISCONTINUOUS | MS_SIDE | MS_RESYNC | MS_MAU_BYTES | MS_BUF_BYTES | MS_MAUS | TRE_IN_SERVICE | TRE_BUSY
  | TRE_SELFTEST | TRE_LANES | TRE_LANE_OUT | TRE_CAUSE | TRE_JOBS | TRE_EVALS | TRE_REISSUED | TRE_BUSY_TICKS
  | TRE_CE_COUNT | TRE_FAILED_OBJ | TS_ENSEMBLE | TS_EVAL_CYCLES | TS_EVAL_PERIOD | TS_S_FIX | TS_SAMPLE_MODE
  | TS_HIST_FILL | SCH_JOBS | SCH_PKT_JOBS | SCH_STEP | SCH_ACLK_MHZ | SCH_REFUSE_MEM | SCH_REFUSE_COMP
  | SCH_DEADLINE_DROPS | SCH_CAUSE | SCH_UNDO_PENDING | SCH_UNDO_TICKS | SCH_STEP_CHANGES | SCH_IRQ | SCH_IRQ_EN
  | SCH_MEM_BUDGET | SCH_MEM_ADMITTED | SCH_CAP | SCH_ADMITTED | SCH_UTIL | SCH_UNITS | SCH_FFT_CAP
  | SCH_FFT_ADMITTED | SS_NET_TICKS | SS_DRAM_MBPS | SS_DECIMATED | SS_SHED | SS_DROPS | CLEAN_EIGHTHS
  | PGR_CLEAN_FREE | PGR_SOOT_FREE | PGR_SOOT_LARGEST | PGR_MODELS | PGR_ENSEMBLES | PGR_RESIDENT | PGR_PINNED
  | PGR_FETCHES | PGR_RESTAGED | PGR_ALLOC_REFUSALS | PGR_FAILED_OBJ | CH_IN_SERVICE | CH_TRAINED | CH_SELF_REFRESH
  | CH_RETRAINING | CH_LOST | CH_REFRESH_MULT | CH_RATE | CH_USABLE_MIB | CH_ROWLOCK | CH_AGE_LIMIT | CH_RETRAIN_AT
  | CH_TEMP | CH_CE_COUNT | CH_UE_COUNT | CH_POISONED | CH_LAST_UE_ADDR | CH_LAST_UE_TICK | CH_PATROL_PASSES
  | CH_RETRAINS | CH_RD_MARGIN | CH_WR_MARGIN | CH_PROMOTIONS | DEC_IN_SERVICE | DEC_BUSY | DEC_FAULTED
  | DEC_SELFTEST | DEC_STREAM | DEC_CAUSE | DEC_FRAMES | DEC_BUSY_TICKS | CL_IN_SERVICE | CL_BUSY | CL_FAULTED
  | CL_SELFTEST | CL_CAUSE | CL_JOBS | CL_REISSUED | CL_BUSY_TICKS | CL_RESIDUE_ERRS | CL_CE_COUNT | CL_TRACK_JOBS
  | AR_IN_SERVICE | AR_BUSY | AR_FAULTED | AR_SELFTEST | AR_MODE | AR_CAUSE | AR_JOBS | AR_REISSUED | AR_BUSY_TICKS
  | AR_RESIDUE_ERRS | AR_CE_COUNT | FFT_IN_SERVICE | FFT_BUSY | FFT_FAULTED | FFT_SELFTEST | FFT_FALLBACK | FFT_CAUSE
  | FFT_JOBS | FFT_REISSUED | FFT_BUSY_TICKS | FFT_RESIDUE_ERRS | FFT_CE_COUNT | CTX_STATE | CTX_CODEC | CTX_PRIORITY
  | CTX_CLASS | CTX_TAINTED | CTX_DECODING | CTX_ENGINE | CTX_OWNER | CTX_MAX_WIDTH | CTX_MAX_HEIGHT | CTX_FPS_X100
  | CTX_AU_MAX_KIB | CTX_AU_DEPTH | CTX_AU_HELD | CTX_WIDTH | CTX_HEIGHT | CTX_PROFILE | CTX_LEVEL | CTX_CHROMA
  | CTX_BIT_DEPTH | CTX_OUT_WIDTH | CTX_OUT_HEIGHT | CTX_FB_COUNT | CTX_FB_FREE | CTX_FB_KIB | CTX_LAST_FSEQ
  | CTX_DEC_FSEQ | CTX_FRAMES_DECODED | CTX_FRAMES_CONCEALED | CTX_FRAMES_DROPPED | CTX_ERR_COUNT | CTX_LAST_ERROR
  | CTX_F_VALID | CTX_LAST_ERROR_TICK | CTX_HDR_CHANGES | PP_MODE | PP_DEPTH_M1 | PP_LOW_WATER | PP_ALARM_IRQ
  | PP_LAYOUT | PP_CHANNELS3 | PP_NCROP | PP_BOUND | PP_USED | PP_FREE | PP_ALARM | PP_BUILDING | PP_GEOMETRY
  | PP_HOLDING | PP_BUILD_FSEQ | PP_BATCH_KIB | PP_FRAMES | PP_SKIPPED | PP_ABANDONED | PP_ALARMS | PP_FAULTS
  | PP_LAST_DROP_FSEQ | PP_X0P0 | PP_Y0P0 | PP_WP0 | PP_HP0 | PP_X0P1 | PP_Y0P1 | PP_WP1 | PP_HP1 | PP_X0P2 | PP_Y0P2
  | PP_WP2 | PP_HP2 | PP_X0P3 | PP_Y0P3 | PP_WP3 | PP_HP3 | CL_CMD_BASE | CL_CMD_LOG2 | CL_CPL_BASE | CL_CPL_LOG2
  | CL_ENABLE | CL_IRQ_EN | CL_FENCE_EN | CL_WB_EN | CL_CMD_HEAD | CL_CMD_TAIL | CL_CPL_HEAD | CL_CPL_TAIL
  | CL_CPL_RESERVED | CL_INFLIGHT | CL_HALTED | CL_FETCH_STOPPED | CL_FLUSHING | CL_FLUSH_PENDING | CL_WAIT_DOORBELL
  | CL_WAIT_SLOT | CL_RESETTING | CL_WB_ADDR | CL_CPL_FENCE | CL_CPL_FENCE_VALID | CL_DB_REJECTS | CL_FLUSH_WORDS
  | CL_MAX_INFLIGHT | CL_FLUSH | CL_FETCHED | META_BASE | META_LOG2 | META_IRQ_EN | META_FENCE_EN | META_POLICY
  | META_DROPPING | META_HEAD | META_TAIL | META_DROPS | META_OVERRUNS | META_FENCE
  deriving DecidableEq, Repr

/-- The value of a field at reset where the spec's tables give one, else 0 (assumptions 2 and 3). `i` is the number of
the repeated block. -/
def Field.reset (f : Field) (i : Nat) : Nat :=
  match f with
  | .GCTL_ID => 0x71170960
  | .DS_STATE => 1
  | .CERT_REASON => 0x70
  | .RC_CAUSE => 1
  | .LINK_LANE_ERR_LIMIT => 0x10
  | .ROLE => 3
  | .GCTL_PAIR_IRQ_EN => 0xF
  | .SEC_TAMPER_EN => 3
  | .SOOT_PRECLEAR => 1
  | .SEC_SOOT_IRQ_EN => 7
  | .FLU_CEILING => 0x2000
  | .FLU_DEFAULT => 0x800
  | .FLU_KIND_EN => 7
  | .FLU_BUDGET_BITS => 0x800
  | .WDG_IRQ_EN => 1
  | .HLT_ACLK_MHZ => 1250
  | .HLT_GOV_TARGET => 1250
  | .HLT_VCORE_MV => 850
  | .HLT_CAPACITY => 1000
  | .HLT_EOL_DAYS => 65535
  | .HLT_LIMITER => 0xFF
  | .HLT_EOL_ALARM => 90
  | .HLT_IRQ_EN => 7
  | .BAY_IRQ_EN => 7
  | .BAY_PWREN => 1
  | .BAY_PGOOD_MS => 100
  | .WRN_PARTNER_ROLE => 7
  | .WRN_LANE_ERR_LIMIT => 0x10
  | .WRN_EPOCH_MS => 250
  | .SCH_ACLK_MHZ => 1250
  | .SCH_CAUSE => 0x1F
  | .SCH_IRQ_EN => 3
  | .SCH_UTIL => Config.util i
  | .CLEAN_EIGHTHS => 1
  | .CH_USABLE_MIB => 8176
  | .CH_AGE_LIMIT => 4
  | .CH_RETRAIN_AT => 4
  | .CL_MAX_INFLIGHT => 32
  | _ => 0

/-- The key of a field in the field file: the field's place in the list above, then the number of the block. -/
def Field.key (f : Field) (i : Nat) : Nat := f.ctorIdx + 512 * i

end Sys2Proof.Machine
end

