-- ==== Sys2Proof/Machine/Map.lean ====
section
/-! DEFINITION. Sys2Proof/Machine/Map.lean: sparse tables keyed by a number, in one canonical form (keys strictly
rising), and sets of numbers kept as disjoint half-open intervals. Every table of the state is one of these. -/

namespace Sys2Proof.Tab

/-- The entry at key `k`. -/
def find? {α : Type} (k : Nat) : List (Nat × α) → Option α
  | [] => none
  | (j, v) :: t => if j = k then some v else find? k t

/-- The entry at key `k`, or what an unlisted key reads as. -/
def getD {α : Type} (d : α) (k : Nat) (m : List (Nat × α)) : α := (find? k m).getD d

/-- Entry `k` becomes `v`; keys stay strictly rising. -/
def put {α : Type} (k : Nat) (v : α) : List (Nat × α) → List (Nat × α)
  | [] => [(k, v)]
  | (j, w) :: t => if k < j then (k, v) :: (j, w) :: t else if k = j then (k, v) :: t else (j, w) :: put k v t

/-- Entry `k` is removed. -/
def del {α : Type} (k : Nat) : List (Nat × α) → List (Nat × α)
  | [] => []
  | (j, w) :: t => if k = j then del k t else (j, w) :: del k t

/-- Entry `k` becomes `v` where an unlisted key reads `d`: writing `d` removes the entry. -/
def putD {α : Type} [DecidableEq α] (d : α) (k : Nat) (v : α) (m : List (Nat × α)) : List (Nat × α) :=
  if v = d then del k m else put k v m

/-- Keys strictly rising, all at least `lo`. -/
def sortedFrom {α : Type} : Nat → List (Nat × α) → Bool
  | _, [] => true
  | lo, (j, _) :: t => decide (lo ≤ j) && sortedFrom (j + 1) t

/-- The canonical form of a table. -/
def sorted {α : Type} (m : List (Nat × α)) : Bool := sortedFrom 0 m

def keys {α : Type} (m : List (Nat × α)) : List Nat := m.map Prod.fst

end Sys2Proof.Tab

namespace Sys2Proof.ISet

/-- Whether `x` lies in one of the intervals [lo, hi). -/
def mem (x : Nat) (s : List (Nat × Nat)) : Bool := s.any fun p => decide (p.1 ≤ x) && decide (x < p.2)

/-- Whether any number of [lo, hi) is in the set. -/
def meets (lo hi : Nat) (s : List (Nat × Nat)) : Bool := s.any fun p => decide (max p.1 lo < min p.2 hi)

/-- The set less [lo, hi). -/
def remove (lo hi : Nat) (s : List (Nat × Nat)) : List (Nat × Nat) :=
  s.flatMap fun p =>
    (if p.1 < min p.2 lo then [(p.1, min p.2 lo)] else []) ++ (if max p.1 hi < p.2 then [(max p.1 hi, p.2)] else [])

/-- An interval put in its place among disjoint ones, merged with the one it touches on the left. -/
def place (lo hi : Nat) : List (Nat × Nat) → List (Nat × Nat)
  | [] => [(lo, hi)]
  | (a, b) :: t => if hi < a then (lo, hi) :: (a, b) :: t
                   else if b < lo then (a, b) :: place lo hi t
                   else place (min a lo) (max b hi) t

/-- The set with [lo, hi) added. -/
def add (lo hi : Nat) (s : List (Nat × Nat)) : List (Nat × Nat) := if lo < hi then place lo hi s else s

/-- How many numbers of [lo, hi) are in the set. -/
def countIn (lo hi : Nat) (s : List (Nat × Nat)) : Nat :=
  s.foldl (fun n p => n + (min p.2 hi - max p.1 lo)) 0

/-- How many numbers the set holds. -/
def size (s : List (Nat × Nat)) : Nat := s.foldl (fun n p => n + (p.2 - p.1)) 0

end Sys2Proof.ISet
end

