-- ==== Sys2Proof/Machine/Num.lean ====
section
/-! DEFINITION. Sys2Proof/Machine/Num.lean: integer helpers the chapters share (ceilings, clamps, round half to even,
wrapping counters, little-endian fields of byte strings). -/

namespace Sys2Proof.Num

/-- Ceiling division; 0 when the divisor is 0. -/
def cdiv (a b : Nat) : Nat := if b = 0 then 0 else (a + b - 1) / b

/-- `x` rounded up to a multiple of `m`. -/
def roundUp (x m : Nat) : Nat := cdiv x m * m

def clampNat (x lo hi : Nat) : Nat := max lo (min x hi)

def clampInt (x lo hi : Int) : Int := max lo (min x hi)

/-- rhe(n / d) for d > 0: round half to even (R244, R264, R316). -/
def rheDiv (n : Int) (d : Nat) : Int :=
  let q := n.fdiv d
  let r2 := 2 * (n - q * d)
  if r2 < d then q else if r2 > d then q + 1 else if q % 2 = 0 then q else q + 1

/-- 32-bit counters wrap (R162). -/
def wrap32 (n : Nat) : Nat := n % 2 ^ 32

/-- (a - b) mod 2^32 of two 32-bit counts (R83, R164). -/
def sub32 (a b : Nat) : Nat := (a + 2 ^ 32 - b % 2 ^ 32) % 2 ^ 32

/-- int32(a - b) > 0 (R87, R192). -/
def gt32 (a b : Nat) : Bool := 0 < sub32 a b && sub32 a b < 2 ^ 31

/-- Saturating increment to a width in bits. -/
def satAdd (bits x n : Nat) : Nat := min (x + n) (2 ^ bits - 1)

/-- Bit `i` of `n`. -/
def bit (n i : Nat) : Bool := n.testBit i

/-- Bits hi down to lo of a number (R8). -/
def slice (n hi lo : Nat) : Nat := (n / 2 ^ lo) % 2 ^ (hi + 1 - lo)

def b2n (b : Bool) : Nat := if b then 1 else 0

/-- Two's complement reading of the low `bits` bits of `n`. -/
def toSigned (bits n : Nat) : Int :=
  let m := n % 2 ^ bits
  if m < 2 ^ (bits - 1) then (m : Int) else (m : Int) - (2 ^ bits : Nat)

/-- Two's complement encoding in `bits` bits. -/
def ofSigned (bits : Nat) (i : Int) : Nat := (i % (2 ^ bits : Nat)).toNat

/-- Byte `o` of a byte string, 0 past its end. -/
def u8 (b : Bytes) (o : Nat) : Nat := (b.getD o 0#8).toNat

def u16 (b : Bytes) (o : Nat) : Nat := u8 b o + 256 * u8 b (o + 1)

def u32 (b : Bytes) (o : Nat) : Nat := u16 b o + 65536 * u16 b (o + 2)

def u64 (b : Bytes) (o : Nat) : Nat := u32 b o + 2 ^ 32 * u32 b (o + 4)

/-- Every byte from `lo` up to and without `hi` is zero (R12). -/
def zeroBytes (b : Bytes) (lo hi : Nat) : Bool := (List.range (hi - lo)).all fun i => u8 b (lo + i) == 0

/-- The `n` low bytes of a number, little-endian (R8). -/
def leBytes : Nat → Nat → Bytes
  | 0, _ => []
  | n + 1, v => BitVec.ofNat 8 v :: leBytes n (v / 256)

/-- Bit `i` set (with `b`) or cleared in `n`, for `n` of any width. -/
def setBit (n i : Nat) (b : Bool) : Nat :=
  if b then n ||| 2 ^ i else if n.testBit i then n - 2 ^ i else n

/-- All bits of `m` cleared in `n` (a write of ones to RW1C bits, R9). -/
def clearBits (n m : Nat) : Nat := n &&& (n ^^^ (n &&& m))

/-- Number of ones among bits 0 to k-1. -/
def popcount : Nat → Nat → Nat
  | 0, _ => 0
  | k + 1, n => b2n (n.testBit k) + popcount k n

end Sys2Proof.Num
end

