-- ==== Sys2Proof/Machine/State.lean ====
section
/-! DEFINITION. Sys2Proof/Machine/State.lean: everything the spec gives the block, as plain data, the value of each part
at reset, and the reasons a step can stop. INVENTORY.md lists the same, line by line. -/

namespace Sys2Proof.Machine

/-- Why a step stops. -/
inductive Fault where
  /-- Raised by a command that names an instance (client, stream, channel, lane, unit, register offset) the device does not
  have. Safe: no such command exists on the hardware (assumption 5). -/
  | noSuchInstance
  deriving DecidableEq, Repr

/-- Why a command has no meaning. -/
inductive Refusal where
  /-- Raised by the dispatch for a command not modelled yet. Safe: nothing can be proved of its effect. -/
  | notModelled (mnemonic : String)
  deriving DecidableEq, Repr

/-- One MSI-X table entry (R139). -/
structure MsixEntry where
  addr : Nat
  data : Nat
  masked : Bool
  deriving DecidableEq, Repr

/-- A packet fetched and not completed (R166 to R172): fetch number, client, words, whether it has started and when, the
status and detail of a failed check of R167, and the tick whose doorbell first covered it (R407). -/
structure Pkt where
  id : Nat
  client : Nat
  words : List Word
  started : Bool
  startTick : Nat
  bad : Option (Nat × Nat)
  covered : Nat
  fenced : Bool                  -- a fence has fallen since it was fetched (R192)
  deriving DecidableEq, Repr

/-- A client's flush reply that has no slot yet (R178): tag, detail and results. -/
structure FlushRec where
  tag : Nat
  detail : Nat
  r0 : Nat
  r1 : Nat
  r2 : Nat
  deriving DecidableEq, Repr

/-- A live fence (R174). -/
structure Fence where
  creator : Nat
  key : Nat
  value : Nat
  deriving DecidableEq, Repr

/-- An event captured and not yet in a group (R102, R107). -/
structure Ev where
  tick : Nat
  code : Nat
  src : Nat
  d0 : Nat
  d1 : Nat
  d2 : Nat
  deriving DecidableEq, Repr

/-- STATUS, DETAIL and results of a reply (R168). -/
structure Reply where
  status : Nat
  detail : Nat := 0
  r0 : Nat := 0
  r1 : Nat := 0
  r2 : Nat := 0
  r3 : Nat := 0
  deriving DecidableEq, Repr

/-- A completion that waits in the staging store while the crossing is full (R147): the packet, its reply, and the tick at
which the reply was formed. -/
structure Staged where
  id : Nat
  reply : Reply
  tick : Nat
  deriving DecidableEq, Repr

/-- A transfer from host memory that a packet makes (R146, R158): its read requests issued and not ended, and the address and
bytes not yet asked for. -/
structure HostRead where
  pkt : Nat
  issued : Nat
  addr : Nat
  left : Nat
  deriving DecidableEq, Repr

/-- What the device put on the wire, in issue order (R144): posted writes to host memory, read requests,
messages, read data returned to a requester, Wren frames. A flue record and an event record are two posted writes, words 1 to 7
(`record`, `event`) and then word 0 (`recordHead`, `eventHead`) (R82, R108). `readData` carries the requester: 0 BAR0, 2 BAR2,
4 BAR4, 5 SMBus, 6 JTAG, 8 configuration space. -/
inductive Egress where
  | reply (c slot addr : Nat) (words : List Nat)
  | writeback (addr value : Nat)
  | msix (vec addr data : Nat)
  | record (c count addr : Nat) (words : List Nat)
  | recordHead (c count addr word : Nat)
  | event (count addr : Nat) (words : List Nat)
  | eventHead (count addr word : Nat)
  | read (addr bytes : Nat)
  | block (addr : Nat) (bytes : Bytes)
  | readData (who off value : Nat)
  | completerAbort (off : Nat)
  | pme
  | unsupported (off : Nat)
  | nack
  | readBytes (who addr : Nat) (bytes : Bytes)
  | wren (type seq : Nat) (words : List Nat)
  deriving DecidableEq, Repr

/-- The attributes of a request the device issues: Relaxed Ordering, ID-Based Ordering and No Snoop are never set (R144). -/
def Egress.attributes : Egress → Bool × Bool × Bool := fun _ => (false, false, false)

/-- Configuration space beside Bus Master Enable, Memory Space Enable, the power state and the MSI-X controls (R134 to R137,
R146, R148, R156). The values at reset that the spec does not give are those of the PCI Express Base Specification 5.0
(PRESUMED, assumption 83). -/
structure Cfg where
  -- the base addresses of BAR0 to BAR5 as written, the odd ones the upper halves (R137)
  bars : List Nat := [0, 0, 0, 0, 0, 0]
  -- Device Control: codes of Max_Payload_Size and Max_Read_Request_Size, 128 bytes shifted left by the code (R146)
  maxPayload : Nat := 0
  maxRead : Nat := 2
  -- Device Control 2: Completion Timeout value and disable
  timeout : Nat := 0
  timeoutOff : Bool := false
  -- Link Control: ASPM, Hardware Autonomous Width Disable (R156), Link Control 2: Hardware Autonomous Speed Disable
  aspm : Nat := 0
  widthDisable : Bool := true
  speedDisable : Bool := false
  -- ECRC generation and check (R135, R148)
  ecrcGen : Bool := false
  ecrcCheck : Bool := false
  -- PME enable and status of PMCSR
  pmeEn : Bool := false
  pmeStatus : Bool := false
  -- Advanced Error Reporting (R148): uncorrectable status, mask, severity, correctable status, mask, the header log
  uncStatus : Nat := 0
  uncMask : Nat := 0
  uncSev : Nat := 0x462030
  corStatus : Nat := 0
  corMask : Nat := 0x2000
  firstErr : Nat := 0
  header : List Nat := [0, 0, 0, 0]
  -- Lane Margining at the Receiver: the margin control word of each lane (R135)
  margin : List (Nat × Nat) := []
  deriving DecidableEq, Repr

/-- Where the boot stands (R120): held in reset, zeroing SRAM, in step n, or done. -/
inductive Boot where
  | inReset | sramZero | step (n : Nat) | done
  deriving DecidableEq, Repr

/-- One live track (R273, R274). Boxes in pixels, velocities in Q8, state 0 tentative, 1 confirmed, 2 coasting. -/
structure Track where
  id : Nat
  epoch : Nat
  x0 : Int
  y0 : Int
  x1 : Int
  y1 : Int
  vx0 : Int
  vy0 : Int
  vx1 : Int
  vy1 : Int
  c16 : Nat
  cls : Nat
  crop : Nat
  hits : Nat
  misses : Nat
  age : Nat
  state : Nat
  deriving DecidableEq, Repr

/-- One entry of the tracker output the gates read (R69): a track with the STATE it is written with (R72), quantised by
R73, and whether it began in this frame. -/
structure TrackOut where
  id : Nat
  epoch : Nat
  qx0 : Nat
  qy0 : Nat
  qw : Nat
  qh : Nat
  conf : Nat
  state : Nat
  cls : Nat
  age : Nat
  crop : Nat
  speed : Nat
  isNew : Bool
  deriving DecidableEq, Repr

/-- A zone event (R75, R76): zone, event, track and its point, dwell. -/
structure ZoneEv where
  zone : Nat
  event : Nat
  id : Nat
  epoch : Nat
  px : Nat
  py : Nat
  conf : Nat
  cls : Nat
  dwell : Nat
  deriving DecidableEq, Repr

/-- A zone entry (R89): type 0 disabled, 1 polygon, 2 line; vertices. -/
structure Zone where
  type : Nat
  verts : List (Nat × Nat)
  deriving DecidableEq, Repr

/-- The memory of one (zone, track) pair: inside or not, the last side of a line (1 A, 2 B, 0 none), frames inside. -/
structure ZoneMem where
  zone : Nat
  epoch : Nat
  id : Nat
  inside : Bool
  side : Nat
  dwell : Nat
  deriving DecidableEq, Repr

/-- Where one access unit and its frame stand on the path of 01_frame_path.md. -/
inductive Phase where
  | copying (pkt : Nat)      -- ingest copy in progress
  | held                     -- in its slot, not taken by an engine
  | decoding (e : Nat)       -- taken by engine e
  | decoded                  -- in its frame buffer, waits for the pre-processor
  | building                 -- in the pre-processor
  | queued                   -- its batch is queued, jobs not all complete
  | tracked                  -- its tracker (and tree) jobs are complete: the flue pass is due
  | dropped                  -- the status-only pass is due
  deriving DecidableEq, Repr

/-- One access unit and its frame, from the ingest copy to the flue pass. `slot` is the bitstream slot (kept until decode
ends), `reasons` the REASON bits [31:24] of R77 that apply, `errs` its decode errors, `hdr` the header words reported. -/
structure Frame where
  fseq : Nat
  phase : Phase
  slot : Option Nat
  auBytes : Nat
  auAddr : Nat
  prevF : Option Nat
  deadline : Nat
  accepted : Bool
  inHold : Bool                 -- an engine took it while the stream was in HOLD (R225)
  hung : Option Nat             -- the engine that hung on this access unit (R230)
  delivered : Bool
  rolled : Bool
  gapBefore : Option (Nat × Nat) -- the lost FSEQs reported before its records (R412)
  reasons : Nat
  errs : Nat
  isDrop : Bool
  evalFrame : Bool
  actSet : Option Nat           -- the activation set its network holds (R300)
  fps : Nat                     -- FPS_X100 and CLASS the frame is held to once an engine took it (R33)
  c2 : Bool
  pic : Nat                     -- which free values its decoded samples are (R221)
  issued : Bool                 -- a job of its batch has been issued (R253)
  hdr5 : Nat
  hdr6 : Nat
  outW : Nat
  outH : Nat
  tracks : List TrackOut
  zevents : List ZoneEv
  counts : List (Nat × Nat × Int)   -- (OUTPUT, ZONE, Y) of the tree job
  zoneTab : Option (List Zone)      -- latched when the tree job starts (R325)
  deriving DecidableEq, Repr

/-- A crop of the bound descriptor (R237). -/
structure Crop where
  x0 : Nat
  y0 : Nat
  w : Nat
  h : Nat
  outW : Nat
  outH : Nat
  rot : Nat
  mirror : Bool
  coef : Nat
  deriving DecidableEq, Repr

/-- A layer record of a bundle (R293). -/
structure Layer where
  type : Nat
  method : Nat
  group : Nat
  prec : Nat
  kh : Nat
  kw : Nat
  sh : Nat
  sw : Nat
  dh : Nat
  dw : Nat
  pt : Nat
  pl : Nat
  pb : Nat
  pr : Nat
  cin : Nat
  cout : Nat
  g : Nat
  outW : Nat
  outH : Nat
  tileW : Nat
  tileH : Nat
  zp : Int                      -- output zero point and clamp (R264)
  lo : Int
  hi : Int
  inputB : Nat
  firstPage : Nat
  nPages : Nat
  quantOff : Nat                -- its tables of requantisation and lookup, within its pages (R293)
  lutOff : Nat
  deriving DecidableEq, Repr

/-- The tracker parameters of R273. -/
structure TrackerPar where
  detMin : Nat
  nmsIou : Nat
  gate : Nat
  birthConf : Nat
  nConfirm : Nat
  maxCoast : Nat
  maxTracks : Nat
  deriving DecidableEq, Repr

/-- A loaded model or ensemble (R295): its slot is its key in the table. -/
structure Obj where
  handle : Nat
  loader : Nat
  isTree : Bool
  failed : Bool
  doomed : Bool          -- its loader was reset: it goes when no pipeline binds it (R128, R130)
  base : Nat
  bytes : Nat
  -- model
  fftThreshold : Nat
  layers : List Layer
  pages : List (Nat × Nat)      -- (offset, bytes) of each page in the image
  tracker : TrackerPar
  inW : Nat
  inH : Nat
  inFormat : Nat
  -- ensemble
  depth : Nat
  nOut : Nat
  nTrees : Nat
  nFeat : Nat
  sampleMode : Nat
  evalPeriod : Nat
  image : Bytes                 -- of an ensemble: its header, features, bins, map and trees
  deriving DecidableEq, Repr

/-- The pipeline bound to a stream (R197, R236). -/
structure Pipe where
  model : Nat
  ensemble : Nat
  crops : List Crop
  depth : Nat
  lowWater : Nat
  alarmIrq : Bool
  anyOrder : Bool
  bufs : List (Nat × Nat)        -- its soot-class buffers: (address, bytes)
  desc : Bytes                   -- the descriptor's bytes: colour matrix, normalisation and coefficient sets (R236)
  deriving DecidableEq, Repr

/-- The demand settings of a stream's mirror (R203, 16_mirror_encoder.md). -/
structure MirrorCfg where
  rowrate : Bool
  bufBytes : Nat
  fillKbps : Nat
  delayMs : Nat
  floorKbps : Nat
  deriving DecidableEq, Repr

/-- A piece of a mirror access unit after its header (R384): an item header with its KIND, IDR, ITEM_BYTES and FSEQ, `n` bytes of an
access unit, `n` zero bytes. -/
inductive MauPart where
  | item (kind : Nat) (idr : Bool) (bytes fseq : Nat)
  | body (n : Nat)
  | zero (n : Nat)
  deriving DecidableEq, Repr

/-- One mirror access unit that waits for the Wren link (R383, R403): its header fields, its size, the frames sent, what follows its
header, the device address of its bytes and the job that transmits it (R282). -/
structure Mau where
  fseq : Nat
  no : Nat
  firstItem : Nat
  flags : Nat
  size : Nat
  sent : Nat
  parts : List MauPart := []
  addr : Nat := 0
  job : Nat := 0
  deriving DecidableEq, Repr

/-- The item a receiver is in (R384): kind, IDR, FSEQ and the bytes of it still to come. -/
structure Item where
  kind : Nat
  idr : Bool
  fseq : Nat
  left : Nat
  deriving DecidableEq, Repr

/-- The mirror of one stream. Sending (R385 to R390): the backlog W with the bytes and the FSEQ of each item in it and what is left of
a started front item, MAU_NO, which reconstruction buffer holds the reference (R396), and whether the next picture is a
resynchronisation. Receiving (R398, R399): the place in the current MAU and its FIRST_ITEM, the incomplete item, the bytes received, the
pictures of the decoded ring by FSEQ and address, and the two causes of DISCONTINUOUS: no IDR decoded since a loss, and a picture
released from a full ring. -/
structure MirrorSt where
  cfg : MirrorCfg
  -- its soot-class buffers, address and bytes (R45): the mirror buffer of BUF_BYTES, the two reconstruction buffers, the mirror
  -- pictures and the access units of the transmit queue, the decoded ring
  bufs : List (Nat × Nat)
  w : Nat
  items : List (Nat × Nat)
  part : Nat
  mauNo : Nat
  ref : Nat
  resync : Bool
  rxPos : Nat
  rxFirst : Nat
  rxItem : Option Item
  rxSynced : Bool
  rxAt : Nat
  ring : List (Nat × Nat)
  needIdr : Bool
  ringGap : Bool
  deriving DecidableEq, Repr

/-- One stream's snapshot in an epoch (R371, R372), and its place among the epoch's bytes. -/
structure Snap where
  off : Nat := 0
  stream : Nat
  fseq : Nat
  nextTrack : Nat
  idEpoch : Nat
  histFill : Nat
  hist : List (List Int)
  tracks : List Track
  zoneMem : List ZoneMem
  deriving DecidableEq, Repr

/-- The epoch in reception (R373): its BEGIN, the snapshots complete so far, the bytes of whole records, and the bytes of
the record not yet complete; `count` snapshots in all, those of streams not mirrored here included (R405). -/
structure EpochRx where
  epoch : Nat
  snaps : List Snap
  count : Nat
  bytes : Nat
  rest : Bytes
  deriving DecidableEq, Repr

/-- A training of the Wren link in progress (R355 to R358): whether it is a full one, its state of R355, when it started,
the partner's training SERIAL, when the width window opened, the partner's proposal, and the width and lane committed. -/
structure Training where
  full : Bool
  phase : Nat
  start : Nat
  serial : Option Nat
  window : Option Nat
  partner : Option (Nat × Nat)
  set : Option (Nat × Nat)
  deriving DecidableEq, Repr

/-- A flue pass in progress (R68, R82): its frame, the records formed and not yet written (whether each is one of the pass's own, its
words without PHASE), whether words 1 to 7 of the first of them are out, and whether one of its own has been written. -/
structure FluePass where
  fseq : Nat
  todo : List (Bool × List Nat)
  headDue : Bool
  wrote : Bool
  deriving DecidableEq, Repr

/-- One open stream context, beside its registers (R191, R231, R255). -/
structure Stream where
  owner : Nat
  codec : Nat
  priority : Nat
  c2 : Bool
  openW : Nat
  openH : Nat
  maxW : Nat
  maxH : Nat
  fps : Nat
  auMaxKib : Nat
  auDepth : Nat
  bitBuf : Nat × Nat
  fbBuf : Nat × Nat
  fbBytes : Nat
  fbCount : Nat
  refs : List Nat                -- FSEQs of the pictures the decoded picture buffer holds
  fbOf : List (Nat × Nat)        -- the frame buffer of each picture held, by FSEQ (R222)
  lastPoc : Option Int           -- the picture order count delivered last (R221)
  reconf : Option (Nat × Nat × Nat × Nat × Bool)  -- settings waiting for a frame boundary (R33): W, H, FPS, PRIORITY, C2
  f : Option Nat
  prevD : Nat
  frames : List Frame            -- feed order
  hold : Bool
  lastHdr : Option Header        -- the headers whose facts its registers show (R223, R225)
  hdrSeen : Bool                 -- a random access point has been accepted (R233)
  closingPkt : Option Nat
  unbindPkt : Option Nat
  closeDone : Nat
  closeDisc : Nat
  statusEver : Bool              -- a STREAM_STATUS record has been formed since STREAM_OPEN
  firstDelivered : Bool
  pendingBits : Nat              -- REASON bits kept for the next STREAM_STATUS (R503)
  drops : Nat
  errors : Nat
  period : Nat                   -- STATUS_PERIOD, and the passes since the last STREAM_STATUS
  sinceStatus : Nat
  pass : Option FluePass         -- the flue pass in progress
  gap : Option (Nat × Nat × Nat) -- pending drop state: records, first and last FSEQ (R84)
  takeoverGap : Option Nat       -- the last mirror FSEQ, until the first fed frame's pass (R87)
  pipe : Option Pipe
  zones : List Zone
  zonesBuf : Option (Nat × Nat)
  zoneMem : List ZoneMem
  tracks : List Track
  nextTrack : Nat
  idEpoch : Nat
  hist : List (List (Nat × List Int))   -- raw vectors, newest first, per slot (R308)
  decimated : Bool
  decParity : Bool
  shed : Option Nat              -- the step that shed or paused it: 2 or 4
  mirror : Option MirrorSt
  fed : Nat
  lastTracked : Option Nat       -- FSEQ of the last completed tracker job (R370)
  trackBad : Bool                -- an uncorrectable error waits for the next tracker job to read it (R343)
  histBad : Bool                 -- the same for the next tree job and the history (R322)
  deriving DecidableEq, Repr

/-- Kinds of engine a job runs on (R282, R284). -/
inductive JobKind where
  | ingest | decode | preproc | array | cluster | fft | tracker | tree | flue | mirror | wren
  | copy | scrub | train | clear
  deriving DecidableEq, Repr

/-- A buffer a job names (R17, R25, R282): a run of DRAM; or one that becomes known when the job is issued, the activation set of its
frame (R300), the reconstruction buffer of its stream's mirror that holds the reference or the other one (R396), the free place of the
decoded ring (R399). -/
inductive JobBuf where
  | dram (addr bytes : Nat)
  | act
  | recon (next : Bool)
  | ringPlace
  deriving DecidableEq, Repr

/-- One job (R282 to R285). `entry`: it holds one of the 256 entries. `deps`: the jobs whose output it reads; `ins` and `outs`: the
buffers it reads and writes, beside its `pages`; `batch`, `act` and `slice`: the batch entry it names, the activation set and the
tile store slice it holds while it runs; `work`: the tile's working set in bytes (R270). -/
structure Job where
  id : Nat
  kind : JobKind
  cls : Nat
  stream : Nat
  fseq : Nat
  pkt : Option Nat
  deadline : Option Nat
  entry : Bool
  unit : Option UnitName
  lanes : Nat
  deps : List Nat
  ins : List JobBuf
  outs : List JobBuf
  batch : Option Nat
  act : Option Nat
  slice : Option Nat
  work : Nat
  since : Nat                    -- the tick it was issued
  obj : Nat
  layer : Nat                    -- the layer of an array, cluster or FFT job, in the model's list
  pages : List Nat
  staged : Bool
  cycles : Nat
  soot : Bool                    -- its soot summary (R43)
  mode : Nat
  tile : Nat
  failedOn : Option UnitName
  deriving DecidableEq, Repr

/-- A DRAM buffer: its stripes' start and length in bytes, its class, its stream (R299, R300). -/
structure Alloc where
  addr : Nat
  bytes : Nat
  sootClass : Bool
  stream : Option Nat
  deriving DecidableEq, Repr

/-- The device's fuses (R429), by what step 1 votes: `ceiling` is FLUE_CEILING as it votes, `faults` the fields with a majority
fault by the bits of SEC_FUSE_STATUS.FAULTS, `rootFault` one of ROOT_KEY_HASH; `modelKey` and `debugKey`: the key held outside
the fuses hashes to its field (R433); `rollbackCopies`: the copies of ROLLBACK positions programmed, in the order of R466. -/
structure Fuses where
  serial : Nat
  revision : Nat
  v256 : Bool
  ceiling : Nat
  provisioned : Bool
  rootFault : Bool
  faults : Nat
  modelKey : Bool
  debugKey : Bool
  modelHash : Bytes
  rollbackCopies : Nat
  pairEpoch : Nat
  lab : Bool
  deriving DecidableEq, Repr

/-- An image slot of the SPI NOR (R455 to R457): its programmed sectors, and its marks; BEGUN holds IMAGE_BYTES. The bytes of
a sector past those listed are 0; a sector not listed is erased. -/
structure NorSlot where
  sectors : List (Nat × Bytes)
  begun : Option Nat
  complete : Bool
  verified : Bool
  reverted : Bool
  deriving DecidableEq, Repr

/-- A selector record (R458): SEQ, SLOT, PREV_SLOT, STATE (1 TRIAL, 2 CONFIRMED), FLAGS, FW_VERSION, SEC_VERSION,
MODEL_KEY_HASH, ATTEMPTS. A record present is valid. -/
structure SelRec where
  seq : Nat
  slot : Nat
  prev : Nat
  state : Nat
  flags : Nat
  fw : Nat
  sec : Nat
  hash : Bytes
  attempts : Nat
  deriving DecidableEq, Repr

/-- A record of the SPI NOR log region (R469, R470): TYPE, LSEQ, TICK and the fields of its payload in order. -/
structure LogRec where
  type : Nat
  lseq : Nat
  tick : Nat
  payload : List Nat
  deriving DecidableEq, Repr

/-- The Wren link (R354 to R375), beside its registers: see the fields. -/
structure WrenSt where
  -- the Wren link's transmitter (R354): next SEQ, and what is not yet acknowledged: (SEQ, TYPE, CONTEXT, body words)
  txSeq : Nat := 1
  replay : List (Nat × Nat × Nat × List Nat) := []
  -- the Wren link (R354 to R368): its training, the proposal this unit holds (width, lane), when DATA was left, control frames
  -- not yet sent, MAUs and epoch bodies not yet sent, frames sent and the partner's limits by class (0 CTRL, 1 MIRROR, 2
  -- EPOCH), the next SEQ expected, frames received by class, the last CREDIT and what calls for one, the last valid frame,
  -- tag failures in a row, MIRROR frames since the last EPOCH one
  train : Option Training := none
  held : Option (Nat × Nat) := none
  leftData : Option Nat := none
  ctrlQ : List (Nat × List Nat) := []
  maus : List (Nat × Mau) := []
  epochQ : List Bytes := []
  sent : List (Nat × Nat) := []
  lim : List (Nat × Nat) := []
  rxSeq : Nat := 1
  got : List (Nat × Nat) := []
  lastCredit : Nat := 0
  sinceCredit : Nat := 0
  nak : Bool := false
  roleDue : Bool := false
  lastRx : Nat := 0
  badTags : Nat := 0
  mirrorRun : Nat := 0
  rekey : Bool := false
  -- a retrain asked for after the commit; replay due at the first CREDIT after DATA; the width last trained (R286)
  again : Bool := false
  resend : Bool := false
  trained : Nat := 0
  -- the SERIAL the partner trained with (R356)
  peer : Option Nat := none
  pings : List Nat := []
  -- the handshake of R361: the PAIR_BIND packets that wait for it, none where the unit re-keys by itself (R365), and whether the
  -- partner has been heard
  pair : Option (List Nat × Bool) := none
  -- epochs (R370 to R373): E of the last epoch started, E(0) at first, and the ticks to the next one; the epoch in progress, the mirrored streams it still waits for, snapshots and bytes sent in it; the
  -- last epoch applied in this session and one whose frames are ignored; the epoch in reception, the committed one
  e : Option (Nat × Nat) := none
  epoch : Nat := 0
  epochOpen : Bool := false
  snapWait : List Nat := []
  snapDone : Nat := 0
  epochBytes : Nat := 0
  applied : Nat := 0
  rxSkip : Option Nat := none
  eRx : Option EpochRx := none
  eDone : Option (List Snap) := none
  -- which epoch buffer is the committed one (R373); the mirror frames dropped at the closed gate (R46), which no register shows
  eBuf : Nat := 0
  gateDrops : Nat := 0
  -- the slew the follower requests (R375): true lengthens ticks
  slewReq : Option Bool := none
  deriving DecidableEq, Repr

/-- The partner bay, beside its registers (R417 to R420). -/
structure BaySt where
  -- the partner bay (R417 to R420): inputs whose first state has settled (0 presence, 1 power good, 2 button), what the slot waits
  -- for (1 PGOOD, 2 the reset's release, 3 the PWREN drop, 4 PGOOD falling) since when, a running reset pulse, the lamp
  settled : List Nat := []
  wait : Option (Nat × Nat) := none
  pulse : Option Nat := none
  lamp : Bool := false
  ledTick : Nat := 0
  deriving DecidableEq, Repr

/-- The SPI NOR (19_firmware_update.md). -/
structure Nor where
  -- the SPI NOR (19_firmware_update.md): slots A and B, the selector records by location, the log, the model-signing key and the device
  -- certificate of the key region, writes of the generation record
  slots : List NorSlot := [⟨[(0, [0xA5#8, 0xF1#8, 0x60#8, 0x09#8, 0x01#8, 0x00#8, 0x00#8, 0x01#8, 0x00#8, 0x00#8, 0x00#8, 0x00#8, 0x00#8, 0x10#8])], some 4096, true, true, false⟩, ⟨[], none, false, false, false⟩]
  selector : List (Nat × SelRec) := [(0, ⟨1, 0, 0, 2, 0, 0, 0, [], 0⟩)]
  log : List LogRec := []
  modelKey : Bytes := []
  cert : Bytes := []
  genWrites : Nat := 0
  deriving DecidableEq, Repr

/-- The image that runs, and the update in progress (R207, R460 to R466). -/
structure FwSt where
  -- the image that runs: slot, in trial, and what step 3 did (events of R470) for the log; READY's deadline for the confirm (R465)
  slot : Nat := 0
  trial : Bool := false
  notes : List Nat := []
  trialEnd : Option Nat := none
  -- the update (R207, R461, R462): its state, IMAGE_BYTES, the sectors written
  upState : Nat := 0
  upBytes : Nat := 0
  upMap : List Nat := []
  deriving DecidableEq, Repr

/-- The watchdogs, beside their registers (R475 to R482). -/
structure WdgSt where
  -- the watchdogs, 0 WDG_SYS and 1 WDG_FW: start of the period, the period and enable mask of the next one; the core restart
  -- in progress and the end of the last one (R475 to R482)
  start : List (Nat × Nat) := []
  next : List (Nat × (Nat × Nat)) := []
  restart : Option Nat := none
  restarted : Option Nat := none
  deriving DecidableEq, Repr

/-- The adaptive loops and ageing, beside their registers (R486 to R494). -/
structure HltSt where
  -- the voltage loop and the reports (R486 to R492): highest TARGET of the interval, its start, the last raise of OFFSET; since when no
  -- rail is in warning; the governor's last run
  vMax : Nat := 850
  start : Nat := 0
  avsLast : Nat := 0
  warnSince : Option Nat := none
  govLast : Nat := 0
  -- ageing (R493): when the next sample is due, the samples newest first with their ticks, the lowest eye height of the hour by lane
  ageNext : Nat := 0
  ageing : List (Nat × List Nat) := []
  eyeMin : List (Nat × Nat) := []
  -- by lane, the tick from which the next adaptation and the next eye measurement may come (R491)
  eqNext : List (Nat × Nat) := []
  eyeNext : List (Nat × Nat) := []
  deriving DecidableEq, Repr

/-- The DRAM channels, beside their registers (R335 to R341). -/
structure ChSt where
  -- DRAM channels (R335 to R341): last readings at or above 93 and 83 degrees and the last change of multiplier (ticks, by channel);
  -- channels whose last pass found a margin too low; starts of running retrains; the patrol scrubber's next granule; the stored
  -- training rates
  hot : List (Nat × (Nat × Nat × Nat)) := []
  lowMargin : List (Nat × Unit) := []
  retrains : List (Nat × Nat) := []
  patrol : List (Nat × Nat) := []
  rates : List (Nat × Nat) := []
  deriving DecidableEq, Repr

/-- The block's state. `fields` is every BAR0 register field that is not at its reset value, by `Field.key`. -/
structure State where
  pending : List Instr
  fields : List (Nat × Nat)
  -- pins and boot (R119, R120, R524 to R527)
  pwrok : Bool
  perstN : Bool
  bayrstN : Bool
  aonValid : Bool
  pwrdnReq : Bool
  strapAddr : Nat
  boot : Boot
  -- PCI Express configuration bits and MSI-X (R135 to R141, R156, R158, R446)
  bme : Bool
  mse : Bool
  msixEnable : Bool
  funcMask : Bool
  d3hot : Bool
  cfg : Cfg
  msixTable : List (Nat × MsixEntry)
  msixPba : List (Nat × Unit)
  -- the host's shadow word (R15): the register it belongs to and what it holds
  shadowOwner : Option Nat
  shadowWord : Option Nat
  -- the width an autonomous reduction offers in the Recovery in progress (R156), completions that wait in the staging store,
  -- other writes that wait in the crossing (R147, R155), transfers from host memory (R146)
  offer : Option Nat
  staged : List Staged
  crossing : List Egress
  reads : List HostRead
  -- the client other than 0 fetched for last, and whether the last fetch was client 0's (R171), and CMD_TAIL of the clients whose packet was found not fully covered (R165)
  lastFetch : Nat × Bool
  looked : List (Nat × Nat)
  -- clients, packets, fences (07_clients_and_rings.md)
  dbLatch : List (Nat × (Option Nat × Option Nat))
  packets : List Pkt
  nextPkt : Nat
  flushes : List (Nat × FlushRec)
  retry : List (Nat × Nat)
  resetting : List (Nat × (Nat × Nat × Nat))
  fences : List (Nat × Fence)
  -- events (04_clocks_and_events.md)
  captured : List Ev
  -- the stamp whose group carries STALE_TICK until it is written (R99), and the tick of READY (R116)
  staleTick : Option Nat
  staleWritten : Bool
  readyAt : Option Nat
  lostSinceHead : Nat
  deferredPairDown : Option Nat
  -- TAMPER responses that wait for the core restart of a WDG_FW expiry of their tick (R112)
  tamperWait : List Nat
  thermal : Option Nat
  tamperFence : Bool
  clockLost : List (Nat × Unit)
  -- streams, objects, jobs (08 to 13, 21)
  streams : List (Nat × Stream)
  objects : List (Nat × Obj)
  loads : List (Nat × Nat)
  jobs : List Job
  nextJob : Nat
  -- the resident pages: their slot of the weight staging store, and when they were named last (R296, R297)
  pageSlots : List (Nat × (Nat × Nat))
  staging : Option Nat
  degrade : List (Nat × Nat)
  degradeQueue : List (Nat × Nat)
  lastAdmission : Nat
  undoSince : Option Nat
  -- memory (02_soot.md, 12, 14)
  allocs : List Alloc
  marks : List (Nat × Nat × Nat)
  dram : List Host.Cell
  soot : List (Nat × Nat)
  -- lines of the tile store and of the weight staging store with their soot bit at 1, and those an uncorrectable error made
  -- sooted and poisoned until they are next written in full (R40); engines whose working storage holds sooted data (R41)
  tileSoot : List (Nat × Nat)
  tileBad : List (Nat × Nat)
  stagingSoot : List (Nat × Nat)
  stagingBad : List (Nat × Nat)
  workSoot : List UnitName
  poison : List (Nat × Unit)
  ueTicks : List (Nat × List Nat)
  scrub : Option (Nat × Nat × List (Nat × Nat))
  -- fuses, keys, debug and power (18_security_debug_power.md)
  fuses : Fuses
  rootSecret : Option Nat
  labArm : Option Nat
  power : Nat
  powerReq : Option (Nat × Option Nat)
  -- the stored partner identity, sealed in the key region (R361, R432): serial and key hash
  partner : Option (Nat × Nat)
  storedGen : Nat
  certSensed : Bool
  fwCertified : Bool
  -- the images being loaded: packet, first device address of the buffer (R196)
  loadBufs : List (Nat × Nat)
  covers : List (Nat × Nat)
  -- breach log entries not yet appended to the SPI NOR (R50): the eight words of each
  breachQueue : List (List Nat)
  -- the ORPHAN role was entered by a lapsed lease (ABORTED_ROLE detail bit 8, R186)
  leaseLapsed : Bool
  -- tree lanes in their self-test (R321)
  laneTests : List Nat
  -- decode engines in the self-test of a second failure, whose capacity still counts (R230)
  keptDecs : List Nat
  -- the ticks adjusted in the last 1,024 (R100)
  slewTicks : List Nat
  -- a function-level reset in progress, and whether DL_Up's return caused it (R129, R153)
  flr : Option Bool
  -- tamper assertions since the last boot (R449), and steps 5 and 6 that wait for a wake (R450)
  tamperN : Nat
  tamperRest : Bool
  -- a wake in progress, from IDLE 1, DOZE 2 or SLEEP 3, and since when (R447); the function was in D3hot
  waking : Option (Nat × Nat)
  w : WrenSt
  bay : BaySt
  nor : Nor
  fw : FwSt
  wdg : WdgSt
  hlt : HltSt
  ch : ChSt
  egress : List Egress
  -- the model's own: how many free values have been drawn (assumption 1)
  freeCtr : Nat
  deriving DecidableEq, Repr

namespace State

/-- Register field `f` of block `i`. -/
def get (s : State) (f : Field) (i : Nat := 0) : Nat := Tab.getD (f.reset i) (f.key i) s.fields

/-- Register field `f` of block `i` becomes `v`; a field at its reset value is not listed. -/
def set (s : State) (f : Field) (i : Nat) (v : Nat) : State :=
  { s with fields := Tab.putD (f.reset i) (f.key i) v s.fields }

/-- The block right after reset: power-on reset with PWROK low, nothing booted (R119, R128; assumptions 2 and 3). -/
def reset : State where
  pending := []
  fields := []
  pwrok := false
  perstN := false
  bayrstN := true
  aonValid := true
  pwrdnReq := false
  strapAddr := 0
  boot := .inReset
  bme := false
  mse := false
  msixEnable := false
  funcMask := false
  d3hot := false
  cfg := {}
  msixTable := []
  msixPba := []
  shadowOwner := none
  shadowWord := none
  offer := none
  staged := []
  crossing := []
  reads := []
  lastFetch := (0, false)
  looked := []
  dbLatch := []
  packets := []
  nextPkt := 0
  flushes := []
  retry := []
  resetting := []
  fences := []
  captured := []
  staleTick := none
  staleWritten := false
  readyAt := none
  lostSinceHead := 0
  deferredPairDown := none
  tamperWait := []
  thermal := none
  tamperFence := false
  clockLost := []
  streams := []
  objects := []
  loads := []
  jobs := []
  nextJob := 0
  pageSlots := []
  staging := none
  degrade := []
  degradeQueue := []
  lastAdmission := 0
  undoSince := none
  allocs := []
  marks := []
  dram := []
  soot := []
  tileSoot := []
  tileBad := []
  stagingSoot := []
  stagingBad := []
  workSoot := []
  poison := []
  ueTicks := []
  scrub := none
  fuses := { serial := 0, revision := 1, v256 := false, ceiling := 0, provisioned := true, rootFault := false, faults := 0, modelKey := true, debugKey := true, modelHash := [], rollbackCopies := 0, pairEpoch := 0, lab := false }
  rootSecret := none
  labArm := none
  power := 0
  powerReq := none
  partner := none
  storedGen := 0
  certSensed := false
  fwCertified := true
  loadBufs := []
  covers := []
  breachQueue := []
  leaseLapsed := false
  laneTests := []
  keptDecs := []
  slewTicks := []
  flr := none
  tamperN := 0
  tamperRest := false
  waking := none
  w := {}
  bay := {}
  nor := {}
  fw := {}
  wdg := {}
  hlt := {}
  ch := {}
  egress := []
  freeCtr := 0

end State

end Sys2Proof.Machine
end

