-- ==== Sys2Proof/Machine/Ops.lean ====
section
/-! DEFINITION. Sys2Proof/Machine/Ops.lean: the operations the chapters share: registers, messages and interrupts, events
and the treatment of lower events, fences and replies, packet start, FAULT entry, and what every command ends with. -/

namespace Sys2Proof.Machine

abbrev Result := Host.Outcome State Fault Refusal

/-! ## Registers and the state of the unit -/

/-- TICK_NOW (R100, R101). -/
def State.now (s : State) : Nat := s.get .EVU_TICK_NOW

/-- DEVICE_STATE.STATE (R123). -/
def State.dev (s : State) : Nat := s.get .DS_STATE

def State.isReady (s : State) : Bool := s.dev == 5
def State.isFault (s : State) : Bool := s.dev == 7

/-- A counter that wraps at 32 bits gains `n`. -/
def State.inc (s : State) (f : Field) (i : Nat := 0) (n : Nat := 1) : State := s.set f i (Num.wrap32 (s.get f i + n))

/-- A counter of `bits` bits that saturates gains `n`. -/
def State.sat (s : State) (bits : Nat) (f : Field) (i : Nat := 0) (n : Nat := 1) : State :=
  s.set f i (Num.satAdd bits (s.get f i) n)

/-- A counter that loses one, never below 0. -/
def State.dec (s : State) (f : Field) (i : Nat := 0) : State := s.set f i (s.get f i - 1)

/-- Whether clock `id` of R95 has been declared lost. -/
def State.clockIsLost (s : State) (id : Nat) : Bool := (Tab.find? id s.clockLost).isSome

/-- A fresh free value below `bound` (assumption 1). -/
def State.draw (s : State) (bound : Nat) : Nat × State :=
  (Config.freeValue s.freeCtr % bound, { s with freeCtr := s.freeCtr + 1 })

/-- Role codes of R186: 0 ACTIVE, 1 STANDBY, 2 ORPHAN, 3 SOLO. -/
def State.role (s : State) : Nat := s.get .ROLE

/-- The Wren session (R363): 0 NONE, 1 AUTH, 2 KEYED. -/
def State.session (s : State) : Nat := s.get .WRN_SESSION

/-- Engines run: not in FAULT, not after a thermal trip, in a state with the clocks of RUN, boot done. -/
def State.enginesRun (s : State) : Bool := s.isReady && s.thermal.isNone && s.power == 0

/-- Choararok runs: READY and not in DOZE or SLEEP, cores not halted (R439), not restarting (R481). -/
def State.coresRun (s : State) : Bool :=
  s.isReady && decide (s.power < 2) && s.thermal.isNone && s.get .DBG_CORES_HALTED == 0 && s.get .WDG_RESTARTING 1 == 0

/-- FLU_STATUS.FENCED (R90): STANDBY, ORPHAN, or ACTIVE with no lease running. -/
def State.fencedReg (s : State) : Bool :=
  s.role == 1 || s.role == 2 || (s.role == 0 && s.get .LEASE_VALID == 0)

/-- The flue gates write nothing: FENCED, FAULT (R98), THERMAL_TRIP (R111) or TAMPER (R450). -/
def State.fenced (s : State) : Bool := s.fencedReg || s.isFault || s.thermal.isSome || s.tamperFence

/-- Nothing reaches the link: DOWN (R147), or HCLK is lost (R97). -/
def State.linkDead (s : State) : Bool := s.get .LINK_DOWN == 1 || s.clockIsLost 0

/-- Posted writes are discarded: the link is dead, or Bus Master Enable is clear (R158). -/
def State.linkClosed (s : State) : Bool := s.linkDead || !s.bme

/-- The link is in Recovery: the transaction layer holds its TLPs, and egress meets a full crossing (R155, R147). -/
def State.held (s : State) : Bool := s.get .LINK_LTSSM == 4 || s.get .LINK_LTSSM == 5

/-- The Wren layer runs: WCLK, and no FAULT, after which the link sends and answers nothing (R377). -/
def State.wrenOn (s : State) : Bool := !s.clockIsLost 20 && !s.isFault && s.thermal.isNone

/-- The Wren link is in DATA (R355). -/
def State.inData (s : State) : Bool := s.wrenOn && s.get .WRN_LSTATE == 6

/-! ## Messages and interrupts -/

def State.emit (s : State) (x : Egress) : State := { s with egress := s.egress ++ [x] }

/-- A write or message goes out, or waits in the crossing while it is full (R147, R155). -/
def State.post (s : State) (x : Egress) : State := if s.held then { s with crossing := s.crossing ++ [x] } else s.emit x

def msixReset : MsixEntry := ⟨0, 0, true⟩

def State.msixEntry (s : State) (v : Nat) : MsixEntry := Tab.getD msixReset v s.msixTable

/-- A blocked vector (R140). -/
def State.msixBlocked (s : State) (v : Nat) : Bool :=
  (s.msixEntry v).masked || s.funcMask || !s.msixEnable || !s.bme

/-- One discard counted in GCTL_LINK_DISCARDS (R147, R150), and in HLT_XING_DISCARDS while HCLK is lost (R97). -/
def State.discard (s : State) : State :=
  let s := if s.clockIsLost 0 then s.sat 32 .HLT_XING_DISCARDS else s
  s.sat 32 .GCTL_LINK_DISCARDS

/-- Vector `v` is signalled (R139 to R141, R147): pends while blocked or already pending, is discarded while DOWN. -/
def State.signal (s : State) (v : Nat) : State :=
  if s.msixBlocked v || (Tab.find? v s.msixPba).isSome then { s with msixPba := Tab.put v () s.msixPba }
  else if s.linkDead then s.discard
  else s.post (.msix v (s.msixEntry v).addr (s.msixEntry v).data)

/-- Every pending vector that is no longer blocked sends its one message, in ascending order (R140). -/
def State.sendUnblocked (s : State) : State :=
  (Tab.keys s.msixPba).foldl (fun s v =>
    if s.msixBlocked v then s else ({ s with msixPba := Tab.del v s.msixPba }).signal v) s

/-- Hardware sets bit `b` of an interrupt register and signals `vec` when the bit is enabled (R531). -/
def State.irq (s : State) (reg en : Field) (i b vec : Nat) : State :=
  let s := s.set reg i (s.get reg i ||| 2 ^ b)
  if (s.get en i).testBit b then s.signal vec else s

/-! ## Events -/

/-- How a lower or later event's consequence is treated (R112, R113). -/
inductive Treat where
  | apply | record | keysOnly | defer
  deriving DecidableEq, Repr

/-- An event of code `c` (and source, where given) captured in this tick. -/
def State.sameTick (s : State) (c : Nat) (p : Ev → Bool := fun _ => true) : Bool :=
  s.captured.any fun e => e.tick == s.now && e.code == c && p e

/-- A reset that runs the boot ROM took place in this tick by WDG_SYS, or by a WDG_FW expiry that R482 turns into it. -/
def State.wdgResetNow (s : State) : Bool :=
  s.sameTick 5 (fun e => e.src == 0) || (s.sameTick 5 && s.boot != .done && s.get .RC_CAUSE == 32)

/-- The treatment of an event that takes the column of code `c` (R112, R113). -/
def State.treatment (s : State) (c : Nat) : Treat :=
  if s.sameTick 1 (fun e => e.d0 == 1) || s.sameTick 2 then
    if c == 3 then .keysOnly else if c == 4 then .apply else .record
  else if s.thermal.isSome then if c == 3 then .keysOnly else .record
  else if s.isFault then
    if c == 3 then .keysOnly
    else if c == 2 || c == 4 || c == 5 || c == 8 || c == 9 || c == 14 then .apply else .record
  else if s.sameTick 3 && (c == 7 || c == 11 || c == 12) then .record
  else if s.wdgResetNow && decide (5 < c) then .record
  else if s.sameTick 5 (fun e => e.src == 1) && !s.wdgResetNow && (c == 7 || c == 3) then .defer
  else if s.sameTick 10 (fun e => e.d2 == 1) && decide (10 < c) then .record
  else .apply

/-- An event is captured (R102): its bit in EVU_PENDING is set and it joins its tick's group; after TCLK is lost and the
stale group is written, only the bit is set (R99). A COMPLETION sets no bit: DEDUCED from the worked case of
04_clocks_and_events.md, whose EVU_PENDING and MASK read 0x2084 with 12 completions in the tick (assumption 7). -/
def State.capture (s : State) (code src d0 d1 d2 : Nat) : State :=
  let s := if code == 14 then s else s.set .EVU_PENDING 0 (s.get .EVU_PENDING ||| 2 ^ code)
  if s.get .EVU_TICK_STOPPED == 1 && s.staleWritten then s
  else { s with captured := s.captured ++ [⟨s.now, code, src, d0, d1, d2⟩] }

/-! ## Fences and replies -/

/-- Status codes of R186. -/
abbrev stOk : Nat := 0x0000
abbrev stPartial : Nat := 0x0001
abbrev stBadOpcode : Nat := 0x0100
abbrev stBadLength : Nat := 0x0101
abbrev stBadParam : Nat := 0x0102
abbrev stNotPermitted : Nat := 0x0103
abbrev stNoResource : Nat := 0x0104
abbrev stAdmitMemory : Nat := 0x0200
abbrev stAdmitCompute : Nat := 0x0201
abbrev stAdmitFlue : Nat := 0x0202
abbrev stStreamError : Nat := 0x0300
abbrev stStreamShed : Nat := 0x0301
abbrev stFlushed : Nat := 0x0400
abbrev stAbortedRole : Nat := 0x0401
abbrev stSootBreach : Nat := 0x0500
abbrev stUpdateState : Nat := 0x0600
abbrev stUpdateSignature : Nat := 0x0601
abbrev stUpdateRollback : Nat := 0x0602
abbrev stFenceTimeout : Nat := 0x0700
abbrev stDeviceFault : Nat := 0x0800

def Reply.ok (r0 r1 r2 r3 : Nat := 0) : Reply := ⟨stOk, 0, r0, r1, r2, r3⟩
def Reply.bad (word : Nat) : Reply := { status := stBadParam, detail := word }
def Reply.badStruct (n : Nat) : Reply := { status := stBadParam, detail := 0x0100 + n }
def Reply.notPermitted (d : Nat) : Reply := { status := stNotPermitted, detail := d }
def Reply.noResource (d : Nat) : Reply := { status := stNoResource, detail := d }
def Reply.deviceFault (d : Nat) : Reply := { status := stDeviceFault, detail := d }

/-- Word `i` of a packet; 0 past its end. -/
def Pkt.w (p : Pkt) (i : Nat) : Nat := (p.words.getD i 0#32).toNat

def Pkt.w64 (p : Pkt) (i : Nat) : Nat := p.w i + 2 ^ 32 * p.w (i + 1)

/-- Header fields of R166. -/
def Pkt.opcode (p : Pkt) : Nat := Num.slice (p.w 0) 31 24
def Pkt.length (p : Pkt) : Nat := Num.slice (p.w 0) 23 16
def Pkt.ordered (p : Pkt) : Bool := (p.w 0).testBit 8
def Pkt.notify (p : Pkt) : Bool := (p.w 0).testBit 9

def State.pkt? (s : State) (id : Nat) : Option Pkt := s.packets.find? fun p => p.id == id

/-- The 32 bytes of a reply as eight words (R168). -/
def replyWords (tag tick : Nat) (r : Reply) : List Nat :=
  [tag, r.status + 65536 * (r.detail % 65536), tick % 2 ^ 32, tick / 2 ^ 32 % 2 ^ 32,
   r.r0 % 2 ^ 32, r.r1 % 2 ^ 32, r.r2 % 2 ^ 32, r.r3 % 2 ^ 32]

/-- Where reply `i` of client `c` lies in its completion ring (R162). -/
def State.replyAddr (s : State) (c i : Nat) : Nat := s.get .CL_CPL_BASE c + (i % 2 ^ s.get .CL_CPL_LOG2 c) * 32

/-- A reply with tag `tag`, formed in `tick`, takes the next slot of client `c`: written, or discarded while the link is closed
(R147) or withheld after a thermal trip (R112); CPL_HEAD advances in every case (R170). -/
def State.putReply (s : State) (c tag tick : Nat) (r : Reply) : State :=
  let slot := s.get .CL_CPL_HEAD c
  let s := s.capture 14 c 0 0 0
  let s := s.set .CL_CPL_HEAD c (Num.wrap32 (slot + 1))
  if s.thermal.isSome then s
  else if s.linkClosed then s.discard
  else s.post (.reply c slot (s.replyAddr c slot) (replyWords tag tick r))

/-- The CPL_HEAD writeback of R170 step 1. -/
def State.writeback (s : State) (c : Nat) : State :=
  if s.get .CL_WB_EN c == 0 || s.thermal.isSome then s
  else if s.linkClosed then s.discard
  else s.post (.writeback (4 * s.get .CL_WB_ADDR c) (s.get .CL_CPL_HEAD c))

/-- A device update of a fence (R175): adds 1, saturating; nothing where the fence is not live. -/
def State.fenceBump (s : State) (h : Nat) : State :=
  match Tab.find? h s.fences with
  | none => s
  | some f => { s with fences := Tab.put h { f with value := min (f.value + 1) (2 ^ 64 - 1) } s.fences }

/-- The started waits on fence `h` that its value satisfies (R176), in fetch order. -/
def State.readyWaits (s : State) (h : Nat) : List Nat :=
  match Tab.find? h s.fences with
  | none => []
  | some f => (s.packets.filter fun p =>
      p.started && p.opcode == 0x02 && (p.w 2 % 2 ^ 17) == h && decide (p.w64 4 ≤ f.value)).map Pkt.id

/-- Packet `p`, in flight under `id`, leaves and its reply takes the next slot of its client (R169, R170). -/
def State.answer (s : State) (id tick : Nat) (p : Pkt) (r : Reply) : State :=
  ((({ s with packets := s.packets.filter fun q => q.id != id, reads := s.reads.filter fun r => r.pkt != id } : State).set .CL_INFLIGHT p.client
    (s.get .CL_INFLIGHT p.client - 1)).putReply p.client (p.w 1) tick r)

/-- Whether a reply of client `c` updates its completion fence (R170 step 2, R161). -/
def State.bumps (s : State) (c : Nat) : Bool :=
  s.get .CL_FENCE_EN c == 1 && s.get .CL_CPL_FENCE_VALID c == 1 && s.thermal.isNone

/-- The reply of a wait on fence `h` whose target is reached (R176). -/
def State.waitReply (s : State) (h : Nat) : Reply :=
  Reply.ok (((Tab.find? h s.fences).map Fence.value).getD 0 % 2 ^ 32)
    (((Tab.find? h s.fences).map Fence.value).getD 0 / 2 ^ 32)

/-- The client's vector after reply `r` to packet `p` (R170 step 3). -/
def State.replySignal (s : State) (p : Pkt) (r : Reply) : State :=
  if s.get .CL_IRQ_EN p.client == 1 && (p.notify || decide (0x0100 ≤ r.status)) && s.thermal.isNone
  then s.signal (32 + p.client) else s

/-- Packet `id` completes with reply `r`, formed in `tick` (R170): the reply, the writeback, the fence update with the waits it
releases (R176), and the client's vector. `n` bounds the chain of releases by the packets in flight. -/
def completeN : Nat → State → Nat → Nat → Reply → State
  | 0, s, _, _, _ => s
  | n + 1, s, id, tick, r =>
    match s.pkt? id with
    | none => s
    | some p =>
      let s := (s.answer id tick p r).writeback p.client
      let h := s.get .CL_CPL_FENCE p.client
      let t := s.fenceBump h
      State.replySignal
        (if s.bumps p.client then (t.readyWaits h).foldl (fun u w => completeN n u w s.now (t.waitReply h)) t else s) p r

/-- The completion of packet `id` waits in the staging store. -/
def State.isStaged (s : State) (id : Nat) : Bool := s.staged.any fun x => x.id == id

/-- The completion of packet `id` takes its entry of the staging store while the crossing is full (R147). -/
def State.stage (s : State) (tick id : Nat) (r : Reply) : State :=
  if s.isStaged id || (s.pkt? id).isNone then s else { s with staged := s.staged ++ [⟨id, r, tick⟩] }

/-- The job of packet `id` has completed: its entry is free (R282). -/
def State.endJobOf (s : State) (id : Nat) : State := { s with jobs := s.jobs.filter fun j => j.pkt != some id }

/-- Packet `id` completes with `r`, formed in `tick`: at once, or from the staging store while the crossing is full. -/
def State.completeAt (s : State) (tick id : Nat) (r : Reply) : State :=
  let s := s.endJobOf id
  if s.held then s.stage tick id r else completeN (s.packets.length + 1) s id tick r

/-- Packet `id` completes with `r`. -/
def State.complete (s : State) (id : Nat) (r : Reply) : State := s.completeAt s.now id r

/-- The crossing drains: what waits in it is issued, or discarded and counted where no write is (R147, R159), then the staged
completions, in the order they were formed. -/
def State.drainStaged (s : State) : State :=
  let s1 := s.crossing.foldl (fun s x => if s.linkClosed then s.discard else s.emit x) { s with crossing := [] }
  s.staged.foldl (fun s x => completeN (s.packets.length + 1) s x.id x.tick x.reply) { s1 with staged := [] }

/-- The waits that fence `h` now satisfies complete with OK (R176). -/
def State.release (s : State) (h : Nat) : State :=
  (s.readyWaits h).foldl (fun u w => u.complete w (s.waitReply h)) s

/-- Every wait on fence `h` completes with FENCE_TIMEOUT, detail 0x0002, reporting `v` (R176), and the fence is freed;
a client whose CL_CPL_FENCE names it loses CPL_FENCE_VALID (R161). -/
def State.destroyFence (s : State) (h : Nat) : State :=
  match Tab.find? h s.fences with
  | none => s
  | some f =>
    let s := { s with fences := Tab.del h s.fences }
    let s := if s.get .CL_CPL_FENCE f.creator == h then s.set .CL_CPL_FENCE_VALID f.creator 0 else s
    ((s.packets.filter fun p => p.started && p.opcode == 0x02 && (p.w 2 % 2 ^ 17) == h).map Pkt.id).foldl
      (fun s w => s.complete w ⟨stFenceTimeout, 2, f.value % 2 ^ 32, f.value / 2 ^ 32, 0, 0⟩) s

/-! ## Starting packets (R172) -/

/-- Whether packet `p` may start now: every earlier packet of its client has started, none of them is a BARRIER still in
flight, and with ORDERED none of them is still in flight. A SCRUB waits while one runs (R56). -/
def State.mayStart (s : State) (p : Pkt) : Bool :=
  !p.started && !s.isStaged p.id &&
  (s.packets.all fun q =>
    q.client != p.client || decide (p.id ≤ q.id) || ((q.started || s.isStaged q.id) && q.opcode != 0x05 && !(p.ordered && p.bad.isNone))) &&
  !(p.opcode == 0x38 && s.scrub.isSome)

/-- Packet `q` starts before packet `p`, fetched earlier, where both could: a FENCE_DESTROY before a FENCE_SIGNAL on its fence,
and FENCE_SIGNALs in ascending client number (R181). -/
def Pkt.goesBefore (q p : Pkt) : Bool :=
  p.opcode == 0x01 && ((q.opcode == 0x04 && q.w 2 == p.w 2 % 2 ^ 17) || (q.opcode == 0x01 && decide (q.client < p.client)))

/-- The packet that starts next: the first fetched that may start (R171, R212), unless one that may start too goes before it
(R181). -/
def State.nextStart (s : State) : Option Pkt :=
  if s.coresRun then
    let ps := s.packets.filter fun p => p.bad.isNone && s.mayStart p
    ps.find? fun p => !ps.any fun q => q.goesBefore p
  else none

/-- Packets of client `c` that failed a check of R167 complete as soon as they reach their place in start order. -/
def drainN : Nat → State → Nat → State
  | 0, s, _ => s
  | n + 1, s, c =>
    match s.packets.find? (fun p => p.client == c && p.bad.isSome && s.mayStart p) with
    | none => s
    | some p => drainN n (s.complete p.id ⟨(p.bad.getD (0, 0)).1, (p.bad.getD (0, 0)).2, 0, 0, 0, 0⟩) c

def State.drain (s : State) (c : Nat) : State := if s.coresRun then drainN s.packets.length s c else s

def State.markStarted (s : State) (id : Nat) : State :=
  { s with packets := s.packets.map fun p => if p.id == id then { p with started := true, startTick := s.now } else p }

/-! ## Streams, as the shared operations see them -/

def State.stream? (s : State) (k : Nat) : Option Stream := Tab.find? k s.streams

def State.setStream (s : State) (k : Nat) (st : Stream) : State := { s with streams := Tab.put k st s.streams }

def State.modStream (s : State) (k : Nat) (f : Stream → Stream) : State :=
  match s.stream? k with
  | none => s
  | some st => s.setStream k (f st)

/-! ## The Wren transmitter, and FAULT entry -/

/-- A frame takes the next SEQ, stays in the replay buffer and is counted (R354, R378). -/
def State.wrenSend (s : State) (type ctx : Nat) (body : List Nat) : State :=
  let q := s.w.txSeq
  let s := { s with w.txSeq := q + 1, w.replay := s.w.replay ++ [(q, type, ctx, body)] }
  let s := s.set .WRN_TX_FRAMES 0 ((s.get .WRN_TX_FRAMES + 1) % 2 ^ 64)
  s.emit (.wren type q (ctx :: body))

/-- The unit enters FAULT (R98, R131): STATE, code and channel, one FAULT frame to the partner while WCLK runs and the
link is in DATA (R377), and DEVICE_FAULT 0x0001 for every packet in flight while CCLK and HCLK run. -/
def State.enterFault (s : State) (code ch : Nat) : State :=
  if s.isFault then s
  else
    let s := ((s.set .DS_STATE 0 7).set .DS_FAULT_CODE 0 code).set .DS_CHANNEL 0 ch
    -- a completion of this tick that is not issued gives way to DEVICE_FAULT (R112)
    let s := if code == 5 then { s with staged := s.staged.map fun (x : Staged) =>
      if x.tick == s.now then { x with reply := Reply.deviceFault 0x0001 } else x } else s
    let s := if s.get .WRN_LSTATE == 6 && !s.clockIsLost 20 then s.wrenSend 0x06 0 [code + 256 * ch, s.now] else s
    if s.clockIsLost 19 || s.clockIsLost 0 then s
    else (s.packets.map Pkt.id).foldl (fun s id => s.complete id (Reply.deviceFault 0x0001)) s

end Sys2Proof.Machine
end

