-- ==== Sys2Proof/Machine/Flags.lean ====
section
/-! DEFINITION. Sys2Proof/Machine/Flags.lean: the status bits and counts that follow the state (CERT_STATE, FLU_STATUS,
DEVICE_STATE.DB_LATCHED, job and object counts), brought up to it after every command; and the endings every meaning uses. -/

namespace Sys2Proof.Machine

/-! ## What every command ends with -/

/-- SEC_FUSE_STATUS.FAULTS as the latest sense finds it: the fields with a majority fault, bit 8 of `faults` being PROVISIONED
and shown with REVISION; FLUE_CEILING above 32 (bit 6) and a ROLLBACK position with one or two copies programmed (bit 3) are
faults too (R429, R430, R451). -/
def Fuses.faultMask (f : Fuses) : Nat :=
  let m := f.faults % 256
  let m := if f.faults.testBit 8 then Num.setBit m 7 true else m
  let m := if 32 < f.ceiling then Num.setBit m 6 true else m
  if f.rollbackCopies % 3 != 0 then Num.setBit m 3 true else m

/-- CERT_STATE.REASON, one bit per failing condition of R61, bit 0 for REASON[8]. -/
def State.certReason (s : State) : Nat :=
  Num.b2n (s.certSensed && s.fuses.lab) +
  2 * Num.b2n (s.certSensed && (!s.fuses.provisioned || s.fuses.faultMask != 0 || s.fuses.rootFault)) +
  4 * Num.b2n (!s.fwCertified) +
  8 * Num.b2n (s.fields.any fun e => e.1 % 512 == Field.META_POLICY.ctorIdx) +
  16 * Num.b2n (!s.certSensed || s.get .SOOT_PRECLEAR == 0) +
  32 * Num.b2n (s.get .SOOT_LOCK == 0) +
  64 * Num.b2n (s.get .SOOT_TAGSTORE_READY == 0 || s.get .SOOT_SRAM_READY == 0)

/-- CERT_STATE reports each condition live; a change of CERTIFIED sets SEC_SOOT_IRQ.CERT_CHANGE (R61, R62). -/
def State.certSync (s : State) : State :=
  let r := s.certReason
  let was := s.get .CERT_CERTIFIED
  let s := ((s.set .CERT_REASON 0 r).set .CERT_LIFETIME_OUT 0 (Num.b2n (r % 4 != 0))).set .CERT_CERTIFIED 0 (Num.b2n (r == 0))
  if was == Num.b2n (r == 0) then s else s.irq .SEC_SOOT_IRQ .SEC_SOOT_IRQ_EN 0 1 1

/-- Registers that report the size of a structure of the state, and FLU_STATUS.FENCED, after a command. -/
def State.countSync (s : State) : State :=
  let s := s.set .FLU_FENCED 0 (Num.b2n s.fencedReg)
  let s := s.set .SCH_JOBS 0 (s.jobs.countP Job.entry)
  let s := s.set .SCH_PKT_JOBS 0 (s.jobs.countP fun j => j.entry && j.pkt.isSome)
  let s := s.set .PGR_RESIDENT 0 s.pageSlots.length
  let s := s.set .PGR_MODELS 0 (s.objects.countP fun o => !o.2.isTree)
  let s := s.set .PGR_ENSEMBLES 0 (s.objects.countP fun o => o.2.isTree)
  s.set .DS_DB_LATCHED 0 (Num.b2n (!s.dbLatch.isEmpty))

/-- What every command ends with: the registers that follow the state are brought up to it. -/
def settle (s : State) : State := (s.countSync).certSync

/-- A command takes effect. -/
def done (s : State) : Result := .next (settle s)

/-- An event of the device takes `s0` to `s` where `b` says that it has occasion; elsewhere nothing happens (assumption 5). -/
def doneIf (s0 : State) (b : Bool) (s : State) : Result := if b then done s else .next s0

/-- The next packet to start, of opcode `op`, starts and `body` is its effect; packets that failed their checks behind it
complete in their turn (R172). -/
def startPkt (op : Nat) (body : State → Pkt → State) (s : State) : Result :=
  match s.nextStart with
  | none => .next s
  | some p => if p.opcode == op then done ((body (s.markStarted p.id) p).drain p.client) else .next s

end Sys2Proof.Machine
end

