-- ==== Sys2Proof/Machine/Operands.lean ====
section
/-! DEFINITION. Sys2Proof/Machine/Operands.lean: the operand forms of command packets: the order of checks (R533), word
ranges and reserved bits (R12, R187), host buffers (R184), stream and object operands with their ownership (R183), and the
transfers between the device and host memory (R146, R158). -/

namespace Sys2Proof.Machine

open Sys2Proof.Num (slice)

/-- The reply of the first check that fails. -/
def firstBad : List (Bool × Reply) → Option Reply
  | [] => none
  | (ok, r) :: t => if ok then firstBad t else some r

/-- Word `i` passes: otherwise BAD_PARAM with its index. -/
def word (i : Nat) (ok : Bool) : Bool × Reply := (ok, Reply.bad i)

/-- Bits hi down to lo of word `i` are 0 (R12). -/
def Pkt.zeroBits (p : Pkt) (i hi lo : Nat) : Bool := slice (p.w i) hi lo == 0

/-- A field of word `i` lies in a range. -/
def Pkt.inRange (p : Pkt) (i hi lo a b : Nat) : Bool := decide (a ≤ slice (p.w i) hi lo) && decide (slice (p.w i) hi lo ≤ b)

/-- A host address in words `i` and `i` + 1, aligned to `al`, of a buffer of `n` bytes that does not cross 2^64 (R184). -/
def Pkt.hostBuf (p : Pkt) (i n al : Nat) : Bool × Reply :=
  word i (p.w64 i % al == 0 && decide (p.w64 i + n ≤ 2 ^ 64))

/-- The stream number operand, in word 2 [6:0]. -/
def Pkt.stream (p : Pkt) : Nat := slice (p.w 2) 6 0

/-- A packet that names a live stream in word 2, which client `c` owns (client 0 too where `admin`): the reply otherwise
(R183, steps 3 and 4 of R533). A stream whose close has started is no longer live for it (R34). -/
def State.streamChecks (s : State) (p : Pkt) (admin : Bool) : List (Bool × Reply) :=
  match s.stream? p.stream with
  | none => [word 2 false]
  | some st => [word 2 st.closingPkt.isNone, (st.owner == p.client || (admin && p.client == 0), Reply.notPermitted 1)]

/-- A check list ends in one reply, or the body runs. -/
def State.checked (s : State) (p : Pkt) (cs : List (Bool × Reply)) (body : State → State) : State :=
  match firstBad cs with
  | some r => s.complete p.id r
  | none => body s

/-! ## Errors of the link (R148) -/

/-- An uncorrectable error is reported in AER: its status bit, and where none was logged before, the first-error pointer and the
header of its TLP, which no command carries (free values, assumption 1). -/
def State.aer (s : State) (bit : Nat) : State :=
  let c := s.cfg
  let first := c.uncStatus == 0
  { s with
    cfg.uncStatus := c.uncStatus ||| 2 ^ bit
    cfg.firstErr := if first then bit else c.firstErr
    cfg.header := if first then (List.range 4).map fun i => Config.freeValue (s.freeCtr + i) % 2 ^ 32 else c.header
    freeCtr := if first then s.freeCtr + 4 else s.freeCtr }

/-- A request that no BAR takes: Unsupported Request (R148). -/
def State.unsupported (s : State) : State := s.aer 20

/-! ## Job entries (R282, R283) -/

/-- The limit of a class on job entries; C0 has none of its own. -/
def classLimit : Nat → Nat
  | 1 => 32 | 2 => 96 | 3 => 16 | _ => 256

/-- A job of class `cls`, created by a packet or not, may take an entry now. -/
def State.entryFree (s : State) (cls : Nat) (pkt : Bool) : Bool :=
  decide (s.jobs.countP Job.entry < Config.jobEntries) &&
  decide (s.jobs.countP (fun j => j.entry && j.cls == cls) < classLimit cls) &&
  (!pkt || decide (s.jobs.countP (fun j => j.entry && j.pkt.isSome) < 64))

def emptyJob : Job :=
  { id := 0, kind := .copy, cls := 2, stream := 128, fseq := 0, pkt := none, deadline := none, entry := false, unit := none,
    lanes := 0, deps := [], ins := [], outs := [], batch := none, act := none, slice := none, work := 0, since := 0, obj := 0,
    layer := 0, pages := [], staged := false, cycles := 0, soot := false, mode := 0, tile := 0, failedOn := none }

/-- A job is created: it takes an entry at once where its class may, and waits for one otherwise. Stream number 128 stands
for no stream. -/
def State.addJob (s : State) (j : Job) : State :=
  { s with jobs := s.jobs ++ [{ j with id := s.nextJob, entry := s.entryFree j.cls j.pkt.isSome }], nextJob := s.nextJob + 1 }

/-! ## Transfers to and from host memory (R146, R158) -/

/-- The pieces of a transfer of `n` bytes at `a`, none longer than `m` bytes nor across a multiple of `m` (R146). `fuel` bounds
their number. -/
def pieces (m : Nat) : Nat → Nat → Nat → List (Nat × Nat)
  | 0, _, _ => []
  | fuel + 1, a, n =>
    if n == 0 then [] else
      let k := min n (m - a % m)
      (a, k) :: pieces m fuel (a + k) (n - k)

/-- Max_Read_Request_Size and Max_Payload_Size in bytes; the device supports payloads of 512 bytes (R135, R146). -/
def State.readMax (s : State) : Nat := 128 * 2 ^ min s.cfg.maxRead 5
def State.writeMax (s : State) : Nat := 128 * 2 ^ min s.cfg.maxPayload 2

/-- The read requests for `n` bytes of host memory at `a`. -/
def State.readPieces (s : State) (a n : Nat) : List (Nat × Nat) := pieces s.readMax (n / s.readMax + 2) a n

def State.askFor (s : State) (l : List (Nat × Nat)) : State := l.foldl (fun s x => s.emit (.read x.1 x.2)) s

/-- The most read requests outstanding (R146). -/
abbrev readLimit : Nat := 256

/-- The read requests outstanding. -/
def State.outstanding (s : State) : Nat := (s.reads.map HostRead.issued).sum

/-- The device may issue a request (R155, R158). -/
def State.mayAsk (s : State) : Bool := !s.linkClosed && !s.held

/-- The requests of transfer `r` that the limit lets go now, once its job has an entry (R173). -/
def State.asks (s : State) (r : HostRead) : List (Nat × Nat) :=
  if s.mayAsk && s.jobs.all fun j => j.pkt != some r.pkt || j.entry
  then (s.readPieces r.addr r.left).take (readLimit - s.outstanding) else []

/-- Transfer `r` with the requests `l` issued. -/
def HostRead.ask (r : HostRead) (l : List (Nat × Nat)) : HostRead :=
  let n := (l.map Prod.snd).sum
  { r with issued := r.issued + l.length, addr := r.addr + n, left := r.left - n }

/-- Requests not yet issued are issued, oldest transfer first. -/
def State.issueReads (s : State) : State :=
  s.reads.foldl (fun s r =>
    let l := s.asks r
    { (s.askFor l) with reads := s.reads.map fun q => if q.pkt == r.pkt then q.ask l else q }) s

/-- Packet `id` starts a transfer of `n` bytes from host address `a`. -/
def State.startHostRead (s : State) (id a n : Nat) : State := ({ s with reads := s.reads ++ [⟨id, 0, a, n⟩] } : State).issueReads

/-- The copy of packet `id` may end: its job has an entry (R282), and the data of its transfer has come back, which takes the link, and
Bus Master Enable where a request was not yet issued (R158). -/
def State.readMayEnd (s : State) (id : Nat) : Bool :=
  (s.jobs.all fun j => j.pkt != some id || j.entry) &&
  s.reads.all fun r => r.pkt != id || (!s.linkDead && !s.held && (r.left == 0 || s.bme))

/-- The transfer of packet `id` ends: its last requests have been issued, and others follow. -/
def State.endRead (s : State) (id : Nat) : State :=
  let s := s.reads.foldl (fun s r => if r.pkt == id then s.askFor (s.readPieces r.addr r.left) else s) s
  ({ s with reads := s.reads.filter fun r => r.pkt != id } : State).issueReads

/-- Packet `p` starts its copy: its job of class `job`, where its opcode has one (R282, R284), and its transfer from the host buffer
`src`, where it reads one. -/
def State.startCopy (s : State) (p : Pkt) (job : Option Nat) (src : Option (Nat × Nat)) : State :=
  let s := match job with
    | none => s
    | some c => s.addJob { emptyJob with
        kind := .copy, cls := c, pkt := some p.id, deadline := if c == 3 then none else some (s.now + 1000000) }
  match src with
  | none => s
  | some (a, n) => s.startHostRead p.id a n

/-- The started packet of opcode `op` whose copy may end. -/
def State.reading (s : State) (op : Nat) : Option Pkt :=
  s.packets.find? fun p => p.started && p.opcode == op && !s.isStaged p.id && s.readMayEnd p.id &&
    ((s.reads.any fun r => r.pkt == p.id) || s.jobs.any fun j => j.pkt == some p.id)

/-- A packet whose effect waits for a copy, where its checks `pre` pass: it starts, its job takes an entry (R282), its transfer is issued
or held (R146, R158), and once the copy may end `body` is the effect. The command is given again for the end of a copy that waited. -/
def startRead (op : Nat) (pre : State → Pkt → List (Bool × Reply)) (job : Pkt → Option Nat) (src : Pkt → Option (Nat × Nat))
    (body : State → Pkt → State) (s : State) : Result :=
  match s.reading op with
  | some p => done ((body (s.endRead p.id) p).drain p.client)
  | none =>
    match s.nextStart with
    | none => .next s
    | some p =>
      if p.opcode != op then .next s
      else
        let s1 := s.markStarted p.id
        if (job p).isNone && (src p).isNone || (firstBad (pre s p)).isSome then done ((body s1 p).drain p.client)
        else
          let s2 := s1.startCopy p (job p) (src p)
          if s2.readMayEnd p.id then done ((body (s2.endRead p.id) p).drain p.client) else done (s2.drain p.client)

end Sys2Proof.Machine
end

