-- ==== Sys2Proof/Machine/Fences.lean ====
section
/-! DEFINITION. Sys2Proof/Machine/Fences.lean: NOP, the fence packets (R174 to R177) and BARRIER (R172). -/

namespace Sys2Proof.Machine

/-- NOP completes at start with OK (R182). -/
def execNop (s : State) : Result := startPkt 0x00 (fun s p => s.complete p.id (Reply.ok)) s

/-- The fence a packet names by handle and key, for client `c` (R174). -/
def State.fenceFor (s : State) (c handle key : Nat) : Option Fence :=
  match Tab.find? handle s.fences with
  | none => none
  | some f => if f.key == key && (f.key != 0 || f.creator == c) then some f else none

/-- Results that report a 64-bit value (R174, R176). -/
def Reply.value (v : Nat) : Reply := Reply.ok (v % 2 ^ 32) (v / 2 ^ 32)

/-- FENCE_CREATE (R174): a free handle `h`, which is the device's choice, takes INITIAL and SHARE_KEY. -/
def State.createFence (s : State) (p : Pkt) (h : Nat) : State :=
  if Config.fences ≤ s.fences.length then s.complete p.id (Reply.noResource 0x0004)
  else
    ({ s with fences := Tab.put h ⟨p.client, p.w 4, p.w64 2⟩ s.fences }).complete p.id (Reply.ok h)

def execFenceCreate (h : Nat) (s : State) : Result :=
  if decide (s.fences.length < Config.fences) && ((Tab.find? h s.fences).isSome || decide (Config.fences ≤ h))
  then .next s
  else startPkt 0x03 (fun s p => s.createFence p h) s

/-- FENCE_DESTROY (R177): only the creator, with the key; every refusal is NOT_PERMITTED detail 0. -/
def State.fenceDestroy (s : State) (p : Pkt) : State :=
  if 2 ^ 17 ≤ p.w 2 then s.complete p.id (Reply.bad 2)
  else
    match s.fenceFor p.client (p.w 2) (p.w 3) with
    | none => s.complete p.id (Reply.notPermitted 0)
    | some f =>
      if f.creator == p.client then (s.destroyFence (p.w 2)).complete p.id (Reply.ok)
      else s.complete p.id (Reply.notPermitted 0)

def execFenceDestroy (s : State) : Result := startPkt 0x04 State.fenceDestroy s

/-- FENCE_SIGNAL (R175): SET or ADD; the update, then the waits it releases, then its own reply. -/
def State.fenceSignal (s : State) (p : Pkt) : State :=
  if (p.w 2 / 2 ^ 17) % 2 ^ 14 != 0 then s.complete p.id (Reply.bad 2)
  else
    let h := p.w 2 % 2 ^ 17
    match s.fenceFor p.client h (p.w 3) with
    | none => s.complete p.id (Reply.notPermitted 0)
    | some f =>
      let add := (p.w 2).testBit 31
      let v := if add then f.value + p.w64 4 else p.w64 4
      if (if add then 2 ^ 64 ≤ v else v < f.value) then s.complete p.id (Reply.bad 4)
      else (({ s with fences := Tab.put h { f with value := v } s.fences }).release h).complete p.id (Reply.value v)

def execFenceSignal (s : State) : Result := startPkt 0x01 State.fenceSignal s

/-- FENCE_WAIT (R176): completes at start when the target is reached or TIMEOUT is 0, and parks otherwise. -/
def State.fenceWait (s : State) (p : Pkt) : State :=
  if 2 ^ 17 ≤ p.w 2 then s.complete p.id (Reply.bad 2)
  else
    match s.fenceFor p.client (p.w 2) (p.w 3) with
    | none => s.complete p.id (Reply.notPermitted 0)
    | some f =>
      if p.w64 4 ≤ f.value then s.complete p.id (Reply.value f.value)
      else if p.w 6 == 0 then
        s.complete p.id ⟨stFenceTimeout, 1, f.value % 2 ^ 32, f.value / 2 ^ 32, 0, 0⟩
      else s

def execFenceWait (s : State) : Result := startPkt 0x02 State.fenceWait s

/-- FENCE_WAIT_TIMEOUT (R176): the tick in which TIMEOUT ticks have passed since packet `id` started has ended without its target.
A signal of that tick completes the wait with OK, so the timeout is found when the next tick has begun; the reply carries the tick
in which the timeout ended, which the CCLK copy of the worked case of 07_clients_and_rings.md shows. -/
def execFenceWaitTimeout (id : Nat) (s : State) : Result :=
  match s.pkt? id with
  | none => .next s
  | some p =>
    let v := ((Tab.find? (p.w 2 % 2 ^ 17) s.fences).map Fence.value).getD 0
    if p.opcode == 0x02 && p.started && decide (p.startTick + p.w 6 < s.now) && decide (v < p.w64 4) && s.coresRun
    then done ((s.completeAt (s.now - 1) id ⟨stFenceTimeout, 1, v % 2 ^ 32, v / 2 ^ 32, 0, 0⟩).drain p.client)
    else .next s

/-- BARRIER starts in ring order and is then in flight (R172). -/
def execBarrier (s : State) : Result := startPkt 0x05 (fun s _ => s) s

/-- The jobs of stream `k` that its frames cause: all but the decodes of its received mirror, mode 1 (R282, R398). -/
def Job.ofFrames (j : Job) (k : Nat) : Bool := j.stream == k && (j.kind != .mirror || j.mode == 0)

/-- All the work the earlier packets of client `c` caused has ended (R172): no frame it fed is on the path and no job of its
streams' frames is in flight. The frames that a takeover rolls forward are the work of client 0's PAIR_ROLE (R412). -/
def State.workEnded (s : State) (c : Nat) : Bool :=
  s.streams.all fun e =>
    let rolled := e.2.frames.any Frame.rolled
    (e.2.owner != c || (e.2.frames.all Frame.rolled && (rolled || s.jobs.all fun j => !j.ofFrames e.1))) &&
    (c != 0 || !rolled)

/-- BARRIER_COMPLETE (R172). -/
def execBarrierComplete (id : Nat) (s : State) : Result :=
  match s.pkt? id with
  | none => .next s
  | some p =>
    if p.opcode == 0x05 && p.started && (s.packets.all fun q => q.client != p.client || decide (p.id ≤ q.id)) &&
      s.workEnded p.client && s.coresRun
    then done ((s.complete id (Reply.ok)).drain p.client)
    else .next s

end Sys2Proof.Machine
end

