-- ==== Sys2Proof/Machine/Clients.lean ====
section
/-! DEFINITION. Sys2Proof/Machine/Clients.lean: doorbells, packet fetch and its checks, failed host reads, and the client
flush (07_clients_and_rings.md, R125, R126, R149). -/

namespace Sys2Proof.Machine

/-- LENGTH of each opcode of R182; `none` for an opcode that is not assigned. -/
def opLength : Nat → Option Nat
  | 0x00 => some 2 | 0x01 => some 6 | 0x02 => some 7 | 0x03 => some 5 | 0x04 => some 4 | 0x05 => some 2
  | 0x10 => some 6 | 0x11 => some 6 | 0x12 => some 3 | 0x13 => some 3 | 0x14 => some 5
  | 0x20 => some 6 | 0x21 => some 3 | 0x22 => some 8 | 0x23 => some 3 | 0x28 => some 6 | 0x29 => some 3
  | 0x30 => some 7 | 0x31 => some 7 | 0x38 => some 3 | 0x40 => some 5 | 0x41 => some 6 | 0x42 => some 7
  | 0x48 => some 3 | 0x50 => some 3 | 0x51 => some 9
  | 0x60 => some 4 | 0x61 => some 6 | 0x62 => some 2 | 0x63 => some 2 | 0x64 => some 2
  | 0x70 => some 5 | 0x71 => some 8 | 0x7F => some 3
  | _ => none

/-- Checks 1 to 4 of R167 on a packet of client `c`: the status and detail of the first that fails. -/
def commonCheck (c : Nat) (p : Pkt) : Option (Nat × Nat) :=
  if (p.w 0) % 2 ^ 8 != 0 || Num.slice (p.w 0) 15 10 != 0 then some (stBadParam, 0)
  else
    match opLength p.opcode with
    | none => some (stBadOpcode, 0)
    | some n =>
      if p.length != n then some (stBadLength, n)
      else if c != 0 && decide (0x38 ≤ p.opcode) && p.opcode != 0x51 then some (stNotPermitted, 0)
      else none

/-! ## Doorbells (R163, R164, R126) -/

/-- The bit of GCTL_LINK_ERR that a failed device read sets, and the DEVICE_FAULT detail it gives (R149). -/
def ReadFail.bit : ReadFail → Nat
  | .timeout => 1 | .poisoned => 2 | .urca => 4

def ReadFail.detail : ReadFail → Nat
  | .timeout => 0x0101 | .poisoned => 0x0102 | .urca => 0x0103

/-- A device request to host memory has failed (R149). -/
def State.readFailed (s : State) (k : ReadFail) : State := s.set .GCTL_LINK_ERR 0 (s.get .GCTL_LINK_ERR ||| ReadFail.bit k)

/-- A discarded doorbell or flush write, counted. -/
def State.reject (s : State) (c : Nat) : State := s.sat 32 .CL_DB_REJECTS c

/-- A command doorbell value acts (R164): in range and not backwards it becomes CMD_TAIL and restarts a stopped fetch
(R149); otherwise it is discarded and counted. -/
def State.cmdDoorbell (s : State) (c v : Nat) : State :=
  let v := Num.wrap32 v
  let hd := s.get .CL_CMD_HEAD c
  if s.get .CL_ENABLE c == 1 && decide (Num.sub32 v hd ≤ 2 ^ s.get .CL_CMD_LOG2 c) &&
    decide (Num.sub32 v (s.get .CL_CMD_TAIL c) ≤ Num.sub32 v hd)
  then
    let s := (s.set .CL_CMD_TAIL c v).set .CL_FETCH_STOPPED c 0
    if c == 0 then { s with covers := s.covers ++ [(v, s.now)] } else s
  else s.reject c

/-- A completion doorbell value acts (R164). -/
def State.cplDoorbell (s : State) (c u : Nat) : State :=
  let u := Num.wrap32 u
  let tl := s.get .CL_CPL_TAIL c
  if s.get .CL_ENABLE c == 1 && decide (Num.sub32 u tl ≤ Num.sub32 (s.get .CL_CPL_HEAD c) tl)
  then s.set .CL_CPL_TAIL c u
  else s.reject c

/-- A flush reply that waits for a slot takes one as soon as one is free (R178). -/
def State.flushReply (s : State) (c : Nat) : State :=
  match Tab.find? c s.flushes with
  | none => s
  | some f =>
    if decide (Num.sub32 (s.get .CL_CPL_RESERVED c) (s.get .CL_CPL_TAIL c) < 2 ^ s.get .CL_CPL_LOG2 c) then
      let s := { s with flushes := Tab.del c s.flushes }
      let s := (s.set .CL_FLUSH_PENDING c 0).inc .CL_CPL_RESERVED c
      let s := s.putReply c f.tag s.now ⟨stFlushed, min f.detail 65535, f.r0, f.r1, f.r2, 0⟩
      let s := s.writeback c
      let s := if s.get .CL_FENCE_EN c == 1 && s.get .CL_CPL_FENCE_VALID c == 1
               then (s.fenceBump (s.get .CL_CPL_FENCE c)).release (s.get .CL_CPL_FENCE c) else s
      if s.get .CL_IRQ_EN c == 1 then s.signal (32 + c) else s
    else s.set .CL_FLUSH_PENDING c 1

/-- Doorbells act only in READY; before READY and while WAKING the latest value of each is latched (R125, R126). -/
def State.latch (s : State) (c : Nat) (cmd cpl : Option Nat) : State :=
  let old := Tab.getD (none, none) c s.dbLatch
  { s with dbLatch := Tab.put c (cmd.orElse fun _ => old.1, cpl.orElse fun _ => old.2) s.dbLatch }

/-- An entry that a crossing into a lost domain accepts and discards (R97). -/
def State.crossed (s : State) : State := s.sat 32 .HLT_XING_DISCARDS

/-- A host write to the doorbell page of client `c` carrying a command value, a completion value or both; the completion
value is applied first (R163). While the client is being reset its page takes no write (R130). -/
def State.doorbell (s : State) (c : Nat) (cmd cpl : Option Nat) : State :=
  if s.clockIsLost 19 then s.crossed
  else if s.dev == 6 || s.dev == 7 then s
  else if s.get .CL_RESETTING c == 1 then s
  else if s.dev != 5 || s.power == 2 || s.power == 3 then s.latch c cmd cpl
  else
    let s := match cpl with
      | none => s
      | some u => (s.cplDoorbell c u).flushReply c
    match cmd with
    | none => s
    | some v => s.cmdDoorbell c v

/-- The host can reach the BARs: the link is up and in no Recovery (R155), HCLK runs, the function is in D0 or its D3hot entry did not deny it. -/
def State.barsReached (s : State) : Bool :=
  s.get .LINK_DL_UP == 1 && s.get .LINK_DOWN == 0 && !s.held && !s.clockIsLost 0 && s.pwrok && s.perstN && s.bayrstN

/-- Requests are answered by the BARs: Memory Space Enable is set (R148, R158) and the function is in D0 (R446). -/
def State.barsOpen (s : State) : Bool := s.mse && !s.d3hot

/-- A write of `width` bytes at offset `off` of the doorbell page of client `c` (R163): offset 0 carries the command value, and
with 64 bits the completion value too, offset 4 the completion value; any other aligned write is discarded and counted; an
unaligned or narrow one sets BAD_ACCESS (R138). -/
def State.pageWrite (s : State) (c off width v : Nat) : State :=
  if (width != 4 && width != 8) || off % width != 0 then s.set .GCTL_LINK_ERR 0 (s.get .GCTL_LINK_ERR ||| 16)
  else if off == 0 && width == 8 then s.doorbell c (some (v % 2 ^ 32)) (some (v / 2 ^ 32 % 2 ^ 32))
  else if off == 0 then s.doorbell c (some v) none
  else if off == 4 && width == 4 then s.doorbell c none (some v)
  else if s.clockIsLost 19 then s.crossed
  else if s.dev == 6 || s.dev == 7 || s.get .CL_RESETTING c == 1 then s
  else s.reject c

/-- A host write to a BAR (R137): none arrives while the link is down or held (R152, R155), and while the BARs are closed it is an
Unsupported Request (R148). -/
def hostAct (s : State) (f : State → State) : Result :=
  doneIf s s.barsReached (if s.barsOpen then f s else s.unsupported)

/-- COMMAND_DOORBELL (R163, R164). -/
def execCommandDoorbell (c off width v : Nat) (s : State) : Result :=
  if Config.clients ≤ c || 4096 ≤ off then .fault .noSuchInstance
  else hostAct s fun s => s.pageWrite c off width v

/-- COMPLETION_DOORBELL (R163, R164): a 32-bit write at offset 0x004 of the page. -/
def execCompletionDoorbell (c v : Nat) (s : State) : Result :=
  if Config.clients ≤ c then .fault .noSuchInstance
  else hostAct s fun s => s.doorbell c none (some v)

/-- Every latched doorbell acts, for each client the completion value before the command value; then DB_LATCHED clears
(R126). -/
def State.applyLatched (s : State) : State :=
  let l := s.dbLatch
  l.foldl (fun s e => s.doorbell e.1 e.2.1 e.2.2) { s with dbLatch := [] }

/-! ## Fetch (R165, R167, R169) -/

/-- The words the covering doorbell reaches: (CMD_TAIL - CMD_HEAD) mod 2^32. -/
def State.coveredWords (s : State) (c : Nat) : Nat := Num.sub32 (s.get .CL_CMD_TAIL c) (s.get .CL_CMD_HEAD c)

def State.slotFree (s : State) (c : Nat) : Bool :=
  decide (Num.sub32 (s.get .CL_CPL_RESERVED c) (s.get .CL_CPL_TAIL c) < 2 ^ s.get .CL_CPL_LOG2 c)

/-- The allowances of R169: a slot, the client's limit, the device-wide limit with 16 kept for client 0. -/
def State.allowance (s : State) (c : Nat) : Bool :=
  s.slotFree c && decide (s.get .CL_INFLIGHT c < s.get .CL_MAX_INFLIGHT c) &&
  decide (s.packets.length < if c == 0 then Config.pktMax else Config.pktMaxOther)

/-- The read requests for `n` words of the command ring of client `c` from CMD_HEAD on (R162): a packet may wrap past its end. -/
def State.ringReads (s : State) (c n : Nat) : List (Nat × Nat) :=
  let size := 2 ^ s.get .CL_CMD_LOG2 c
  let w := s.get .CL_CMD_HEAD c % size
  let a := s.get .CL_CMD_BASE c
  s.readPieces (a + w * 4) (min n (size - w) * 4) ++ s.readPieces a ((n - (size - w)) * 4)

/-- Client `c` may fetch: READY, enabled, not halted, stopped, flushing or resetting; the link reads host memory, and fewer than 256
read requests are outstanding (R146). -/
def State.mayFetch (s : State) (c : Nat) : Bool :=
  s.isReady && s.thermal.isNone && s.coresRun && !s.linkClosed && !s.held && s.power == 0 && s.powerReq.isNone &&
  s.get .CL_ENABLE c == 1 && s.get .CL_HALTED c == 0 && s.get .CL_FETCH_STOPPED c == 0 &&
  s.get .CL_FLUSHING c == 0 && s.get .CL_RESETTING c == 0 && (Tab.find? c s.retry).isNone &&
  decide (s.outstanding < readLimit)

/-- The tick at which the first doorbell of client 0 that covers count `e` took effect (R407). -/
def State.coverTick (s : State) (e : Nat) : Nat :=
  match s.covers.find? fun p => decide (Num.sub32 p.1 e < 2 ^ 31) with
  | some p => p.2
  | none => s.now

/-- The packet at CMD_HEAD of client `c` is not fully covered: nothing more is done with it until a doorbell moves CMD_TAIL (R165). -/
def State.waitDoorbell (s : State) (c : Nat) : State :=
  { s with looked := Tab.put c (s.get .CL_CMD_TAIL c) s.looked }.set .CL_WAIT_DOORBELL c 1

/-- The device acts on the words `ws` it reads at CMD_HEAD of client `c` (R165, R167, R169): it sets WAIT_DOORBELL on a
packet not fully covered, WAIT_SLOT without an allowance, replies BAD_LENGTH and halts on a LENGTH below 2, and else takes
a slot, advances CMD_HEAD and runs the common checks. A header with LENGTH below 2 counts in FETCHED like any other packet, which the
spec leaves open (DESIGN CHOICE, assumption 85). -/
def State.fetch (s : State) (c : Nat) (ws : List Word) : State :=
  let hdr := (ws.getD 0 0#32).toNat
  let len := Num.slice hdr 23 16
  if s.coveredWords c < 2 then s.waitDoorbell c
  else if decide (2 ≤ len) && decide (s.coveredWords c < len) then (s.askFor (s.ringReads c 2)).waitDoorbell c
  else if !s.allowance c then (s.set .CL_WAIT_DOORBELL c 0).set .CL_WAIT_SLOT c 1
  else
    let s := (s.set .CL_WAIT_DOORBELL c 0).set .CL_WAIT_SLOT c 0
    let adv := if len < 2 then 2 else len
    let s := s.askFor (s.ringReads c adv)
    let head := Num.wrap32 (s.get .CL_CMD_HEAD c + adv)
    let s := ((s.set .CL_CMD_HEAD c head).inc .CL_CPL_RESERVED c).inc .CL_FETCHED c
    let s := s.set .CL_INFLIGHT c (s.get .CL_INFLIGHT c + 1)
    let cov := if c == 0 then s.coverTick head else s.now
    let s := if c == 0 then { s with covers := s.covers.filter fun p => decide (0 < Num.sub32 p.1 head) && decide (Num.sub32 p.1 head < 2 ^ 31) } else s
    let p0 : Pkt := ⟨s.nextPkt, c, ws.take adv, false, 0, none, cov, false⟩
    let bad := if len < 2 then some (stBadLength, (opLength p0.opcode).getD 0) else commonCheck c p0
    let s := { s with packets := s.packets ++ [{ p0 with bad := bad }], nextPkt := s.nextPkt + 1 }
    let s := if len < 2 then s.set .CL_HALTED c 1 else s
    s.drain c

/-- The words a fetch needs: the header and tag, and the whole packet where it is covered; none where only the header word is
covered, which is not read (R165). -/
def fetchWordsOk (s : State) (c : Nat) (ws : List Word) : Bool :=
  s.coveredWords c == 1 ||
  (decide (2 ≤ s.coveredWords c) && decide (2 ≤ ws.length) &&
    decide (min (Num.slice (ws.getD 0 0#32).toNat 23 16) (s.coveredWords c) ≤ ws.length))

/-- Client `c` has something to fetch that was not found partly covered under the same CMD_TAIL and that an allowance does not hold
back (R165, R169). -/
def State.fetchable (s : State) (c : Nat) : Bool :=
  s.mayFetch c && s.coveredWords c != 0 && Tab.find? c s.looked != some (s.get .CL_CMD_TAIL c) &&
  (s.get .CL_WAIT_SLOT c == 0 || s.allowance c)

/-- The enabled clients, ascending. -/
def State.enabledClients (s : State) : List Nat :=
  s.fields.filterMap fun e => if e.1 % 512 == Field.CL_ENABLE.ctorIdx && e.2 == 1 then some (e.1 / 512) else none

/-- The client fetched for next (R171): client 0 at every second fetch, otherwise the next in turn after the last. -/
def State.fetchTurn (s : State) : Option Nat :=
  let cs := s.enabledClients.filter s.fetchable
  let others := cs.filter fun c => c != 0
  let next := (others.find? fun c => decide (s.lastFetch.1 < c)).orElse fun _ => others.head?
  if cs.contains 0 && (!s.lastFetch.2 || next.isNone) then some 0 else next

/-- The fetch of client `c` is made: the turn moves on when a packet has moved. -/
def State.turned (s t : State) (c : Nat) : State :=
  if t.nextPkt == s.nextPkt then t
  else if c == 0 then { t with lastFetch := (s.lastFetch.1, true) } else { t with lastFetch := (c, false) }

/-- PACKET_FETCH (R169, R171): `ws` are the words read from the ring of client `c`, whose turn it is. -/
def execPacketFetch (c : Nat) (ws : List Word) (s : State) : Result :=
  if Config.clients ≤ c then .fault .noSuchInstance
  else doneIf s (s.fetchTurn == some c && fetchWordsOk s c ws) (s.turned (s.fetch c ws) c)

/-! ## Failed host reads (R148, R149) -/

/-- A failed ring fetch that was the retry: fetch of the client stops and its vector is signalled. -/
def State.fetchStop (s : State) (c : Nat) : State := (s.set .CL_FETCH_STOPPED c 1).signal (32 + c)

/-- FETCH_RETRY (R149): one tick after a failed ring fetch the read is made again; a second failure is one of the same kinds and sets
its bit too. -/
def execFetchRetry (c : Nat) (read : FetchRead) (s : State) : Result :=
  match Tab.find? c s.retry with
  | none => .next s
  | some t =>
    let s1 := { s with retry := Tab.del c s.retry }
    match read with
    | .failed k => doneIf s (decide (t < s.now)) ((s1.readFailed k).fetchStop c)
    | .words ws => doneIf s (decide (t < s.now) && s1.mayFetch c && fetchWordsOk s1 c ws) (s.turned (s1.fetch c ws) c)

/-! ## Flush (R178) -/

/-- Step 3 of R178: walking the headers from CMD_HEAD, the whole packets, the words they take, and whether the read of a header
failed: until a LENGTH below 2, a packet that runs past `n` words, the end of the ring's words, or the end of the headers read. -/
def flushWalk : List Word → Nat → Nat × Nat × Bool
  | [], n => (0, 0, decide (0 < n))
  | h :: t, n =>
    let len := Num.slice h.toNat 23 16
    if len < 2 || n < len then (0, 0, false)
    else let r := flushWalk t (n - len); (r.1 + 1, r.2.1 + len, r.2.2)

/-- A flush of client `c` with reply tag `tag`; `headers` are the header words read, in ring order, and `fail` how the read of the
next one fails, where the walk comes to it (R149). -/
def State.flush (s : State) (c tag : Nat) (headers : List Word) (fail : ReadFail) : State :=
  let s := ((s.set .CL_HALTED c 0).set .CL_FETCH_STOPPED c 0)
  let s := { s with retry := Tab.del c s.retry }
  let reserved := s.slotFree c
  let s := if reserved then s.inc .CL_CPL_RESERVED c else s
  let ids := (s.packets.filter fun p => p.client == c && !p.started && !s.isStaged p.id).map Pkt.id
  let s := ids.foldl (fun s id => s.complete id { status := stFlushed }) s
  let n := s.coveredWords c
  let r := flushWalk headers n
  let s := if r.2.2 then s.readFailed fail else s
  let part := n - r.2.1
  let s := (s.set .CL_CMD_HEAD c (s.get .CL_CMD_TAIL c)).set .CL_FLUSH_WORDS c part
  let s := (s.set .CL_WAIT_DOORBELL c 0).set .CL_WAIT_SLOT c 0
  let s := if reserved then s.set .CL_CPL_RESERVED c (Num.sub32 (s.get .CL_CPL_RESERVED c) 1) else s
  ({ s with flushes := Tab.put c ⟨tag % 2 ^ 32, part, r.1, ids.length, s.get .CL_CMD_HEAD c⟩ s.flushes }).flushReply c

/-- CLIENT_FLUSH (R178): a host write to CL_FLUSH. Discarded and counted while a flush reply is outstanding, while ENABLE
is 0 or the client is being reset. `headers` end where the read of the next header fails, and `fail` says how. -/
def State.clientFlush (s : State) (c tag : Nat) (headers : List Word) (fail : ReadFail) : State :=
  if s.dev == 6 || s.dev == 7 then s
  else if s.get .CL_FLUSHING c == 1 || s.get .CL_FLUSH_PENDING c == 1 || s.get .CL_ENABLE c == 0 ||
    s.get .CL_RESETTING c == 1
  then s.reject c
  else s.flush c tag headers fail

def execClientFlush (c tag : Nat) (headers : List Word) (fail : ReadFail) (s : State) : Result :=
  if Config.clients ≤ c then .fault .noSuchInstance
  else hostAct s fun s => s.clientFlush c tag headers fail

end Sys2Proof.Machine
end

