-- ==== Sys2Proof/Machine/Events.lean ====
section
/-! DEFINITION. Sys2Proof/Machine/Events.lean: the tick (R100), the order of a tick's events (R110), event groups, the event
ring and its registers (R104 to R109, R114), and the breach log (R49 to R52). -/

namespace Sys2Proof.Machine

/-! ## The tick (R100) -/

/-- A BUSY bit, its counter of ticks, the number of units and their clock by its ID of R95. -/
def busyCounters : List (Field × Field × Nat × Nat) :=
  [(.DEC_BUSY, .DEC_BUSY_TICKS, 8, 18), (.CL_BUSY, .CL_BUSY_TICKS, 8, 17), (.AR_BUSY, .AR_BUSY_TICKS, 2, 17),
   (.FFT_BUSY, .FFT_BUSY_TICKS, 1, 17), (.TRE_BUSY, .TRE_BUSY_TICKS, 1, 17), (.MENC_BUSY, .MENC_BUSY_TICKS, 2, 18)]

/-- Every unit that is busy counts the tick. -/
def State.countBusy (s : State) : State :=
  busyCounters.foldl (fun s b => if s.clockIsLost b.2.2.2 then s else
    (List.range b.2.2.1).foldl (fun s i =>
      if s.get b.1 i == 1 then s.set b.2.1 i ((s.get b.2.1 i + 1) % 2 ^ 64) else s) s) s

/-- Whether the tick that begins is adjusted: slew is requested, the link carries TICK words, and fewer than 25 of the last
1,024 ticks were (R100, R375). -/
def State.slew (s : State) : State :=
  let w := s.slewTicks.filter fun t => decide (s.now < t + 1024)
  let s : State := match s.w.slewReq with
    | some lengthen =>
      if decide (w.length < 25) && s.inData then
        ({ s with slewTicks := w ++ [s.now] }.set .EVU_SLEWING 0 1).set .EVU_SLEW_DIR 0 (Num.b2n lengthen)
      else { s with slewTicks := w }.set .EVU_SLEWING 0 0
    | none => { s with slewTicks := w }.set .EVU_SLEWING 0 0
  s.set .EVU_SLEW_ADJ 0 s.slewTicks.length

/-- The tick ends and the next begins. Completions of a tick without another event form no group (R104). -/
def State.advance (s : State) : State :=
  let s := s.countBusy
  let s := { s with captured := s.captured.filter fun e =>
    e.code != 14 || s.captured.any fun g => g.code != 14 && g.tick == e.tick }
  let s := (s.set .EVU_TICK_NOW 0 ((s.now + 1) % 2 ^ 64)).slew
  match s.undoSince with
  | some t0 => s.set .SCH_UNDO_TICKS 0 (Num.wrap32 (s.now - t0))
  | none => s

/-! ## The order of a tick's events (R110, R112) -/

/-- The place of an event among the consequences of its tick, 0 for one that may stand anywhere: ascending rank, a lost HCLK or
WCLK at the rank it stands in for, and WDG_EXPIRE before the TAMPER that waits for it (R112). -/
def evOrder (code src : Nat) : Nat :=
  match code with
  | 1 => if src == 0 then 7 else if src == 20 then 6 else 1
  | 2 => 2 | 5 => 3 | 3 => 4 | 6 => 5 | 7 => 6 | 8 => 7 | 9 => 8 | 10 => 9 | 11 => 10 | 12 => 11
  | _ => 0

/-- Whether an event of this tick is captured whose consequence comes after that of code `code` from `src`. -/
def State.outOfRank (s : State) (code src : Nat) : Bool :=
  let n := evOrder code src
  n != 0 && s.captured.any fun e => e.tick == s.now &&
    (decide (n < evOrder e.code e.src) || (evOrder e.code e.src == n && decide (src < e.src)))

/-- An event about to be captured joins this tick where its consequence follows those of the events already captured; where it
should have come before one of them, the tick ends first and the next one captures it, within the stamp of R102 and as R117 allows
(assumption 6). A stopped tick takes it as it comes (R99). -/
def State.inRank (s : State) (code src : Nat) : State :=
  if s.outOfRank code src && s.get .EVU_TICK_STOPPED == 0 then s.advance else s

/-- PHASE of ring count `i` with 2^m entries (R81, R108). -/
def ringPhase (m i : Nat) : Nat := 1 - (i / 2 ^ m) % 2

/-- The smallest stamp among the captured events other than COMPLETION. -/
def State.groupStamp (s : State) : Option Nat :=
  (s.captured.filter fun e => e.code != 14).foldl (fun b e =>
    match b with
    | none => some e.tick
    | some t => some (min t e.tick)) none

/-- The DETAIL record of code `c` among the events `es`, without PHASE: count, then the lowest SOURCE's words (R104,
R106). -/
def detailWords (es : List Ev) (c seq tick : Nat) : Option (List Nat) :=
  let o := es.filter fun e => e.code == c
  match o with
  | [] => none
  | e0 :: _ =>
    let e := o.foldl (fun b e => if e.src < b.src then e else b) e0
    some [2 + 256 * c + 65536 * min o.length 65535, seq, tick % 2 ^ 32, tick / 2 ^ 32 % 2 ^ 32,
          e.src % 2 ^ 32, e.d0 % 2 ^ 32, e.d1 % 2 ^ 32, e.d2 % 2 ^ 32]

/-- The HEAD record, without PHASE (R105). -/
def headWords (es : List Ev) (stale : Bool) (ndetail seq tick lost : Nat) : List Nat :=
  let mask := (List.range 13).foldl (fun m c => if es.any (fun e => e.code == c + 1) then m + 2 ^ (c + 1) else m) 0
  [1 + 16 * Num.b2n stale + 256 * ndetail, seq, tick % 2 ^ 32, tick / 2 ^ 32 % 2 ^ 32, mask,
   min (es.countP fun e => e.code == 14) (2 ^ 32 - 1), min lost (2 ^ 32 - 1), 0]

/-- A record with its PHASE bit for ring count `i`. -/
def withPhase (m i : Nat) : List Nat → List Nat
  | [] => []
  | w :: ws => (w + 64 * ringPhase m i) :: ws

/-- The records of a group written from ring count `i` on, each as two posted writes, word 0 last (R108, R82). -/
def State.writeGroup (s : State) (i : Nat) : List (List Nat) → State
  | [] => s
  | r :: rs =>
    let m := s.get .EVU_RING_LOG2
    let a := s.get .EVU_RING_BASE + (i % 2 ^ m) * 32
    let ws := withPhase m i r
    ((s.emit (.event i (a + 4) (ws.drop 1))).emit (.eventHead i a (ws.getD 0 0))).writeGroup (Num.wrap32 (i + 1)) rs

/-- The HEAD of group `seq` in the on-chip history (R109). -/
def State.writeHistory (s : State) (seq : Nat) (h : List Nat) : State :=
  (List.range 8).foldl (fun s w => s.set .EVU_HISTORY (((seq + 15) % 16) * 8 + w) (h.getD w 0)) s

/-- Free slots of the event ring. -/
def State.evuFree (s : State) : Nat :=
  2 ^ s.get .EVU_RING_LOG2 - Num.sub32 (s.get .EVU_RING_HEAD) (s.get .EVU_RING_TAIL)

/-- The link and the clocks that carry a group to host memory; a full crossing carries none (R147, R155). -/
def State.groupPath (s : State) : Bool := !s.linkClosed && !s.held && !s.clockIsLost 0 && !s.clockIsLost 19

/-- A group of stamp `t` may go to the ring: its events were captured in READY or later (R116). -/
def State.sinceReady (s : State) (t : Nat) : Bool := s.readyAt.any fun r => decide (r ≤ t)

/-- The group of stamp `t` is formed, written to the ring where it fits, and its HEAD to the history (R104 to R109). A HEAD that
only the history takes is not the previous HEAD written of LOST: what was discarded goes on adding up until a HEAD reaches the ring
(DESIGN CHOICE, assumption 84). -/
def State.formGroup (s : State) (t : Nat) : State :=
  let es := s.captured.filter fun e => e.tick == t
  let stale := s.staleTick == some t && !s.staleWritten
  let seq := Num.wrap32 (s.get .EVU_SEQ + 1)
  let ds := (List.range 13).filterMap fun c => detailWords es (c + 1) seq t
  let h := headWords es stale ds.length seq t s.lostSinceHead
  let n := ds.length + 1
  let s := { s with captured := s.captured.filter fun e => decide (t < e.tick), staleWritten := s.staleWritten || stale }
  let s := s.set .EVU_SEQ 0 seq
  if s.get .EVU_RING_EN == 1 && s.sinceReady t then
    if s.groupPath && decide (n ≤ s.evuFree) then
      let i := s.get .EVU_RING_HEAD
      let s := s.writeGroup i (h :: ds)
      let s := { (s.set .EVU_RING_HEAD 0 (Num.wrap32 (i + n))).set .EVU_RING_FULL 0 0 with lostSinceHead := 0 }
      let s := s.writeHistory seq (withPhase (s.get .EVU_RING_LOG2) i h)
      if s.get .EVU_IRQ_EN == 1 then s.signal 0 else s
    else
      let s := { (s.sat 32 .EVU_LOST 0 n).set .EVU_RING_FULL 0 1 with lostSinceHead := s.lostSinceHead + n }
      s.writeHistory seq h
  else s.writeHistory seq h

/-- EVENT_GROUP (R104): the tick of the oldest captured group has ended, or TCLK has stopped (R99). -/
def execEventGroup (s : State) : Result :=
  match s.groupStamp with
  | none => .next s
  | some t =>
    doneIf s (decide (t < s.now) || s.get .EVU_TICK_STOPPED == 1) (s.formGroup t)

/-! ## EVU registers (R114) -/

/-- A write to EVU_CTRL: RING_EN rises only over a valid base and size, and then zeroes head and tail. -/
def State.evuCtrl (s : State) (v : Nat) : State :=
  let m := s.get .EVU_RING_LOG2
  let ok := decide (6 ≤ m) && decide (m ≤ 12) && s.get .EVU_RING_BASE % 4096 == 0
  let was := s.get .EVU_RING_EN
  let s := s.set .EVU_IRQ_EN 0 (Num.slice v 1 1)
  if v % 2 == 0 then s.set .EVU_RING_EN 0 0
  else if was == 1 then s
  else if ok then ((s.set .EVU_RING_EN 0 1).set .EVU_RING_HEAD 0 0).set .EVU_RING_TAIL 0 0
  else s

/-- A write to EVU_RING_TAIL, checked as META_TAIL is (R83, R114). -/
def State.evuTail (s : State) (v : Nat) : State :=
  let n := 2 ^ s.get .EVU_RING_LOG2
  if s.get .EVU_RING_EN == 1 && decide (Num.sub32 (s.get .EVU_RING_HEAD) v ≤ n) &&
    decide (Num.sub32 v (s.get .EVU_RING_TAIL) ≤ n)
  then s.set .EVU_RING_TAIL 0 (Num.wrap32 v) else s

/-- Writes to EVU_RING_BASE and EVU_RING_LOG2, accepted only while RING_EN is 0 and with a value in range. -/
def State.evuBase (s : State) (v : Nat) : State :=
  if s.get .EVU_RING_EN == 0 && v % 4096 == 0 then s.set .EVU_RING_BASE 0 (v % 2 ^ 64) else s

def State.evuLog2 (s : State) (v : Nat) : State :=
  if s.get .EVU_RING_EN == 0 && decide (6 ≤ v % 32) && decide (v % 32 ≤ 12) then s.set .EVU_RING_LOG2 0 (v % 32) else s

/-! ## The breach log (R49 to R52) -/

/-- One refused operation: its log entry, SEC_BREACH_TOTAL, SEC_SOOT_IRQ.BREACH and the SOOT_BREACH event. -/
def State.breach (s : State) (exit cause requester count addr hostAddr : Nat) : State :=
  let seq := Num.wrap32 (s.get .SEC_BREACH_SEQ + 1)
  let ws := [exit * 2 ^ 24 + cause * 65536 + requester % 65536, min count (2 ^ 32 - 1), addr % 2 ^ 32, addr / 2 ^ 32 % 2 ^ 32,
             s.now % 2 ^ 32, s.now / 2 ^ 32 % 2 ^ 32, hostAddr % 2 ^ 32, seq]
  let s := s.set .SEC_BREACH_SEQ 0 seq
  let s := (List.range 8).foldl (fun s w => s.set .BREACH_LOG (((seq + 63) % 64) * 8 + w) (ws.getD w 0)) s
  let s := { s with breachQueue := s.breachQueue ++ [ws] }
  let s := s.set .SEC_BREACH_TOTAL 0 ((s.get .SEC_BREACH_TOTAL + count) % 2 ^ 64)
  (s.irq .SEC_SOOT_IRQ .SEC_SOOT_IRQ_EN 0 0 1).capture 4 requester seq (exit + 256 * cause) 0

end Sys2Proof.Machine
end

