-- ==== Sys2Proof/Machine/Mem.lean ====
section
/-! DEFINITION. Sys2Proof/Machine/Mem.lean: device memory. The address layout (R39, R299), the allocator and the stream
marks (R194, R299, R300), the bytes held for the host and the control cores, the soot tags by granule (R42, R44) and the
poison list (R342). -/

namespace Sys2Proof.Machine

/-! ## Layout -/

/-- All DRAM of the unit in bytes: 16 channels of 8 or 16 GiB. -/
def State.dramBytes (s : State) : Nat := if s.fuses.v256 then 2 ^ 38 else 2 ^ 37

/-- The first device address of the tag regions: the top 1/512 of every channel is the top 1/512 of the address range,
because of the 4 KiB interleave (R39). -/
def State.tagBase (s : State) : Nat := s.dramBytes - s.dramBytes / 512

/-- One eighth of DRAM. -/
def State.eighth (s : State) : Nat := s.dramBytes / 8

/-- An epoch buffer, and the MIRROR and EPOCH landing rings of the Wren receiver, in whole stripes (R367, R373): a frame of the landing
rings takes 288 bytes, as on the link. -/
abbrev epochBufBytes : Nat := 67 * 65536
abbrev mirrorRingBytes : Nat := 9 * 65536
abbrev epochRingBytes : Nat := 5 * 65536

/-- The receiver's buffers, at the top of the soot class: epoch buffers 0 and 1, the MIRROR landing ring, the EPOCH landing ring. No rule
places them (DESIGN CHOICE, assumption 81). -/
def State.wrenBase (s : State) : Nat := s.tagBase - (2 * epochBufBytes + mirrorRingBytes + epochRingBytes)
def State.epochBuf (s : State) (i : Nat) : Nat := s.wrenBase + i % 2 * epochBufBytes

/-- Where frame `n` of class `cls` (1 MIRROR, 2 EPOCH) lands. -/
def State.landing (s : State) (cls n : Nat) : Nat :=
  let ring := s.wrenBase + 2 * epochBufBytes
  if cls == 1 then ring + n % 2048 * 288 else ring + mirrorRingBytes + n % 1024 * 288

/-- The end of the clean class (R299). -/
def State.cleanEnd (s : State) : Nat := s.get .CLEAN_EIGHTHS * s.eighth

/-- Choararok's data: the first 256 MiB of the clean class (R299). -/
abbrev coreData : Nat := 2 ^ 28

/-- The channel of a device address (4 KiB interleave). -/
def channelOf (a : Nat) : Nat := a / 4096 % 16

/-! ## The bytes held -/

abbrev Mem := List Host.Cell

/-- The cells of `bs` from address `a` on; a zero byte is not listed, since an unlisted address reads 0. -/
def memCells : Nat → Bytes → Mem
  | _, [] => []
  | a, b :: bs => if b = 0#8 then memCells (a + 1) bs else (a, b) :: memCells (a + 1) bs

/-- Bytes `bs` written from address `a` on. -/
def memWrite (m : Mem) (a : Nat) (bs : Bytes) : Mem :=
  (m.filter fun c => decide (c.1 < a)) ++ memCells a bs ++ m.filter fun c => decide (a + bs.length ≤ c.1)

/-- The byte at address `a`: 0 where nothing is listed (boot ROM step 5 zeroes all DRAM, R120). -/
def memByte (m : Mem) (a : Nat) : Byte := Tab.getD 0#8 a m

/-- The canonical form: addresses strictly rising, no listed zero. -/
def memWf (m : Mem) : Bool := Tab.sorted m && m.all fun c => decide (c.2 ≠ 0#8)

/-- Whether one of the buffers `bs` holds a poisoned granule (R342). -/
def State.poisonIn (s : State) (bs : List (Nat × Nat)) : Bool :=
  bs.any fun b => s.poison.any fun p => decide (b.1 ≤ p.1) && decide (p.1 < b.1 + b.2)

/-- Addresses [lo, hi) zeroed. -/
def memZero (m : Mem) (lo hi : Nat) : Mem := m.filter fun c => decide (c.1 < lo) || decide (hi ≤ c.1)

/-- The byte a reader gets at device address `a`, before any tag check: Choararok's own data is a free value. -/
def State.byteAt (s : State) (a : Nat) : Byte :=
  if a < coreData then Config.coreByte a s.freeCtr else memByte s.dram a

/-! ## Soot tags -/

/-- The tag of the granule at address `a`. Before the tag store and SRAM are ready every granule reads sooted (R60). -/
def State.sooted (s : State) (a : Nat) : Bool :=
  s.get .SOOT_TAGSTORE_READY == 0 || s.get .SOOT_SRAM_READY == 0 || ISet.mem (a / 64) s.soot

/-- The tags of every granule that [lo, hi) touches rise (R42, R44). -/
def State.raise (s : State) (lo hi : Nat) : State :=
  if lo < hi then { s with soot := ISet.add (lo / 64) (Num.cdiv hi 64) s.soot } else s

/-- The soot bit of a buffer: the OR of its granules' tags (R43). -/
def State.bufSoot (s : State) (b : Nat × Nat) : Bool :=
  s.get .SOOT_TAGSTORE_READY == 0 || s.get .SOOT_SRAM_READY == 0 || ISet.meets (b.1 / 64) (Num.cdiv (b.1 + b.2) 64) s.soot

/-- The sooted granules of [lo, hi), as ranges of granule numbers. -/
def State.sootIn (s : State) (lo hi : Nat) : List (Nat × Nat) :=
  (s.soot.map fun p => (max p.1 (lo / 64), min p.2 (hi / 64))).filter fun p => decide (p.1 < p.2)

/-- A buffer's tags rise. -/
def State.raiseBuf (s : State) (b : Nat × Nat) : State := s.raise b.1 (b.1 + b.2)

/-- Granules of [lo, hi) are zeroed and then their tags cleared; poison marks clear too (R42, R56, R342). -/
def State.zeroise (s : State) (lo hi : Nat) : State :=
  { s with
    dram := memZero s.dram lo hi
    soot := ISet.remove (lo / 64) (Num.cdiv hi 64) s.soot
    poison := s.poison.filter fun p => decide (p.1 < lo) || decide (hi ≤ p.1) }

/-! ## Lines of the on-chip stores (R20, R22, R40) -/

/-- 64-byte lines of one slice of the tile store (4 MiB, R270), and of one page slot of the weight staging store (64 KiB). -/
abbrev sliceLines : Nat := 65536
abbrev slotLines : Nat := 1024

/-- Lines [lo, hi) of the tile store are written in full by a job of soot summary `soot`. -/
def State.writeTile (s : State) (lo hi : Nat) (soot : Bool) : State :=
  { s with tileSoot := if soot then ISet.add lo hi s.tileSoot else s.tileSoot, tileBad := ISet.remove lo hi s.tileBad }

/-- Line `n` of the tile store reads sooted. -/
def State.tileLine (s : State) (n : Nat) : Bool :=
  s.get .SOOT_SRAM_READY == 0 || ISet.mem n s.tileSoot || ISet.mem n s.tileBad

/-- Line `n` of the weight staging store reads sooted. -/
def State.stagingLine (s : State) (n : Nat) : Bool :=
  s.get .SOOT_SRAM_READY == 0 || ISet.mem n s.stagingSoot || ISet.mem n s.stagingBad

/-- Any line of slot `n` reads sooted. -/
def State.slotSoot (s : State) (n : Nat) : Bool :=
  ISet.meets (n * slotLines) ((n + 1) * slotLines) s.stagingSoot || ISet.meets (n * slotLines) ((n + 1) * slotLines) s.stagingBad

/-- The weight pager writes `n` bytes of device memory at `a` to page slot `slot`: each line takes its source granule's tag
(R42). -/
def State.stagePage (s : State) (slot a n : Nat) : State :=
  let lo := slot * slotLines
  let up (m : List (Nat × Nat)) (p : Nat × Nat) : List (Nat × Nat) := ISet.add (lo + (p.1 - a / 64)) (lo + (p.2 - a / 64)) m
  { s with stagingSoot := (s.sootIn a (a + n)).foldl up (ISet.remove lo (lo + slotLines) s.stagingSoot)
           stagingBad := ISet.remove lo (lo + slotLines) s.stagingBad }

/-- The tile store and the working storage are cleared (R55, R57). -/
def State.clearTiles (s : State) : State := { s with tileSoot := [], tileBad := [], workSoot := [] }

/-- CH_POISONED of every channel follows the poison list. -/
def State.poisonSync (s : State) : State :=
  (List.range 16).foldl (fun s c => s.set .CH_POISONED c (s.poison.countP fun p => channelOf p.1 == c)) s

/-- Buffer `b` has been written: the poison marks of its whole granules clear (R342). -/
def State.rewritten (s : State) (b : Nat × Nat) : State :=
  let inside (a : Nat) : Bool := decide (b.1 ≤ a) && decide (a + 64 ≤ b.1 + b.2)
  if s.poison.any fun p => inside p.1 then ({ s with poison := s.poison.filter fun p => !inside p.1 } : State).poisonSync else s

/-! ## The allocator -/

/-- Byte ranges no buffer may take: Choararok's data, the receiver's buffers, the live buffers, and what a running SCRUB has not handed
over. -/
def State.occupied (s : State) : List (Nat × Nat) :=
  let o := s.allocs.foldl (fun o a => ISet.add a.addr (a.addr + a.bytes) o) [(0, coreData), (s.wrenBase, s.tagBase)]
  match s.scrub with
  | none => o
  | some (_, _, rs) => rs.foldl (fun o r => ISet.add r.1 r.2 o) o

/-- The lowest start in [lo, hi) with `need` free bytes, given the occupied ranges in rising order. -/
def gapFrom (need : Nat) : Nat → Nat → List (Nat × Nat) → Option Nat
  | lo, hi, [] => if lo + need ≤ hi then some lo else none
  | lo, hi, (a, b) :: t => if lo + need ≤ min a hi then some lo else gapFrom need (max lo b) hi t

/-- The largest free run of [lo, hi). -/
def largestGap : Nat → Nat → List (Nat × Nat) → Nat
  | lo, hi, [] => hi - lo
  | lo, hi, (a, b) :: t => max (min a hi - lo) (largestGap (max lo b) hi t)

/-- The pool registers (R303). -/
def State.poolSync (s : State) : State :=
  let o := s.occupied
  let s := s.set .PGR_CLEAN_FREE 0 (s.cleanEnd - ISet.countIn 0 s.cleanEnd o)
  let s := s.set .PGR_SOOT_FREE 0 (s.tagBase - s.cleanEnd - ISet.countIn s.cleanEnd s.tagBase o)
  s.set .PGR_SOOT_LARGEST 0 (largestGap s.cleanEnd s.tagBase o)

def insertAlloc (a : Alloc) : List Alloc → List Alloc
  | [] => [a]
  | b :: t => if a.addr < b.addr then a :: b :: t else b :: insertAlloc a t

/-- Marks over [lo, hi) removed. -/
def cutMarks (lo hi : Nat) (m : List (Nat × Nat × Nat)) : List (Nat × Nat × Nat) :=
  m.flatMap fun p =>
    (if p.1 < min p.2.1 lo then [(p.1, min p.2.1 lo, p.2.2)] else []) ++
    (if max p.1 hi < p.2.1 then [(max p.1 hi, p.2.1, p.2.2)] else [])

/-- What a buffer of `n` bytes takes: whole stripes, at least one (R299). -/
def bufBytes (n : Nat) : Nat := Num.roundUp (max n 1) 65536

/-- A buffer of whole stripes takes the lowest-addressed free run of its class that fits (R299). -/
def State.alloc (s : State) (sootClass : Bool) (bytes : Nat) (stream : Option Nat) : Option (Nat × State) :=
  let n := bufBytes bytes
  let lo := if sootClass then s.cleanEnd else coreData
  let hi := if sootClass then s.tagBase else s.cleanEnd
  match gapFrom n lo hi s.occupied with
  | none => none
  | some a => some (a, { s with allocs := insertAlloc ⟨a, n, sootClass, stream⟩ s.allocs, marks := cutMarks a (a + n) s.marks })

/-- Several buffers at once, or none of them. -/
def State.allocAll (s : State) (sootClass : Bool) (stream : Option Nat) : List Nat → Option (List (Nat × Nat) × State)
  | [] => some ([], s)
  | n :: ns =>
    match s.alloc sootClass n stream with
    | none => none
    | some (a, s1) =>
      match s1.allocAll sootClass stream ns with
      | none => none
      | some (bs, s2) => some ((a, bufBytes n) :: bs, s2)

/-- The buffer at address `a` returns to its pool with its tags and, in the soot class, its stream's mark (R194, R300). -/
def State.free (s : State) (a : Nat) : State :=
  match s.allocs.find? fun x => x.addr == a with
  | none => s
  | some x =>
    let s := { s with allocs := s.allocs.filter fun y => y.addr != a }
    match x.sootClass, x.stream with
    | true, some k => { s with marks := (x.addr, x.addr + x.bytes, k) :: cutMarks x.addr (x.addr + x.bytes) s.marks }
    | _, _ => s

def State.freeAll (s : State) (bs : List (Nat × Nat)) : State := bs.foldl (fun s b => s.free b.1) s

/-- A refused allocation counts (R303). -/
def State.allocRefused (s : State) : State := s.sat 32 .PGR_ALLOC_REFUSALS

end Sys2Proof.Machine
end

