-- ==== Sys2Proof/Machine/Compute.lean ====
section
/-! DEFINITION. Sys2Proof/Machine/Compute.lean: the model bundle and the ensemble image with their load checks (R292 to
R294, R309 to R313), and the jobs a frame's network makes with their cycle counts (R258 to R272). -/

namespace Sys2Proof.Machine

open Sys2Proof.Num (u8 u16 u32 zeroBytes slice cdiv roundUp toSigned)

/-! ## Cycle counts -/

/-- Cycles of a layer of the array (R262), with the grouped form: G passes over Cin / G and Cout / G. -/
def macCycles (prec kh kw cin cout g npix : Nat) : Nat :=
  let one (cin cout : Nat) : Nat :=
    let q := if prec == 1 then 256 else if prec == 0 then 128 else 64
    let ccols := if prec < 2 then 512 else 256
    let m := min cout ccols
    let cp := if m ≤ 64 then 64 else if m ≤ 128 then 128 else if m ≤ 256 then 256 else 512
    cdiv (kh * kw * cin) q * cdiv cout ccols * cdiv npix (ccols / cp) + 64
  if g ≤ 1 then one cin cout else g * one (cin / g) (cout / g)

/-- Cycles of an FFT job (R267). -/
def fftCycles (kh kw cin cout ow oh : Nat) : Nat :=
  let n := if max kh kw ≤ 15 then 64 else 128
  let blocks := cdiv ow (n + 1 - kw) * cdiv oh (n + 1 - kh)
  blocks * (cdiv (cin * cout) 16 + 2 * (cin + cout)) * (n * n) / 64 + 256

/-- Cycles of a VECTOR job (R272); the detection head is part of the tracker job. -/
def vectorCycles (l : Layer) : Nat :=
  let npix := l.outW * l.outH
  if l.type == 0 || l.type == 1 then cdiv l.cout 64 * npix * cdiv (l.kh * l.kw * (l.cin / max l.g 1)) 4 + 32
  else if l.type == 2 || l.type == 3 then cdiv l.cout 64 * npix * cdiv (l.kh * l.kw) 4 + 32
  else cdiv l.cout 64 * cdiv npix 4 + 32

/-- The size of the input of layer `l` for an output of `t` values along one axis: s t + e (R269). -/
def tileIn (k d st t : Nat) : Nat := st * t + d * (k - 1) + 1 - st

/-- The sizes at every boundary of a fused group, from the group's input to its output, for an output tile tw by th:
the layers are given from the output side. -/
def tileSizes : List Layer → Nat → Nat → List (Nat × Nat)
  | [], tw, th => [(tw, th)]
  | l :: t, tw, th => tileSizes t (tileIn l.kw l.dw l.sw tw) (tileIn l.kh l.dh l.sh th) ++ [(tw, th)]

/-- Bytes per value of a layer's output and of its input. -/
def outValBytes (prec : Nat) : Nat := if prec == 2 then 2 else 1
def inValBytes (prec : Nat) : Nat := if 2 ≤ prec then 2 else 1

/-- The working set of a tile (R270); `three`: the group's input is an HWC tensor of three channels and a pad byte. -/
def tileWorkingSet (three : Bool) (ls : List Layer) (tw th : Nat) : Nat :=
  let sz := tileSizes ls.reverse tw th
  let inC := match ls with
    | [] => 0
    | l :: _ => (if three && l.cin == 3 then 4 else l.cin) * inValBytes l.prec
  let chans := inC :: ls.map fun l => l.cout * outValBytes l.prec
  ((sz.zip chans).map fun p => roundUp (p.1.1 * p.1.2 * p.2) 64).foldl (· + ·) 0

/-- The cycles of one tile: the sum over its layers (R270). -/
def tileCycles (ls : List Layer) (tw th : Nat) : Nat :=
  let sz := (tileSizes ls.reverse tw th).drop 1
  ((ls.zip sz).map fun p => macCycles p.1.prec p.1.kh p.1.kw p.1.cin p.1.cout p.1.g (p.2.1 * p.2.2)).foldl (· + ·) 0

/-! ## The jobs of one crop -/

/-- One network job of one crop: engine kind, cycles, the array mode, the tile number, its (first) layer and the pages it
names, both as places in the model's lists, and the working set of a tile (R270). -/
structure JobSpec where
  kind : JobKind
  cycles : Nat
  mode : Nat
  tile : Nat
  layer : Nat
  pages : List Nat
  work : Nat
  deriving DecidableEq, Repr

/-- The layers of the group that starts the list, and the rest. -/
def takeGroup (g : Nat) : List Layer → List Layer × List Layer
  | [] => ([], [])
  | l :: t => if l.group == g then let r := takeGroup g t; (l :: r.1, r.2) else ([], l :: t)

/-- The layer list cut into runs: a fused group, or one layer on its own. -/
def layerRuns : Nat → List Layer → List (List Layer)
  | 0, _ => []
  | _, [] => []
  | n + 1, l :: t =>
    if l.group == 0 then [l] :: layerRuns n t
    else let r := takeGroup l.group (l :: t); r.1 :: layerRuns n r.2

def layerPages (l : Layer) : List Nat := (List.range l.nPages).map (l.firstPage + ·)

/-- The array mode of a precision (R279): 0 int8, 1 int4-weight, 2 bf16. -/
def precMode (p : Nat) : Nat := if p < 2 then p else 2

/-- The tiles of a group in raster order: each with its size (R268). -/
def tilesOf (ow oh tw th : Nat) : List (Nat × Nat) :=
  (List.range (cdiv oh th)).flatMap fun r => (List.range (cdiv ow tw)).map fun c => (min tw (ow - c * tw), min th (oh - r * th))

/-- The jobs of one run. `three`: its input is an HWC tensor of three channels. `fallback`: the FFT unit is out of service, its layers run under DIRECT (R277). -/
def runJobs (three fallback : Bool) (at0 : Nat) (run : List Layer) : List JobSpec :=
  match run with
  | [] => []
  | l :: t =>
    if l.group != 0 then
      let last := (l :: t).getLastD l
      let pages := ((l :: t).flatMap layerPages).eraseDups
      ((tilesOf last.outW last.outH last.tileW last.tileH).zipIdx).map fun p =>
        ⟨.array, tileCycles (l :: t) p.1.1 p.1.2, precMode l.prec, p.2, at0, pages,
          tileWorkingSet three (l :: t) last.tileW last.tileH⟩
    else if l.type == 7 then []
    else if l.method == 1 && !fallback then
      [⟨.fft, fftCycles l.kh l.kw l.cin l.cout l.outW l.outH, 0, 0, at0, layerPages l, 0⟩]
    else if l.method == 2 then [⟨.cluster, vectorCycles l, 0, 0, at0, layerPages l, 0⟩]
    else [⟨.array, macCycles l.prec l.kh l.kw l.cin l.cout l.g (l.outW * l.outH), precMode l.prec, 0, at0, layerPages l, 0⟩]

def runsJobs (three fallback : Bool) : Nat → List (List Layer) → List (List JobSpec)
  | _, [] => []
  | i, r :: t => runJobs (three && i == 0) fallback i r :: runsJobs three fallback (i + r.length) t

/-- The model's input is HWC with three channels, which its first layer reads with their pad byte (R245, R270). -/
def Obj.hwc3 (o : Obj) : Bool := !o.inFormat.testBit 0 && o.inFormat.testBit 1

/-- The jobs of one crop, run by run. -/
def networkJobs (o : Obj) (fallback : Bool) : List (List JobSpec) :=
  runsJobs o.hwc3 fallback 0 (layerRuns o.layers.length o.layers)

/-- Ticks of a job of `c` cycles at ACLK `a` MHz, the clear of R280 included (R287). -/
def jobTicks (c a : Nat) : Nat := cdiv (c + 128) a

/-- The cycles of every tracker job (R275). -/
def trackerCycles : Nat := 131072

/-! ## The bundle (R292 to R294) -/

/-- Layer record `i` at byte offset `o` of the image. -/
def parseLayer (b : Bytes) : Layer :=
  { type := u8 b 0, method := u8 b 1, group := u8 b 2, prec := u8 b 3, kh := u8 b 4, kw := u8 b 5,
    sh := u8 b 6 % 16, sw := u8 b 6 / 16, dh := u8 b 7 % 16, dw := u8 b 7 / 16,
    pt := u8 b 8, pl := u8 b 9, pb := u8 b 10, pr := u8 b 11, cin := u16 b 12, cout := u16 b 14, g := u16 b 16,
    outW := u16 b 18, outH := u16 b 20, tileW := u16 b 22, tileH := u16 b 24, zp := toSigned 8 (u8 b 26),
    lo := toSigned 8 (u8 b 27), hi := toSigned 8 (u8 b 28), inputB := u16 b 30,
    firstPage := u32 b 32, nPages := u32 b 36, quantOff := u32 b 40, lutOff := u32 b 44 }

def chunks (size : Nat) : Nat → Bytes → List Bytes
  | 0, _ => []
  | n + 1, b => b.take size :: chunks size n (b.drop size)

/-- Intervals inside [0, n), in any order, that do not meet. -/
def disjointIn (n : Nat) : List (Nat × Nat) → Bool
  | [] => true
  | (a, b) :: t => decide (b ≤ n) && !(ISet.meets a b t) && disjointIn n t

/-- R259 for one layer; a fused layer strides at most 2, a pool kernel is at most 8 by 8 (R272), a lookup is int8 to int8. -/
def layerLimits (l : Layer) : Bool :=
  let rng (x lo hi : Nat) : Bool := decide (lo ≤ x) && decide (x ≤ hi)
  let kmax := if l.type == 2 || l.type == 3 then 8 else 31
  let smax := if l.group != 0 then 2 else 4
  rng l.kh 1 kmax && rng l.kw 1 kmax && rng l.sh 1 smax && rng l.sw 1 smax && rng l.dh 1 8 && rng l.dw 1 8 &&
  decide (l.pt ≤ l.dh * (l.kh - 1)) && decide (l.pb ≤ l.dh * (l.kh - 1)) &&
  decide (l.pl ≤ l.dw * (l.kw - 1)) && decide (l.pr ≤ l.dw * (l.kw - 1)) &&
  (l.type != 6 || l.prec == 0) &&
  rng l.cin 1 8192 && rng l.cout 1 8192 && decide (1 ≤ l.g) && l.cin % l.g == 0 && l.cout % l.g == 0

/-- The bytes of a layer's pages. -/
def layerBytes (pages : List (Nat × Nat)) (l : Layer) : Nat := (((pages.drop l.firstPage).take l.nPages).map Prod.snd).sum

/-- The 256 entries of a lookup layer lie in its pages (R259, R293). -/
def lutOk (pages : List (Nat × Nat)) (l : Layer) : Bool := l.type != 6 || decide (l.lutOff + 256 ≤ layerBytes pages l)

/-- The method R258 selects. -/
def methodOf (thr : Nat) (l : Layer) : Nat :=
  if l.group != 0 then 3
  else if 2 ≤ l.type then 2
  else if l.g == 1 || l.type == 1 then
    if l.type == 0 && l.sh == 1 && l.sw == 1 && l.dh == 1 && l.dw == 1 && decide (thr ≤ max l.kh l.kw) && decide (l.prec < 2)
    then 1 else 0
  else if l.cin / l.g < 32 then 2 else 0

/-- A fused group's own checks (R268, R270); `first` is the number of its first layer, counting from 1. -/
def groupOk (three : Bool) (first : Nat) (ls : List Layer) : Bool :=
  match ls.getLast? with
  | none => true
  | some last =>
    if last.group == 0 then true
    else
      decide (2 ≤ ls.length) && decide (ls.length ≤ 8) &&
      decide (8 ≤ last.tileW) && decide (last.tileW ≤ 512) && decide (8 ≤ last.tileH) && decide (last.tileH ≤ 512) &&
      (ls.all fun l => l.inputB == 0 || (l.type == 4 && l.inputB + 1 == first)) &&
      (ls.dropLast.all fun l => l.tileW == 0 && l.tileH == 0) &&
      decide (tileWorkingSet (three && first == 1) ls last.tileW last.tileH ≤ 4 * 2 ^ 20)

def groupsOk (three : Bool) : Nat → List (List Layer) → Bool
  | _, [] => true
  | n, r :: t => groupOk three n r && groupsOk three (n + r.length) t

/-- The byte at offset `o` of the concatenated pages `ps` of the image. -/
def pageByte (img : Bytes) : List (Nat × Nat) → Nat → Nat
  | [], _ => 0
  | (off, n) :: t, o => if o < n then u8 img (off + o) else pageByte img t (o - n)

/-- Byte `o` of a layer's pages in the image, and the requantisation entry of output channel `o` (R293): bias, multiplier, shift. -/
def Layer.byte (img : Bytes) (pages : List (Nat × Nat)) (l : Layer) (o : Nat) : Nat :=
  pageByte img ((pages.drop l.firstPage).take l.nPages) o

def Layer.entry (img : Bytes) (pages : List (Nat × Nat)) (l : Layer) (o : Nat) : Bytes :=
  (List.range 12).map fun i => BitVec.ofNat 8 (l.byte img pages (l.quantOff + 12 * o + i))

def Layer.bias (img : Bytes) (pages : List (Nat × Nat)) (l : Layer) (o : Nat) : Int := toSigned 32 (u32 (l.entry img pages o) 0)
def Layer.mul (img : Bytes) (pages : List (Nat × Nat)) (l : Layer) (o : Nat) : Int := toSigned 32 (u32 (l.entry img pages o) 4)
def Layer.shift (img : Bytes) (pages : List (Nat × Nat)) (l : Layer) (o : Nat) : Nat := u8 (l.entry img pages o) 8

/-- A layer whose outputs R264 requantises: an int8 or int4-weight convolution or fully connected layer, and an element-wise add, which
rescales its inputs (R272). -/
def Layer.requants (l : Layer) : Bool := decide (l.prec < 2) && (decide (l.type < 2) || l.type == 4)

/-- Check 11 for one layer: LO at most HI, and every entry of the requantisation table. -/
def quantOk (img : Bytes) (pages : List (Nat × Nat)) (l : Layer) : Bool :=
  decide (l.lo ≤ l.hi) &&
  (!l.requants || (List.range l.cout).all fun o => l.mul img pages o != 0 && decide (l.shift img pages o ≤ 63))

/-- The three zero bytes of each requantisation entry. -/
def quantZero (img : Bytes) (pages : List (Nat × Nat)) (l : Layer) : Bool :=
  !l.requants || (List.range l.cout).all fun o => zeroBytes (l.entry img pages o) 9 12

/-- Page list entries ascending, without overlap, inside [lo, hi), 64 to 65,536 bytes each (R293). -/
def pagesOk : Nat → Nat → List (Nat × Nat) → Bool
  | _, _, [] => true
  | lo, hi, (o, n) :: t =>
    decide (lo ≤ o) && decide (64 ≤ n) && decide (n ≤ 65536) && decide (o + n ≤ hi) && pagesOk (o + n) hi t

/-- The number of the first failing check of a list of (number, passed); `none` when all pass. -/
def firstFail : List (Nat × Bool) → Option Nat
  | [] => none
  | (n, ok) :: t => if ok then firstFail t else some n

/-- The bundle's tracker parameters (R273). -/
def parseTracker (b : Bytes) : TrackerPar := ⟨u16 b 32, u16 b 34, u16 b 36, u16 b 38, u8 b 40, u8 b 41, u16 b 42⟩

/-- The checks of R294 on the image `b` of `n` bytes; `sigOk` is the verdict of check 03. -/
def bundleCheck (b : Bytes) (n : Nat) (sigOk : Bool) : Option Nat :=
  let nl := u16 b 12
  let np := u16 b 14
  let lo := u32 b 16
  let po := u32 b 20
  let wo := u32 b 24
  let wb := u32 b 28
  let recs := chunks 64 nl (b.drop lo)
  let ls := recs.map parseLayer
  let pes := chunks 16 np (b.drop po)
  let pages := pes.map fun e => (u32 e 0, u32 e 4)
  let runs := layerRuns ls.length ls
  let thr := if u8 b 6 == 0 then 9 else u8 b 6
  let tp := parseTracker b
  firstFail
    [(1, u32 b 0 == 0x0960BD01 && u16 b 4 == 1),
     (2, u32 b 8 == n && lo % 64 == 0 && po % 64 == 0 && wo % 64 == 0 && wb % 64 == 0 &&
        decide (1 ≤ nl) && decide (nl ≤ 1024) && decide (1 ≤ np) && decide (np ≤ 32768) &&
        disjointIn n [(0, 256), (lo, lo + 64 * nl), (po, po + 16 * np), (wo, wo + wb)]),
     (3, sigOk),
     (4, u8 b 6 == 0 || (decide (7 ≤ u8 b 6) && decide (u8 b 6 ≤ 15))),
     (5, pagesOk wo (wo + wb) pages),
     (6, (ls.all fun l => decide (l.type ≤ 7) && decide (l.method ≤ 3) && decide (l.prec ≤ 3)) &&
        ((ls.getLast?).map Layer.type == some 7) && (ls.zipIdx.all fun p => decide (p.1.inputB ≤ p.2))),
     (7, ls.all fun l => layerLimits l && lutOk pages l),
     (8, ls.all fun l => methodOf thr l == l.method),
     (9, groupsOk (u8 b 52 == 2) 1 runs),
     (10, (ls.all fun l => decide (l.firstPage + l.nPages ≤ np)) &&
        (runs.all fun r => decide (((r.flatMap layerPages).eraseDups).length ≤ 512))),
     (11, ls.all (quantOk b pages)),
     (12, decide (1 ≤ tp.nmsIou) && decide (1 ≤ tp.gate) && decide (1 ≤ tp.nConfirm) && decide (tp.nConfirm ≤ 15) &&
        decide (1 ≤ tp.maxTracks) && decide (tp.maxTracks ≤ 256) && decide (16 ≤ u16 b 48) && decide (u16 b 48 ≤ 2048) &&
        decide (16 ≤ u16 b 50) && decide (u16 b 50 ≤ 2048) && decide (u8 b 52 < 4)),
     (13, u8 b 7 == 0 && zeroBytes b 44 48 && zeroBytes b 53 160 && (pes.all fun e => zeroBytes e 8 16) &&
        (recs.all fun r => u8 r 29 == 0 && zeroBytes r 48 64) && ls.all (quantZero b pages))]

def emptyTracker : TrackerPar := ⟨0, 0, 0, 0, 0, 0, 0⟩

/-- The object a bundle that passed its checks becomes. -/
def parseModel (b : Bytes) (handle loader base : Nat) : Obj :=
  { handle := handle, loader := loader, isTree := false, failed := false, doomed := false, base := base, bytes := b.length,
    fftThreshold := if u8 b 6 == 0 then 9 else u8 b 6,
    layers := (chunks 64 (u16 b 12) (b.drop (u32 b 16))).map parseLayer,
    pages := (chunks 16 (u16 b 14) (b.drop (u32 b 20))).map fun e => (u32 e 0, u32 e 4),
    tracker := parseTracker b, inW := u16 b 48, inH := u16 b 50, inFormat := u8 b 52,
    depth := 0, nOut := 0, nTrees := 0, nFeat := 0, sampleMode := 0, evalPeriod := 1, image := [] }

/-! ## The ensemble (R309 to R313) -/

/-- TB of R312. -/
def treeBytes (d : Nat) : Nat := max 64 (2 ^ (d + 3))

/-- S_FIX of R306. -/
def sFix (mode : Nat) : Nat := if mode == 0 then 1 else if mode == 1 then 64 else 65

def ascending : List Int → Bool
  | a :: b :: t => decide (a < b) && ascending (b :: t)
  | _ => true

/-- Output map as R311 states: TREE_END strictly rising up to N_TREES, MUL not 0, SHIFT at most 63. -/
def outMapOk (nTrees : Nat) : Nat → List Bytes → Bool
  | prev, [] => prev == nTrees
  | prev, e :: t => decide (prev < u32 e 0) && u32 e 8 != 0 && decide (u8 e 12 ≤ 63) && outMapOk nTrees (u32 e 0) t

def rawIdOk (r : Nat) : Bool := decide (r ≤ 12) || (decide (16 ≤ r) && decide (r ≤ 31))

/-- Check 05 for one feature entry. -/
def featOk (nBint : Nat) (e : Bytes) : Bool :=
  decide (u8 e 0 ≤ 3) && rawIdOk (u8 e 1 % 32) && rawIdOk (u8 e 2 % 32) && decide (u8 e 6 ≤ 63) &&
  (u8 e 0 != 3 || decide (u8 e 7 < nBint))

/-- Check 09 for one feature entry: reserved bits, and the fields R310 wants 0. -/
def featZero (e : Bytes) : Bool :=
  let op := u8 e 0
  let two := op == 1 || op == 2
  u8 e 1 / 32 == 0 && u8 e 2 / 32 == 0 && (two || u8 e 2 == 0) && !(u8 e 3).testBit 3 && !(u8 e 3).testBit 7 &&
  (two || u8 e 3 / 16 == 0) && (op != 3 || (u16 e 4 == 0 && u8 e 6 == 0 && u32 e 8 == 0)) && (op == 3 || u8 e 7 == 0) &&
  zeroBytes e 12 16

/-- The checks of R313 on the image `b` of `n` bytes. -/
def ensembleCheck (b : Bytes) (n : Nat) (sigOk : Bool) : Option Nat :=
  let d := u8 b 6
  let nOut := u8 b 7
  let nT := u32 b 12
  let nF := u16 b 16
  let nB := u8 b 18
  let fo := u32 b 24
  let bo := u32 b 28
  let oo := u32 b 32
  let tOff := u32 b 36
  let tb := treeBytes d
  let feats := chunks 16 nF (b.drop fo)
  let bins := chunks 128 nB (b.drop bo)
  let outs := chunks 16 nOut (b.drop oo)
  let trees := chunks tb nT (b.drop tOff)
  firstFail
    [(1, u32 b 0 == 0x09607E01 && u16 b 4 == 1),
     (2, u32 b 8 == n && n == tOff + nT * tb && fo % 64 == 0 && bo % 64 == 0 && oo % 64 == 0 && tOff % 65536 == 0 &&
        (nB != 0 || bo == 0) &&
        disjointIn n ([(0, 256), (fo, fo + 16 * nF), (oo, oo + 16 * nOut), (tOff, tOff + nT * tb)] ++
          (if nB == 0 then [] else [(bo, bo + 128 * nB)]))),
     (3, sigOk),
     (4, decide (1 ≤ d) && decide (d ≤ 12) && decide (1 ≤ nOut) && decide (nOut ≤ 16) && decide (1 ≤ nT) &&
        decide (nT ≤ 65536) && decide (1 ≤ nF) && decide (nF ≤ 1024) && decide (nB ≤ 16) && decide (u8 b 19 ≤ 2) &&
        decide (1 ≤ u8 b 20)),
     (5, feats.all (featOk nB)),
     (6, bins.all fun t => ascending ((List.range 32).map fun i => toSigned 32 (u32 t (4 * i)))),
     (7, outMapOk nT 0 outs),
     (8, trees.all fun t => (List.range (2 ^ d - 1)).all fun i => decide (u32 t (4 * i) % 1024 < nF)),
     (9, zeroBytes b 21 24 && zeroBytes b 40 160 && feats.all featZero && (outs.all fun e => zeroBytes e 13 16) &&
        trees.all fun t => ((List.range (2 ^ d - 1)).all fun i => slice (u32 t (4 * i)) 15 10 == 0) &&
          zeroBytes t (4 * (2 ^ (d + 1) - 1)) tb)]

def parseEnsemble (b : Bytes) (handle loader base : Nat) : Obj :=
  { handle := handle, loader := loader, isTree := true, failed := false, doomed := false, base := base, bytes := b.length,
    fftThreshold := 0, layers := [], pages := [], tracker := emptyTracker, inW := 0, inH := 0, inFormat := 0,
    depth := u8 b 6, nOut := u8 b 7, nTrees := u32 b 12, nFeat := u16 b 16, sampleMode := u8 b 19, evalPeriod := u8 b 20,
    image := b }

/-- Cycles of a tree job on a frame with no evaluation, and on an evaluation frame with `lanes` lanes (R318). -/
def rawCycles (o : Obj) : Nat := 16 * sFix o.sampleMode + 32

def evalCycles (o : Obj) (lanes : Nat) : Nat :=
  let sf := sFix o.sampleMode
  let trav := cdiv o.nTrees lanes * max sf 8 * o.depth
  let stream := cdiv (o.nTrees * treeBytes o.depth) 64
  16 * sf + cdiv (o.nFeat * sf) 16 + max trav stream + 96

end Sys2Proof.Machine
end

