-- ==== Sys2Proof/Machine/Admission.lean ====
section
/-! DEFINITION. Sys2Proof/Machine/Admission.lean: the demand of a stream and of its pipeline and mirror (R287, R288, R319,
R392), the budgets (R286), the admission check (R289, R291) and the registers that show them (R302). -/

namespace Sys2Proof.Machine

open Sys2Proof.Num (cdiv roundUp)

/-- Demand, or sums of it: DRAM in MB/s on every channel, engines in ticks per second, links in MB/s. -/
structure Demand where
  dram : Nat := 0
  arr : Nat := 0
  fft : Nat := 0
  cl : Nat := 0
  dec : Nat := 0
  pp : Nat := 0
  tree : Nat := 0
  menc : Nat := 0
  wren : Nat := 0
  host : Nat := 0
  deriving DecidableEq, Repr

def Demand.add (a b : Demand) : Demand :=
  ⟨a.dram + b.dram, a.arr + b.arr, a.fft + b.fft, a.cl + b.cl, a.dec + b.dec, a.pp + b.pp, a.tree + b.tree,
   a.menc + b.menc, a.wren + b.wren, a.host + b.host⟩

/-- The raise from `a` to `b`, component by component. -/
def Demand.raise (a b : Demand) : Demand :=
  ⟨b.dram - a.dram, b.arr - a.arr, b.fft - a.fft, b.cl - a.cl, b.dec - a.dec, b.pp - a.pp, b.tree - a.tree,
   b.menc - a.menc, b.wren - a.wren, b.host - a.host⟩

/-! ## Demand of one frame (R287) -/

/-- An access that starts on a stripe boundary, and one that does not. -/
def charge (bytes : Nat) : Nat := cdiv bytes 65536 * 4096
def chargeAt (addr bytes : Nat) : Nat := charge bytes + if addr % 65536 == 0 then 0 else 4096

def withTags (n : Nat) : Nat := n + cdiv n 512

/-- Whole MB/s of `bytes` per frame at FPS_X100 `fps`. -/
def mbps (bytes fps : Nat) : Nat := cdiv (bytes * fps) (100 * 10 ^ 6)

/-- Ticks per second of `ticks` per frame. -/
def tps (ticks fps : Nat) : Nat := cdiv (ticks * fps) 100

/-- CW and CH of R220: MAX rounded up to 16, or to 8 for H.265. -/
def codedBound (codec w h : Nat) : Nat :=
  let u := if codec == 1 then 8 else 16
  roundUp w u * roundUp h u

/-- FB_BYTES of R222. -/
def frameBufBytes (codec w h : Nat) : Nat :=
  let sh := roundUp w 64 * roundUp h 64
  let samples := if codec == 0 then sh * 3 / 2 else if codec == 1 then sh * 3 / 2 * 5 / 4 else sh * 3
  let motion := if codec == 2 then 0 else sh / 16
  roundUp (samples + motion) 4096

/-- DPB and the buffer count of R222. -/
def dpb (codec w h : Nat) : Nat :=
  if codec == 0 then min 16 (184320 / (cdiv w 16 * cdiv h 16))
  else if codec == 1 then
    let m := w * h
    if 4 * m ≤ 8912896 then 16 else if 2 * m ≤ 8912896 then 12 else if 4 * m ≤ 3 * 8912896 then 8 else 6
  else 0

def frameBufCount (codec w h : Nat) : Nat := if codec == 2 then 3 else dpb codec w h + 3

/-- The demand STREAM_OPEN adds (R288). -/
def openDemand (codec maxW maxH fps auMaxKib fbBytes : Nat) : Demand :=
  let au := charge (auMaxKib * 1024)
  let fb := charge fbBytes * (if codec == 2 then 1 else 3)
  { dram := mbps (withTags (2 * au + fb)) fps
    dec := tps (cdiv (codedBound codec maxW maxH) 500) fps
    host := mbps (auMaxKib * 1024) fps }

def Stream.openDemand (st : Stream) : Demand :=
  Sys2Proof.Machine.openDemand st.codec st.maxW st.maxH st.fps st.auMaxKib st.fbBytes

/-! ## Pre-processing geometry, as admission and the pre-processor both use it (R239, R248) -/

/-- The start and end of a crop along one axis. -/
def cropStart (x0 o : Nat) : Nat := x0 * o / 4096 / 2 * 2
def cropEnd (x0 w o : Nat) : Nat := min (o / 2 * 2) (2 * cdiv ((x0 + w) * o) 8192)

/-- Crop geometry at output size ow by oh: X0p, Y0p, Wp, Hp. -/
def Crop.geom (c : Crop) (ow oh : Nat) : Nat × Nat × Nat × Nat :=
  let x := cropStart c.x0 ow
  let y := cropStart c.y0 oh
  (x, y, cropEnd c.x0 c.w ow - x, cropEnd c.y0 c.h oh - y)

/-- R240. -/
def Crop.valid (c : Crop) (ow oh : Nat) : Bool :=
  let g := c.geom ow oh
  let wp := g.2.2.1
  let hp := g.2.2.2
  decide (16 ≤ wp) && decide (16 ≤ hp) && decide (c.outW ≤ 4 * wp) && decide (wp ≤ 8 * c.outW) &&
  decide (c.outH ≤ 4 * hp) && decide (hp ≤ 8 * c.outH)

/-- R248. -/
def Crop.cost (c : Crop) (ow oh : Nat) : Nat :=
  let g := c.geom ow oh
  8 + max (cdiv (g.2.2.1 * g.2.2.2) 4800) (cdiv (c.outW * c.outH) 3200)

/-- The rotated size (R243). -/
def Crop.rotW (c : Crop) : Nat := if c.rot % 2 == 1 then c.outH else c.outW
def Crop.rotH (c : Crop) : Nat := if c.rot % 2 == 1 then c.outW else c.outH

/-- Bytes of one tensor (R245): layout 0 HWC, 1 CHW. -/
def Crop.tensorBytes (c : Crop) (chw three : Bool) : Nat :=
  let b := if chw then roundUp c.rotW 64 * c.rotH * (if three then 3 else 1)
           else roundUp (c.rotW * (if three then 4 else 1)) 64 * c.rotH
  roundUp b 4096

def batchBytes (cs : List Crop) (chw three : Bool) : Nat := (cs.map fun c => c.tensorBytes chw three).foldl (· + ·) 0

def preprocTicks (cs : List Crop) (w h : Nat) : Nat := (cs.map fun c => c.cost w h).foldl (· + ·) 0

/-! ## Demand of a pipeline and of a mirror -/

/-- Ticks of the jobs of kind `k` over all crops of a frame. -/
def netTicks (jobs : List (List JobSpec)) (ncrop a : Nat) (k : JobKind) : Nat :=
  ncrop * (jobs.flatMap fun r => (r.filter fun j => j.kind == k).map fun j => jobTicks j.cycles a).foldl (· + ·) 0

/-- The DRAM accesses of a frame's network: the pages each job names, and each layer output written and read once. -/
def netDram (o : Obj) (jobs : List (List JobSpec)) (ncrop : Nat) : Nat :=
  let pg := (jobs.flatMap fun r => r.flatMap fun j => j.pages.map fun p =>
    match o.pages[p]? with
    | none => 0
    | some e => chargeAt (o.base + e.1) e.2).foldl (· + ·) 0
  let act := ((layerRuns o.layers.length o.layers).map fun r =>
    match r.getLast? with
    | none => 0
    | some l => 2 * charge (Config.activationBytes l.outW l.outH l.cout l.prec)).foldl (· + ·) 0
  ncrop * (pg + act)

/-- The tree engine's demand and its DRAM bytes, weighted over EVAL_PERIOD frames (R319): (ticks per second, bytes of
EVAL_PERIOD frames). -/
def treeDemand (e : Obj) (lanes a fps : Nat) : Nat × Nat :=
  let et := jobTicks (evalCycles e lanes) a
  let rt := jobTicks (rawCycles e) a
  let write := charge 65536
  let evalX := 8 * charge 65536 + charge (e.nTrees * treeBytes e.depth)
  (cdiv (fps * (et + (e.evalPeriod - 1) * rt)) (100 * e.evalPeriod), e.evalPeriod * write + evalX)

/-- The live object of a handle (R295). -/
def State.obj? (s : State) (h : Nat) : Option Obj :=
  match Tab.find? (h % 65536) s.objects with
  | none => none
  | some o => if o.handle == h then some o else none

def State.lanes (s : State) : Nat := s.get .TRE_LANES
def State.aclk (s : State) : Nat := s.get .SCH_ACLK_MHZ

/-- The demand PIPELINE_BIND adds (R288) at frame rate `fps`. -/
def State.pipeDemand (s : State) (st : Stream) (p : Pipe) (fps : Nat) : Demand :=
  match s.obj? p.model with
  | none => {}
  | some o =>
    let a := s.aclk
    let jobs := networkJobs o (s.get .FFT_FALLBACK == 1)
    let n := p.crops.length
    let bb := batchBytes p.crops (o.inFormat.testBit 0) (o.inFormat.testBit 1)
    let base := 2 * charge bb + netDram o jobs n + 3 * charge Config.trackStateBytes
    let tr := match s.obj? p.ensemble with
      | none => (0, 0, 1)
      | some e => let d := treeDemand e s.lanes a fps; (d.1, d.2, e.evalPeriod)
    { dram := cdiv (withTags (base * tr.2.2 + tr.2.1) * fps) (100 * 10 ^ 6 * tr.2.2)
      arr := tps (netTicks jobs n a .array) fps
      fft := tps (netTicks jobs n a .fft) fps
      cl := tps (netTicks jobs n a .cluster + jobTicks trackerCycles a) fps
      pp := tps (preprocTicks p.crops st.maxW st.maxH) fps
      tree := tr.1 }

/-- RESULT0 of R290: the ticks of one frame's network jobs. -/
def State.frameTicks (s : State) (p : Pipe) : Nat :=
  match s.obj? p.model with
  | none => 0
  | some o =>
    let jobs := networkJobs o (s.get .FFT_FALLBACK == 1)
    let n := p.crops.length
    netTicks jobs n s.aclk .array + netTicks jobs n s.aclk .fft + netTicks jobs n s.aclk .cluster

/-- S of R383 at a rate. -/
def mauBytes (kbps fps : Nat) : Nat := 256 * (kbps * 12500 / (256 * max fps 1))

/-- The crop that carries MIRROR. -/
def Pipe.mirrorCrop (p : Pipe) : Option Crop := p.crops.find? fun c => c.mirror

/-- WRN_EPOCH_MS, which is never 0. -/
def State.epochMs (s : State) : Nat := max (s.get .WRN_EPOCH_MS) 1

/-- The demand MIRROR_CONFIG adds (R392) at frame rate `fps`; `floor`: degradation step 1 is in force (R393). -/
def State.mirrorDemand (s : State) (p : Pipe) (m : MirrorCfg) (fps : Nat) (floor : Bool) : Demand :=
  match p.mirrorCrop with
  | none => {}
  | some c =>
    let px := c.rotW * c.rotH
    let sz := mauBytes (if floor then m.floorKbps else m.fillKbps) fps
    let pic := charge (px * 3 / 2)
    { dram := mbps (withTags (5 * pic + 4 * charge sz)) fps
      menc := tps (cdiv px 300) fps
      wren := cdiv (sz * fps * s.epochMs + 133 * 288 * 1000 * 100) (100 * s.epochMs * 10 ^ 6) }

/-- Whether degradation step `n` is in force. -/
def State.stepIn (s : State) (n : Nat) : Bool := s.degrade.any fun d => d.1 == n

/-- The settings a stream is admitted under: those of a reconfiguration that waits for its frame boundary, where there is
one (R33, R288). -/
def Stream.settled (st : Stream) : Stream :=
  match st.reconf with
  | none => st
  | some (w, h, fps, prio, c2) => { st with maxW := w, maxH := h, fps := fps, priority := prio, c2 := c2, reconf := none }

/-- The demand of one stream as it stands: none while paused or shed, its analysis at half the rate while decimated. -/
def State.streamDemand (s : State) (st : Stream) : Demand :=
  if st.shed.isSome then {}
  else
    let st := st.settled
    let fps := if st.decimated then cdiv st.fps 2 else st.fps
    let d := st.openDemand
    match st.pipe with
    | none => d
    | some p =>
      let d := d.add (s.pipeDemand st p fps)
      match st.mirror with
      | none => d
      | some m => d.add (s.mirrorDemand p m.cfg fps (s.stepIn 1))

/-- The admitted sums. -/
def State.sums (s : State) : Demand := s.streams.foldl (fun d e => d.add (s.streamDemand e.2)) {}

/-! ## Budgets (R286) -/

def State.countOn (s : State) (f : Field) (n : Nat) : Nat := ((List.range n).filter fun i => s.get f i == 1).length

def State.channelBudget (s : State) (c : Nat) : Nat :=
  let f := match s.get .CH_REFRESH_MULT c with
    | 0 => 1000 | 1 => 960 | _ => 920
  s.get .CH_RATE c * 4 * 750 * f / 1000 / 1000

/-- MB/s per lane by the speed code of GCTL_LINK_STATUS. -/
def laneRate : Nat → Nat
  | 1 => 250 | 2 => 500 | 3 => 985 | 4 => 1969 | 5 => 3938 | _ => 0

/-- Units in service of engine detail k, 1 to 8. -/
def State.unitsOf (s : State) : Nat → Nat
  | 1 => s.countOn .AR_IN_SERVICE 2
  | 2 => s.countOn .CL_IN_SERVICE 8
  | 3 => s.countOn .DEC_IN_SERVICE 8 + s.keptDecs.length
  | 4 => 1
  | 5 => s.get .TRE_IN_SERVICE
  | 6 => s.countOn .MENC_IN_SERVICE 2
  | 7 => s.w.trained
  | 8 => s.get .LINK_WIDTH
  | _ => 0

/-- The budget of engine detail k. -/
def State.engineBudget (s : State) (k : Nat) : Nat :=
  let cap := match k with
    | 7 => 2750 * s.w.trained
    | 8 => s.get .LINK_WIDTH * laneRate (s.get .LINK_SPEED)
    | _ => s.unitsOf k * 1000000
  cap * Config.util (k - 1) / 1000

def State.fftBudget (s : State) : Nat :=
  if s.get .FFT_IN_SERVICE == 0 || s.get .FFT_FALLBACK == 1 then 0 else 900000

/-- The component of a demand that a budget code covers (codes of SCH_CAUSE, R509). -/
def Demand.on (d : Demand) : Nat → Nat
  | 0x11 => d.arr | 0x19 => d.fft | 0x12 => d.cl | 0x13 => d.dec | 0x14 => d.pp | 0x15 => d.tree | 0x16 => d.menc
  | 0x17 => d.wren | 0x18 => d.host | _ => d.dram

def State.budget (s : State) (code : Nat) : Nat :=
  if code < 16 then s.channelBudget code else if code == 0x19 then s.fftBudget else s.engineBudget (code - 16)

/-- The order of R289. -/
def budgetCodes : List Nat :=
  [0, 1, 2, 3, 4, 5, 6, 7, 8, 9, 10, 11, 12, 13, 14, 15, 0x11, 0x19, 0x12, 0x13, 0x14, 0x15, 0x16, 0x17, 0x18]

/-- The first budget that a sum exceeds. -/
def State.exceeded (s : State) (sums : Demand) : Option Nat := budgetCodes.find? fun c => decide (s.budget c < sums.on c)

/-- A refused admission: its status, detail and results, counted (R289, R302). -/
def State.refuse (s : State) (code demand headroom : Nat) : State × Reply :=
  if code < 16 then (s.sat 32 .SCH_REFUSE_MEM, ⟨stAdmitMemory, code, demand, headroom, 0, 0⟩)
  else (s.sat 32 .SCH_REFUSE_COMP, ⟨stAdmitCompute, if code == 0x19 then 1 else code - 16, demand, headroom, 0, 0⟩)

/-- Admission of a raise `d` over the sums in force (R289, R291): the refusal, or nothing. A raise of nothing is always
accepted; while a degradation step is in force any other is refused on the budget that caused it. -/
def State.admitCheck (s : State) (d : Demand) : Option Nat :=
  if d == {} then none
  else if s.get .SCH_STEP != 0 then some (s.get .SCH_CAUSE)
  else s.exceeded (s.sums.add d)

/-- The reply to a refusal on budget `code`. -/
def State.admitRefusal (s : State) (code : Nat) (d : Demand) : State × Reply :=
  s.refuse code (d.on code) (if s.get .SCH_STEP != 0 then 0 else s.budget code - s.sums.on code)

/-! ## The mirror of a stream (R381 to R393) -/

/-- CTB rows of a mirror picture, and RB of R388. -/
def mirrorRows (th : Nat) : Nat := cdiv th 32
def rowBytes (sz th : Nat) : Nat := 16 * ((sz - 160) / (16 * max (mirrorRows th) 1))

/-- The checks of words 3 to 6 of MIRROR_CONFIG at frame rate `fps` for a crop whose rotated height is `th` (R391), each with
the index of its word. -/
def mirrorChecks (m : MirrorCfg) (fps th : Nat) : List (Nat × Bool) :=
  let sz := mauBytes m.fillKbps fps
  let fl := mauBytes m.floorKbps fps
  [(3, decide (4096 ≤ m.bufBytes) && decide (m.bufBytes ≤ 2 ^ 24) && m.bufBytes % 4096 == 0 && decide (sz ≤ m.bufBytes)),
   (4, decide (256 ≤ m.fillKbps) && decide (m.fillKbps ≤ 100000) && decide (512 ≤ sz) && decide (sz ≤ 2 ^ 20) &&
      decide (128 ≤ rowBytes sz th)),
   (5, decide (10 ≤ m.delayMs) && decide (m.delayMs ≤ 10000) &&
      decide (m.bufBytes ≤ (sz - 16) * (m.delayMs * fps / 100000))),
   (6, decide (256 ≤ m.floorKbps) && decide (m.floorKbps ≤ m.fillKbps) && decide (512 ≤ fl) && decide (128 ≤ rowBytes fl th))]

/-- S in force (R383, R393). -/
def State.mauSize (s : State) (st : Stream) (m : MirrorCfg) : Nat :=
  mauBytes (if s.stepIn 1 then m.floorKbps else m.fillKbps) st.fps

/-- This unit sends MIRROR and EPOCH frames (R369, R381): ACTIVE, the partner reports STANDBY, the session is KEYED. -/
def State.sendsMirror (s : State) : Bool := s.role == 0 && s.get .WRN_PARTNER_ROLE == 1 && s.session == 2

/-- This unit receives the mirror (R404). -/
def State.receivesMirror (s : State) : Bool := s.role == 1 && s.session == 2

/-- The stream is mirrored: MIRROR_CONFIG ENABLE at 1 and a pipeline bound (R369). -/
def Stream.mirrored (st : Stream) : Bool := st.mirror.isSome && st.pipe.isSome && st.closingPkt.isNone

/-- The mirror registers of a stream (R401). -/
def State.mirrorSync (s : State) (k : Nat) (st : Stream) : State :=
  match st.mirror with
  | none =>
    let s := ((s.set .MS_ENABLE k 0).set .MS_MODE k 0).set .MS_ROWRATE_NOW k 0
    let s := ((s.set .MS_FLOORED k 0).set .MS_DISCONTINUOUS k 0).set .MS_SIDE k 0
    (s.set .MS_MAU_BYTES k 0).set .MS_BUF_BYTES k 0
  | some m =>
    let side := if s.sendsMirror then 1 else if s.receivesMirror then 2 else 0
    let s := ((s.set .MS_ENABLE k 1).set .MS_MODE k (Num.b2n m.cfg.rowrate)).set .MS_ROWRATE_NOW k
      (Num.b2n (m.cfg.rowrate || m.resync))
    let s := (s.set .MS_FLOORED k (Num.b2n (s.stepIn 1))).set .MS_DISCONTINUOUS k
      (Num.b2n (side == 2 && (m.needIdr || m.ringGap)))
    ((s.set .MS_SIDE k side).set .MS_MAU_BYTES k (s.mauSize st m.cfg)).set .MS_BUF_BYTES k m.cfg.bufBytes

/-! ## The registers (R302) -/

/-- CAPACITY (R495): the lowest of the engine and channel budgets as permille of what it is with every unit in service, 8,533
MT/s, refresh x1 and 1,250 MHz. -/
def State.capacity (s : State) : Nat :=
  let clocked (units all : Nat) : Nat := 1000 * units * s.aclk / (all * 1250)
  let engines := [clocked (s.unitsOf 1) 2, if s.fftBudget == 0 then 0 else clocked 1 1, clocked (s.unitsOf 2) 8,
    1000 * s.unitsOf 3 / 8, clocked (s.unitsOf 5) 1, 1000 * s.unitsOf 6 / 2]
  ((List.range 16).map fun c => s.channelBudget c * 1000 / 25599).foldl min (engines.foldl min 1000)

/-- HLT CAPACITY and its interrupt follow the budgets (R497). -/
def State.capacitySync (s : State) : State :=
  let c := s.capacity
  if !s.isReady || c == s.get .HLT_CAPACITY then s else (s.set .HLT_CAPACITY 0 c).irq .HLT_IRQ .HLT_IRQ_EN 0 2 4

/-- SCH budgets, sums and per-stream demand as they stand; EVAL_CYCLES at the current lanes (R323); the mirror registers. -/
def State.schSync (s : State) : State :=
  let t := s.sums
  let s := (List.range 16).foldl (fun s c =>
    (s.set .SCH_MEM_BUDGET c (min (s.channelBudget c) 65535)).set .SCH_MEM_ADMITTED c (min t.dram 65535)) s
  let s := (List.range 8).foldl (fun s k =>
    ((s.set .SCH_CAP k (s.engineBudget (k + 1))).set .SCH_ADMITTED k (t.on (0x11 + k))).set .SCH_UNITS k (s.unitsOf (k + 1))) s
  let s := ((s.set .SCH_FFT_CAP 0 s.fftBudget).set .SCH_FFT_ADMITTED 0 t.fft).capacitySync
  s.streams.foldl (fun s e =>
    let s := s.set .SS_DRAM_MBPS e.1 (min (s.streamDemand e.2).dram 65535)
    let s := (s.set .SS_DECIMATED e.1 (Num.b2n e.2.decimated)).set .SS_SHED e.1 (Num.b2n e.2.shed.isSome)
    let s := s.mirrorSync e.1 e.2
    match e.2.pipe with
    | none => s.set .SS_NET_TICKS e.1 0
    | some p =>
      let s := s.set .SS_NET_TICKS e.1 (s.frameTicks p)
      match s.obj? p.ensemble with
      | none => s
      | some o => s.set .TS_EVAL_CYCLES e.1 (evalCycles o s.lanes)) s

end Sys2Proof.Machine
end

