-- ==== Sys2Proof/Machine/Datapath.lean ====
section
/-! DEFINITION. Sys2Proof/Machine/Datapath.lean: the arithmetic that the frame path does on samples, weights and accumulators:
scaling, rotation, colour conversion and quantisation (R241 to R245), the accumulators and requantisation of the layers (R261 to
R266, R272), and the input regions of fused tiles (R269). The samples of a decoded picture are free values, since no rule gives the
bits of a decode (assumption 13): these functions say what the stages compute from them. -/

namespace Sys2Proof.Machine

open Sys2Proof.Num (u8 u16 clampInt rheDiv toSigned ofSigned cdiv roundUp)

/-- A plane of samples, or of anything laid out by column and row. -/
abbrev Plane := Int → Int → Int

/-! ## Delivery and concealment (R215, R227) -/

/-- A sample of a picture of bit depth `d` as it is delivered: `v >> 2` at 10 bits, `v << (10 - d) >> 2` below, so an 8-bit sample
unchanged (R215). -/
def deliveredSample (d v : Nat) : Nat := v * 2 ^ (10 - d) / 4

/-- What an engine puts where it could not decode a block: the co-located samples of the picture decoded as a reference last, or the
mid value where none is held (R227). -/
def concealment (ref : Option Plane) (d : Nat) : Plane :=
  match ref with
  | some p => p
  | none => fun _ _ => if d == 10 then 512 else 128

/-! ## Scaling (R241, R242) -/

/-- Floor of `n / 2^k`: an arithmetic shift. -/
def asr (n : Int) (k : Nat) : Int := n / (2 ^ k : Nat)

/-- The coefficient of phase `ph` and tap `k` of the table at byte `o` of the descriptor (R236). -/
def coefAt (desc : Bytes) (o : Nat) (ph k : Nat) : Int := toSigned 16 (u16 desc (o + 16 * ph + 2 * k))

/-- The byte offset of a crop's horizontal table, and of its vertical one (R236). -/
def horTable (crops set : Nat) : Nat := 64 + 32 * crops + 1024 * set
def verTable (crops set : Nat) : Nat := horTable crops set + 512

/-- One axis of the scaler (R241): output `i` of `out` from the samples `x` at positions `lo` up to `lo + len`. -/
def scaleAxis (coef : Nat → Nat → Int) (lo len out : Nat) (x : Int → Int) (i : Nat) : Int :=
  let step := len * 65536 / out
  let pos : Int := (lo * 65536 + i * step + step / 2 : Nat) - 32768
  let n := asr pos 16
  let ph := (asr pos 11 % 32).toNat
  ((List.range 8).map fun (k : Nat) => coef ph k * x (clampInt (n - 3 + (k : Int)) lo (lo + len - 1))).sum

/-- A sample after the horizontal pass, and after the vertical one (R242). -/
def horSample (h : Int) : Int := clampInt (asr (h + 8) 4) (-2048) 4095
def verSample (v : Int) : Int := clampInt (asr (v + 512) 10) 0 255

/-- The scaled picture of a crop: X0p, Y0p, Wp and Hp as R239 gives them, divided by the plane's subsampling for chroma. -/
def scaled (ch cv : Nat → Nat → Int) (x0 y0 wp hp outW outH : Nat) (p : Plane) (x y : Nat) : Int :=
  verSample (scaleAxis cv y0 hp outH (fun row => horSample (scaleAxis ch x0 wp outW (fun col => p col row) x)) y)

/-- The horizontal and vertical subsampling factors of a CHROMA code, and of plane `k` (R223, R241). -/
def planeDiv (chroma k : Nat) : Nat × Nat :=
  if k == 0 then (1, 1) else if chroma == 1 then (2, 2) else if chroma == 2 then (2, 1) else (1, 1)

/-- Plane `k` of the scaled picture P of a crop, for an output size ow by oh (R239, R241): 128 for the chroma of a monochrome picture. -/
def cropPlane (desc : Bytes) (crops : Nat) (c : Crop) (ow oh chroma : Nat) (pic : Nat → Plane) (k : Nat) : Plane :=
  if k != 0 && chroma == 0 then fun _ _ => 128
  else
    let d := planeDiv chroma k
    let g := c.geom ow oh
    fun x y => scaled (coefAt desc (horTable crops c.coef)) (coefAt desc (verTable crops c.coef)) (g.1 / d.1) (g.2.1 / d.2)
      (g.2.2.1 / d.1) (g.2.2.2 / d.2) c.outW c.outH (pic k) x.toNat y.toNat

/-! ## Rotation, colour and normalisation (R243 to R245) -/

/-- The rotated picture T of a scaled picture P of `w` by `h` (R243). -/
def rotated (rot : Nat) (w h : Int) (p : Plane) (x y : Int) : Int :=
  match rot with
  | 0 => p x y
  | 1 => p y (h - 1 - x)
  | 2 => p (w - 1 - x) (h - 1 - y)
  | _ => p (w - 1 - y) x

/-- The colour matrix, the input offsets and the normalisation of channel `j`, from the descriptor (R236). -/
def colourM (desc : Bytes) (i : Nat) : Int := toSigned 16 (u16 desc (8 + 2 * i))
def offOf (desc : Bytes) (k : Nat) : Int := u8 desc (26 + k)
def meanOf (desc : Bytes) (j : Nat) : Int := u16 desc (32 + 6 * j)
def mulOf (desc : Bytes) (j : Nat) : Int := toSigned 16 (u16 desc (34 + 6 * j))
def shiftOf (desc : Bytes) (j : Nat) : Nat := u8 desc (36 + 6 * j)
def zpOf (desc : Bytes) (j : Nat) : Int := toSigned 8 (u8 desc (37 + 6 * j))

/-- Channel `j` of a pixel with the samples `x` (Y, Cb, Cr), and its quantised value (R244). -/
def colour (desc : Bytes) (x : Nat → Int) (j : Nat) : Int :=
  clampInt (asr (((List.range 3).map fun k => colourM desc (3 * j + k) * (x k - offOf desc k)).sum + 2048) 12) 0 255

def quantised (desc : Bytes) (c : Int) (j : Nat) : Int :=
  clampInt (rheDiv ((c * 256 - meanOf desc j) * mulOf desc j) (2 ^ shiftOf desc j) + zpOf desc j) (-128) 127

/-- The offset of a value in its tensor (R245): channel `j` of pixel (x, y). -/
def tensorOffset (c : Crop) (chw three : Bool) (x y j : Nat) : Nat :=
  if chw then j * (roundUp c.rotW 64 * c.rotH) + y * roundUp c.rotW 64 + x
  else
    let cp := if three then 4 else 1
    y * roundUp (c.rotW * cp) 64 + x * cp + j

/-- T of a crop, plane by plane (R243). -/
def cropT (desc : Bytes) (crops : Nat) (c : Crop) (ow oh chroma : Nat) (pic : Nat → Plane) (k : Nat) : Plane :=
  rotated c.rot c.outW c.outH (cropPlane desc crops c ow oh chroma pic k)

/-- Value of channel `j` of pixel (x, y) of a crop's tensor (R244). -/
def tensorAt (desc : Bytes) (t : Nat → Plane) (x y j : Nat) : Int :=
  quantised desc (colour desc (fun k => t k x y) j) j

/-- The byte at offset `o` of a crop's tensor (R245): a value, the pad byte of HWC, or nothing where the layout puts none. With one
channel only channel 0 is computed (R244). -/
def tensorByte (c : Crop) (chw three : Bool) (v : Nat → Nat → Nat → Int) (o : Nat) : Option Byte :=
  let b (x y j : Nat) : Option Byte := if x < c.rotW ∧ y < c.rotH then some (BitVec.ofInt 8 (v x y j)) else none
  if chw then
    let row := roundUp c.rotW 64
    let j := o / (row * c.rotH)
    if j < (if three then 3 else 1) then b (o % row) (o % (row * c.rotH) / row) j else none
  else
    let cp := if three then 4 else 1
    let row := roundUp (c.rotW * cp) 64
    let x := o % row / cp
    if o % cp == 3 then (if x < c.rotW ∧ o / row < c.rotH then some 0#8 else none) else b x (o / row) (o % cp)

/-- The tensors of the crops `cs` in their order, from the planes T of each, over the bytes `old` the buffer held (R245). -/
def batchTensors (desc : Bytes) (chw three : Bool) (planes : Crop → Nat → Plane) : List Crop → Bytes → Bytes
  | [], _ => []
  | c :: t, old =>
    let z := c.tensorBytes chw three
    ((List.range z).map fun o => (tensorByte c chw three (tensorAt desc (planes c)) o).getD (old.getD o 0#8)) ++
      batchTensors desc chw three planes t (old.drop z)

/-- The mirror picture of a crop (R246): luma of T row by row, and the chroma samples of its 4:2:0 form. -/
def mirrorPicture (c : Crop) (luma : Plane) (key : Nat) : Bytes :=
  let n := c.rotW * c.rotH
  ((List.range n).map fun i => BitVec.ofInt 8 (luma (i % c.rotW : Nat) (i / c.rotW : Nat))) ++
    (List.range (n / 2)).map (Config.mirrorChroma key)

/-! ## Accumulators (R261, R263) -/

/-- An int32 accumulator: the sum wraps modulo 2^32. -/
def acc32 (ps : List Int) : Int := toSigned 32 (ofSigned 32 ps.sum)

/-- Weight `i` of packed int4 weights: low nibble first (R261). -/
def nibble (b : Bytes) (i : Nat) : Int := toSigned 4 (u8 b (i / 2) / 16 ^ (i % 2))

/-- The input position of tap `k` for output `o` along one axis. -/
def tapAt (st d p o k : Nat) : Int := (o * st + d * k : Nat) - (p : Int)

/-- The products of one output of a convolution, in the order of R262: `x` by column, row and channel, padding value `pad`
outside a map of `iw` by `ih`, weights `w` by reduction index; `cin` is the group's. -/
def products (l : Layer) (cin : Nat) (x : Int → Int → Nat → Int) (iw ih : Int) (pad : Int) (w : Nat → Int) (ox oy : Nat) :
    List Int :=
  (List.range (l.kh * l.kw * cin)).map fun r =>
    let c := r % max cin 1
    let kx := r / max cin 1 % max l.kw 1
    let ky := r / max cin 1 / max l.kw 1
    let ix := tapAt l.sw l.dw l.pl ox kx
    let iy := tapAt l.sh l.dh l.pt oy ky
    w r * (if 0 ≤ ix ∧ ix < iw ∧ 0 ≤ iy ∧ iy < ih then x ix iy c else pad)

/-- The reduction width Q of a precision (R262). -/
def reduction (prec : Nat) : Nat := if prec == 1 then 256 else if prec == 0 then 128 else 64

/-- The reduction index cut into consecutive blocks of `q`, positions past its end filled with the product 0 of a weight 0 (R262). -/
def blocks {α : Type} (zero : α) (q : Nat) : Nat → List α → List (List α)
  | 0, _ => []
  | n + 1, ps => if ps.isEmpty then [] else (ps.take q ++ List.replicate (q - ps.length) zero) :: blocks zero q n (ps.drop q)

/-- The int32 accumulator of one output of an int8 or int4-weight layer, block by block (R262, R263). -/
def macAcc (prec : Nat) (ps : List Int) : Int :=
  (blocks 0 (reduction prec) ps.length ps).foldl (fun a b => acc32 (a :: b)) 0

/-- The zero point of the input of layer `i`: that of the layer before it, and the channel's of the descriptor for the first (R244,
R269). -/
def inputZp (desc : Bytes) (ls : List Layer) (i c : Nat) : Int :=
  match i with
  | 0 => zpOf desc c
  | n + 1 => ((ls[n]?).map Layer.zp).getD 0

/-! ## fp32 (R263): round to nearest, ties to even; subnormals are flushed to zero, a NaN is 0x7FC0_0000 -/

/-- An fp32 number read from its bits: NaN, an infinity, or a magnitude times a power of two with a sign. -/
inductive Fp where
  | nan
  | inf (neg : Bool)
  | fin (neg : Bool) (mag : Nat) (exp : Int)
  deriving DecidableEq, Repr

def fpRead (w : Nat) : Fp :=
  let neg := w.testBit 31
  let e := Num.slice w 30 23
  let m := w % 2 ^ 23
  if e == 255 then (if m == 0 then .inf neg else .nan)
  else if e == 0 then .fin neg 0 0
  else .fin neg (2 ^ 23 + m) (e - 150)

def fpSign (neg : Bool) : Nat := if neg then 2 ^ 31 else 0

/-- `mag` times 2^`exp` as fp32. A zero that comes of flushing keeps its sign (assumption 13). -/
def fpRound (neg : Bool) (mag : Nat) (exp : Int) : Nat :=
  if mag == 0 then fpSign neg
  else
    let l := mag.log2
    let q := if l ≤ 23 then mag * 2 ^ (23 - l) else (rheDiv mag (2 ^ (l - 23))).toNat
    let up := q == 2 ^ 24
    let x : Int := exp + l + (if up then 1 else 0)
    if 127 < x then fpSign neg + 255 * 2 ^ 23
    else if x < -126 then fpSign neg
    else fpSign neg + (x + 127).toNat * 2 ^ 23 + (if up then 0 else q - 2 ^ 23)

def fpNan : Nat := 0x7FC00000

def fpAdd (a b : Nat) : Nat :=
  match fpRead a, fpRead b with
  | .nan, _ => fpNan
  | _, .nan => fpNan
  | .inf x, .inf y => if x == y then fpSign x + 255 * 2 ^ 23 else fpNan
  | .inf x, _ => fpSign x + 255 * 2 ^ 23
  | _, .inf y => fpSign y + 255 * 2 ^ 23
  | .fin x m e, .fin y n g =>
    let lo := min e g
    let u : Int := (m * 2 ^ (e - lo).toNat : Nat) * (if x then -1 else 1)
    let v : Int := (n * 2 ^ (g - lo).toNat : Nat) * (if y then -1 else 1)
    if u + v == 0 then fpSign (x && y) else fpRound (decide (u + v < 0)) (u + v).natAbs lo

def fpMul (a b : Nat) : Nat :=
  match fpRead a, fpRead b with
  | .nan, _ => fpNan
  | _, .nan => fpNan
  | .inf x, .inf y => fpSign (x != y) + 255 * 2 ^ 23
  | .inf x, .fin y n _ => if n == 0 then fpNan else fpSign (x != y) + 255 * 2 ^ 23
  | .fin x m _, .inf y => if m == 0 then fpNan else fpSign (x != y) + 255 * 2 ^ 23
  | .fin x m e, .fin y n g => fpRound (x != y) (m * n) (e + g)

/-- A bf16 value as fp32, and an fp32 value as bf16. -/
def bfWiden (w : Nat) : Nat := w % 2 ^ 16 * 2 ^ 16

def bfNarrow (w : Nat) : Nat :=
  match fpRead w with
  | .nan => fpNan / 2 ^ 16
  | .inf x => (fpSign x + 255 * 2 ^ 23) / 2 ^ 16
  | .fin x 0 _ => fpSign x / 2 ^ 16
  | .fin _ _ _ => (rheDiv w (2 ^ 16)).toNat

/-- The tree of a block: adjacent indices are paired until one sum is left. -/
def fpPairs : List Nat → List Nat
  | a :: b :: t => fpAdd a b :: fpPairs t
  | l => l

def fpTree : Nat → List Nat → Nat
  | 0, l => l.headD 0
  | n + 1, l => fpTree n (fpPairs l)

/-- A bf16 accumulator: the sums of the blocks of 64 products, added in ascending order. -/
def accBf16 (blocks : List (List Nat)) : Nat := blocks.foldl (fun a b => fpAdd a (fpTree 6 b)) 0

/-- The fp32 accumulator of one output of a bf16 layer, from its activations and weights by reduction index (R262, R263). -/
def macAccBf16 (x w : List Nat) : Nat :=
  let ps := (x.zip w).map fun p => fpMul (bfWiden p.1) (bfWiden p.2)
  accBf16 (blocks 0 64 ps.length ps)

/-! ## Outputs (R264, R272) -/

/-- The output of an int8 or int4-weight layer. -/
def requant (acc bias mul : Int) (shift : Nat) (zp lo hi : Int) : Int :=
  clampInt (rheDiv ((acc + bias) * mul) (2 ^ shift) + zp) lo hi

/-- Round half to even of an fp32 value; a NaN or an infinity has no integer the rules state. -/
def fpInt (w : Nat) : Option Int :=
  match fpRead w with
  | .fin x m e =>
    let n : Int := if x then -(m : Int) else m
    some (if 0 ≤ e then n * (2 ^ e.toNat : Nat) else rheDiv n (2 ^ (-e).toNat))
  | _ => none

/-- The int8 output of a bf16 layer with scale `sc`. -/
def requantBf16 (x sc : Nat) (zp lo hi : Int) : Option Int := (fpInt (fpMul x sc)).map fun q => clampInt (q + zp) lo hi

/-- The output of channel `o` of an int8 or int4-weight layer, from its own table (R264). -/
def Layer.output (img : Bytes) (pages : List (Nat × Nat)) (l : Layer) (o : Nat) (acc : Int) : Int :=
  requant acc (l.bias img pages o) (l.mul img pages o) (l.shift img pages o) l.zp l.lo l.hi

/-- The output of channel `o` of a bf16 layer: bf16, or int8 with its scale (R264). -/
def Layer.outputBf16 (img : Bytes) (pages : List (Nat × Nat)) (l : Layer) (o acc : Nat) : Option Int :=
  if l.prec == 2 then some (bfNarrow acc : Nat)
  else requantBf16 acc (Config.bf16Scale (l.entry img pages o)) l.zp l.lo l.hi

/-- An element-wise add: each input is rescaled under R264 before the sum is taken (R272), and the sum kept to the layer's bounds
(assumption 97). -/
def Layer.addOut (img : Bytes) (pages : List (Nat × Nat)) (l : Layer) (o : Nat) (a b : Int) : Int :=
  clampInt (l.output img pages o a + l.output img pages o b) l.lo l.hi

/-- A lookup activation: entry of the table by the input's byte (R259, R293; assumption 97). -/
def Layer.lookup (img : Bytes) (pages : List (Nat × Nat)) (l : Layer) (x : Int) : Int :=
  toSigned 8 (l.byte img pages (l.lutOff + ofSigned 8 x))

/-- A max pool over the values of its window. -/
def maxPool : List Int → Int
  | [] => 0
  | x :: t => t.foldl max x

/-- An average pool over `n` values. -/
def avgPool (xs : List Int) : Int := rheDiv xs.sum xs.length

/-! ## The FFT path (R265, R266) -/

/-- The transform size. -/
def fftSize (kh kw : Nat) : Nat := if max kh kw ≤ 15 then 64 else 128

/-- The largest difference of an FFT accumulator from the exact one, for weights whose magnitudes sum to `w`; the order of the
transform's own additions no rule states. -/
def fftBound (w n : Nat) : Nat := 1 + 128 * w * n.log2 / 2 ^ 19

/-- The largest difference of the outputs after requantisation. -/
def fftOutBound (w n : Nat) (mul : Int) (shift : Nat) : Nat := cdiv (fftBound w n * mul.natAbs) (2 ^ shift) + 1

/-- Block `i` of the overlap-save along one axis: the first output it yields, and how many (R265). -/
def fftBlock (n k i : Nat) : Nat × Nat := (i * (n + 1 - k), n + 1 - k)

/-- An accumulator of the FFT path: the exact sum `e` of a channel whose weights' magnitudes sum to `w`, taken in ascending input
channels with int4 weights widened, plus an error that is the same on every unit and within the bound of R266 where the exact sum is an
int32; rounded, and its low 32 bits kept (R260, R265). -/
def fftAcc (e : Int) (w n : Nat) : Int :=
  let b := fftBound w n
  let d := Config.fftError e b
  let inRange : Bool := decide (-(2 ^ 31) ≤ e) && decide (e < 2 ^ 31)
  toSigned 32 (ofSigned 32 (if inRange then clampInt (e + clampInt d (-b) b) (-(2 ^ 31)) (2 ^ 31 - 1) else e + d))

/-! ## Fused tiles (R269): one axis of a group, from the input side, as (kernel, dilation, stride, leading padding) -/

abbrev Axis := List (Nat × Nat × Nat × Nat)

def axisX (ls : List Layer) : Axis := ls.map fun l => (l.kw, l.dw, l.sw, l.pl)
def axisY (ls : List Layer) : Axis := ls.map fun l => (l.kh, l.dh, l.sh, l.pt)

/-- S, the halo H and the leading offset P. -/
def tileStride : Axis → Nat
  | [] => 1
  | (_, _, s, _) :: t => s * tileStride t

def tileHalo : Axis → Int
  | [] => 0
  | (k, d, s, _) :: t => (d * (k - 1) + 1 : Nat) - (s : Int) + s * tileHalo t

def tileLead : Axis → Nat
  | [] => 0
  | (_, _, s, p) :: t => p + s * tileLead t

/-- The origin of tile `i`'s input region, for output tiles of `t`. -/
def tileOrigin (a : Axis) (i t : Nat) : Int := (tileStride a * (i * t) : Nat) - (tileLead a : Int)

end Sys2Proof.Machine
end

