-- ==== Sys2Proof/Machine/Frames.lean ====
section
/-! DEFINITION. Sys2Proof/Machine/Frames.lean: what the stages of the frame path share: job entries and job order (R282 to
R285), page residency (R296, R297), a stream's frames and buffers (R217, R222, R249), drops, and the registers that show
them (R231, R255). -/

namespace Sys2Proof.Machine

/-! ## Jobs (R282, R283) -/

/-- The DRAM a named buffer is, once it is known, as address and bytes. -/
def JobBuf.range : JobBuf → Option (Nat × Nat)
  | .dram a n => some (a, n)
  | _ => none

/-- A DRAM buffer as a job names it. -/
def asBufs (bs : List (Nat × Nat)) : List JobBuf := bs.map fun b => .dram b.1 b.2

/-- The DRAM a job reads, and the DRAM it writes. -/
def Job.reads (j : Job) : List (Nat × Nat) := j.ins.filterMap JobBuf.range
def Job.writes (j : Job) : List (Nat × Nat) := j.outs.filterMap JobBuf.range

/-- The tags of every buffer a job writes rise (R43). -/
def State.raiseOuts (s : State) (j : Job) : State := j.writes.foldl State.raiseBuf s

/-- A job on a stream's mirror: an encode, a decode, a transmit (R282). -/
def Job.ofMirror (j : Job) : Bool := j.kind == .mirror || j.kind == .wren

def State.job? (s : State) (id : Nat) : Option Job := s.jobs.find? fun j => j.id == id

def State.modJob (s : State) (id : Nat) (f : Job → Job) : State :=
  { s with jobs := s.jobs.map fun j => if j.id == id then f j else j }

def State.dropJobs (s : State) (p : Job → Bool) : State := { s with jobs := s.jobs.filter fun j => !p j }

/-- The order of R283 and R284: class, deadline (none sorts last), stream, creation. -/
def jobBefore (a b : Job) : Bool :=
  if a.cls != b.cls then decide (a.cls < b.cls)
  else
    match a.deadline, b.deadline with
    | some x, some y =>
      if x != y then decide (x < y)
      else if a.stream != b.stream then decide (a.stream < b.stream) else decide (a.id < b.id)
    | some _, none => true
    | none, some _ => false
    | none, none => if a.stream != b.stream then decide (a.stream < b.stream) else decide (a.id < b.id)

def firstJob : List Job → Option Job
  | [] => none
  | j :: t =>
    match firstJob t with
    | none => some j
    | some k => if jobBefore k j then some k else some j

/-! ## Pages (R296, R297) -/

/-- The key of page `p` of the object with handle `h`. -/
def pageKey (h p : Nat) : Nat := (h % 65536) * 65536 + p

def State.resident (s : State) (j : Job) : Bool := j.pages.all fun p => (Tab.find? (pageKey j.obj p) s.pageSlots).isSome

/-- Every job that writes a buffer `j` reads has completed. -/
def State.inputsDone (s : State) (j : Job) : Bool := j.deps.all fun d => s.jobs.all fun k => k.id != d

/-- The frame of a job holds one of its stream's two activation sets, or the job needs none (R300). -/
def State.actHeld (s : State) (j : Job) : Bool :=
  match s.stream? j.stream with
  | none => true
  | some st => st.frames.all fun f => f.fseq != j.fseq || f.actSet.isSome || j.ofMirror

/-- A ready or a running job: its inputs are complete and its pages resident. -/
def State.jobReady (s : State) (j : Job) : Bool := j.entry && j.unit.isNone && s.inputsDone j && s.actHeld j && s.resident j

/-- A page that a ready or running job names. -/
def State.pinned (s : State) (key : Nat) : Bool :=
  s.jobs.any fun j => (j.unit.isSome || s.jobReady j) && j.pages.any fun p => pageKey j.obj p == key

def State.pinSync (s : State) : State := s.set .PGR_PINNED 0 (s.pageSlots.countP fun e => s.pinned e.1)

/-! ## Frames of a stream -/

/-- P of R219. -/
def periodOf (fps : Nat) : Nat := 100000000 / max fps 1

def Stream.frame? (st : Stream) (fseq : Nat) : Option Frame := st.frames.find? fun f => f.fseq == fseq

def Stream.modFrame (st : Stream) (fseq : Nat) (g : Frame → Frame) : Stream :=
  { st with frames := st.frames.map fun f => if f.fseq == fseq then g f else f }

def State.modFrame (s : State) (k fseq : Nat) (g : Frame → Frame) : State := s.modStream k fun st => st.modFrame fseq g

def Phase.isCopying : Phase → Bool
  | .copying _ => true
  | _ => false

def Phase.isDecoding : Phase → Bool
  | .decoding _ => true
  | _ => false

/-- The class of a frame's jobs, and its DA (R284), by the class and the frame rate it is held to (R33). -/
def Frame.jobClass (f : Frame) : Nat := if f.c2 then 2 else 0

def Frame.da (f : Frame) : Nat := f.deadline + periodOf f.fps

/-- Frame buffers in use: the pictures held as references and the frames in decode, waiting for, or in the
pre-processor. -/
def Stream.fbUsed (st : Stream) : Nat :=
  ((st.refs ++ (st.frames.filter fun f => !f.rolled && (f.phase.isDecoding || f.phase == .decoded || f.phase == .building)).map
    Frame.fseq).eraseDups).length

/-- The frame buffers that hold a picture still needed, by FSEQ. -/
def Stream.fbKept (st : Stream) : List (Nat × Nat) :=
  st.fbOf.filter fun p => st.refs.contains p.1 ||
    st.frames.any fun f => f.fseq == p.1 && !f.rolled && (f.phase.isDecoding || f.phase == .decoded || f.phase == .building)

/-- Picture `fseq` decodes into the lowest-numbered frame buffer that is free (R222; assumption 17). -/
def Stream.placeFb (st : Stream) (fseq : Nat) : Stream :=
  let kept := st.fbKept.filter fun p => p.1 != fseq
  let i := ((List.range st.fbCount).find? fun i => kept.all fun p => p.2 != i).getD 0
  { st with fbOf := kept ++ [(fseq, i)] }

/-- The buffer of picture `fseq`: address and bytes. -/
def Stream.fbAt (st : Stream) (fseq : Nat) : Option (Nat × Nat) :=
  (Tab.find? fseq st.fbOf).map fun i => (st.fbBuf.1 + i * st.fbBytes, st.fbBytes)

/-- The buffers of the references a decode may read. -/
def Stream.refBufs (st : Stream) : List (Nat × Nat) := st.refs.filterMap st.fbAt

def Stream.fbFree (st : Stream) : Nat := st.fbCount - st.fbUsed

/-- Slots holding an access unit, and the lowest free slot (R217). -/
def Stream.auHeld (st : Stream) : Nat := st.frames.countP fun f => f.slot.isSome && !f.phase.isCopying

def Stream.freeSlot (st : Stream) : Option Nat :=
  (List.range st.auDepth).find? fun i => st.frames.all fun f => f.slot != some i

/-- The batch entries in use: each is held until the last job that names its buffer has completed (R36, R249). -/
def State.batches (s : State) (k : Nat) : List Nat := ((s.jobs.filter fun j => j.stream == k).filterMap Job.batch).eraseDups

def State.batchUsed (s : State) (k : Nat) : Nat := (s.batches k).length

/-- The lowest free batch entry of a queue of `depth`. -/
def State.freeBatch (s : State) (k depth : Nat) : Option Nat := (List.range depth).find? fun i => !(s.batches k).contains i

/-- Context STATE (R231). -/
def Stream.ctxState (st : Stream) : Nat :=
  if st.closingPkt.isSome then 5 else if st.shed.isSome then 4 else if st.pipe.isNone then 1 else if st.hold then 3 else 2

/-- The context and pre-processing registers that follow the stream. ALARM falls when FREE rises above LOW_WATER (R252). -/
def State.streamSync (s : State) (k : Nat) : State :=
  match s.stream? k with
  | none => s
  | some st =>
    let s := (s.set .CTX_STATE k st.ctxState).set .CTX_AU_HELD k st.auHeld
    let s := s.set .CTX_FB_FREE k st.fbFree
    match st.pipe with
    | none => s
    | some p =>
      let used := min (s.batchUsed k) p.depth
      let free := p.depth - used
      let s := ((s.set .PP_USED k used).set .PP_FREE k free).set .PP_BUILDING k
        (Num.b2n (st.frames.any fun f => f.phase == .building))
      let s := s.set .PP_HOLDING k (Num.b2n (free == 0 && st.frames.any fun f => f.phase == .decoded))
      if p.lowWater < free then s.set .PP_ALARM k 0 else s

/-- The free activation sets go to the earliest frames whose network may start (R300). -/
def grantActN : List Nat → List Frame → List Frame
  | _, [] => []
  | [], l => l
  | i :: free, f :: t =>
    if f.actSet.isNone && f.phase == .queued then { f with actSet := some i } :: grantActN free t
    else f :: grantActN (i :: free) t

/-- The activation sets of stream `k` in use: by a frame's network, or by a running job of a frame that left it (R36). -/
def State.actUsed (s : State) (k : Nat) (st : Stream) : List Nat :=
  st.frames.filterMap Frame.actSet ++ (s.jobs.filter fun j => j.stream == k && j.unit.isSome).filterMap Job.act

def State.grantAct (s : State) (k : Nat) : State :=
  match s.stream? k with
  | none => s
  | some st =>
    let free := (List.range 2).filter fun i => !(s.actUsed k st).contains i
    s.modStream k fun st => { st with frames := grantActN free st.frames }

/-- The flue pass of a frame is due: it is a job of the frame's class (R282), one for each frame. -/
def State.fluePassDue (s : State) (k fseq : Nat) : State :=
  match (s.stream? k).bind fun st => st.frame? fseq with
  | none => s
  | some f =>
    if s.jobs.any fun j => j.stream == k && j.fseq == fseq && j.kind == .flue then s
    else s.addJob { emptyJob with
      kind := .flue, cls := f.jobClass, stream := k, fseq := fseq, deadline := some f.da }

/-- A frame is dropped for analysis with REASON bits `r` (bit 0 for REASON[24]): its unissued jobs are cancelled and its
issued ones run to their end (R285). -/
def State.dropFrame (s : State) (k fseq r : Nat) : State :=
  let s := s.dropJobs fun j => j.stream == k && j.fseq == fseq && j.unit.isNone &&
    !j.ofMirror && j.kind != .ingest && j.kind != .preproc && j.kind != .flue
  let s := s.modStream k fun st => st.modFrame fseq fun f =>
    { f with phase := .dropped, reasons := f.reasons ||| r, isDrop := true, slot := none, actSet := none }
  (((s.grantAct k).fluePassDue k fseq).streamSync k)

/-- As `dropFrame`, for a batch or frame that R251 records: the identifier is kept. -/
def State.dropBatch (s : State) (k fseq r : Nat) : State := (s.dropFrame k fseq r).set .PP_LAST_DROP_FSEQ k fseq

/-- A frame one of whose jobs cannot run to its end is dropped as a late one is (R285, R298, R301). -/
def State.dropLate (s : State) (k fseq : Nat) : State :=
  let s := (s.inc .SCH_DEADLINE_DROPS).inc .SS_DROPS k
  match (s.stream? k).bind fun st => st.frame? fseq with
  | some f => if f.phase == .queued then s.dropBatch k fseq 8 else s.dropFrame k fseq 8
  | none => s

/-- A frame not delivered (R228): its drop is counted and its pass is status-only. -/
def State.notDelivered (s : State) (k fseq r : Nat) : State := (s.dropFrame k fseq r).inc .CTX_FRAMES_DROPPED k

/-- Every held access unit no engine has taken is discarded: the first with REASON bits `r`, the others with none. The
answer is how many there were (R193, R228, R235, R503). -/
def State.discardHeld (s : State) (k r : Nat) : State × Nat :=
  match s.stream? k with
  | none => (s, 0)
  | some st =>
    let hs := (st.frames.filter fun f => f.phase == .held).map Frame.fseq
    let s := (hs.zipIdx).foldl (fun s p => s.notDelivered k p.1 (if p.2 == 0 then r else 0)) s
    (s, hs.length)

/-- The batch under construction of stream `k` is abandoned (R253): the answer says whether there was one. -/
def State.abandonBuild (s : State) (k : Nat) : State × Bool :=
  match s.stream? k with
  | none => (s, false)
  | some st =>
    match st.frames.find? fun f => f.phase == .building with
    | none => (s, false)
    | some f =>
      let s := s.dropJobs fun j => j.stream == k && j.fseq == f.fseq && j.kind == .preproc
      ((s.dropBatch k f.fseq 0).inc .PP_ABANDONED k, true)

/-- The pre-processor is free: no frame of any stream is being built. -/
def State.ppFree (s : State) : Bool := s.streams.all fun e => e.2.frames.all fun f => f.phase != .building

/-- Every job of a frame's network, tracker and tree has completed: its flue pass is due (R68). -/
def State.frameSync (s : State) (k fseq : Nat) : State :=
  match s.stream? k with
  | none => s
  | some st =>
    match st.frame? fseq with
    | none => s
    | some f =>
      if f.phase == .queued && s.jobs.all fun j => j.stream != k || j.fseq != fseq || j.ofMirror then
        let s := s.modStream k fun st => st.modFrame fseq fun f => { f with phase := .tracked, actSet := none }
        ((s.grantAct k).fluePassDue k fseq).streamSync k
      else s.streamSync k

/-! ## Units and their jobs -/

/-- A unit lets its job go. -/
def State.unitIdle (s : State) : UnitName → State
  | .dec n => s.set .DEC_BUSY n 0
  | .array n => s.set .AR_BUSY n 0
  | .cluster n => s.set .CL_BUSY n 0
  | .fft => s.set .FFT_BUSY 0 0
  | .lane _ => s.set .TRE_BUSY 0 0
  | .menc n => (s.set .MENC_BUSY n 0).set .MENC_DECODING n 0

/-- The units of the jobs that `p` names are freed. -/
def State.freeUnits (s : State) (p : Job → Bool) : State :=
  (s.jobs.filterMap fun j => if p j then j.unit else none).foldl State.unitIdle s

/-- A running job goes back to the ready ones. -/
def State.requeue (s : State) (j : Job) : State :=
  let s := match j.unit with
    | none => s
    | some u => s.unitIdle u
  s.modJob j.id fun j => { j with unit := none, slice := none }

end Sys2Proof.Machine
end

