-- ==== Sys2Proof/Machine/Bitstream.lean ====
section
/-! DEFINITION. Sys2Proof/Machine/Bitstream.lean: what the device reads in a bitstream: the ingest checks of an access unit (R216), the
header facts (R223) and the checks they must pass (R213, R214, R222, R224). -/

namespace Sys2Proof.Machine

open Sys2Proof.Num (slice b2n)

/-! ## Ingest (R216) -/

/-- What follows each start code of an Annex B byte stream. -/
def nalTails : Bytes → List Bytes
  | [] => []
  | b :: t => if b = 0#8 ∧ t.take 2 = [0#8, 1#8] then t.drop 2 :: nalTails t else nalTails t

/-- A NAL unit as the ingest check reads it: nal_unit_type, the layer identifier and the byte that starts its slice header. -/
structure Nal where
  type : Nat
  layer : Nat
  slice : Nat
  deriving DecidableEq, Repr

def nalOf (codec : Nat) (b : Bytes) : Nal :=
  let w := (b.getD 0 0#8).toNat
  let x := (b.getD 1 0#8).toNat
  if codec == 0 then ⟨w % 32, 0, x⟩ else ⟨w / 2 % 64, w % 2 * 32 + x / 8, (b.getD 2 0#8).toNat⟩

/-- A VCL NAL unit of the base layer; those of other layers are ignored (R214). -/
def Nal.vcl (codec : Nat) (n : Nal) : Bool :=
  if codec == 0 then decide (1 ≤ n.type) && decide (n.type ≤ 5) else decide (n.type ≤ 31) && n.layer == 0

/-- A slice that begins a picture: first_mb_in_slice 0, or first_slice_segment_in_pic_flag 1, which both are a first bit of 1. -/
def Nal.beginsPicture (codec : Nat) (n : Nal) : Bool :=
  n.vcl codec && (codec != 0 || n.type == 1 || n.type == 2 || n.type == 5) && n.slice.testBit 7

/-- The checks of an H.264 or H.265 access unit: the STREAM_ERROR detail of the first breach. One with no slice that begins a picture holds
no picture (DESIGN CHOICE, assumption 96). -/
def annexBFault (codec : Nat) (au : Bytes) : Option Nat :=
  let ns := (nalTails au).map (nalOf codec)
  let first := ns.countP (Nal.beginsPicture codec)
  if au.take 3 != [0#8, 0#8, 1#8] && au.take 4 != [0#8, 0#8, 0#8, 1#8] then some 1
  else if !ns.any (Nal.vcl codec) || first == 0 then some 2
  else if 1 < first then some 3
  else none

/-- What follows the entropy-coded data of a JPEG scan: stuffed bytes and restart markers belong to it. -/
def afterScan : Bytes → Bytes
  | [] => []
  | [_] => []
  | b :: m :: t =>
    if b = 0xFF#8 ∧ m ≠ 0#8 ∧ ¬ (0xD0#8 ≤ m ∧ m ≤ 0xD7#8) then b :: m :: t else afterScan (m :: t)

/-- How the markers of a JPEG image end: cut off, at a second SOI, or at EOI, with whether a frame header stood before it and what
follows it. -/
inductive JpegEnd where
  | cut | again | eoi (frame : Bool) (rest : Bytes)
  deriving DecidableEq, Repr

/-- A frame header SOFn: markers C0 to CF but DHT, JPG and DAC. -/
def isSof (m : Byte) : Bool := decide (0xC0#8 ≤ m) && decide (m ≤ 0xCF#8) && m != 0xC4#8 && m != 0xC8#8 && m != 0xCC#8

/-- The markers of a JPEG image after SOI; `fuel` bounds their number. -/
def jpegWalk : Nat → Bool → Bytes → JpegEnd
  | 0, _, _ => .cut
  | fuel + 1, sof, b :: m :: t =>
    if b ≠ 0xFF#8 then .cut
    else if m = 0xFF#8 then jpegWalk fuel sof (m :: t)
    else if m = 0xD9#8 then .eoi sof t
    else if m = 0xD8#8 then .again
    else if m = 1#8 ∨ (0xD0#8 ≤ m ∧ m ≤ 0xD7#8) then jpegWalk fuel sof t
    else
      let n := 256 * (t.getD 0 0#8).toNat + (t.getD 1 0#8).toNat
      if n < 2 ∨ t.length < n then .cut
      else jpegWalk fuel (sof || isSof m) (if m = 0xDA#8 then afterScan (t.drop n) else t.drop n)
  | _ + 1, _, _ => .cut

/-- The check of a JPEG access unit: one image from SOI to EOI. Which detail an image without SOI, one without a frame header and bytes
after EOI give is a DESIGN CHOICE (assumption 96). -/
def jpegFault (au : Bytes) : Option Nat :=
  if au.take 2 != [0xFF#8, 0xD8#8] then some 1
  else
    match jpegWalk au.length false (au.drop 2) with
    | .cut => some 4
    | .again => some 3
    | .eoi frame rest =>
      if rest.take 2 == [0xFF#8, 0xD8#8] then some 3 else if !rest.isEmpty then some 4 else if !frame then some 2 else none

/-- The STREAM_ERROR detail of an access unit that fails a check of R216. -/
def ingestFault (codec : Nat) (au : Bytes) : Option Nat := if codec == 2 then jpegFault au else annexBFault codec au

/-! ## Header facts (R213, R214, R223) -/

end Sys2Proof.Machine

namespace Sys2Proof

/-- The CODEC whose headers these are. -/
def CodecHeader.codec : CodecHeader → Nat
  | .h264 .. => 0
  | .h265 .. => 1
  | .jpeg .. => 2

/-- PROFILE by the first row of R213 that holds, where one does. -/
def CodecHeader.profile : CodecHeader → Option Nat
  | .h264 p s0 s1 _ _ _ =>
    if (p == 66 && s1) || ((p == 77 || p == 100) && s0 && s1) then some 0x01
    else if p == 77 then some 0x02 else if p == 100 then some 0x03 else none
  | .h265 p c1 c2 _ _ => if p == 1 || c1 then some 0x11 else if p == 2 || c2 then some 0x12 else none
  | .jpeg n c _ _ => if n == 0 && (c == 1 || c == 3) then some 0x21 else none

/-- The profile number of a header outside the table, which picks its free PROFILE code. -/
def CodecHeader.profileKey : CodecHeader → Nat
  | .h264 p _ _ _ _ _ => p
  | .h265 p _ _ _ _ => 256 + p
  | .jpeg n c _ _ => 512 + 16 * c + n

/-- LEVEL (R223): level 1b is level_idc 11 with constraint_set3_flag 1, or level_idc 9, in H.264. -/
def CodecHeader.level : CodecHeader → Nat
  | .h264 p _ _ s3 l _ => if l == 11 && s3 && (p == 66 || p == 77 || p == 88) then 9 else l
  | .h265 _ _ _ l _ => l / 3
  | .jpeg .. => 0

/-- The sampling of a JPEG image as CHROMA gives it, where R213 lists it. -/
def jpegChroma (c h v : Nat) : Option Nat :=
  if c == 1 then some 0 else if h == 2 && v == 2 then some 1 else if h == 2 && v == 1 then some 2
  else if h == 1 && v == 1 then some 3 else none

/-- CHROMA (R223). -/
def Header.chromaCode (h : Header) : Nat :=
  match h.tools with
  | .jpeg _ c x y => (jpegChroma c x y).getD (Config.otherChroma x y).val
  | _ => h.chroma

/-- The header facts (R223). -/
def Header.facts (h : Header) : HdrFacts :=
  { width := h.width, height := h.height, profile := h.tools.profile.getD (Config.otherProfile h.tools.profileKey).val
    level := h.tools.level, chroma := h.chromaCode, bitDepth := h.depth, outW := h.outW, outH := h.outH }

/-- The profile is one of R213, and no tool of it is refused by R214: field coding, which frame_mbs_only_flag 0 and field_seq_flag 1
announce, counts as a breach of the profile (DESIGN CHOICE, assumption 94). -/
def CodecHeader.profileOk (t : CodecHeader) : Bool :=
  t.profile.isSome && match t with
    | .h264 _ _ _ _ _ frames => frames
    | .h265 _ _ _ _ fields => !fields
    | .jpeg .. => true

/-- The level of R214. -/
def CodecHeader.levelOk : CodecHeader → Bool
  | .h264 _ _ _ _ l _ => decide (l ≤ 51)
  | .h265 _ _ _ l _ => decide (l ≤ 153)
  | .jpeg .. => true

/-- The chroma format and bit depth of R213 and R214. -/
def Header.formatOk (h : Header) : Bool :=
  match h.tools with
  | .h264 .. => decide (h.chroma ≤ 1) && h.depth == 8
  | .h265 .. => h.chroma == 1 && (h.depth == 8 || (h.tools.profile == some 0x12 && decide (8 ≤ h.depth) && decide (h.depth ≤ 10)))
  | .jpeg _ c x y => (jpegChroma c x y).isSome && h.depth == 8

/-! ## What the end of a decode found (R226) -/

/-- The headers are of the stream's codec: no other can be read in its access units. -/
def AuFacts.fits (au : AuFacts) (codec : Nat) : Bool := au.header.all fun h => h.tools.codec == codec

/-- What the end of a decode found, as the stream's codec allows it: concealment, references and picture order are those of H.264 and
H.265, scan errors those of JPEG (R226). -/
def DecodeOutcome.ofCodec (out : DecodeOutcome) (codec : Nat) : DecodeOutcome :=
  if codec == 2 then { out with concealed := 0, refMissing := false, output := true, refs := [] } else { out with jpegErr := false }

end Sys2Proof

namespace Sys2Proof.Machine

/-- The facts of the stream's last headers, which its registers and records show. -/
def Stream.lastFacts (st : Stream) : Option HdrFacts := st.lastHdr.map Header.facts

/-- The output and coded sizes of R224, within the bound CW × CH of R220. -/
def Stream.sizeOk (st : Stream) (h : Header) : Bool :=
  let u := if st.codec == 1 then 8 else 16
  decide (16 ≤ h.outW) && decide (16 ≤ h.outH) && decide (h.outW ≤ st.maxW) && decide (h.outH ≤ st.maxH) &&
  decide (h.width ≤ Num.roundUp st.maxW u) && decide (h.height ≤ Num.roundUp st.maxH u) && h.width % 2 == 0 && h.height % 2 == 0

/-- Checks 1 to 6 of R224: the detail of the first that fails. -/
def headerFault (st : Stream) (h : Header) : Option Nat :=
  if !st.sizeOk h then some 0x0103
  else if st.codec == 1 && decide (8912896 < h.width * h.height) then some 0x0103
  else if !h.tools.profileOk then some 0x0101
  else if !h.tools.levelOk then some 0x0102
  else if !h.formatOk then some 0x0104
  else if st.codec != 2 && decide (dpb st.codec st.openW st.openH < h.refs) then some 0x010C
  else none

end Sys2Proof.Machine
end

