-- ==== Sys2Proof/Machine/Degrade.lean ====
section
/-! DEFINITION. Sys2Proof/Machine/Degrade.lean: the degradation steps and their undoing (R501 to R506), the recomputation of
R291, and the events and interrupts they raise (R504, R505). -/

namespace Sys2Proof.Machine

/-- ADMISSION_DEGRADE is raised for the oldest step change that has not been reported (R504): one in a tick, and none in
the tick of an ENGINE_FAULT, with which it is merged and reported later (R112). -/
def State.reportStep (s : State) : State :=
  match s.degradeQueue with
  | [] => s
  | (step, back) :: t =>
    if s.sameTick 12 || s.sameTick 11 then s
    else (({ s with degradeQueue := t }).irq .SCH_IRQ .SCH_IRQ_EN 0 0 6).capture 12 0 (step + back * 2 ^ 31) 0 0

/-- A step change is queued for its report and counted. -/
def State.stepChange (s : State) (step back : Nat) : State :=
  ({ s with degradeQueue := s.degradeQueue ++ [(step, back)] }).inc .SCH_STEP_CHANGES

/-- SCH_STEP reads the highest step in force; CAUSE reads 0x1F with none (R501, R509). -/
def State.stepSync (s : State) : State :=
  let m := s.degrade.foldl (fun m d => max m d.1) 0
  let s := s.set .SCH_STEP 0 m
  if m == 0 then s.set .SCH_CAUSE 0 0x1F else s

/-- A stream is decimated, paused, shed or restored: SCH_IRQ.STREAM (R505). -/
def State.streamChanged (s : State) : State := s.irq .SCH_IRQ .SCH_IRQ_EN 0 1 6

/-- REASON bit [30]. -/
abbrev reasonShed : Nat := 64

/-- Stream `k` is paused (step 2) or shed (step 4) (R253, R503). -/
def State.shedStream (s : State) (k step : Nat) : State :=
  let r := s.discardHeld k reasonShed
  let s := r.1
  let s := (s.abandonBuild k).1
  -- batches with no job issued are dropped (R253)
  let s : State := match s.stream? k with
    | none => s
    | some st => (st.frames.filter fun f => f.phase == .queued && !f.issued).foldl (fun s f => s.dropBatch k f.fseq 0) s
  let s := s.modStream k fun st =>
    { st with shed := some step, decimated := st.decimated, pendingBits := if r.2 == 0 then st.pendingBits ||| reasonShed else st.pendingBits }
  (s.streamChanged).streamSync k

/-- A paused or shed stream returns: it enters HOLD (R225, R506). -/
def State.unshed (s : State) (k : Nat) : State :=
  ((s.modStream k fun st => { st with shed := none, hold := true }).streamChanged).streamSync k

/-- Steps 3 and 4 take streams in descending PRIORITY, then descending number (R503). -/
def laterFirst (a b : Nat × Stream) : Bool :=
  if a.2.priority != b.2.priority then decide (b.2.priority < a.2.priority) else decide (b.1 < a.1)

def pickStream : List (Nat × Stream) → Option (Nat × Stream)
  | [] => none
  | a :: t =>
    match pickStream t with
    | none => some a
    | some b => if laterFirst a b then some a else some b

/-- The next stream step 3 decimates, and the next step 4 sheds. -/
def State.nextDecimate (s : State) : Option (Nat × Stream) :=
  pickStream (s.streams.filter fun e => !e.2.c2 && e.2.pipe.isSome && !e.2.decimated && e.2.shed.isNone)

def State.nextShed (s : State) : Option (Nat × Stream) := pickStream (s.streams.filter fun e => !e.2.c2 && e.2.shed.isNone)

/-- Step number of the last resort entered with no stream to act on. -/
abbrev noStream : Nat := 128

/-- One reduction (R501, R502): the next step's, or a further stream inside steps 3 and 4; `none` when none is left. -/
def State.reduce (s : State) : Option State :=
  if !s.stepIn 1 then some (({ s with degrade := s.degrade ++ [(1, noStream)] }).stepChange 1 0)
  else if !s.stepIn 2 then
    let s := ({ s with degrade := s.degrade ++ [(2, noStream)] }).stepChange 2 0
    some ((s.streams.filter fun e => e.2.c2 && e.2.shed.isNone).foldl (fun s e => s.shedStream e.1 2) s)
  else
    let first3 := !s.stepIn 3
    match s.nextDecimate with
    | some (k, _) =>
      let s := if first3 then s.stepChange 3 0 else s
      let s := { s with degrade := s.degrade ++ [(3, k)] }
      some ((s.modStream k fun st => { st with decimated := true, decParity := false }).streamChanged)
    | none =>
      if first3 then some (({ s with degrade := s.degrade ++ [(3, noStream)] }).stepChange 3 0)
      else
        match s.nextShed with
        | none => none
        | some (k, _) =>
          let s := if s.stepIn 4 then s else s.stepChange 4 0
          some (({ s with degrade := s.degrade ++ [(4, k)] }).shedStream k 4)

/-- Reductions until every sum fits. -/
def reduceN : Nat → State → State
  | 0, s => s
  | n + 1, s =>
    match s.exceeded s.sums with
    | none => s
    | some _ =>
      match s.reduce with
      | none => s
      | some s1 => reduceN n s1

/-- Streams that can no longer run at all: every stream with a pipeline when no array is in service (R278), every stream
with an ensemble when no tree lane is (R321). -/
def State.noUnit (s : State) (st : Stream) : Bool :=
  match st.pipe with
  | none => false
  | some p => s.unitsOf 1 == 0 || (p.ensemble != 0 && s.lanes == 0)

/-- The candidate of R506 undone, as the test sees it: the state with the newest reduction lifted. -/
def State.undone (s : State) : State :=
  match s.degrade.getLast? with
  | none => s
  | some (step, k) =>
    let s := { s with degrade := s.degrade.dropLast }
    if step == 3 then s.modStream k fun st => { st with decimated := false }
    else if step == 4 then s.modStream k fun st => { st with shed := none }
    else if step == 2 then
      { s with streams := s.streams.map fun e => (e.1, if e.2.shed == some 2 then { e.2 with shed := none } else e.2) }
    else s

/-- Whether the candidate passes its test (R506). -/
def State.undoPasses (s : State) : Bool := !s.degrade.isEmpty && (s.undone.exceeded s.undone.sums).isNone

/-- The test of R506 at an evaluation: it starts, carries on or restarts the window. -/
def State.undoTest (s : State) (reduced : Bool) : State :=
  if s.degrade.isEmpty then (({ s with undoSince := none }).set .SCH_UNDO_PENDING 0 0).set .SCH_UNDO_TICKS 0 0
  else if s.undoPasses then
    let t0 := if reduced then s.now else s.undoSince.getD s.now
    (({ s with undoSince := some t0 }).set .SCH_UNDO_PENDING 0 1).set .SCH_UNDO_TICKS 0 (Num.wrap32 (s.now - t0))
  else (({ s with undoSince := none }).set .SCH_UNDO_PENDING 0 0).set .SCH_UNDO_TICKS 0 0

/-- The reductions a recomputation makes: step by step while a sum exceeds its budget, and step 4 for streams left without any unit
of a kind they need (R278, R321, R501). -/
def State.reduceAll (s : State) : State :=
  let s : State := match s.exceeded s.sums with
    | none => s
    | some c => reduceN (2 * s.streams.length + 4) (s.set .SCH_CAUSE 0 c)
  (s.streams.filter fun e => s.noUnit e.2 && e.2.shed.isNone).foldl (fun s e =>
    let s := if s.stepIn 4 then s else s.stepChange 4 0
    ({ s with degrade := s.degrade ++ [(4, e.1)] }).shedStream e.1 4) s

/-- A step that the precedence of R112 withholds is recorded and not taken. -/
def State.recordStep (s : State) : State :=
  match s.reduceAll.degradeQueue.drop s.degradeQueue.length with
  | [] => s
  | (step, back) :: _ => if s.sameTick 12 then s else s.capture 12 0 (step + back * 2 ^ 31) 0 0

/-- One recomputation of the admission unit (R291, R501). -/
def State.recompute (s : State) : State :=
  if !s.isReady then s
  else
    let s := { s with lastAdmission := s.now }
    match s.treatment 12 with
    | .apply =>
      let n := s.degrade.length
      let s := s.reduceAll
      ((s.stepSync).undoTest (decide (n < s.degrade.length))).reportStep.schSync
    | _ => s.recordStep.schSync

/-- ADMISSION_RECOMPUTE (R501): every 1,024 ticks. -/
def execAdmissionRecompute (s : State) : Result :=
  doneIf s (s.isReady && s.thermal.isNone && decide (s.lastAdmission + 1024 ≤ s.now)) s.recompute

/-- A reduction lifted in fact: streams return to HOLD, and the last reduction of a step lowers SCH_STEP (R506). -/
def State.undo (s : State) : State :=
  match s.degrade.getLast? with
  | none => s
  | some (step, k) =>
    let s := { s with degrade := s.degrade.dropLast }
    let s :=
      if step == 3 && k != noStream then (s.modStream k fun st => { st with decimated := false }).streamChanged
      else if step == 4 then s.unshed k
      else if step == 2 then
        (s.streams.filter fun e => e.2.shed == some 2).foldl (fun s e => s.unshed e.1) s
      else s
    let s := if s.degrade.any fun d => d.1 == step then s else s.stepChange step 1
    (({ s with undoSince := none }).stepSync.undoTest true).reportStep.schSync

/-- DEGRADE_UNDO (R506): the candidate has passed its test for 1,000,000 consecutive ticks. -/
def execDegradeUndo (s : State) : Result :=
  match s.undoSince with
  | none => .next s
  | some t0 =>
    doneIf s (s.isReady && s.thermal.isNone && s.undoPasses && decide (t0 + 1000000 ≤ s.now) && !s.degrade.isEmpty) s.undo

/-- A stream that goes takes its reductions with it (R512). -/
def State.forgetReductions (s : State) (k : Nat) : State :=
  ({ s with degrade := s.degrade.filter fun d => d.2 != k }).stepSync

end Sys2Proof.Machine
end

