-- ==== Sys2Proof/Machine/Mirror.lean ====
section
/-! DEFINITION. Sys2Proof/Machine/Mirror.lean: the sending side of a stream's mirror (R381 to R390, R403): which pictures an
encoder takes, the receiver buffer model, and the mirror access units. The bytes of a coded picture are free values (assumption 13). -/

namespace Sys2Proof.Machine

open Sys2Proof.Num (leBytes b2n)

/-- A mirror encode job, and a mirror decode job (R396). -/
def Job.encodes (j : Job) : Bool := j.kind == .mirror && j.mode == 0
def Job.decodes (j : Job) : Bool := j.kind == .mirror && j.mode == 1

def State.modMirror (s : State) (k : Nat) (g : MirrorSt → MirrorSt) : State :=
  s.modStream k fun st => { st with mirror := st.mirror.map g }

/-- The mirror registers of stream `k` are brought up to it. -/
def State.mirrorShow (s : State) (k : Nat) : State :=
  match s.stream? k with
  | none => s
  | some st => s.mirrorSync k st

/-- Places of the buffers of a mirror in their list: after the mirror buffer. -/
abbrev mirrorRec : Nat := 1
abbrev mirrorPics : Nat := 3
abbrev mirrorQueue : Nat := 4
abbrev mirrorRing : Nat := 5

/-- The bytes of a mirror picture of `w` by `h` samples, 8-bit 4:2:0 (R381). -/
def pictureBytes (w h : Nat) : Nat := w * h * 3 / 2

/-- FR of R399 at an epoch of `ms` milliseconds and FPS_X100 `fps`. -/
def ringPictures (ms fps : Nat) : Nat := Num.cdiv (3 * ms * fps) 100000 + 2

/-- The sizes of the buffers of a mirror of crop `c` at FPS_X100 `fps`, in the order of `MirrorSt.bufs`. The ring has room for FR at the
longest epoch and for the picture in decode (R396, R399, R403; DESIGN CHOICE, assumption 81). -/
def mirrorSizes (m : MirrorCfg) (c : Crop) (fps : Nat) : List Nat :=
  let pic := pictureBytes c.rotW c.rotH
  [m.bufBytes, pic, pic, 8 * pic, 8 * mauBytes m.fillKbps fps, (ringPictures 2000 fps + 1) * pic]

/-- The picture of frame FSEQ `fseq` among the mirror pictures of the transmit queue of 8 (R403; assumption 81). -/
def MirrorSt.picAt (m : MirrorSt) (fseq : Nat) : Option (Nat × Nat) :=
  (m.bufs[mirrorPics]?).map fun b => (b.1 + fseq % 8 * (b.2 / 8), b.2 / 8)

/-- A mirror in buffers `bufs` as MIRROR_CONFIG makes it: a resynchronisation owed, nothing received (R390, R398). -/
def newMirror (m : MirrorCfg) (bufs : List (Nat × Nat)) : MirrorSt :=
  { cfg := m, bufs := bufs, w := 0, items := [], part := 0, mauNo := 0, ref := 0, resync := true, rxPos := 0, rxFirst := 0
    rxItem := none, rxSynced := false, rxAt := 0, ring := [], needIdr := true, ringGap := false }

/-- Buffers of the sizes `ns` for the mirror of stream `k`: those it has, where they are large enough, else new ones in their place
(R45, R299). -/
def State.placeMirror (s : State) (k : Nat) (o : Option MirrorSt) (ns : List Nat) : Option (List (Nat × Nat) × State) :=
  let old := (o.map MirrorSt.bufs).getD []
  if old.length == ns.length && (old.zip ns).all fun x => decide (x.2 ≤ x.1.2) then some (old, s)
  else (s.freeAll old).allocAll true (some k) ns

/-- The pictures the ring's buffer has room for, of `pic` bytes each. -/
def MirrorSt.places (m : MirrorSt) (pic : Nat) : List (Nat × Nat) :=
  match m.bufs[mirrorRing]? with
  | none => []
  | some b => (List.range (b.2 / max pic 1)).map fun i => (b.1 + i * pic, pic)

/-- The lowest place of the ring that holds no picture. -/
def MirrorSt.freePlace (m : MirrorSt) (pic : Nat) : Option (Nat × Nat) :=
  (m.places pic).find? fun a => m.ring.all fun e => e.2 != a.1

/-- The picture size of a stream's MIRROR crop. -/
def Stream.mirrorPicBytes (st : Stream) : Nat :=
  ((st.pipe.bind Pipe.mirrorCrop).map fun c => pictureBytes c.rotW c.rotH).getD 0

def MirrorSt.emptied (m : MirrorSt) : MirrorSt := { m with w := 0, items := [], part := 0 }

/-- A resynchronisation cause (R390): the next picture is an IDR under ROWRATE, the backlog is discarded. -/
def State.resync (s : State) (k : Nat) : State := (s.modMirror k fun m => { m.emptied with resync := true }).mirrorShow k

def State.resyncAll (s : State) : State := s.streams.foldl (fun s e => s.resync e.1) s

/-- The jobs of stream `k`'s mirror on the sending side. -/
def Job.sends (j : Job) (k : Nat) : Bool := j.stream == k && (j.encodes || j.kind == .wren)

/-- Mirroring of stream `k` stops at once (R403): its encode and transmit jobs end, its MAUs and its backlog are discarded. -/
def State.haltMirror (s : State) (k : Nat) : State :=
  let p (j : Job) : Bool := j.sends k
  let s := (s.freeUnits p).dropJobs p
  ({ s with w.maus := s.w.maus.filter fun q => q.1 != k }).resync k

/-- The pictures a closing stream receives are of no more use: their decode jobs end. -/
def State.dropDecodes (s : State) (k : Nat) : State :=
  let p (j : Job) : Bool := j.stream == k && j.decodes
  (s.freeUnits p).dropJobs p

def State.haltMirrors (s : State) : State := s.streams.foldl (fun s e => s.haltMirror e.1) s

/-! ## The bytes of an MAU (R383, R384, R388) -/

/-- An item header (R384): the kind 1 AU or 2 STUFF, IDR, ITEM_BYTES, FSEQ. -/
def itemHeader (kind : Nat) (idr : Bool) (bytes fseq : Nat) : Bytes :=
  leBytes 1 kind ++ leBytes 1 (b2n idr) ++ leBytes 2 0 ++ leBytes 4 bytes ++ leBytes 4 fseq ++ leBytes 4 0

/-- The header of an MAU (R383). -/
def Mau.header (m : Mau) : Bytes :=
  leBytes 4 m.fseq ++ leBytes 4 m.no ++ leBytes 4 m.firstItem ++ leBytes 1 m.flags ++ leBytes 3 0

/-- The bytes of a piece that starts at byte `pos` of the MAU: those of a coded picture are free values (assumption 13). -/
def MauPart.bytes (key pos : Nat) : MauPart → Bytes
  | .item k i n f => itemHeader k i n f
  | .body n => (List.range n).map fun i => Config.mirrorByte key (pos + i)
  | .zero n => List.replicate n 0#8

def partBytes (key : Nat) : Nat → List MauPart → Bytes
  | _, [] => []
  | pos, p :: t => let b := p.bytes key pos; b ++ partBytes key (pos + b.length) t

/-- The S bytes of an MAU. -/
def Mau.bytes (m : Mau) : Bytes := m.header ++ partBytes m.job 16 m.parts

/-- A STUFF item of `n` bytes, where any are left (R384, R385). Its FSEQ is the MAU's (DESIGN CHOICE, assumption 101). -/
def stuff (n fseq : Nat) : List MauPart := if n == 0 then [] else [.item 2 false n fseq, .zero (n - 16)]

/-- `m` bytes from the front of the backlog: the pieces, the items left, and what is left of a started front item (R385 step 3). -/
def takeItems : Nat → Nat → List (Nat × Nat) → List MauPart × List (Nat × Nat) × Nat
  | _, _, [] => ([], [], 0)
  | m, part, (x, f) :: t =>
    if m == 0 then ([], (x, f) :: t, part)
    else
      let h := if part == 0 then 16 else 0
      let hd := if part == 0 then [.item 1 false x f] else []
      if x ≤ m then let r := takeItems (m - x) 0 t; (hd ++ .body (x - h) :: r.1, r.2)
      else (hd ++ [.body (m - h)], (x - m, f) :: t, x - m)

/-- FIRST_ITEM of an MAU of `sz` bytes whose body starts with `part` bytes of an earlier item (R383). -/
def firstItem (sz part : Nat) : Nat := if part < sz - 16 then 16 + part else 2 ^ 32 - 1

/-- What a ROWRATE MAU of `sz` bytes holds for a picture of height `th` (R388): one AU item of the 128-byte area and its rows, and
stuffing. -/
def rowParts (sz th fseq : Nat) (idr : Bool) : List MauPart :=
  let n := 144 + Num.cdiv th 32 * rowBytes sz th
  [.item 1 idr n fseq, .body (n - 16)] ++ stuff (sz - 16 - n) fseq

/-- The place of a new MAU in the transmit queue: the lowest that no waiting MAU of the stream takes (R403; assumption 81). -/
def State.mauPlace (s : State) (k : Nat) (m : MirrorSt) : Nat :=
  match m.bufs[mirrorQueue]? with
  | none => 0
  | some b => (((List.range 8).map fun i => b.1 + i * (b.2 / 8)).find? fun a => s.w.maus.all fun q => q.1 != k || q.2.addr != a).getD b.1

/-- An MAU joins the transmit queue: its bytes are sooted (R395), and a C1 job of the frame's deadline transmits it (R282, R284). -/
def State.queueMau (s : State) (k : Nat) (m : MirrorSt) (due : Option Nat) (mau : Mau) : State :=
  let a := s.mauPlace k m
  let mau := { mau with addr := a, job := s.nextJob }
  let s := { s with w.maus := s.w.maus ++ [(k, mau)] }.addJob { emptyJob with
    kind := .wren, cls := 1, stream := k, fseq := mau.fseq, deadline := due, ins := asBufs [(a, mau.size)], soot := true }
  s.raiseBuf (a, mau.size)

/-- One MAU of `sz` bytes is formed for the picture `fseq` (R385 step 3, R388): under ROWRATE its own item and a STUFF
item, otherwise up to S - 16 bytes of the backlog and stuffing. `flags` as R383. -/
def State.formMau (s : State) (k fseq sz flags : Nat) (due : Option Nat) : State :=
  match s.stream? k with
  | none => s
  | some st =>
    match st.mirror with
    | none => s
    | some m =>
      let row := flags % 2 == 1
      let take := if row then 0 else min m.w (sz - 16)
      let c := takeItems take m.part m.items
      let th := ((st.pipe.bind Pipe.mirrorCrop).map Crop.rotH).getD 0
      let mau : Mau := {
        fseq := fseq, no := m.mauNo + 1, firstItem := if row then 16 else firstItem sz m.part, flags := flags, size := sz, sent := 0
        parts := if row then rowParts sz th fseq (flags.testBit 2) else c.1 ++ stuff (sz - 16 - take) fseq }
      let s := s.modMirror k fun m => { m with w := m.w - take, items := c.2.1, part := c.2.2, mauNo := m.mauNo + 1 }
      s.queueMau k m due mau

/-- A picture that is not encoded (R386): its MAU is formed with PIC_DROPPED; none while no encoder is in service (R397). -/
def State.dropPicture (s : State) (k fseq : Nat) (due : Option Nat) : State :=
  if s.unitsOf 6 == 0 then s.resync k
  else
    match s.stream? k with
    | none => s
    | some st =>
      match st.mirror with
      | none => s
      | some m => s.formMau k fseq (s.mauSize st m.cfg) 2 due

/-! ## Encoding (R381, R385 to R390, R396, R403) -/

/-- The pre-processor has written the mirror picture of frame `fseq`: a mirror job takes it (R381, R396), after the pictures of its
stream before it, or no one does while the transmit queue of 8 is full (R403) or no encoder is in service (R397). It reads the picture,
the reference and the backlog, and writes the other reconstruction buffer and its item. -/
def State.takePicture (s : State) (k : Nat) (f : Frame) : State :=
  match s.stream? k with
  | none => s
  | some st =>
    if !st.mirrored || !s.sendsMirror || ((st.pipe.bind Pipe.mirrorCrop).isNone) then s
    else if s.unitsOf 6 == 0 then s.resync k
    else if 8 ≤ s.w.maus.countP (fun q => q.1 == k) + s.jobs.countP (fun j => j.stream == k && j.encodes) then s
    else
      let log := asBufs (((st.mirror.map MirrorSt.bufs).getD []).take 1)
      s.addJob { emptyJob with
        kind := .mirror, cls := 1, stream := k, fseq := f.fseq, deadline := some f.da
        deps := (s.jobs.filter fun j => j.stream == k && j.encodes).map Job.id
        ins := asBufs (st.mirror.bind fun m => m.picAt f.fseq).toList ++ [.recon false] ++ log, outs := .recon true :: log }

/-- An encoder takes a picture, under the settings in force: B, S and the mode stay with its job, a re-issued one included (R393, R397,
R403): in `layer`, `cycles` and `lanes`. A pending resynchronisation makes it the IDR, with MAU_NO from 1 (R390): `tile` 1. -/
def State.startPicture (s : State) (j : Job) : State :=
  if j.mode != 0 || j.failedOn.isSome then s
  else
    match s.stream? j.stream with
    | none => s
    | some st =>
      match st.mirror with
      | none => s
      | some m =>
        let s := s.modJob j.id fun i => { i with
          tile := b2n m.resync, cycles := s.mauSize st m.cfg, layer := m.cfg.bufBytes, lanes := b2n m.cfg.rowrate }
        if m.resync then
          (s.modMirror j.stream fun m => { m with resync := false, mauNo := 0 }).mirrorShow j.stream
        else s

/-- The reconstruction of an accepted picture is the reference of the next (R386). -/
def MirrorSt.accepted (m : MirrorSt) : MirrorSt := { m with ref := 1 - m.ref }

/-- The encode of job `j` has ended with an item of `b` bytes (R385, R388, R390): dropped after a resynchronisation cause,
its own MAU under ROWRATE, and else kept where the buffer model has room. A picture, reference or backlog read poisoned is such a
cause (R343, R390). -/
def State.pictureDone (s : State) (j : Job) (b : Nat) : State :=
  let bad := s.poisonIn j.reads
  let s := (j.writes.foldl State.rewritten s).dropJobs fun i => i.id == j.id
  let k := j.stream
  let sz := j.cycles
  let s := if bad then s.resync k else s
  match (s.stream? k).bind Stream.mirror with
  | none => s
  | some m =>
    if m.resync then s.formMau k j.fseq sz 2 j.deadline
    else if j.tile == 1 then (s.modMirror k MirrorSt.accepted).formMau k j.fseq sz 5 j.deadline
    else if j.lanes == 1 then (s.modMirror k MirrorSt.accepted).formMau k j.fseq sz 1 j.deadline
    else if j.layer < m.w + b then s.formMau k j.fseq sz 2 j.deadline
    else (s.modMirror k fun m => { m.accepted with w := m.w + b, items := m.items ++ [(b, j.fseq)] }).formMau k j.fseq sz 0 j.deadline

/-- A mirror job that is given up (R397): an encode becomes a dropped picture, and an IDR is still owed; a decode has
failed (R400). -/
def State.giveUpMirror (s : State) (j : Job) : State :=
  let s := s.dropJobs fun i => i.id == j.id
  if j.mode == 1 then (s.modMirror j.stream fun m => { m with needIdr := true }).mirrorShow j.stream
  else if j.tile == 1 then (s.dropPicture j.stream j.fseq j.deadline).resync j.stream
  else s.dropPicture j.stream j.fseq j.deadline

/-! ## What the encoder chooses within its picture (R382, R387, R389) -/

/-- pic_order_cnt_lsb, and slice_segment_address of CTB row `r` of a picture `tw` samples wide (R382). -/
def pocLsb (fseq : Nat) : Nat := fseq % 256
def sliceAddress (tw r : Nat) : Nat := r * Num.cdiv tw 32

/-- T of R387: the target bytes for the AU; each division rounds down, and B - W decides where the limits cross (DESIGN CHOICE,
assumption 101). -/
def auTarget (sz b w : Nat) : Int :=
  min ((b : Int) - w) (max (sz / 4 : Nat) ((sz : Int) + ((b : Int) / 2 - w) / 8))

/-- A row as ROWRATE emits it (R388, R389): the rate-controlled form where it fits in RB, else the fallback form, padded with zero bytes to
RB. -/
def emittedRow (rb : Nat) (controlled fallback : Bytes) : Bytes :=
  let r := if controlled.length ≤ rb then controlled else fallback
  r ++ List.replicate (rb - r.length) 0#8

end Sys2Proof.Machine
end

