-- ==== Sys2Proof/Machine/Flues.lean ====
section
/-! DEFINITION. Sys2Proof/Machine/Flues.lean: the flue gates: records, the budget, the metadata ring, zone events, the flue
pass, FLUE_CONFIG and METADATA_RING_SET (03_flues.md, R198, R199). -/

namespace Sys2Proof.Machine

open Sys2Proof.Num (u8 zeroBytes slice sub32 wrap32)

/-! ## The metadata ring (R81 to R85) -/

/-- Free slots of the metadata ring of client `c`; none without a ring. -/
def State.metaFree (s : State) (c : Nat) : Nat :=
  if s.get .META_LOG2 c == 0 then 0 else 2 ^ s.get .META_LOG2 c - sub32 (s.get .META_HEAD c) (s.get .META_TAIL c)

/-- The host address of the slot of record count `i` of client `c` (R81). -/
def State.metaSlot (s : State) (c i : Nat) : Nat := s.get .META_BASE c + i % 2 ^ s.get .META_LOG2 c * 32

/-- The first posted write of a record, words 1 to 7 (R82). -/
def State.writeWords (s : State) (c : Nat) (ws : List Nat) : State :=
  let i := s.get .META_HEAD c
  s.emit (.record c i (s.metaSlot c i + 4) (ws.drop 1))

/-- The second, word 0: META_HEAD advances and the record is counted for stream `k` (R82, R90). -/
def State.writeHead (s : State) (c k : Nat) (ws : List Nat) : State :=
  let i := s.get .META_HEAD c
  let s := s.emit (.recordHead c i (s.metaSlot c i) ((withPhase (s.get .META_LOG2 c) i ws).headD 0))
  (s.set .META_HEAD c (wrap32 (i + 1))).inc .FLU_RECORDS k

/-- A record goes to the next slot of client `c`'s ring. -/
def State.writeRecord (s : State) (c k : Nat) (ws : List Nat) : State := (s.writeWords c ws).writeHead c k ws

/-- Words 1 to 7 of a record are out on client `c`'s ring, its word 0 is not. -/
def State.halfRecord (s : State) (c : Nat) : Bool :=
  s.streams.any fun e => e.2.owner == c && e.2.pass.any FluePass.headDue

/-- The common header and payload of a record, before PHASE (R71). -/
def State.recordWords (s : State) (kind last rolled index k fseq w5 w6 w7 : Nat) : List Nat :=
  [kind + 16 * last + 32 * rolled + 256 * index + 65536 * k, wrap32 fseq,
   if s.role == 3 then 0 else s.get .GCTL_GEN % 2 ^ 32,
   s.now % 2 ^ 32, s.now / 2 ^ 32 % 2 ^ 32, w5 % 2 ^ 32, w6 % 2 ^ 32, w7 % 2 ^ 32]

/-- A GAP with REASON 2 or 3 (R78). R412 gives word 1 of one with REASON 3, its LAST_FSEQ; no rule gives it for REASON 2, where the
model puts LAST_FSEQ too (assumption 91). -/
def State.gapWords (s : State) (k reason n first last : Nat) : List Nat :=
  s.recordWords 5 0 0 0 k last (reason + 65536 * min n 65535) (wrap32 first) (wrap32 last)

/-- META_CTRL.DROPPING follows the pending drop states of the client's streams. -/
def State.dropSync (s : State) (c : Nat) : State :=
  s.set .META_DROPPING c (Num.b2n (s.streams.any fun e => e.2.owner == c && e.2.gap.isSome))

/-- While a stream of client `c` has a pending drop state, each free slot takes one GAP with REASON 2, in ascending stream
number (R84). -/
def flushGapsN : Nat → State → Nat → State
  | 0, s, _ => s
  | n + 1, s, c =>
    if s.metaFree c == 0 || s.linkClosed || s.held || s.fenced || s.halfRecord c then s
    else
      match s.streams.find? fun e => e.2.owner == c && e.2.gap.isSome with
      | none => s
      | some (k, st) =>
        match st.gap with
        | none => s
        | some (cnt, a, b) =>
          flushGapsN n ((s.writeRecord c k (s.gapWords k 2 cnt a b)).modStream k fun st => { st with gap := none }) c

def State.flushGaps (s : State) (c : Nat) : State := (flushGapsN s.streams.length s c).dropSync c

/-- A record that finds the ring full joins its stream's pending drop state; the first discard on a client raises
FLUE_DROP (R84). -/
def State.dropRecord (s : State) (c k fseq : Nat) : State :=
  let first := s.get .META_DROPPING c == 0
  let s := s.modStream k fun st =>
    { st with gap := match st.gap with
        | none => some (1, fseq, fseq)
        | some (n, a, _) => some (n + 1, a, fseq) }
  let s := ((s.sat 32 .META_DROPS c).inc .FLU_RING_DROPS k).set .META_DROPPING c 1
  if first then s.capture 13 c k 0 0 else s

/-- One record of stream `k` meets the ring of client `c`: the new state and whether it may be written. A closed link and a held
crossing are a full ring (R147, R155); a fence discards (R35, R94). -/
def State.meetRing (s : State) (c k fseq : Nat) : State × Bool :=
  if s.fenced then (s, false)
  else
    let s := s.flushGaps c
    if s.linkClosed || s.held || s.get .META_LOG2 c == 0 then (s.dropRecord c k fseq, false)
    else if s.get .META_POLICY c == 1 then (if s.metaFree c == 0 then s.sat 32 .META_OVERRUNS c else s, true)
    else if s.get .META_DROPPING c == 1 || s.metaFree c == 0 then (s.dropRecord c k fseq, false)
    else (s, true)

/-- One record met and, where it may be, written: the new state and whether it was. -/
def State.putRecord (s : State) (c k fseq : Nat) (ws : List Nat) : State × Bool :=
  let r := s.meetRing c k fseq
  if r.2 then (r.1.writeRecord c k ws, true) else r

/-- After the last record of a pass (R86). -/
def State.passSignal (s : State) (c : Nat) : State :=
  let s := if s.get .META_FENCE_EN c == 1 then (s.fenceBump (s.get .META_FENCE c)).release (s.get .META_FENCE c) else s
  if s.get .META_IRQ_EN c == 1 then s.signal (32 + c) else s

/-- META_TAIL (R83): an accepted write frees slots, which pending GAPs take first (R84). -/
def State.metaTail (s : State) (c v : Nat) : State :=
  let n := 2 ^ s.get .META_LOG2 c
  if s.get .META_LOG2 c != 0 && decide (sub32 (s.get .META_HEAD c) v ≤ n) && decide (sub32 v (s.get .META_TAIL c) ≤ n)
  then (s.set .META_TAIL c (wrap32 v)).flushGaps c else s

/-! ## Zones (R75, R76, R89) -/

/-- The cross product (b - a) x (p - a). -/
def cross (a b p : Nat × Nat) : Int :=
  ((b.1 : Int) - a.1) * ((p.2 : Int) - a.2) - ((b.2 : Int) - a.2) * ((p.1 : Int) - a.1)

/-- The edges of a closed polygon. -/
def edgesOf (vs : List (Nat × Nat)) : List ((Nat × Nat) × (Nat × Nat)) :=
  match vs with
  | [] => []
  | v :: t => vs.zip (t ++ [v])

/-- Convex, counter-clockwise, no three vertices collinear: every other vertex lies strictly left of every edge. -/
def convexCcw (vs : List (Nat × Nat)) : Bool :=
  (edgesOf vs).all fun e => vs.all fun p => p == e.1 || p == e.2 || decide (0 < cross e.1 e.2 p)

/-- A point on an edge is inside. -/
def insidePoly (vs : List (Nat × Nat)) (p : Nat × Nat) : Bool := (edgesOf vs).all fun e => decide (0 ≤ cross e.1 e.2 p)

def parseZone (b : Bytes) : Zone :=
  { type := u8 b 0, verts := (List.range (min (u8 b 1) 8)).map fun i => (u8 b (4 + 2 * i), u8 b (5 + 2 * i)) }

/-- The check of one zone entry (R89). -/
def zoneOk (b : Bytes) : Bool :=
  let z := parseZone b
  zeroBytes b 2 4 && zeroBytes b 20 32 && decide (u8 b 0 ≤ 2) &&
  (z.type == 0 ||
    ((z.verts.all fun v => decide (v.1 ≤ 64) && decide (v.2 ≤ 64)) &&
      if z.type == 1 then decide (3 ≤ u8 b 1) && decide (u8 b 1 ≤ 8) && z.verts.eraseDups.length == u8 b 1 && convexCcw z.verts
      else u8 b 1 == 2))

/-- The index of the first failing entry of a table (R187). -/
def badZone : Nat → List Bytes → Option Nat
  | _, [] => none
  | i, e :: t => if zoneOk e then badZone (i + 1) t else some i

/-- The reference point of R76. -/
def TrackOut.point (t : TrackOut) : Nat × Nat := (min 63 (t.qx0 + t.qw / 2), min 63 (t.qy0 + t.qh - 1))

/-- One zone against one track (R76): the events, and the memory of the pair. -/
def zoneTrack (zi : Nat) (z : Zone) (t : TrackOut) (m : ZoneMem) : List ZoneEv × ZoneMem :=
  let p := t.point
  let ev (e dwell : Nat) : ZoneEv := ⟨zi, e, t.id, t.epoch, p.1, p.2, t.conf, t.cls, dwell⟩
  if z.type == 1 then
    if t.state == 3 then (if m.inside then [ev 1 (min m.dwell 255)] else [], { m with inside := false, dwell := 0 })
    else if t.state == 1 || t.state == 2 then
      if insidePoly z.verts p then
        (if m.inside then [] else [ev 0 0], { m with inside := true, dwell := m.dwell + 1 })
      else (if m.inside then [ev 1 (min m.dwell 255)] else [], { m with inside := false, dwell := 0 })
    else ([], m)
  else if z.type == 2 && (t.state == 1 || t.state == 2) then
    match z.verts with
    | v0 :: v1 :: _ =>
      let x := cross v0 v1 p
      let side := if 0 < x then 1 else if x < 0 then 2 else m.side
      (if m.side != 0 && side != m.side then [ev (if side == 2 then 2 else 3) 0] else [], { m with side := side })
    | _ => ([], m)
  else ([], m)

/-- The zone events of one frame and the memory after it, in ascending ZONE, then ascending TRACK_ID (R70). The memory of a pair lasts
while its track is live: a track among `live` that this frame's output leaves out, as a rolled frame's does, keeps its own (R76, R412). -/
def evalZones (zs : List Zone) (live : List Track) (ts : List TrackOut) (mem : List ZoneMem) : List ZoneEv × List ZoneMem :=
  let ts := ts.mergeSort fun a b => decide (a.id ≤ b.id)
  let r := (zs.zipIdx).map fun z => ts.map fun t =>
    zoneTrack z.2 z.1 t ((mem.find? fun m => m.zone == z.2 && m.id == t.id && m.epoch == t.epoch).getD
      ⟨z.2, t.epoch, t.id, false, 0, 0⟩)
  let out (m : ZoneMem) : Bool := ts.any fun t => t.id == m.id && t.epoch == m.epoch
  ((r.flatten.map Prod.fst).flatten,
   ((r.flatten.map Prod.snd).filter fun m => ts.any fun t => t.id == m.id && t.epoch == m.epoch && t.state != 3) ++
     mem.filter fun m => !out m && live.any fun t => t.id == m.id && t.epoch == m.epoch)

/-! ## The pass (R68 to R80) -/

/-- Word 5 of a TRACK or ZONE_EVENT record. -/
def idWord (id epoch : Nat) : Nat := id % 2 ^ 24 + 2 ^ 24 * (epoch % 256)

def trackWords (t : TrackOut) : Nat × Nat × Nat :=
  (idWord t.id t.epoch,
   t.qx0 + 64 * t.qy0 + 4096 * (t.qw - 1) + 2 ^ 18 * (t.qh - 1) + 2 ^ 24 * t.conf + 2 ^ 30 * t.state,
   t.cls + 256 * min t.age 255 + 65536 * t.crop)

def zoneWords (z : ZoneEv) : Nat × Nat × Nat :=
  (idWord z.id z.epoch,
   z.zone + 64 * z.event + 256 * z.px + 2 ^ 14 * z.py + 2 ^ 20 * z.conf,
   z.cls + 256 * (if z.event == 1 then z.dwell else 0))

def countWords (ens : Nat) (c : Nat × Nat × Int) : Nat × Nat × Nat :=
  ((max 0 (min c.2.2 65535)).toNat + 65536 * c.1 + 2 ^ 24 * c.2.1, ens % 65536, 0)

/-- Header facts as words 5 and 6 of STREAM_STATUS carry them, without REASON (R77). -/
def factWord5 (h : HdrFacts) : Nat := h.width + 65536 * h.height
def factWord6 (h : HdrFacts) : Nat := h.profile + 256 * h.level + 65536 * h.chroma + 2 ^ 18 * h.bitDepth

/-- Records of one kind, not yet numbered: kind and payload. -/
abbrev Cand := Nat × Nat × Nat × Nat

/-- The budget (R79): `n` candidates against `k` records of 256 bits: what is written, and SUPPRESSED when a GAP is due. -/
def budgetCut (k : Nat) (cs : List Cand) : List Cand × Option Nat :=
  if cs.length ≤ k then (cs, none) else (cs.take (k - 1), some (cs.length - (k - 1)))

/-- The candidates of a frame in the order of R70, of the kinds enabled (R90: bit 0 TRACK, 1 COUNT, 2 ZONE). -/
def candidates (en ens : Nat) (f : Frame) (zev : List ZoneEv) : List Cand :=
  let counts := if en.testBit 1 then (f.counts.map fun c => (2, countWords ens c)) else []
  let zones := if en.testBit 2 then (zev.map fun z => (3, zoneWords z)) else []
  let tracks := if en.testBit 0 then
    ((f.tracks.mergeSort fun a b => if a.conf != b.conf then decide (b.conf < a.conf)
        else decide (a.id ≤ b.id)).map fun t => (1, trackWords t)) else []
  counts ++ zones ++ tracks

/-- The records of a pass, numbered from INDEX `i`, LAST on the final one (R70). -/
def State.formAll (s : State) (k fseq rolled : Nat) : Nat → List Cand → List (List Nat)
  | _, [] => []
  | i, x :: t =>
    s.recordWords x.1 (Num.b2n t.isEmpty) rolled i k fseq x.2.1 x.2.2.1 x.2.2.2 :: s.formAll k fseq rolled (i + 1) t

/-- REASON bits of the frame's own STREAM_STATUS record, or none when the pass writes none (R68, R77, R93). Bit 0 is
REASON[24]. The period counts the passes since the last STREAM_STATUS formed, for whatever reason, and starts again at a SET_PERIOD:
R88 gives a number of frames and no more (assumption 92). -/
def statusBits (st : Stream) (f : Frame) : Option Nat :=
  let first := f.delivered && !st.firstDelivered
  let own := if first then f.reasons &&& 0xFD else f.reasons
  let per := st.period != 0 && decide (st.period ≤ st.sinceStatus + 1)
  if own == 0 && !per && !first then none
  else some (own ||| st.pendingBits ||| (if per then 4 else 0) ||| (if st.statusEver then 0 else 1))

/-- The ensemble handle and kind enables a pass uses. -/
def Stream.ensembleOf (st : Stream) : Nat := (st.pipe.map Pipe.ensemble).getD 0

/-- Words 5 and 6 of the STREAM_STATUS record of frame `f`: the header facts it was decoded with, or the stream's where it never came so
far (R77). -/
def Stream.statusFacts (st : Stream) (f : Frame) : Nat × Nat :=
  if f.hdr5 != 0 then (f.hdr5, f.hdr6)
  else match st.lastFacts with
    | none => (0, 0)
    | some h => (factWord5 h, factWord6 h)

/-- The records of the flue pass of frame `f` with REASON bits `bits` and zone events `zev`, and what its budget suppressed (R68 to
R79). -/
def State.passRecords (s : State) (k : Nat) (st : Stream) (f : Frame) (bits : Option Nat) (zev : List ZoneEv) :
    List Cand × Option Nat :=
  let b := budgetCut (s.get .FLU_BUDGET_BITS k / 256)
    (if f.isDrop then [] else candidates (s.get .FLU_KIND_EN k) st.ensembleOf f zev)
  let status : List Cand := match bits with
    | none => []
    | some r => [(4, (st.statusFacts f).1, (st.statusFacts f).2 + 2 ^ 24 * r, min st.drops 65535 + 65536 * min st.errors 65535)]
  let gap : List Cand := match b.2 with
    | none => []
    | some n => [(5, 1 + 65536 * min n 65535, wrap32 f.fseq, wrap32 f.fseq)]
  (status ++ b.1 ++ gap, b.2)

/-- The GAPs with REASON 3 that stand before the records of frame `f`: the frames lost at a takeover, before the first frame fed (R87), and
those before a rolled frame (R412). -/
def State.passGaps (s : State) (k : Nat) (st : Stream) (f : Frame) : List (List Nat) :=
  let fed : List (List Nat) := match if f.rolled then none else st.takeoverGap with
    | none => []
    | some l =>
      let n := sub32 f.fseq (l + 1)
      if n == 0 || decide (2 ^ 31 ≤ n) then [] else [s.gapWords k 3 n (l + 1) (f.fseq + 2 ^ 32 - 1)]
  let before : List (List Nat) := match f.gapBefore with
    | none => []
    | some (a, b) => [s.gapWords k 3 (sub32 (b + 1) a) a b]
  fed ++ before

/-- The flue pass of frame `f`, the first of stream `k`, starts: its records are formed at this tick (R68, R71). A STREAM_STATUS record
formed counts as the stream's, whether or not the ring takes it (R93; assumption 93). Records in `bad` lie in staging lines with an
uncorrectable error and are discarded (R92). -/
def State.beginPass (s : State) (k : Nat) (st : Stream) (f : Frame) (bad : List Nat) : State :=
  let s := if s.fenced then s else s.set .LAST_ACTIVE 0 1
  let st := { st with drops := st.drops + Num.b2n f.isDrop, errors := st.errors + f.errs }
  let bits := statusBits st f
  let zr := if f.isDrop then ([], st.zoneMem)
            else if f.zoneTab.isSome then (f.zevents, st.zoneMem) else evalZones st.zones st.tracks f.tracks st.zoneMem
  let r := s.passRecords k st f bits zr.1
  let own := s.formAll k f.fseq (Num.b2n f.rolled) 0 r.1
  let good := (own.zipIdx).filter fun p => !bad.contains p.2
  let s := match r.2 with
    | none => s
    | some n => (s.inc .FLU_BUDGET_GAPS k).inc .FLU_SUPPRESSED k n
  let s := s.inc .FLU_RING_DROPS k (own.length - good.length)
  s.setStream k { st with
    pass := some { fseq := f.fseq, headDue := false, wrote := false
                   todo := (s.passGaps k st f).map (fun w => (false, w)) ++ good.map fun p => (true, p.1) }
    zoneMem := zr.2
    takeoverGap := if f.rolled then st.takeoverGap else none
    firstDelivered := st.firstDelivered || f.delivered
    statusEver := st.statusEver || bits.isSome
    pendingBits := if bits.isSome then 0 else st.pendingBits
    drops := if bits.isSome then 0 else st.drops
    errors := if bits.isSome then 0 else st.errors
    sinceStatus := if bits.isSome then 0 else st.sinceStatus + 1 }

def State.setPass (s : State) (k : Nat) (p : Option FluePass) : State := s.modStream k fun st => { st with pass := p }

/-- One posted write of the pass of stream `k` (R82): word 0 of a record whose other words are out, or the words 1 to 7 of the next one
that the ring takes. A fence in between discards the rest (R35, R94). -/
def State.passWrite (s : State) (k c : Nat) (p : FluePass) : State :=
  match p.todo with
  | [] => s
  | (own, ws) :: t =>
    if s.fenced then s.setPass k (some { p with todo := [], headDue := false })
    else if p.headDue then
      let s := s.setPass k (some { p with todo := t, headDue := false, wrote := p.wrote || own && !s.linkClosed && !s.held })
      if s.linkClosed || s.held then s.dropRecord c k p.fseq else s.writeHead c k ws
    else
      let r := s.meetRing c k p.fseq
      if r.2 then (r.1.writeWords c ws).setPass k (some { p with headDue := true })
      else r.1.setPass k (some { p with todo := t })

/-- Up to `n` posted writes of the pass. -/
def passWrites : Nat → State → Nat → Nat → State
  | 0, s, _, _ => s
  | n + 1, s, k, c =>
    match (s.stream? k).bind Stream.pass with
    | none => s
    | some p => if p.todo.isEmpty then s else passWrites n (s.passWrite k c p) k c

/-- The pass ends: the client is signalled where a record of it was written (R86), the frame leaves the path. -/
def State.endPass (s : State) (k c : Nat) (p : FluePass) : State :=
  let s := s.dropJobs fun j => j.stream == k && j.fseq == p.fseq && j.kind == .flue
  let s := s.modStream k fun st => { st with
    pass := none
    frames := st.frames.filter fun g => g.fseq != p.fseq
    closeDone := if st.closingPkt.isSome then st.closeDone + 1 else st.closeDone }
  let s := if p.wrote then s.passSignal c else s
  ((s.flushGaps c).dropSync c).streamSync k

/-- The pass of stream `k` goes on with up to `n` posted writes, and ends when none is left. -/
def State.goOnPass (s : State) (k c n : Nat) : State :=
  let s := passWrites n s k c
  match (s.stream? k).bind Stream.pass with
  | none => s
  | some p => if p.todo.isEmpty then s.endPass k c p else (s.dropSync c).streamSync k

/-- The pass of the first frame of stream `k` may start: its jobs are complete or it is dropped, its job has an entry, and no record of its
client stands half written (R68, R282). -/
def State.passDue (s : State) (k : Nat) (st : Stream) (f : Frame) : Bool :=
  st.pass.isNone && (f.phase == .tracked || f.phase == .dropped) &&
    s.jobs.any fun j => j.stream == k && j.fseq == f.fseq && j.kind == .flue && j.entry

/-- FLUE_PASS (R68, R82, R94): the pass of the first frame of stream `k`, or `n` posted writes of it. -/
def execFluePass (k n : Nat) (bad : List Nat) (s : State) : Result :=
  match s.stream? k with
  | none => .next s
  | some st =>
    let c := st.owner
    let mine := st.pass.any FluePass.headDue || !s.halfRecord c
    match st.frames with
    | [] => .next s
    | f :: _ =>
      if st.pass.isSome then doneIf s (s.enginesRun && mine) (s.goOnPass k c n)
      else doneIf s (s.enginesRun && mine && s.passDue k st f) ((s.beginPass k st f bad).goOnPass k c n)

/-- The close's STREAM_STATUS record (R94): REASON bit [31], the stream's F as FSEQ (assumption 12). -/
def State.closeStatus (s : State) (k : Nat) (st : Stream) : State :=
  let c := st.owner
  let facts := match st.lastFacts with
    | none => (0, 0)
    | some h => (factWord5 h, factWord6 h)
  let bits := 128 ||| st.pendingBits ||| (if st.statusEver then 0 else 1)
  let fseq := st.f.getD 0
  let r := s.putRecord c k fseq (s.recordWords 4 1 0 0 k fseq facts.1 (facts.2 + 2 ^ 24 * bits)
    (min st.drops 65535 + 65536 * min st.errors 65535))
  let s := if r.2 then r.1.passSignal c else r.1
  (s.flushGaps c).dropSync c

/-! ## FLUE_CONFIG (R88, R198) -/

/-- The checks of FLUE_CONFIG that come before the zone table is read (R198, R533 steps 2 to 4). -/
def State.flueChecks (s : State) (p : Pkt) : List (Bool × Reply) :=
  let set := slice (p.w 2) 20 16
  let b := slice (p.w 3) 15 0
  let zc := slice (p.w 4) 22 16
  let ceil := s.get .FLU_CEILING
  let owner : List (Bool × Reply) :=
    if set == 16 then []
    else match s.stream? p.stream with
      | none => [word 2 false]
      | some st => [word 2 st.closingPkt.isNone, (st.owner == p.client, Reply.notPermitted 1)]
  [word 2 (set != 0 && p.zeroBits 2 15 7 && p.zeroBits 2 31 21),
   word 3 (p.zeroBits 3 23 19 && p.zeroBits 3 31 25 && (!(set.testBit 0) || (decide (256 ≤ b) && b % 256 == 0))),
   (!(set.testBit 0) || decide (b ≤ ceil), ⟨stAdmitFlue, 0, ceil, 0, 0, 0⟩),
   word 4 (p.zeroBits 4 31 23 && (!(set.testBit 3) || decide (zc ≤ 64))),
   (!(set.testBit 3) || (p.hostBuf 5 (32 * zc) 64).1, Reply.bad 5)] ++ owner

def State.flueConfig (s : State) (zones : Bytes) (p : Pkt) : State :=
  let set := slice (p.w 2) 20 16
  let k := p.stream
  let b := slice (p.w 3) 15 0
  let zc := slice (p.w 4) 22 16
  let ceil := s.get .FLU_CEILING
  let entries := chunks 32 zc zones
  s.checked p
    (s.flueChecks p ++ [((badZone 0 entries).isNone || !(set.testBit 3), Reply.badStruct ((badZone 0 entries).getD 0))])
    fun s =>
      let zb : Option (Option (Nat × Nat) × State) :=
        if set.testBit 3 && zc != 0 then (s.alloc false (32 * zc) none).map fun r => (some (r.1, 65536), r.2)
        else some (none, s)
      match zb with
      | none => (s.allocRefused).complete p.id (Reply.noResource 2)
      | some (buf, s1) =>
        let s := if set.testBit 0 then s1.set .FLU_BUDGET_BITS k (min b ceil) else s1
        let s := if set.testBit 1 then s.set .FLU_KIND_EN k (slice (p.w 3) 18 16) else s
        let s := if set.testBit 2 then s.modStream k fun st => { st with period := slice (p.w 4) 15 0, sinceStatus := 0 } else s
        let s : State := if set.testBit 3 then
            let s : State := match (s.stream? k).bind Stream.zonesBuf with
              | none => s
              | some o => s.free o.1
            let s : State := match buf with
              | none => s
              | some a => { s with dram := memWrite s.dram a.1 (zones.take (32 * zc)) }
            ((s.modStream k fun st =>
              { st with zones := entries.map parseZone, zonesBuf := buf, zoneMem := [], hist := [], histBad := false }).set .FLU_ZONES k zc).set
                .TS_HIST_FILL k 0 |>.poolSync
          else s
        let s := if set.testBit 4 then s.set .META_POLICY p.client (slice (p.w 3) 24 24) else s
        s.complete p.id (Reply.ok)

/-- A FLUE_CONFIG that sets zones reads their table. -/
def Pkt.readsZones (p : Pkt) : Bool := (p.w 2).testBit 19 && slice (p.w 4) 22 16 != 0

/-- Where the table lies in host memory, and its bytes (R89, R198). -/
def Pkt.zoneTable (p : Pkt) : Option (Nat × Nat) := if p.readsZones then some (p.w64 5, 32 * slice (p.w 4) 22 16) else none

def execFlueConfig (zones : Bytes) (s : State) : Result :=
  startRead 0x30 State.flueChecks (fun p => if p.readsZones then some 2 else none) Pkt.zoneTable (fun s p => s.flueConfig zones p) s

/-! ## METADATA_RING_SET (R92, R199) -/

/-- The checks of METADATA_RING_SET (R199, R184, R92). -/
def State.ringChecks (s : State) (p : Pkt) : List (Bool × Reply) :=
  let log := slice (p.w 4) 4 0
  [p.hostBuf 2 (if log == 0 then 0 else 32 * 2 ^ log) 4096,
   word 4 ((log == 0 || (decide (7 ≤ log) && decide (log ≤ 16))) && p.zeroBits 4 7 5 && p.zeroBits 4 31 10),
   word 5 (p.zeroBits 5 31 17),
   (!(p.w 4).testBit 9 || (match s.fenceFor p.client (slice (p.w 5) 16 0) (p.w 6) with
      | none => false
      | some f => f.creator == p.client), Reply.notPermitted 0),
   (s.streams.all fun e => e.2.owner != p.client, Reply.notPermitted 3)]

def State.metaRingSet (s : State) (p : Pkt) : State :=
  let c := p.client
  let log := slice (p.w 4) 4 0
  let fe := (p.w 4).testBit 9
  let h := slice (p.w 5) 16 0
  s.checked p (s.ringChecks p)
    fun s =>
      let s := ((s.set .META_BASE c (p.w64 2)).set .META_LOG2 c log).set .META_IRQ_EN c (slice (p.w 4) 8 8)
      let s := ((s.set .META_FENCE_EN c (Num.b2n fe)).set .META_FENCE c h)
      ((s.set .META_HEAD c 0).set .META_TAIL c 0).complete p.id (Reply.ok)

def execMetadataRingSet (s : State) : Result := startPkt 0x31 State.metaRingSet s

end Sys2Proof.Machine
end

