-- ==== Sys2Proof/Machine/Streams.lean ====
section
/-! DEFINITION. Sys2Proof/Machine/Streams.lean: STREAM_OPEN to STREAM_RECONFIG, the ingest copy and its end, and the end of a
close (R32 to R34, R191 to R195, R216 to R219, R234, R235). -/

namespace Sys2Proof.Machine

open Sys2Proof.Num (slice gt32 wrap32)

/-! ## STREAM_OPEN (R191) -/

/-- The lowest-numbered free context. -/
def State.freeContext (s : State) : Option Nat :=
  (List.range Config.streams).find? fun k => (Tab.find? k s.streams).isNone

/-- Words 3 and 4 of STREAM_OPEN, which STREAM_RECONFIG takes too: MAX size and FPS_X100. -/
def Pkt.sizeWord (p : Pkt) (i : Nat) : Bool := p.inRange i 15 0 16 4096 && p.inRange i 31 16 16 2304
def Pkt.fpsWord (p : Pkt) (i : Nat) : Bool := p.inRange i 15 0 100 6000 && p.zeroBits i 31 16

/-- The context registers that STREAM_OPEN zeroes (R231), and FLU_STATS (R90). -/
def contextFields : List Field :=
  [.CTX_TAINTED, .CTX_DECODING, .CTX_ENGINE, .CTX_AU_HELD, .CTX_WIDTH, .CTX_HEIGHT, .CTX_PROFILE, .CTX_LEVEL, .CTX_CHROMA,
   .CTX_BIT_DEPTH, .CTX_OUT_WIDTH, .CTX_OUT_HEIGHT, .CTX_LAST_FSEQ, .CTX_DEC_FSEQ, .CTX_FRAMES_DECODED,
   .CTX_FRAMES_CONCEALED, .CTX_FRAMES_DROPPED, .CTX_ERR_COUNT, .CTX_LAST_ERROR, .CTX_F_VALID, .CTX_LAST_ERROR_TICK,
   .CTX_HDR_CHANGES, .FLU_RECORDS, .FLU_BUDGET_GAPS, .FLU_SUPPRESSED, .FLU_RING_DROPS, .FLU_ZONES]

/-- A stream as STREAM_OPEN makes it: in HOLD (R225), no F, ID_EPOCH 0. -/
def newStream (owner codec prio : Nat) (c2 : Bool) (w h fps auK auD : Nat) (bit fb : Nat × Nat) : Stream :=
  { owner := owner, codec := codec, priority := prio, c2 := c2, openW := w, openH := h, maxW := w, maxH := h, fps := fps,
    auMaxKib := auK, auDepth := auD, bitBuf := bit, fbBuf := fb, fbBytes := frameBufBytes codec w h,
    fbCount := frameBufCount codec w h, refs := [], fbOf := [], lastPoc := none, reconf := none, f := none, prevD := 0, frames := [], hold := true,
    lastHdr := none, hdrSeen := false, closingPkt := none, unbindPkt := none, closeDone := 0, closeDisc := 0, statusEver := false,
    firstDelivered := false, pendingBits := 0, drops := 0, errors := 0, period := 0, sinceStatus := 0, pass := none, gap := none,
    takeoverGap := none, pipe := none, zones := [], zonesBuf := none, zoneMem := [], tracks := [], nextTrack := 0, idEpoch := 0,
    hist := [], decimated := false, decParity := false, shed := none, mirror := none, fed := 0, lastTracked := none,
    trackBad := false, histBad := false }

def State.openRegs (s : State) (k : Nat) (st : Stream) : State :=
  let s := contextFields.foldl (fun s f => s.set f k 0) s
  let s := ((s.set .CTX_CODEC k st.codec).set .CTX_PRIORITY k st.priority).set .CTX_CLASS k (Num.b2n st.c2)
  let s := ((s.set .CTX_OWNER k st.owner).set .CTX_MAX_WIDTH k st.maxW).set .CTX_MAX_HEIGHT k st.maxH
  let s := ((s.set .CTX_FPS_X100 k st.fps).set .CTX_AU_MAX_KIB k st.auMaxKib).set .CTX_AU_DEPTH k st.auDepth
  let s := ((s.set .CTX_FB_COUNT k st.fbCount).set .CTX_FB_FREE k st.fbCount).set .CTX_FB_KIB k (st.fbBytes / 1024)
  let s := (s.set .FLU_BUDGET_BITS k (min (s.get .FLU_DEFAULT) (s.get .FLU_CEILING))).set .FLU_KIND_EN k 7
  s.set .PP_BOUND k 0

/-- The checks of STREAM_OPEN (R191). -/
def State.openChecks (s : State) (p : Pkt) : List (Bool × Reply) :=
  [word 2 (slice (p.w 2) 1 0 != 3 && p.zeroBits 2 3 2 && p.zeroBits 2 31 9), word 3 (p.sizeWord 3), word 4 (p.fpsWord 4),
   word 5 (p.inRange 5 13 0 1 16383 && p.inRange 5 21 16 2 63 && p.zeroBits 5 15 14 && p.zeroBits 5 31 22),
   (s.get .META_LOG2 p.client != 0, Reply.notPermitted 3)]

def State.streamOpen (s : State) (p : Pkt) : State :=
  let c := p.client
  let codec := slice (p.w 2) 1 0
  let w := slice (p.w 3) 15 0
  let h := slice (p.w 3) 31 16
  let fps := slice (p.w 4) 15 0
  let auK := slice (p.w 5) 13 0
  let auD := slice (p.w 5) 21 16
  s.checked p (s.openChecks p)
    fun s =>
      let fbB := frameBufBytes codec w h
      let d := openDemand codec w h fps auK fbB
      match s.admitCheck d with
      | some code => let r := s.admitRefusal code d; r.1.complete p.id r.2
      | none =>
        match s.freeContext with
        | none => s.complete p.id (Reply.noResource 1)
        | some k =>
          match s.allocAll true (some k) [auK * 1024 * auD, fbB * frameBufCount codec w h] with
          | some ([bit, fb], s1) =>
            let st := newStream c codec (slice (p.w 2) 7 4) ((p.w 2).testBit 8) w h fps auK auD bit fb
            let s := (s1.setStream k st).openRegs k st
            ((s.streamSync k).schSync.poolSync).complete p.id (Reply.ok k (auK * auD))
          | _ => (s.allocRefused).complete p.id (Reply.noResource 2)

def execStreamOpen (s : State) : Result := startPkt 0x10 State.streamOpen s

/-! ## STREAM_FEED (R192, R216, R217) -/

/-- Detail of ABORTED_ROLE (R186). -/
def State.roleDetail (s : State) : Nat := s.role + 256 * Num.b2n (s.leaseLapsed || s.role == 0)

/-- The role refuses feeds: STANDBY, ORPHAN, or a lapsed lease (R192). -/
def State.roleRefuses (s : State) : Bool := s.role == 1 || s.role == 2 || (s.role == 0 && s.get .LEASE_VALID == 0)

def emptyFrame : Frame :=
  { fseq := 0, phase := .held, slot := none, auBytes := 0, auAddr := 0, prevF := none, deadline := 0, accepted := false,
    inHold := false, hung := none, delivered := false, rolled := false, gapBefore := none, reasons := 0, errs := 0, isDrop := false,
    evalFrame := false, actSet := none, fps := 0, c2 := false, pic := 0, issued := false, hdr5 := 0, hdr6 := 0, outW := 0, outH := 0, tracks := [],
    zevents := [], counts := [], zoneTab := none }

/-- F of R192 and its registers. -/
def State.setF (s : State) (k : Nat) (f : Option Nat) : State :=
  ((s.modStream k fun st => { st with f := f }).set .CTX_LAST_FSEQ k (f.getD 0)).set .CTX_F_VALID k (Num.b2n f.isSome)

/-- The checks of STREAM_FEED on the packet (R192, R184, R183). -/
def State.feedChecks (s : State) (p : Pkt) : List (Bool × Reply) :=
  [word 2 (p.zeroBits 2 7 7), p.hostBuf 4 (slice (p.w 2) 31 8) 64] ++ s.streamChecks p false

/-- The checks of STREAM_FEED against its stream, in the order of R192. -/
def State.feedStreamChecks (s : State) (p : Pkt) (st : Stream) : List (Bool × Reply) :=
  [word 2 (decide (1 ≤ slice (p.w 2) 31 8) && decide (slice (p.w 2) 31 8 ≤ st.auMaxKib * 1024)),
   word 3 (match st.f with
     | none => true
     | some f => gt32 (p.w 3) f),
   word 2 (st.pipe.isSome && st.unbindPkt.isNone && s.get .META_LOG2 st.owner != 0),
   (st.shed.isNone, ⟨stStreamShed, st.shed.getD 4, 0, 0, 0, 0⟩),
   (!(s.roleRefuses || p.fenced), ⟨stAbortedRole, s.roleDetail, 0, 0, 0, 0⟩)]

def State.streamFeed (s : State) (p : Pkt) : State :=
  let k := p.stream
  let bytes := slice (p.w 2) 31 8
  let fseq := p.w 3
  s.checked p (s.feedChecks p)
    fun s =>
      match s.stream? k with
      | none => s
      | some st =>
        s.checked p (s.feedStreamChecks p st)
          fun s =>
            match st.freeSlot with
            | none => s.complete p.id (Reply.noResource 5)
            | some slot =>
              let a := st.bitBuf.1 + slot * st.auMaxKib * 1024
              let s := s.addJob { emptyJob with
                kind := .ingest, cls := if st.c2 then 2 else 0, stream := k, fseq := fseq, pkt := some p.id
                deadline := some (s.now + periodOf st.fps), soot := true, outs := asBufs [(a, bytes)] }
              let s := s.modStream k fun st =>
                { st with frames := st.frames ++ [{ emptyFrame with
                    fseq := fseq, phase := .copying p.id, slot := some slot, auBytes := bytes, auAddr := a, prevF := st.f
                    fps := st.fps, c2 := st.c2 }] }
              (((s.setF k (some fseq)).raise a (a + bytes)).startHostRead p.id (p.w64 4) bytes).streamSync k

def execStreamFeed (s : State) : Result := startPkt 0x11 State.streamFeed s

/-- A feed that passed its check ends without an accepted frame: its slot and job go and F returns (R192). -/
def State.unfeed (s : State) (k : Nat) (f : Frame) : State :=
  match s.stream? k with
  | none => s
  | some st =>
    let s := if st.f == some f.fseq then s.setF k f.prevF else s
    let s := s.modStream k fun st => { st with frames := st.frames.filter fun g => g.fseq != f.fseq }
    (s.dropJobs fun j => j.stream == k && j.fseq == f.fseq && j.kind == .ingest).streamSync k

/-- A fence falls: it is marked in every packet fetched before it (R192). -/
def State.fencePackets (s : State) : State := { s with packets := s.packets.map fun p => { p with fenced := true } }

/-- A fence has fallen since packet `id` was fetched, or stands (R192). -/
def State.feedFenced (s : State) (id : Nat) : Bool := s.roleRefuses || (s.pkt? id).any Pkt.fenced

/-- The copy of frame `f` of stream `k` for packet `id` has ended: `au` stands in its slot (R216, R219). A feed fetched before the fence
and not yet copied completes with ABORTED_ROLE (R192). -/
def State.copyDone (s : State) (k id : Nat) (f : Frame) (au : Bytes) : State :=
  match s.stream? k with
  | none => s
  | some st =>
    let s := ({ s with dram := memWrite s.dram f.auAddr au } : State).rewritten (f.auAddr, f.auBytes)
    if s.feedFenced id then (s.unfeed k f).complete id ⟨stAbortedRole, s.roleDetail, 0, 0, 0, 0⟩
    else match ingestFault st.codec au with
    | some code =>
      ((s.unfeed k f).modStream k fun st => { st with errors := st.errors + 1 }).complete id ⟨stStreamError, code, 0, 0, 0, 0⟩
    | none =>
      let s := s.dropJobs fun j => j.stream == k && j.fseq == f.fseq && j.kind == .ingest
      let d := max s.now st.prevD + periodOf st.fps
      let s := s.modStream k fun st =>
        { (st.modFrame f.fseq fun g => { g with phase := .held, deadline := d, accepted := true }) with
          prevD := d, fed := st.fed + 1 }
      let s : State :=
        if st.closingPkt.isSome then
          s.modStream k fun st =>
            { st with frames := st.frames.filter fun g => g.fseq != f.fseq, closeDisc := st.closeDisc + 1 }
        else if st.shed.isSome then
          let r := st.pendingBits
          s.notDelivered k f.fseq (r &&& reasonShed) |>.modStream k fun st => { st with pendingBits := r - (r &&& reasonShed) }
        else if st.pipe.isNone || st.unbindPkt.isSome then s.notDelivered k f.fseq 0
        else s
      (s.streamSync k).complete id (Reply.ok (st.auHeld + 1))

/-- FEED_COPY_DONE: the access unit of a feed has come whole from host memory. -/
def execFeedCopyDone (k fseq : Nat) (au : Bytes) (s : State) : Result :=
  match (s.stream? k).bind fun st => st.frame? fseq with
  | none => .next s
  | some f =>
    match f.phase with
    | .copying id =>
      doneIf s (s.isReady && s.thermal.isNone && s.coresRun && s.readMayEnd id && au.length == f.auBytes &&
        s.jobs.any fun j => j.stream == k && j.fseq == fseq && j.kind == .ingest && j.entry)
        ((s.endRead id).copyDone k id f au)
    | _ => .next s

/-! ## STREAM_FLUSH (R193) -/

/-- The checks of STREAM_FLUSH and STREAM_CLOSE (R193, R194, R183). -/
def State.flushChecks (s : State) (p : Pkt) : List (Bool × Reply) := word 2 (p.zeroBits 2 31 7) :: s.streamChecks p true

def State.streamFlush (s : State) (p : Pkt) : State :=
  s.checked p (s.flushChecks p) fun s =>
    let r := s.discardHeld p.stream 0
    let b := r.1.abandonBuild p.stream
    b.1.complete p.id (Reply.ok r.2 (Num.b2n b.2))

def execStreamFlush (s : State) : Result := startPkt 0x12 State.streamFlush s

/-! ## STREAM_CLOSE (R34, R194, R235) -/

/-- The engine that holds stream `k` lets it go. -/
def State.releaseEngine (s : State) (k e : Nat) : State := (s.set .DEC_BUSY e 0).set .CTX_DECODING k 0

/-- The close starts: access units not yet decoded, the one in decode too, are discarded; jobs of the stream that wait for
an entry are cancelled and their frames dropped (R305). -/
def State.startClose (s : State) (k id : Nat) : State :=
  let s := (s.haltMirror k).dropDecodes k
  match s.stream? k with
  | none => s
  | some st =>
    let s : State := st.frames.foldl (fun s f => match f.phase with
      | .decoding e => s.releaseEngine k e
      | _ => s) s
    let gone (f : Frame) : Bool := f.phase == .held || f.phase.isDecoding
    let s := s.dropJobs fun j => j.stream == k && j.kind == .decode
    let s := s.setStream k { st with
      closingPkt := some id, frames := st.frames.filter fun f => !gone f
      closeDisc := st.frames.countP gone }
    let wait := (s.jobs.filter fun j => j.stream == k && !j.entry && j.kind != .ingest && j.kind != .flue && !j.ofMirror).map Job.fseq
    let s := (wait.eraseDups).foldl (fun s q => s.dropFrame k q 0) s
    s.streamSync k

def State.streamClose (s : State) (p : Pkt) : State :=
  s.checked p (s.flushChecks p) fun s => s.startClose p.stream p.id

def execStreamClose (s : State) : Result := startPkt 0x13 State.streamClose s

/-- The buffers of a stream and of its pipeline. -/
def Stream.buffers (st : Stream) : List (Nat × Nat) :=
  [st.bitBuf, st.fbBuf] ++ (st.pipe.map Pipe.bufs).getD [] ++ st.zonesBuf.toList ++ (st.mirror.map MirrorSt.bufs).getD []

/-- A stream ends: its buffers return with their tags and its mark, its demand and reductions go, its context is FREE
(R194, R231). -/
def State.endStream (s : State) (k : Nat) : State :=
  match s.stream? k with
  | none => s
  | some st =>
    let s := (s.freeAll st.buffers).freeUnits fun j => j.stream == k
    let s := { s with streams := Tab.del k s.streams, jobs := s.jobs.filter fun j => j.stream != k }
    let s := ((s.set .CTX_STATE k 0).set .PP_BOUND k 0).set .TS_ENSEMBLE k 0
    let s := ((s.set .MS_ENABLE k 0).set .SS_NET_TICKS k 0).set .SS_DRAM_MBPS k 0
    ((s.set .SS_DECIMATED k 0).set .SS_SHED k 0).forgetReductions k

/-- STREAM_CLOSE_COMPLETE (R34): nothing of the stream is left on the path. -/
def State.closeComplete (s : State) (k id : Nat) (st : Stream) : State :=
  let s := s.closeStatus k st
  let s : State := match st.unbindPkt with
    | none => s
    | some u => s.complete u (Reply.ok)
  let s := (s.endStream k).dropSync st.owner
  (s.recompute.poolSync).complete id (Reply.ok st.closeDone st.closeDisc)

def execStreamCloseComplete (k : Nat) (s : State) : Result :=
  match s.stream? k with
  | none => .next s
  | some st =>
    match st.closingPkt with
    | none => .next s
    | some id =>
      doneIf s (s.coresRun && st.frames.isEmpty && !s.halfRecord st.owner && s.jobs.all fun j => j.stream != k || j.ofMirror)
        (s.closeComplete k id st)

/-! ## STREAM_RECONFIG (R195, R234) -/

/-- The waiting settings apply: an engine takes the context (R33). -/
def State.applyReconf (s : State) (k : Nat) : State :=
  match s.stream? k with
  | none => s
  | some st =>
    if st.reconf.isNone then s
    else
      let t := st.settled
      let s := s.setStream k t
      let s := ((s.set .CTX_MAX_WIDTH k t.maxW).set .CTX_MAX_HEIGHT k t.maxH).set .CTX_FPS_X100 k t.fps
      (s.set .CTX_PRIORITY k t.priority).set .CTX_CLASS k (Num.b2n t.c2)

/-- The checks of STREAM_RECONFIG on the packet (R195). -/
def State.reconfigChecks (s : State) (p : Pkt) : List (Bool × Reply) :=
  [word 2 (p.zeroBits 2 7 7 && p.zeroBits 2 31 13), word 3 (p.sizeWord 3), word 4 (p.fpsWord 4)] ++ s.streamChecks p false

/-- The settings of STREAM_RECONFIG wait in the stream (R33). -/
def Stream.withReconf (st : Stream) (p : Pkt) : Stream :=
  { st with reconf := some (slice (p.w 3) 15 0, slice (p.w 3) 31 16, slice (p.w 4) 15 0, slice (p.w 2) 11 8, (p.w 2).testBit 12) }

/-- The checks of STREAM_RECONFIG against its stream: the size opened, and the mirror's at the new rate (R195, R391). -/
def Stream.reconfigChecks (st : Stream) (p : Pkt) : List (Bool × Reply) :=
  [word 3 (decide (slice (p.w 3) 15 0 ≤ st.openW) && decide (slice (p.w 3) 31 16 ≤ st.openH)),
   word 4 (match st.mirror, st.pipe.bind Pipe.mirrorCrop with
     | some m, some c => (mirrorChecks m.cfg (slice (p.w 4) 15 0) c.rotH).all Prod.snd
     | _, _ => true)]

/-- What a stream would demand if it were neither paused nor shed (R195, R291). -/
def State.fullDemand (s : State) (st : Stream) : Demand := s.streamDemand { st with shed := none }

/-- The admission of a reconfiguration from `st` to `st'`: the budget that refuses it. Raising the PRIORITY of a shed stream is refused
while STEP is not 0 (R291, R512). -/
def State.reconfigRefused (s : State) (st st' : Stream) : Option Nat :=
  if st.shed.isSome && s.get .SCH_STEP != 0 && decide (st.settled.priority < st'.settled.priority) then some (s.get .SCH_CAUSE)
  else s.admitCheck ((s.fullDemand st).raise (s.fullDemand st'))

def State.streamReconfig (s : State) (p : Pkt) : State :=
  let k := p.stream
  s.checked p (s.reconfigChecks p)
    fun s =>
      match s.stream? k with
      | none => s
      | some st =>
        let st' := st.withReconf p
        s.checked p (st.reconfigChecks p) fun s =>
          match s.reconfigRefused st st' with
          | some code =>
            let r := s.admitRefusal code ((s.fullDemand st).raise (s.fullDemand st'))
            r.1.complete p.id r.2
          | none => ((s.setStream k st').recompute).complete p.id (Reply.ok)

def execStreamReconfig (s : State) : Result := startPkt 0x14 State.streamReconfig s

end Sys2Proof.Machine
end

