-- ==== Sys2Proof/Machine/Decoders.lean ====
section
/-! DEFINITION. Sys2Proof/Machine/Decoders.lean: the decode engines (R218 to R230), the unit faults and self-tests they share
with the other engines (R278, R321), and frame deadlines (R285). -/

namespace Sys2Proof.Machine

open Sys2Proof.Num (b2n)

/-! ## The verdict on an access unit (R224 to R227) -/

/-- What the end of a decode or of a HOLD parse decides. -/
structure Verdict where
  errs : List Nat := []          -- decode errors in order (R226)
  hold : Bool                    -- HOLD afterwards
  taint : Bool                   -- TAINTED afterwards
  decoded : Bool := false
  deliver : Bool := false
  concealed : Bool := false
  newHeader : Bool := false      -- a change of header facts was accepted
  shown : Option Nat := none      -- a refusal in HOLD, shown and not counted (R225)
  deriving DecidableEq, Repr

/-- A random access point: an IDR picture, an IRAP picture, any JPEG image (R224). -/
def Stream.isRap (st : Stream) (au : AuFacts) : Bool := st.codec == 2 || au.rap

/-- The picture starts a coded video sequence (R221): every IDR picture and JPEG image, and an IRAP picture that says so or that
decoding starts with. -/
def Stream.startsSeq (st : Stream) (au : AuFacts) : Bool := st.isRap au && (st.codec != 1 || au.newSeq || st.hold)

/-- The headers active in an access unit: its own, or the stream's last. -/
def Stream.active (st : Stream) (au : AuFacts) : Option Header := au.header.orElse fun _ => st.lastHdr

/-- The access unit changes the header facts; a first set accepted is no change (R233). -/
def Stream.changes (st : Stream) (au : AuFacts) : Bool :=
  au.header.isSome && st.hdrSeen && au.header.map Header.facts != st.lastFacts

/-- The access unit's samples are decoded: it is refused neither by the HOLD (R225) nor by an error marked HOLD (R226). -/
def Stream.takes (st : Stream) (au : AuFacts) : Bool :=
  !au.paramSetErr && (st.isRap au || !st.hold && !st.changes au) &&
  match st.active au with
  | none => !st.hold
  | some h => (headerFault st h).isNone

/-- The facts of an access unit are shown (R225, R231, R235): in HOLD, only those of a random access point. -/
def Stream.shows (st : Stream) (au : AuFacts) : Bool := !st.hold || (st.isRap au && !au.paramSetErr)

/-- The picture order count is not greater than that of the picture decoded before it in its sequence (R221). -/
def Stream.reorders (st : Stream) (out : DecodeOutcome) : Bool :=
  st.codec != 2 && !st.startsSeq out.au && st.lastPoc.any fun p => decide (out.poc ≤ p)

/-- A picture that is decoded (R221, R226, R227). -/
def decodedVerdict (st : Stream) (tainted : Bool) (out : DecodeOutcome) : Verdict :=
  let heavy := decide (0 < out.concealed) && decide (out.total ≤ 4 * out.concealed)
  let reorder := st.reorders out
  let errs := (if out.refMissing then [0x0107] else if 0 < out.concealed then [0x0106] else []) ++
    (if reorder then [0x0108] else []) ++ (if out.jpegErr then [0x010B] else [])
  let t := if out.refMissing || heavy then true else if st.isRap out.au && errs.isEmpty then false else tainted
  { errs := errs, hold := false, taint := t, decoded := true
    deliver := !out.refMissing && !heavy && !reorder && !out.jpegErr && out.output && !t
    concealed := decide (0 < out.concealed) && !heavy && !out.refMissing, newHeader := st.changes out.au }

/-- The verdict on one access unit (R224 to R227). -/
def verdict (st : Stream) (tainted : Bool) (out : DecodeOutcome) : Verdict :=
  let au := out.au
  let fault := (st.active au).bind (headerFault st)
  if st.takes au then decodedVerdict st tainted (out.ofCodec st.codec)
  else if st.hold then { hold := true, taint := tainted, shown := if st.isRap au && !au.paramSetErr then fault else none }
  else if au.paramSetErr || !st.isRap au && st.changes au then { errs := [0x0105], hold := true, taint := tainted }
  else { errs := fault.toList, hold := true, taint := tainted }

/-- As `v`, where the access unit or a reference that was read is poisoned (R343): the frame is not delivered, no STREAM_ERROR is raised of
the one, and the other taints. -/
def Verdict.poisoned (v : Verdict) (unit ref : Bool) : Verdict :=
  { v with errs := if unit then [] else v.errs, deliver := v.deliver && !unit && !(ref && v.decoded), taint := v.taint || (ref && v.decoded) }

/-- The pictures the decoded picture buffer holds after a decode: the earlier ones are released with an accepted change of header (R224),
and it holds DPB of them (R222). -/
def Stream.refsAfter (st : Stream) (fseq : Nat) (changed : Bool) (refs : List Nat) : List Nat :=
  ((refs.filter fun r => r == fseq || (!changed && st.refs.contains r)).eraseDups).take (dpb st.codec st.openW st.openH)

/-! ## Start (R218) -/

/-- The access unit the stream would decode next, with nothing of it in decode: the first fed and not yet decoded, once its copy has
ended (R218). -/
def Stream.nextAu (st : Stream) : Option Frame :=
  if st.frames.any fun f => f.phase.isDecoding then none
  else (st.frames.find? fun f => f.phase == .held || f.phase.isCopying).filter fun f => f.phase == .held

/-- A ready context (R218). -/
def State.ctxReady (s : State) (st : Stream) : Bool :=
  st.nextAu.isSome && decide (0 < st.fbFree) && st.shed.isNone && st.closingPkt.isNone && st.pipe.isSome &&
  s.entryFree (if st.c2 then 2 else 0) false

/-- C0 before C2, the earlier deadline, the lower stream number (R218, R247). -/
def frameBefore (a b : Nat × Bool × Nat) : Bool :=
  if a.2.1 != b.2.1 then !a.2.1 else if a.2.2 != b.2.2 then decide (a.2.2 < b.2.2) else decide (a.1 < b.1)

def firstFrame : List (Nat × Bool × Nat) → Option (Nat × Bool × Nat)
  | [] => none
  | a :: t =>
    match firstFrame t with
    | none => some a
    | some b => if frameBefore b a then some b else some a

def State.nextDecode (s : State) : Option Nat :=
  (firstFrame (s.streams.filterMap fun e =>
    if s.ctxReady e.2 then e.2.nextAu.map fun f => (e.1, e.2.c2, f.deadline) else none)).map Prod.fst

/-- The engine that chooses next: the lowest-numbered in service and free (R218). -/
def State.nextEngine (s : State) : Option Nat :=
  (List.range 8).find? fun e => s.get .DEC_IN_SERVICE e == 1 && s.get .DEC_BUSY e == 0

/-- Engine `e` takes the context of stream `k` at its frame boundary: waiting settings apply and the frame is held to them (R33), its
output takes a free frame buffer, sooted (R42, R222). -/
def State.takeContext (s : State) (e k : Nat) : State :=
  let s := s.applyReconf k
  match s.stream? k with
  | none => s
  | some st =>
    match st.nextAu with
    | none => s
    | some f =>
      let f := { f with fps := st.fps, c2 := st.c2, phase := .decoding e, inHold := st.hold }
      let st := (st.modFrame f.fseq fun _ => f).placeFb f.fseq
      let outs := (st.fbAt f.fseq).toList
      let s := (s.setStream k st).addJob { emptyJob with
        kind := .decode, cls := f.jobClass, stream := k, fseq := f.fseq, deadline := some f.da, unit := some (.dec e), soot := true
        since := s.now, ins := asBufs ((f.auAddr, f.auBytes) :: st.refBufs), outs := asBufs outs }
      let s := outs.foldl State.raiseBuf s
      let s := (s.set .DEC_BUSY e 1).set .DEC_STREAM e k
      ((s.set .CTX_DECODING k 1).set .CTX_ENGINE k e).streamSync k

def execDecodeStart (e : Nat) (s : State) : Result :=
  if 8 ≤ e then .fault .noSuchInstance
  else
    match s.nextDecode with
    | none => .next s
    | some k => doneIf s (s.enginesRun && s.nextEngine == some e) (s.takeContext e k)

/-! ## End (R221, R224 to R228) -/

/-- One decode error of frame `fseq` (R226, R228). -/
def State.decodeError (s : State) (k fseq code : Nat) : State :=
  let s := ((s.inc .CTX_ERR_COUNT k).set .CTX_LAST_ERROR k code).set .CTX_LAST_ERROR_TICK k s.now
  s.modFrame k fseq fun f => { f with errs := f.errs + 1, reasons := f.reasons ||| 16 }

/-- The header registers show the facts of an access unit (R223, R225, R231). A random access point refused in the initial HOLD is shown
too: R225 says so of every HOLD, and R233, which has the fields read 0 until the first is accepted, would hide it (DESIGN CHOICE,
assumption 98). -/
def State.showFacts (s : State) (k : Nat) (hdr : Header) : State :=
  let h := hdr.facts
  let s := ((s.set .CTX_WIDTH k h.width).set .CTX_HEIGHT k h.height).set .CTX_PROFILE k h.profile
  let s := ((s.set .CTX_LEVEL k h.level).set .CTX_CHROMA k h.chroma).set .CTX_BIT_DEPTH k h.bitDepth
  ((s.set .CTX_OUT_WIDTH k h.outW).set .CTX_OUT_HEIGHT k h.outH).modStream k fun st => { st with lastHdr := some hdr }

/-- The frame engine `e` holds, with its stream. -/
def State.inDecode (s : State) (e : Nat) : Option (Nat × Stream × Frame) :=
  s.streams.findSome? fun x => (x.2.frames.find? fun f => f.phase == .decoding e).map fun f => (x.1, x.2, f)

/-- A delivered frame goes to the pre-processor, or is skipped: its geometry is invalid (R240), its stream is decimated and
the frame falls on the skipped half (R257, R503), or its deadline has passed (R285). -/
def State.deliver (s : State) (k : Nat) (f : Frame) : State :=
  match s.stream? k with
  | none => s
  | some st =>
    let bad := match st.pipe with
      | none => true
      | some p => p.crops.any fun c => !c.valid f.outW f.outH
    let s := s.modFrame k f.fseq fun g => { g with phase := .decoded, delivered := true, slot := none }
    if f.isDrop then s.dropFrame k f.fseq 0
    else if bad then ((s.dropBatch k f.fseq 0).inc .PP_SKIPPED k).inc .CTX_FRAMES_DROPPED k
    else if st.decimated then
      let s := s.modStream k fun st => { st with decParity := !st.decParity }
      if st.decParity then (s.dropFrame k f.fseq 32).inc .PP_SKIPPED k else s
    else s

/-- The crop geometry registers for an output size, and GEOMETRY where a crop is invalid at it (R239, R240, R255). -/
def State.showGeometry (s : State) (k ow oh : Nat) : State :=
  match (s.stream? k).bind Stream.pipe with
  | none => s
  | some p =>
    let s := s.set .PP_GEOMETRY k (b2n (p.crops.any fun c => !c.valid ow oh))
    let g (i : Nat) : Nat × Nat × Nat × Nat := match p.crops[i]? with
      | none => (0, 0, 0, 0)
      | some c => c.geom ow oh
    let s := (((s.set .PP_X0P0 k (g 0).1).set .PP_Y0P0 k (g 0).2.1).set .PP_WP0 k (g 0).2.2.1).set .PP_HP0 k (g 0).2.2.2
    let s := (((s.set .PP_X0P1 k (g 1).1).set .PP_Y0P1 k (g 1).2.1).set .PP_WP1 k (g 1).2.2.1).set .PP_HP1 k (g 1).2.2.2
    let s := (((s.set .PP_X0P2 k (g 2).1).set .PP_Y0P2 k (g 2).2.1).set .PP_WP2 k (g 2).2.2.1).set .PP_HP2 k (g 2).2.2.2
    (((s.set .PP_X0P3 k (g 3).1).set .PP_Y0P3 k (g 3).2.1).set .PP_WP3 k (g 3).2.2.1).set .PP_HP3 k (g 3).2.2.2

/-- The engine is done with the frame: it is free, the job and the slot go. -/
def State.endDecode (s : State) (k e : Nat) (f : Frame) : State :=
  let s := (s.releaseEngine k e).dropJobs fun j => j.unit == some (.dec e)
  s.modFrame k f.fseq fun g => { g with slot := none }

/-- What decides on access unit `f`: the stream as it was when the engine took it (R225, R235). -/
def Stream.asTaken (st : Stream) (f : Frame) : Stream := { st with hold := f.inHold }

/-- The stream's HOLD after a verdict: one entered while the frame was in hand stands (R225, R235). -/
def Stream.holdAfter (st : Stream) (f : Frame) (v : Verdict) : Bool := (st.hold && !f.inHold) || v.hold

/-- The headers of an access unit that is decoded stand (R224, R225, R233, R235): HDR_CHANGES and REASON bit [25] for a change, RUN, and the
geometry for the first frame after a change or a HOLD (R240, R256). `st` is the stream as the engine took the frame. -/
def State.acceptHeader (s : State) (k : Nat) (st : Stream) (f : Frame) (au : AuFacts) : State :=
  let changed := st.changes au
  let s := s.modStream k fun t => { t with
    hdrSeen := true, hold := t.hold && !f.inHold, refs := if changed then [] else t.refs, lastPoc := if changed then none else t.lastPoc }
  let s := if changed then (s.inc .CTX_HDR_CHANGES k).modFrame k f.fseq fun g => { g with reasons := g.reasons ||| 2 } else s
  match st.active au with
  | some h => if changed || f.inHold then s.showGeometry k h.outW h.outH else s
  | none => s

/-- The facts of the access unit of frame `f`, as the registers and the frame's records show them (R223, R231, R235). -/
def State.noteFacts (s : State) (k : Nat) (st : Stream) (f : Frame) (au : AuFacts) : State :=
  let s : State := match au.header with
    | none => s
    | some h => if st.shows au then s.showFacts k h else s
  match (s.stream? k).bind Stream.lastFacts with
  | none => s
  | some h => s.modFrame k f.fseq fun g => { g with hdr5 := factWord5 h, hdr6 := factWord6 h, outW := h.outW, outH := h.outH }

/-- The samples of a decoded picture are new free values (R221; assumption 13). -/
def State.newPicture (s : State) (k fseq : Nat) : State :=
  { s.modFrame k fseq fun g => { g with pic := s.freeCtr } with freeCtr := s.freeCtr + 1 }

def State.decodeDone (s : State) (e k : Nat) (st : Stream) (f : Frame) (out : DecodeOutcome) : State :=
  let st := st.asTaken f
  let v := (verdict st (s.get .CTX_TAINTED k == 1) out).poisoned (s.poisonIn [(f.auAddr, f.auBytes)]) (s.poisonIn st.refBufs)
  let s := (st.fbAt f.fseq).toList.foldl State.rewritten s
  let s := (((s.endDecode k e f).inc .DEC_FRAMES e).noteFacts k st f out.au).set .CTX_TAINTED k (b2n v.taint)
  let s : State :=
    if v.decoded then
      let s := (s.acceptHeader k st f out.au).modStream k fun t =>
        { t with refs := st.refsAfter f.fseq v.newHeader (out.ofCodec st.codec).refs, lastPoc := some out.poc }
      ((s.newPicture k f.fseq).inc .CTX_FRAMES_DECODED k).set .CTX_DEC_FSEQ k f.fseq
    else s.modStream k fun t => { t with hold := t.holdAfter f v }
  let s := v.errs.foldl (fun s c => s.decodeError k f.fseq c) s
  let s : State := match v.shown with
    | none => s
    | some c => (s.set .CTX_LAST_ERROR k c).set .CTX_LAST_ERROR_TICK k s.now
  let s := if v.concealed then s.inc .CTX_FRAMES_CONCEALED k else s
  let s := match (s.stream? k).bind fun t => t.frame? f.fseq with
    | none => s
    | some g => if v.deliver then s.deliver k g else s.notDelivered k f.fseq 0
  s.streamSync k

/-- DECODE_DONE (R221): the decode or parse on engine `e` ends. -/
def execDecodeDone (e : Nat) (out : DecodeOutcome) (s : State) : Result :=
  match s.inDecode e with
  | none => .next s
  | some (k, st, f) =>
    doneIf s (s.enginesRun && s.get .DEC_IN_SERVICE e == 1 && out.au.fits st.codec) (s.decodeDone e k st f out)

/-- A frame abandoned with an error that taints (R220, R230); a change of header in it stands where its samples were being decoded
(R235). -/
def State.abandonDecode (s : State) (k e : Nat) (st : Stream) (f : Frame) (au : AuFacts) (code : Nat) : State :=
  let st := st.asTaken f
  let s := ((s.endDecode k e f).noteFacts k st f au).set .CTX_DEC_FSEQ k f.fseq
  let s := if st.takes au then s.acceptHeader k st f au else s
  let s := s.decodeError k f.fseq code
  ((s.set .CTX_TAINTED k 1).notDelivered k f.fseq 0).streamSync k

/-- DECODE_OVERRUN (R220): L ticks after its start the frame is still in decode. A parse is no decode (R225). -/
def execDecodeOverrun (e : Nat) (au : AuFacts) (s : State) : Result :=
  match s.inDecode e with
  | none => .next s
  | some (k, st, f) =>
    let lim := 4 * Num.cdiv (codedBound st.codec st.maxW st.maxH) 500
    doneIf s (s.enginesRun && au.fits st.codec && (st.asTaken f).takes au &&
        s.jobs.any fun j => j.unit == some (.dec e) && decide (j.since + lim ≤ s.now))
      (s.abandonDecode k e st f au 0x0109)

/-! ## Unit faults -/

/-- ENGINE_FAULT is captured; its consequence `body` and the recomputation follow where the precedence applies it (R111,
R112). -/
def State.engineFault (s : State) (src n : Nat) (body : State → State) : State :=
  let s := s.inRank 11 src
  let t := s.treatment 11
  let s := s.capture 11 src n 0 0
  match t with
  | .apply => (body s).recompute
  | _ => s

/-- A unit fault `b` of source `src` takes `s` to `t`. A unit in FAULT records it (R113); one that WDG_SYS has reset in this tick only
captures it (R112). -/
def unitFaultCmd (s : State) (src : Nat) (b : Bool) (t : State) : Result :=
  if s.wdgResetNow && !s.isReady then done ((s.inRank 11 src).capture 11 src 0 0 0)
  else doneIf s ((s.isReady || s.isFault) && b) t

/-- The engine an access unit hung before, where it hangs engine after engine (R230). -/
def Frame.hungBefore (f : Frame) (cause : Nat) : Option Nat := if cause == 2 then f.hung else none

/-- DECODE_ENGINE_FAULT (R229, R230): cause 1 parity, 2 hang. The second hang of one access unit raises no further
ENGINE_FAULT and removes no capacity on its own: both engines run their self-test (assumption 82). `au`: what has been read of the
access unit by then. -/
def State.decodeEngineFault (s : State) (e cause : Nat) (au : AuFacts) : State :=
  let s := ((s.set .DEC_IN_SERVICE e 0).set .DEC_FAULTED e 1).set .DEC_CAUSE e cause
  match s.inDecode e with
  | none => s.engineFault (0x100 + e) 0 id
  | some (k, st, f) =>
    match f.hungBefore cause with
    | some e0 =>
      (({ s with keptDecs := e :: s.keptDecs } : State).abandonDecode k e st f au 0x010A |>.set .DEC_SELFTEST e 1).set .DEC_SELFTEST e0 1
    | none =>
      s.engineFault (0x100 + e) 1 fun s =>
        let s := (s.releaseEngine k e).dropJobs fun j => j.unit == some (.dec e)
        (s.modFrame k f.fseq fun g =>
          { g with phase := .held, hung := if cause == 2 then some e else g.hung }).streamSync k

/-- The engine has made no progress for 1,000 ticks, which takes an access unit in hand that long (R229). -/
def State.decHung (s : State) (e : Nat) : Bool := s.jobs.any fun j => j.unit == some (.dec e) && decide (j.since + 1000 ≤ s.now)

def execDecodeEngineFault (e cause : Nat) (au : AuFacts) (s : State) : Result :=
  if 8 ≤ e then .fault .noSuchInstance
  else unitFaultCmd s (0x100 + e)
    (s.get .DEC_IN_SERVICE e == 1 && (cause == 1 || cause == 2 && s.decHung e) && (s.inDecode e).all fun x => au.fits x.2.1.codec)
    (s.decodeEngineFault e cause au)

/-- Lanes in service, from TRE_LANE_OUT (R323). -/
def State.laneSync (s : State) : State :=
  let n := 16 - Num.popcount 16 (s.get .TRE_LANE_OUT)
  (s.set .TRE_LANES 0 n).set .TRE_IN_SERVICE 0 (b2n (n != 0))

/-- The self-test of a unit ends (R230, R278, R321, R397). -/
def State.selftest (s : State) (u : UnitName) (ok : Bool) : State :=
  let back (s : State) (svc flt tst cau : Field) (i good : Nat) : State :=
    let s := s.set tst i 0
    if ok then ((s.set svc i 1).set flt i 0).set cau i good else s.set cau i 3
  let s := match u with
    | .dec n => back { s with keptDecs := s.keptDecs.filter fun e => e != n } .DEC_IN_SERVICE .DEC_FAULTED .DEC_SELFTEST .DEC_CAUSE n 4
    | .array n => back s .AR_IN_SERVICE .AR_FAULTED .AR_SELFTEST .AR_CAUSE n 5
    | .cluster n => back s .CL_IN_SERVICE .CL_FAULTED .CL_SELFTEST .CL_CAUSE n 5
    | .fft => let s := back s .FFT_IN_SERVICE .FFT_FAULTED .FFT_SELFTEST .FFT_CAUSE 0 5
              if ok then s.set .FFT_FALLBACK 0 0 else s
    | .menc n => back s .MENC_IN_SERVICE .MENC_FAULTED .MENC_SELFTEST .MENC_CAUSE n 5
    | .lane n =>
      let s := { s with laneTests := s.laneTests.filter fun l => l != n }
      let s := s.set .TRE_SELFTEST 0 (b2n (!s.laneTests.isEmpty))
      if ok then ((s.set .TRE_LANE_OUT 0 (Num.setBit (s.get .TRE_LANE_OUT) n false)).set .TRE_CAUSE 0 5).laneSync
      else s.set .TRE_CAUSE 0 3
  s.recompute

/-- A unit is in its self-test. -/
def State.inSelftest (s : State) : UnitName → Bool
  | .dec n => s.get .DEC_SELFTEST n == 1
  | .array n => s.get .AR_SELFTEST n == 1
  | .cluster n => s.get .CL_SELFTEST n == 1
  | .fft => s.get .FFT_SELFTEST == 1
  | .menc n => s.get .MENC_SELFTEST n == 1
  | .lane n => s.laneTests.contains n

def execSelftestDone (unit : UnitName) (passed : Bool) (s : State) : Result :=
  doneIf s (s.isReady && s.inSelftest unit) (s.selftest unit passed)

/-! ## Deadlines (R285) -/

/-- TICK_NOW has passed DA(k) with jobs of the frame unissued: it is dropped for analysis. A frame not yet decoded is still
decoded, a batch in the pre-processor still built, and the frame dropped then; a batch is a dropped identifier (R251). -/
def State.deadline (s : State) (k : Nat) (f : Frame) : State :=
  let s := ((s.inc .SCH_DEADLINE_DROPS).inc .SS_DROPS k)
  if f.phase == .held || f.phase.isDecoding || f.phase == .building then
    s.modFrame k f.fseq fun g => { g with isDrop := true, reasons := g.reasons ||| 8 }
  else if f.phase == .queued then s.dropBatch k f.fseq 8
  else s.dropFrame k f.fseq 8

/-- The frame's mirror jobs that no encoder has taken by their deadline: each becomes a dropped picture (R386). -/
def State.lateMirror (s : State) (k fseq : Nat) : List Job :=
  s.jobs.filter fun j => j.stream == k && j.fseq == fseq && j.encodes && j.unit.isNone && j.failedOn.isNone &&
    decide ((j.deadline.getD 0) < s.now)

def execFrameDeadline (k fseq : Nat) (s : State) : Result :=
  match s.stream? k with
  | none => .next s
  | some st =>
    let late := s.lateMirror k fseq
    let s1 := late.foldl (fun s j => s.giveUpMirror j) s
    match st.frame? fseq with
    | none => doneIf s (s.enginesRun && !late.isEmpty) s1
    | some f =>
      let due := f.phase == .held || f.phase.isDecoding || f.phase == .decoded || f.phase == .building ||
        (f.phase == .queued && s.jobs.any fun j => j.stream == k && j.fseq == fseq && j.unit.isNone && !j.ofMirror) ||
        (f.phase == .tracked && st.pass.all fun p => p.fseq != fseq)
      let drop := !f.isDrop && due && decide (f.da < s.now)
      doneIf s (s.enginesRun && (drop || !late.isEmpty)) (if drop then s1.deadline k f else s1)

end Sys2Proof.Machine
end

