-- ==== Sys2Proof/Machine/Tracker.lean ====
section
/-! DEFINITION. Sys2Proof/Machine/Tracker.lean: the tracker job (R73, R273, R274, R372) and the tree job (R306 to R308,
R314 to R317), as exact integer functions of the tables they read. -/

namespace Sys2Proof.Machine

open Sys2Proof.Num (u8 u16 u32 toSigned rheDiv clampInt cdiv)

/-! ## Tracker -/

/-- IoU in Q16 on pixel areas; 0 where the union is empty (R274). -/
def iou (ax0 ay0 ax1 ay1 bx0 by0 bx1 by1 : Int) : Nat :=
  let area (x0 y0 x1 y1 : Int) : Int := max 0 (x1 - x0) * max 0 (y1 - y0)
  let inter := area (max ax0 bx0) (max ay0 by0) (min ax1 bx1) (min ay1 by1)
  let uni := area ax0 ay0 ax1 ay1 + area bx0 by0 bx1 by1 - inter
  if uni ≤ 0 then 0 else (inter * 65536 / uni).toNat

def detIou (a b : Det) : Nat := iou a.x0 a.y0 a.x1 a.y1 b.x0 b.y0 b.x1 b.y1
def trackIou (t : Track) (d : Det) : Nat := iou t.x0 t.y0 t.x1 t.y1 d.x0 d.y0 d.x1 d.y1

/-- An entry of the detection table: four u16 pixels, c16, CLASS and CROP, and 4 reserved bytes (R273). -/
def detOf (b : Bytes) : Det := ⟨u16 b 0, u16 b 2, u16 b 4, u16 b 6, u16 b 8, u8 b 10, u8 b 11⟩

/-- The detections of a table: a count word, then up to 1,024 entries of 16 bytes (R273). -/
def detTable (b : Bytes) : List Det := (chunks 16 (min (u32 b 0) 1024) (b.drop 4)).map detOf

/-- Descending c16, ties by the lower entry index. -/
def detOrder (l : List (Nat × Det)) : List (Nat × Det) :=
  l.mergeSort fun a b => if a.2.c16 != b.2.c16 then decide (b.2.c16 < a.2.c16) else decide (a.1 ≤ b.1)

/-- Step 1: the detections kept, by the suppression of R274. A detection of a crop the descriptor lacks is discarded. -/
def suppress (nms : Nat) : List (Nat × Det) → List (Nat × Det) → List (Nat × Det)
  | kept, [] => kept
  | kept, d :: t =>
    if kept.any fun k => k.2.crop == d.2.crop && k.2.cls == d.2.cls && decide (nms < detIou d.2 k.2) then suppress nms kept t
    else suppress nms (kept ++ [d]) t

def keptDets (par : TrackerPar) (ncrop : Nat) (ds : List Det) : List (Nat × Det) :=
  suppress par.nmsIou [] (detOrder (((ds.zipIdx).map fun p => (p.2, p.1)).filter fun p =>
    decide (par.detMin ≤ p.2.c16) && decide (p.2.crop < ncrop)))

/-- Step 2: the predicted box, within u16 (R372). -/
def Track.predict (t : Track) : Track :=
  let mv (x v : Int) : Int := clampInt (x + rheDiv v 256) 0 65535
  { t with x0 := mv t.x0 t.vx0, y0 := mv t.y0 t.vy0, x1 := mv t.x1 t.vx1, y1 := mv t.y1 t.vy1, age := min 255 (t.age + 1) }

/-- The identity of a track, in ascending TRACK_ID (R274); of two with one TRACK_ID, the lower ID_EPOCH first. -/
def Track.order (t : Track) : Nat := t.id * 256 + t.epoch

/-- Step 3: greedy matching in descending IoU, then lower TRACK_ID, then lower entry index. Pairs are (IoU, identity,
entry). -/
def greedy : List (Nat × Nat × Nat) → List (Nat × Nat) → List (Nat × Nat)
  | [], m => m
  | (_, t, d) :: rest, m => if m.any fun p => p.1 == t || p.2 == d then greedy rest m else greedy rest (m ++ [(t, d)])

def matching (gate : Nat) (ts : List Track) (ds : List (Nat × Det)) : List (Nat × Nat) :=
  let ps := ts.flatMap fun t => ds.filterMap fun d =>
    if d.2.crop == t.crop && d.2.cls == t.cls && decide (gate ≤ trackIou t d.2) then some (trackIou t d.2, t.order, d.1) else none
  greedy (ps.mergeSort fun a b => if a.1 != b.1 then decide (b.1 < a.1)
    else if a.2.1 != b.2.1 then decide (a.2.1 < b.2.1) else decide (a.2.2 ≤ b.2.2)) []

/-- Step 4: a matched track, from its box `o` before the prediction. -/
def Track.matched (par : TrackerPar) (o t : Track) (d : Det) : Track :=
  let vel (v : Int) (n : Nat) (x : Int) : Int := clampInt (rheDiv (3 * v + ((n : Int) - x) * 256) 4) (-32768) 32767
  let hits := min 255 (t.hits + 1)
  { t with
    x0 := d.x0, y0 := d.y0, x1 := d.x1, y1 := d.y1
    vx0 := vel t.vx0 d.x0 o.x0, vy0 := vel t.vy0 d.y0 o.y0, vx1 := vel t.vx1 d.x1 o.x1, vy1 := vel t.vy1 d.y1 o.y1
    c16 := d.c16, hits := hits, misses := 0, state := if t.state != 0 || par.nConfirm ≤ hits then 1 else 0 }

/-- Step 5: an unmatched track: gone without a record, coasting, or ended (STATE 3). -/
def Track.unmatched (par : TrackerPar) (t : Track) : Option Track :=
  if t.state == 0 then none
  else
    let m := t.misses + 1
    some { t with misses := m, state := if par.maxCoast < m then 3 else 2 }

/-- Step 6: births in descending c16 while fewer than MAX_TRACKS are live, the `others` of the stream among them: the tracks, the next TRACK_ID and ID_EPOCH
(R72, R92). -/
def births (par : TrackerPar) (others : Nat) : List (Nat × Det) → List Track → Nat → Nat → List Track × Nat × Nat
  | [], live, nid, ep => (live, nid, ep)
  | (_, d) :: rest, live, nid, ep =>
    if d.c16 < par.birthConf || par.maxTracks ≤ others + live.length then births par others rest live nid ep
    else
      let t : Track :=
        { id := nid, epoch := ep, x0 := d.x0, y0 := d.y0, x1 := d.x1, y1 := d.y1, vx0 := 0, vy0 := 0, vx1 := 0, vy1 := 0,
          c16 := d.c16, cls := d.cls, crop := d.crop, hits := 1, misses := 0, age := 0, state := 0 }
      births par others rest (live ++ [t]) ((nid + 1) % 2 ^ 24) (if nid + 1 == 2 ^ 24 then (ep + 1) % 256 else ep)

/-- What a tracker job makes: live tracks, ended tracks, identities of the new ones, next TRACK_ID, ID_EPOCH. -/
structure TrackRun where
  live : List Track
  ended : List Track
  born : List Nat
  nid : Nat
  epoch : Nat
  deriving DecidableEq, Repr

/-- The tracker job (R274) on tracks `ts` and detections `ds`, in a stream with `others` further live tracks that it leaves alone
(R412). -/
def runTracker (par : TrackerPar) (ncrop others : Nat) (ts : List Track) (nid epoch : Nat) (ds : List Det) : TrackRun :=
  let kept := keptDets par ncrop ds
  let ps := ts.map fun t => (t, t.predict)
  let m := matching par.gate (ps.map Prod.snd) kept
  let next := ps.filterMap fun p =>
    match m.find? fun q => q.1 == p.2.order with
    | none => p.2.unmatched par
    | some q =>
      match kept.find? fun d => d.1 == q.2 with
      | none => p.2.unmatched par
      | some d => some (Track.matched par p.1 p.2 d.2)
  let live := next.filter fun t => t.state != 3
  let free := detOrder (kept.filter fun d => !(m.any fun q => q.2 == d.1))
  let b := births par others free live nid epoch
  ⟨b.1, next.filter fun t => t.state == 3, ((b.1.drop live.length).map Track.order), b.2.1, b.2.2⟩

/-- R73: the quantised box of a track in a crop of w by h. -/
def Track.out (t : Track) (w h : Nat) (isNew : Bool) : TrackOut :=
  let x := fun (v : Int) => v.toNat
  let qx0 := min 63 (x t.x0 * 64 / w)
  let qx1 := min 64 (max (qx0 + 1) (cdiv (x t.x1 * 64) w))
  let qy0 := min 63 (x t.y0 * 64 / h)
  let qy1 := min 64 (max (qy0 + 1) (cdiv (x t.y1 * 64) h))
  { id := t.id, epoch := t.epoch, qx0 := qx0, qy0 := qy0, qw := qx1 - qx0, qh := qy1 - qy0, conf := t.c16 / 1024, state := t.state,
    cls := t.cls, age := t.age, crop := t.crop, speed := t.vx0.natAbs + t.vy0.natAbs, isNew := isNew }

/-- The tracker output of a run: live tracks, then the ended ones. -/
def TrackRun.outs (r : TrackRun) (crops : List Crop) : List TrackOut :=
  (r.live ++ r.ended).map fun t =>
    match crops[t.crop]? with
    | none => t.out 1 1 (r.born.contains t.order)
    | some c => t.out (max c.rotW 1) (max c.rotH 1) (r.born.contains t.order)

/-! ## Trees -/

def sat32 (x : Int) : Int := clampInt x (-(2 ^ 31)) (2 ^ 31 - 1)

/-- Membership of a track in a zone: the reference-point test; a line has no members (R307). -/
def memberOf (z : Zone) (t : TrackOut) : Bool := z.type == 1 && insidePoly z.verts t.point

/-- The raw features of one slot (R307) from its members and its zone events. -/
def rawFeatures (ms : List TrackOut) (evs : List ZoneEv) : List Int :=
  let cc := ms.filter fun t => t.state == 1 || t.state == 2
  let cnt (p : TrackOut → Bool) : Int := (ms.countP p : Nat)
  let ev (e : Nat) : Int := (evs.countP fun x => x.event == e : Nat)
  let sum (f : TrackOut → Nat) : Int := ((cc.map f).foldl (· + ·) 0 : Nat)
  (([cnt fun t => t.state == 1, cnt fun t => t.state == 2, cnt fun t => t.state == 0, cnt fun t => t.isNew,
     cnt fun t => t.state == 3, ev 0, ev 1, ev 2, ev 3, sum fun t => t.qw * t.qh, sum fun t => min t.age 255,
     sum fun t => t.speed, sum fun t => t.conf, 0, 0, 0] : List Int) ++
   (List.range 16).map fun k => ((cc.countP fun t => t.cls == k : Nat) : Int)).map sat32

/-- A slot's raw vector; all zero where its zone is disabled or not loaded (R306). Slot 64, or slot 0 in mode 0, is the
whole stream. -/
def slotRaw (zs : List Zone) (ts : List TrackOut) (evs : List ZoneEv) (whole : Bool) (z : Nat) : List Int :=
  if whole then rawFeatures ts evs
  else
    match zs[z]? with
    | none => List.replicate 32 0
    | some zn => if zn.type == 0 then List.replicate 32 0
                 else rawFeatures (ts.filter (memberOf zn)) (evs.filter fun e => e.zone == z)

/-- The slots of a mode as (slot key, whole stream or not). -/
def slotsOf (mode : Nat) : List (Nat × Bool) :=
  if mode == 0 then [(0, true)]
  else (List.range 64).map (fun z => (z, false)) ++ (if mode == 2 then [(64, true)] else [])

/-- The raw vectors of one tree job, by slot. -/
def rawVectors (mode : Nat) (zs : List Zone) (ts : List TrackOut) (evs : List ZoneEv) : List (Nat × List Int) :=
  (slotsOf mode).map fun p => (p.1, slotRaw zs ts evs p.2 p.1)

/-- Raw feature `r` of slot `z` at a lag; 0 where no job has written it (R308). -/
def rawAt (hist : List (List (Nat × List Int))) (z r lag : Nat) : Int :=
  match hist[lag]? with
  | none => 0
  | some v => ((Tab.find? z v).getD []).getD r 0

/-- One feature of the front stage (R314). `b` is the image, `e` the feature entry. -/
def feature (b e : Bytes) (hist : List (List (Nat × List Int))) (z : Nat) : Nat :=
  let op := u8 e 0
  let a := rawAt hist z (u8 e 1 % 32) (u8 e 3 % 8)
  let c := rawAt hist z (u8 e 2 % 32) (u8 e 3 / 16 % 8)
  if op == 3 then
    ((List.range 32).filter fun i => decide (toSigned 32 (u32 b (u32 b 28 + 128 * u8 e 7 + 4 * i)) ≤ a)).length
  else
    let x := if op == 0 then a else if op == 1 then a - c else a * c
    (clampInt (rheDiv (x * toSigned 16 (u16 e 4)) (2 ^ u8 e 6) + toSigned 32 (u32 e 8)) 0 65535).toNat

/-- The leaf a tree reaches in `d` levels from node `n` (R315). `t` is the tree block. -/
def walk (t : Bytes) (f : List Nat) : Nat → Nat → Nat
  | 0, n => n
  | d + 1, n =>
    let w := u32 t (4 * n)
    walk t f d (if f.getD (w % 1024) 0 < w / 65536 then 2 * n + 1 else 2 * n + 2)

def leafValue (o : Obj) (f : List Nat) (t : Nat) : Int :=
  let blk := (o.image.drop (u32 o.image 36 + t * treeBytes o.depth)).take (treeBytes o.depth)
  toSigned 32 (u32 blk (4 * walk blk f o.depth 0))

/-- The scaled outputs of one slot (R316): output index and Y. -/
def slotOutputs (o : Obj) (hist : List (List (Nat × List Int))) (z : Nat) : List (Nat × Int) :=
  let b := o.image
  let feats := (chunks 16 o.nFeat (b.drop (u32 b 24))).map fun e => feature b e hist z
  (List.range o.nOut).map fun k =>
    let e := (b.drop (u32 b 32 + 16 * k)).take 16
    let lo := if k == 0 then 0 else u32 (b.drop (u32 b 32 + 16 * (k - 1))) 0
    let sum := ((List.range (u32 e 0 - lo)).map fun i => leafValue o feats (lo + i)).foldl (· + ·) 0
    (k, sat32 (rheDiv ((sum + toSigned 32 (u32 e 4)) * toSigned 32 (u32 e 8)) (2 ^ u8 e 12)))

/-- The COUNT candidates of an evaluation frame in ascending OUTPUT, then ZONE, the whole stream last as 0xFF (R306): the
slots of polygon and line zones and of the whole stream. -/
def countsOf (o : Obj) (zs : List Zone) (hist : List (List (Nat × List Int))) : List (Nat × Nat × Int) :=
  let live := (slotsOf o.sampleMode).filter fun p => p.2 || (match zs[p.1]? with
    | none => false
    | some z => z.type != 0)
  let per := live.map fun p => (if p.2 then 255 else p.1, slotOutputs o hist p.1)
  (List.range o.nOut).flatMap fun k => per.map fun q => (k, q.1, ((Tab.find? k q.2).getD 0))

end Sys2Proof.Machine
end

