-- ==== Sys2Proof/Machine/Epoch.lean ====
section
/-! DEFINITION. Sys2Proof/Machine/Epoch.lean: mirror epochs (R370 to R373): the records and their bytes, what the ACTIVE unit
queues, what the STANDBY applies or discards; and what a change of role does (R404, R410). -/

namespace Sys2Proof.Machine

open Sys2Proof.Num (u8 u16 u32 u64 leBytes toSigned ofSigned sub32 gt32 b2n)

/-! ## Records (R371, R372) -/

def zeros (n : Nat) : Bytes := List.replicate n 0#8

/-- A bit per number that `p` holds of, as a 64-bit mask. -/
def mask64 (p : Nat → Bool) : Nat := ((List.range 64).filter p).foldl (fun n i => n + 2 ^ i) 0

/-- Whether some memory of track `t` in zone `z` satisfies `p`. -/
def zoneBit (mem : List ZoneMem) (t : Track) (p : ZoneMem → Bool) (z : Nat) : Bool :=
  mem.any fun m => m.zone == z && m.id == t.id && m.epoch == t.epoch && p m

/-- A track entry (R372). -/
def trackBytes (mem : List ZoneMem) (t : Track) : Bytes :=
  leBytes 4 (t.id % 2 ^ 24 + 2 ^ 24 * t.epoch) ++
  ([t.x0, t.y0, t.x1, t.y1, t.vx0, t.vy0, t.vx1, t.vy1].flatMap fun v => leBytes 2 (ofSigned 16 v)) ++
  leBytes 2 t.c16 ++ leBytes 1 t.cls ++ leBytes 1 t.crop ++ leBytes 1 t.state ++ leBytes 1 t.hits ++ leBytes 1 t.misses ++
  leBytes 1 t.age ++ zeros 4 ++
  leBytes 8 (mask64 (zoneBit mem t fun m => m.inside)) ++ leBytes 8 (mask64 (zoneBit mem t fun m => m.side == 1)) ++
  leBytes 8 (mask64 (zoneBit mem t fun m => m.side != 0)) ++ zeros 8 ++
  (List.range 64).flatMap fun z =>
    leBytes 1 (min 255 (((mem.find? fun m => m.zone == z && m.id == t.id && m.epoch == t.epoch).map ZoneMem.dwell).getD 0))

def snapshotBytes (n : Nat) : Nat := 64 + 1024 + 128 * n

/-- A SNAPSHOT record. -/
def Snap.bytes (x : Snap) : Bytes :=
  let n := x.tracks.length
  [2#8] ++ leBytes 1 x.stream ++ leBytes 2 n ++ leBytes 4 x.fseq ++ leBytes 3 x.nextTrack ++ leBytes 1 x.idEpoch ++
  leBytes 1 x.histFill ++ zeros 3 ++ leBytes 4 (snapshotBytes n) ++ zeros 44 ++
  ((List.range 8).flatMap fun lag => (List.range 32).flatMap fun r => leBytes 4 (ofSigned 32 ((x.hist.getD lag []).getD r 0))) ++
  (x.tracks.mergeSort fun a b => decide (a.id ≤ b.id)).flatMap (trackBytes x.zoneMem)

/-- A BEGIN record. -/
def beginBytes (epoch tick gen : Nat) (streams : List Nat) : Bytes :=
  [1#8] ++ zeros 3 ++ leBytes 4 epoch ++ leBytes 8 tick ++ leBytes 8 gen ++
  leBytes 16 (streams.foldl (fun n k => n + 2 ^ k) 0) ++ zeros 24

/-- A COMMIT record. -/
def commitBytes (epoch n bytes tick : Nat) : Bytes :=
  [3#8] ++ zeros 3 ++ leBytes 4 epoch ++ leBytes 2 n ++ zeros 2 ++ leBytes 4 bytes ++ leBytes 8 tick ++ zeros 40

/-- The track and the zone memory in an entry. -/
def parseTrack (b : Bytes) : Track :=
  let i16 (o : Nat) : Int := toSigned 16 (u16 b o)
  { id := u32 b 0 % 2 ^ 24, epoch := u8 b 3, x0 := u16 b 4, y0 := u16 b 6, x1 := u16 b 8, y1 := u16 b 10
    vx0 := i16 12, vy0 := i16 14, vx1 := i16 16, vy1 := i16 18, c16 := u16 b 20, cls := u8 b 22, crop := u8 b 23
    state := u8 b 24, hits := u8 b 25, misses := u8 b 26, age := u8 b 27 }

def parseZoneMem (b : Bytes) : List ZoneMem :=
  ((List.range 64).map fun z =>
    ({ zone := z, epoch := u8 b 3, id := u32 b 0 % 2 ^ 24, inside := (u64 b 32).testBit z
       side := if (u64 b 48).testBit z then (if (u64 b 40).testBit z then 1 else 2) else 0
       dwell := u8 b (64 + z) } : ZoneMem)).filter fun m => m.inside || m.side != 0 || m.dwell != 0

/-- The snapshot in a record that starts at byte `off` of its epoch. -/
def parseSnap (off : Nat) (b : Bytes) : Snap :=
  let es := chunks 128 (u16 b 2) (b.drop 1088)
  { off := off, stream := u8 b 1, fseq := u32 b 4, nextTrack := u32 b 8 % 2 ^ 24, idEpoch := u8 b 11, histFill := u8 b 12
    hist := (List.range 8).map fun lag => (List.range 32).map fun r => toSigned 32 (u32 b (64 + 128 * lag + 4 * r))
    tracks := es.map parseTrack, zoneMem := es.flatMap parseZoneMem }

/-! ## Sending (R370) -/

/-- The slot of the tree history a snapshot carries: the whole stream's. -/
def histSlot (mode : Nat) : Nat := if mode == 2 then 64 else 0

/-- The bodies a record travels in: at most 256 bytes each (R352). -/
def bodiesN : Nat → Bytes → List Bytes
  | 0, _ => []
  | n + 1, b => if b.isEmpty then [] else b.take 256 :: bodiesN n (b.drop 256)

def bodies (b : Bytes) : List Bytes := bodiesN (b.length / 256 + 1) b

/-- A record joins the epoch's bytes, in the buffer that is not the committed one (assumption 81), sooted (R370). -/
def State.queueRecord (s : State) (b : Bytes) : State :=
  let s := s.raiseBuf (s.epochBuf (s.w.eBuf + 1) + s.w.epochBytes, b.length)
  { s with w.epochQ := s.w.epochQ ++ bodies b, w.epochBytes := s.w.epochBytes + b.length }

/-- COMMIT follows the last snapshot. -/
def State.queueCommit (s : State) : State :=
  if s.w.epochOpen && s.w.snapWait.isEmpty then
    s.queueRecord (commitBytes s.w.epoch s.w.snapDone s.w.epochBytes s.now)
  else s

/-- Stream `k` of an epoch in progress is snapshotted: the state its last completed tracker job left. -/
def State.takeSnap (s : State) (k : Nat) : State :=
  if !s.w.snapWait.contains k then s
  else
    let s := { s with w.snapWait := s.w.snapWait.filter fun i => i != k }
    match s.stream? k with
    | none => s.queueCommit
    | some st =>
      let mode := (((st.pipe.bind fun p => Tab.find? (p.ensemble % 65536) s.objects)).map Obj.sampleMode).getD 0
      let d := s.draw (2 ^ 32)
      let s := if st.lastTracked.isNone then d.2 else s
      let x : Snap :=
        { stream := k, fseq := st.lastTracked.getD d.1, nextTrack := st.nextTrack, idEpoch := st.idEpoch
          histFill := st.hist.length, hist := st.hist.map fun v => (Tab.find? (histSlot mode) v).getD []
          tracks := st.tracks, zoneMem := st.zoneMem }
      ({ s.queueRecord x.bytes with w.snapDone := s.w.snapDone + 1 }).queueCommit

/-- The epoch in progress is abandoned: its remaining frames are not sent. -/
def State.cutEpoch (s : State) : State :=
  if s.w.epochOpen then
    { s with w.epochOpen := false, w.snapWait := [], w.epochQ := [] }.inc .WRN_EPOCH_ABANDONED
  else s

/-- The mirrored streams (R369). -/
def State.mirroredStreams (s : State) : List Nat := (s.streams.filter fun e => e.2.mirrored).map Prod.fst

/-- EPOCH_START: E(n) has come. -/
def State.epochStart (s : State) (e len : Nat) : State :=
  let s := s.cutEpoch
  let ks := s.mirroredStreams
  let n := Num.wrap32 (s.w.epoch + 1)
  let s := { s with
    w.e := some (e + len, s.epochMs * 1000), w.epoch := n, w.epochOpen := true, w.snapWait := ks, w.snapDone := 0, w.epochBytes := 0 }
  (s.queueRecord (beginBytes n (e + len) s.storedGen ks)).queueCommit

def execEpochStart (s : State) : Result :=
  match s.w.e with
  | none => .next s
  | some (e, len) => doneIf s (s.isReady && s.sendsMirror && decide (e + len ≤ s.now)) (s.epochStart e len)

/-- SNAPSHOT_DEADLINE: half an epoch after E(n) every stream still waited for is snapshotted as it stands. -/
def execSnapshotDeadline (s : State) : Result :=
  match s.w.e with
  | none => .next s
  | some (e, _) =>
    doneIf s (s.isReady && s.w.epochOpen && !s.w.snapWait.isEmpty && decide (e + s.epochMs * 500 ≤ s.now))
      (s.w.snapWait.foldl State.takeSnap s)

/-! ## Receiving (R373) -/

/-- The epoch numbered `n` is discarded; the rest of its frames mean nothing. -/
def State.dropEpoch (s : State) (n : Nat) : State :=
  ({ s with w.eRx := none, w.rxSkip := some n }.inc .WRN_EPOCH_DISCARDED).set .WRN_EVENTS 0 (s.get .WRN_EVENTS ||| 8)

/-- The epoch in reception, if any, is discarded. -/
def State.dropReception (s : State) : State :=
  match s.w.eRx with
  | none => s
  | some r => s.dropEpoch r.epoch

/-- A stream received for is open here, with a pipeline bound and mirroring enabled (R405). -/
def State.mirroredHere (s : State) (k : Nat) : Bool := ((s.stream? k).map Stream.mirrored).getD false

/-- An applied epoch releases the pictures a snapshot covers; a full ring's gap ends where the snapshot reaches the oldest
picture held (R373, R399). -/
def State.releasePictures (s : State) (x : Snap) : State :=
  (s.modMirror x.stream fun m =>
    let covered := match m.ring with
      | [] => false
      | o :: _ => !gt32 o.1 x.fseq
    { m with ringGap := m.ringGap && !covered, ring := m.ring.filter fun f => gt32 f.1 x.fseq }).mirrorShow x.stream

/-- A matching COMMIT: the receiving buffer becomes the committed one in one step. -/
def State.applyEpoch (s : State) (r : EpochRx) : State :=
  let s := { s with w.eRx := none, w.eDone := some r.snaps, w.applied := r.epoch, w.eBuf := 1 - s.w.eBuf }
  let s := (s.set .WRN_EPOCH_APPLIED 0 r.epoch).set .HAS_EPOCH 0 1
  r.snaps.foldl State.releasePictures s

/-- The whole records at the head of the bytes received are acted on, one after another. -/
def epochParse : Nat → State → State
  | 0, s => s
  | n + 1, s =>
    match s.w.eRx with
    | none => s
    | some r =>
      let b := r.rest
      if b.length < 64 then s
      else
        let kind := u8 b 0
        if kind == 2 then
          let sz := snapshotBytes (u16 b 2)
          if 256 < u16 b 2 then s.dropEpoch r.epoch
          else if b.length < sz then s
          else
            let x := parseSnap r.bytes b
            let here := s.mirroredHere x.stream
            let s := if here then s else s.inc .GCTL_PAIR_IGNORED
            epochParse n { s with w.eRx := some { r with
              snaps := if here then r.snaps ++ [x] else r.snaps, count := r.count + 1, bytes := r.bytes + sz
              rest := b.drop sz } }
        else if kind == 3 then
          if u32 b 4 == r.epoch && u16 b 8 == r.count && u32 b 12 == r.bytes then s.applyEpoch r else s.dropEpoch r.epoch
        else s.dropEpoch r.epoch

/-- `n` bytes of an epoch are stored from byte `off` on in the receiving epoch buffer, sooted (R42, R367, R373). -/
def State.storeEpoch (s : State) (off n : Nat) : State :=
  s.raise (s.epochBuf (s.w.eBuf + 1) + off) (s.epochBuf (s.w.eBuf + 1) + min epochBufBytes (off + n))

/-- EPOCH bytes `b` of epoch `n` arrive on a STANDBY unit. A BEGIN opens an epoch; it must be the last applied + 1. -/
def State.epochBytes (s : State) (n : Nat) (b : Bytes) : State :=
  match s.w.eRx.filter fun r => r.epoch == n with
  | some r =>
    let all := r.rest ++ b
    let s := s.storeEpoch (r.bytes + r.rest.length) b.length
    epochParse (all.length / 64 + 1) { s with w.eRx := some { r with rest := all } }
  | none =>
    if s.w.rxSkip == some n then s
    else
      let s := s.dropReception
      if b.length < 64 || u8 b 0 != 1 || u32 b 4 != n || n != s.w.applied + 1 then s.dropEpoch n
      else epochParse (b.length / 64 + 1) { (s.storeEpoch 0 b.length) with w.eRx := some ⟨n, [], 0, 64, b.drop 64⟩, w.rxSkip := none }

/-! ## Changes of role (R404, R408, R410) -/

/-- Mirroring stops at once (R403): encode jobs, MAUs and the epoch in progress. -/
def State.stopMirroring (s : State) : State := s.haltMirrors.cutEpoch

/-- The role becomes `r`: a CREDIT reports it, a change otherwise than by PAIR_ROLE is signalled, a lease lasts only on
ACTIVE. -/
def State.setRole (s : State) (r : Nat) (byCommand : Bool) : State :=
  let s := if r == 1 || r == 2 then s.fencePackets else s
  if s.role == r then s
  else
    let was := s.role
    let s := { s.set .ROLE 0 r with w.roleDue := true, leaseLapsed := false }
    let s := if r == 0 then s else (s.set .LEASE_VALID 0 0).set .GCTL_LEASE_END 0 0
    let s := if byCommand then s else s.irq .GCTL_PAIR_IRQ .GCTL_PAIR_IRQ_EN 0 0 2
    let s := if was == 0 then s.stopMirroring else s
    -- what a receiver was in the middle of ends; a new receiver waits for an IDR (R398)
    let s := (s.streams.foldl (fun s e => (s.dropDecodes e.1).modMirror e.1 fun m =>
      { m with rxPos := 0, rxItem := none, rxSynced := false, needIdr := true, ringGap := false }) s)
    { s with w.eRx := none, w.rxSkip := none }.schSync

end Sys2Proof.Machine
end

