-- ==== Sys2Proof/Machine/Jobs.lean ====
section
/-! DEFINITION. Sys2Proof/Machine/Jobs.lean: the jobs of a frame: their creation, entries, page staging, issue, end and
re-issue (R274 to R278, R282 to R285, R296 to R298, R317, R321). -/

namespace Sys2Proof.Machine

open Sys2Proof.Num (b2n)

/-! ## Creation -/

/-- The numbers of the layers in a run that starts at layer place `i`, counting from 1 as INPUT_B does. -/
def runNumbers (i : Nat) (r : List Layer) : List Nat := (List.range r.length).map fun j => i + j + 1

/-- The jobs of one crop from the runs left: `ids` maps layer numbers to the jobs that write them, `prev` is the jobs whose
output the next run reads; the first run reads the batch buffer, the others the frame's activation set, which all of them write. The
answer is the state and the last jobs of the crop. -/
def State.addRuns (s : State) (tmpl : Job) (three fb : Bool) (batch : List JobBuf) :
    Nat → List (List Layer) → List Nat → List (Nat × List Nat) → State × List Nat
  | _, [], prev, _ => (s, prev)
  | i, r :: t, prev, ids =>
    let specs := runJobs (three && i == 0) fb i r
    let second := (r.filter fun l => l.inputB != 0).flatMap fun l => (Tab.find? l.inputB ids).getD []
    let deps := (prev ++ second).eraseDups
    let s1 := specs.foldl (fun s j => s.addJob { tmpl with
      kind := j.kind, cycles := j.cycles, mode := j.mode, tile := j.tile, layer := j.layer, pages := j.pages, work := j.work, deps := deps
      ins := if prev.isEmpty then batch else [.act], outs := [.act], batch := if prev.isEmpty then tmpl.batch else none }) s
    let mine := (List.range specs.length).map (s.nextJob + ·)
    let out := if specs.isEmpty then prev else mine
    s1.addRuns tmpl three fb batch (i + r.length) t out (ids ++ (runNumbers i r).map fun n => (n, out))

/-- The network, tracker and tree jobs of a frame whose batch has entered the queue (R282); a rolled frame has the MIRROR
crop alone (R412). A tracker or tree job also follows those of the stream's earlier frames, whose track state it reads. -/
def State.addFrameJobs (s : State) (k : Nat) (p : Pipe) (f : Frame) (batch : Option Nat) : State :=
  match s.obj? p.model with
  | none => s
  | some o =>
    let tmpl : Job := { emptyJob with
      cls := f.jobClass, stream := k, fseq := f.fseq, deadline := some f.da, batch := batch, obj := p.model }
    let track := asBufs (p.bufs[p.depth + 2]?).toList
    let hist := asBufs (p.bufs[p.depth + 3]?).toList
    let runs := layerRuns o.layers.length o.layers
    let r := (if f.rolled then p.crops.filter Crop.mirror else p.crops).foldl (fun (a : State × List Nat) _ =>
      let q := a.1.addRuns tmpl o.hwc3 (s.get .FFT_FALLBACK == 1) (asBufs (batch.bind fun i => p.bufs[i]?).toList) 0 runs [] []
      (q.1, a.2 ++ q.2)) (s, [])
    let before := (s.jobs.filter fun j => j.stream == k && (j.kind == .tracker || j.kind == .tree)).map Job.id
    let tid := r.1.nextJob
    let s := r.1.addJob { tmpl with
      kind := .tracker, cycles := trackerCycles, deps := r.2 ++ before, batch := none, ins := .act :: track, outs := track }
    if p.ensemble == 0 then s
    else s.addJob { tmpl with kind := .tree, deps := [tid], obj := p.ensemble, batch := none, ins := track ++ hist, outs := hist }

/-- JOB_ENTRY_GRANT (R283): a free entry goes to the first waiting job whose class and kind may take one. -/
def State.nextGrant (s : State) : Option Job := firstJob (s.jobs.filter fun j => !j.entry && s.entryFree j.cls j.pkt.isSome)

def execJobEntryGrant (s : State) : Result :=
  match s.nextGrant with
  | none => .next s
  | some j => doneIf s s.isReady ((s.modJob j.id fun j => { j with entry := true }).issueReads)

/-! ## Pages (R296, R297) -/

/-- The pages of a job that are not resident, in page list order. -/
def State.missing (s : State) (j : Job) : List Nat :=
  (j.pages.map (pageKey j.obj)).filter fun key => (Tab.find? key s.pageSlots).isNone

/-- The job the pager stages next: its inputs are complete and a page of it is missing. -/
def State.nextStage (s : State) : Option Job :=
  firstJob (s.jobs.filter fun j => j.entry && j.unit.isNone && !j.pages.isEmpty && s.inputsDone j && s.actHeld j &&
    !(s.missing j).isEmpty)

/-- The least recently named of the unpinned pages the job does not name. -/
def State.victim (s : State) (keep : List Nat) : Option Nat :=
  ((s.pageSlots.filter fun e => !s.pinned e.1 && !keep.contains e.1).foldl (fun b e =>
    match b with
    | none => some e
    | some m => if e.2.2 < m.2.2 then some e else some m) none).map Prod.fst

/-- Unpinned pages leave until `need` slots are free (R297); `none` when pinned pages leave no room. -/
def State.evict (s : State) (keep : List Nat) (need : Nat) : Nat → Option State
  | 0 => if s.pageSlots.length + need ≤ Config.pageSlots then some s else none
  | n + 1 =>
    if s.pageSlots.length + need ≤ Config.pageSlots then some s
    else
      match s.victim keep with
      | none => none
      | some v => ({ s with pageSlots := Tab.del v s.pageSlots }).evict keep need n

/-- PAGE_STAGE_START: room is made and every fetch counted. -/
def execPageStageStart (s : State) : Result :=
  match s.nextStage with
  | none => .next s
  | some j =>
    if s.staging.isSome || !s.enginesRun then .next s
    else
      let m := s.missing j
      match s.evict (j.pages.map (pageKey j.obj)) m.length s.pageSlots.length with
      | none => .next s
      | some s1 => done ({ s1 with staging := some j.id }.inc .PGR_FETCHES 0 m.length)

/-- The resident pages of job `j` are named now: the newest in the order of use. -/
def State.touch (s : State) (j : Job) : State :=
  { s with pageSlots := j.pages.foldl (fun m p =>
      match Tab.find? (pageKey j.obj p) m with
      | none => m
      | some e => Tab.put (pageKey j.obj p) (e.1, s.nextJob) m) s.pageSlots }

/-- The lowest free page slot. -/
def State.freePageSlot (s : State) : Nat :=
  ((List.range Config.pageSlots).find? fun i => s.pageSlots.all fun e => e.2.1 != i).getD 0

/-- Page `p` of object `o` is fetched into a free slot, its lines with the tags of their granules (R42, R296). -/
def State.stageOne (o : Obj) (s : State) (p : Nat) : State :=
  let key := pageKey o.handle p
  if (Tab.find? key s.pageSlots).isSome then s
  else
    let i := s.freePageSlot
    let e := (o.pages[p]?).getD (0, 0)
    { (s.stagePage i (o.base + e.1) e.2) with pageSlots := Tab.put key (i, s.nextJob) s.pageSlots }

/-- PAGE_STAGE_DONE (R297): the job's pages are resident. -/
def execPageStageDone (s : State) : Result :=
  match s.staging with
  | none => .next s
  | some id =>
    let s1 := { s with staging := none }
    match s.job? id with
    | none => doneIf s s.enginesRun s1
    | some j =>
      let s2 := match s.obj? j.obj with
        | none => s1
        | some o => j.pages.foldl (State.stageOne o) s1
      doneIf s s.enginesRun (((s2.touch j).modJob id fun j => { j with staged := true }).pinSync)

/-- STAGING_STORE_UE (R40, R276, R298): line `line` of slot `slot` reads sooted and poisoned until it is written in full; its page is staged
again and the running jobs that name it start again. -/
def State.stagingUe (s : State) (slot line : Nat) : State :=
  let s := { s with stagingBad := ISet.add (slot * slotLines + line) (slot * slotLines + line + 1) s.stagingBad }
  match s.pageSlots.find? fun e => e.2.1 == slot with
  | none => s
  | some (key, _) =>
    let js := s.jobs.filter fun j => j.unit.isSome && j.pages.any fun p => pageKey j.obj p == key
    let s := { s.inc .PGR_RESTAGED with pageSlots := Tab.del key s.pageSlots }
    (js.foldl (fun s j => s.requeue j) s).pinSync

def execStagingStoreUe (slot line : Nat) (s : State) : Result :=
  if Config.pageSlots ≤ slot ∨ slotLines ≤ line then .fault .noSuchInstance else doneIf s s.enginesRun (s.stagingUe slot line)

/-! ## Issue (R284) -/

/-- Every job of the stream's earlier batches has been issued, or the queue is in any-order mode (R250). -/
def State.orderOk (s : State) (j : Job) : Bool :=
  match s.stream? j.stream with
  | none => true
  | some st =>
    match st.pipe with
    | none => true
    | some p =>
      p.anyOrder || j.ofMirror ||
        ((st.frames.takeWhile fun f => f.fseq != j.fseq).all fun f =>
          s.jobs.all fun i => i.stream != j.stream || i.fseq != f.fseq || i.ofMirror || i.kind == .flue || i.unit.isSome)

/-- No job of a paused or shed stream is issued (R502). -/
def State.notShed (s : State) (j : Job) : Bool :=
  match s.stream? j.stream with
  | none => true
  | some st => st.shed.isNone

def unitRuns : UnitName → JobKind → Bool
  | .array _, .array => true
  | .cluster _, .cluster => true
  | .cluster _, .tracker => true
  | .fft, .fft => true
  | .lane _, .tree => true
  | .menc _, .mirror => true
  | _, _ => false

/-- A unit is in service and free; among arrays, clusters and encoders every lower one in service is busy (R271, R272,
R396). -/
def State.unitFree (s : State) : UnitName → Bool
  | .array n => decide (n < 2) && s.get .AR_IN_SERVICE n == 1 && s.get .AR_BUSY n == 0 &&
      (List.range n).all fun i => s.get .AR_IN_SERVICE i == 0 || s.get .AR_BUSY i == 1
  | .cluster n => decide (n < 8) && s.get .CL_IN_SERVICE n == 1 && s.get .CL_BUSY n == 0 &&
      (List.range n).all fun i => s.get .CL_IN_SERVICE i == 0 || s.get .CL_BUSY i == 1
  | .fft => s.get .FFT_IN_SERVICE == 1 && s.get .FFT_BUSY == 0
  | .lane n => decide (n < 16) && s.get .TRE_IN_SERVICE == 1 && s.get .TRE_BUSY == 0
  | .menc n => decide (n < 2) && s.get .MENC_IN_SERVICE n == 1 && s.get .MENC_BUSY n == 0 &&
      (List.range n).all fun i => s.get .MENC_IN_SERVICE i == 0 || s.get .MENC_BUSY i == 1
  | .dec _ => false

def State.nextIssue (s : State) (u : UnitName) : Option Job :=
  firstJob (s.jobs.filter fun j => unitRuns u j.kind && s.jobReady j && s.orderOk j && s.notShed j)

/-- The registers of a unit that takes job `j`; a job re-issued after a failure counts (R279). -/
def State.unitTakes (s : State) (u : UnitName) (j : Job) : State :=
  let re := b2n j.failedOn.isSome
  match u with
  | .array n => ((s.set .AR_BUSY n 1).set .AR_MODE n j.mode).inc .AR_REISSUED n re
  | .cluster n => (s.set .CL_BUSY n 1).inc .CL_REISSUED n re
  | .fft => (s.set .FFT_BUSY 0 1).inc .FFT_REISSUED 0 re
  | .lane _ => s.set .TRE_BUSY 0 1
  | .menc n => ((s.set .MENC_BUSY n 1).set .MENC_DECODING n (b2n (j.mode == 1))).inc .MENC_REISSUED n re
  | .dec _ => s

/-- A tree job starts (R306, R318, R325): the zone table is latched, the frame's zone events are formed from it, and the
cycle count follows from the lanes in service. -/
def State.startTree (s : State) (j : Job) : State :=
  match s.stream? j.stream, s.obj? j.obj with
  | some st, some o =>
    match st.frame? j.fseq with
    | none => s
    | some f =>
      let ev := j.fseq % o.evalPeriod == 0
      let z := evalZones st.zones st.tracks f.tracks st.zoneMem
      let s := s.modJob j.id fun i => { i with cycles := if ev then evalCycles o s.lanes else rawCycles o, lanes := s.lanes }
      if f.zoneTab.isSome then s
      else
        s.setStream j.stream
          { (st.modFrame j.fseq fun g => { g with zoneTab := some st.zones, zevents := z.1, evalFrame := ev }) with zoneMem := z.2 }
  | _, _ => s

/-- The activation set of the frame of job `j`. -/
def State.actOf (s : State) (j : Job) : Option Nat :=
  ((s.stream? j.stream).bind fun st => st.frame? j.fseq).bind Frame.actSet

/-- The DRAM that a named buffer of job `j` is when the job is issued. -/
def State.bufOf (s : State) (j : Job) : JobBuf → Option JobBuf
  | .dram a n => some (.dram a n)
  | .act => do
    let i ← s.actOf j
    let p ← (s.stream? j.stream).bind Stream.pipe
    let b ← p.bufs[p.depth + i]?
    pure (.dram b.1 b.2)
  | .recon next => do
    let m ← (s.stream? j.stream).bind Stream.mirror
    let b ← m.bufs[mirrorRec + (if next then 1 - m.ref else m.ref)]?
    pure (.dram b.1 b.2)
  | .ringPlace => do
    let st ← s.stream? j.stream
    let m ← st.mirror
    let b ← m.freePlace st.mirrorPicBytes
    pure (.dram b.1 b.2)

/-- The lowest tile store slice that no job holds (R270). -/
def State.freeSlice (s : State) : Option Nat := (List.range 16).find? fun i => s.jobs.all fun j => j.slice != some i

/-- Job `j` as it is issued to unit `u`: its buffers known, its soot summary the OR of its inputs' bits and kept on a re-issue (R43,
R277), a slice held by a tile, and the clear of the unit's working storage counted where sooted data lies there (R41, R280). -/
def State.jobIssued (s : State) (u : UnitName) (j : Job) : Job :=
  let ins := j.ins.filterMap (s.bufOf j)
  let soot := j.soot || (ins.filterMap JobBuf.range).any s.bufSoot
  { j with
    unit := some u, since := s.now, ins := ins, outs := j.outs.filterMap (s.bufOf j), soot := soot
    act := if j.outs.contains .act || j.ins.contains .act then s.actOf j else j.act
    slice := if j.work == 0 then none else s.freeSlice
    cycles := if !soot && s.workSoot.contains u then j.cycles + 128 else j.cycles }

/-- What a job of summary `soot` leaves in the working storage of its unit (R41). -/
def State.workStorage (s : State) (u : UnitName) (soot : Bool) : State :=
  let rest := s.workSoot.filter fun v => v != u
  { s with workSoot := if soot then u :: rest else rest }

/-- The lines of a tile's slice are written: each takes the job's summary (R270). -/
def State.writeSlice (s : State) (j : Job) : State :=
  match j.slice with
  | none => s
  | some i => s.writeTile (i * sliceLines) (i * sliceLines + Num.cdiv j.work 64) j.soot

/-- Unit `u` takes job `j` (R284): its outputs are tagged before they are written where its summary is 1 (R43, R63). -/
def State.issue (s : State) (u : UnitName) (j : Job) : State :=
  let t := s.jobIssued u j
  let s := (s.unitTakes u j).touch j
  let s := s.modJob j.id fun _ => t
  let s := if j.kind == .tree then s.startTree j else if j.kind == .mirror then s.startPicture j else s
  let s := (s.workStorage u t.soot).writeSlice t
  let s := if t.soot then s.raiseOuts t else s
  let s := if j.ofMirror then s else s.modFrame j.stream j.fseq fun f => { f with issued := true }
  (s.pinSync).streamSync j.stream

/-- JOB_ISSUE (R284): the unit takes its first ready job. -/
def execJobIssue (unit : UnitName) (s : State) : Result :=
  match s.nextIssue unit with
  | none => .next s
  | some j => doneIf s (s.enginesRun && s.unitFree unit) (s.issue unit j)

/-! ## End -/

/-- The stream's pipeline crops and model. -/
def State.pipeOf (s : State) (k : Nat) : Option (Stream × Pipe) :=
  (s.stream? k).bind fun st => st.pipe.map fun p => (st, p)

/-- A tracker job ends (R274): the new track state, and the frame's tracker output. -/
def State.endTracker (s : State) (j : Job) (ds : List Det) : State :=
  match s.pipeOf j.stream with
  | none => s
  | some (st, p) =>
    match s.obj? p.model with
    | none => s
    | some o =>
      let rolled := ((st.frame? j.fseq).map Frame.rolled).getD false
      let mc := p.crops.findIdx fun c => c.mirror
      -- a rolled frame's tracker treats the tracks of the MIRROR crop alone (R412)
      let mine := if rolled then st.tracks.filter fun t => t.crop == mc else st.tracks
      let rest := if rolled then st.tracks.filter fun t => t.crop != mc else []
      let ds := if rolled then ds.map fun d => { d with crop := mc } else ds
      let r := runTracker o.tracker p.crops.length rest.length mine st.nextTrack st.idEpoch ds
      let live := (rest ++ r.live).mergeSort fun a b => decide (a.order ≤ b.order)
      State.takeSnap (k := j.stream) <| s.setStream j.stream
        { (st.modFrame j.fseq fun f => { f with tracks := r.outs p.crops, actSet := none }) with
          tracks := live, nextTrack := r.nid, idEpoch := r.epoch, lastTracked := some j.fseq }

/-- A tree job ends (R308, R316, R317): the raw vectors enter the history, and an evaluation frame gets its outputs. -/
def State.endTree (s : State) (j : Job) : State :=
  match s.stream? j.stream, s.obj? j.obj with
  | some st, some o =>
    match st.frame? j.fseq with
    | none => s
    | some f =>
      let zs := f.zoneTab.getD []
      let raw := rawVectors o.sampleMode zs f.tracks f.zevents
      let hist := (raw :: st.hist).take 8
      let s := s.setStream j.stream { (st.modFrame j.fseq fun g =>
        { g with counts := if f.evalFrame then countsOf o zs hist else [] }) with hist := hist }
      let s := (s.set .TS_HIST_FILL j.stream hist.length).inc .TRE_JOBS
      if f.evalFrame then s.inc .TRE_EVALS else s
  | _, _ => s

/-- The tracker job of a frame has read a poisoned track state: the frame is dropped, the next tracker job starts from an
empty one, and TRACK_ID allocation goes on (R343). -/
def State.badTracks (s : State) (j : Job) : State :=
  (s.modStream j.stream fun st => { st with tracks := [], trackBad := false }).dropFrame j.stream j.fseq 8

/-- The tree job of a frame has read a poisoned history slot: the frame is dropped and the history emptied (R322). -/
def State.badHistory (s : State) (j : Job) : State :=
  ((s.modStream j.stream fun st => { st with hist := [], histBad := false }).set .TS_HIST_FILL j.stream 0).dropFrame j.stream j.fseq 8

/-- The counters of a unit that finished a job. -/
def State.unitDone (s : State) (u : UnitName) (j : Job) : State :=
  let s := s.unitIdle u
  match u with
  | .array n => s.inc .AR_JOBS n
  | .cluster n => (s.inc .CL_JOBS n).inc .CL_TRACK_JOBS n (b2n (j.kind == .tracker))
  | .fft => s.inc .FFT_JOBS
  | _ => s

/-- The job has read soot: its summary is 1, or a granule or staged line it reads carries a tag (R43). -/
def State.sootRead (s : State) (j : Job) : Bool :=
  j.soot || j.reads.any s.bufSoot || j.pages.any fun p =>
    match Tab.find? (pageKey j.obj p) s.pageSlots with
    | none => false
    | some e => s.slotSoot e.1

/-- A job that has read soot raises the tags of every output in full before it completes, and of its lines (R43). -/
def State.tagOutputs (s : State) (j : Job) : State :=
  if s.sootRead j then
    let s := (s.raiseOuts j).writeSlice { j with soot := true }
    match j.unit with
    | none => s
    | some u => s.workStorage u true
  else s

/-- JOB_COMPLETE (R43, R275): the job on the unit ends, its outputs are tagged and pass on. One that read a poisoned batch or activation
buffer has its frame dropped (R301, R343). -/
def State.endJob (s : State) (u : UnitName) (j : Job) (out : JobOutcome) : State :=
  let poison := j.kind != .tracker && j.kind != .tree && s.poisonIn j.reads
  let s := (s.unitDone u j).tagOutputs j
  let live := ((s.stream? j.stream).bind fun st => st.frame? j.fseq).any fun f => f.phase == .queued
  let bad (p : Stream → Bool) : Bool := (s.stream? j.stream).any p
  let s := j.writes.foldl State.rewritten s
  let s := if !live then s
    else if poison then s.dropLate j.stream j.fseq
    else match j.kind with
      | .tracker => if bad Stream.trackBad then s.badTracks j else s.endTracker j (detTable out.table)
      | .tree => if bad Stream.histBad then s.badHistory j else s.endTree j
      | _ => s
  let s := (s.dropJobs fun i => i.id == j.id).grantAct j.stream
  ((s.frameSync j.stream j.fseq).streamSync j.stream).pinSync

def State.jobOn (s : State) (u : UnitName) : Option Job := s.jobs.find? fun j => j.unit == some u

def execJobComplete (unit : UnitName) (out : JobOutcome) (s : State) : Result :=
  match s.jobOn unit with
  | none => .next s
  | some j => doneIf s (s.enginesRun && j.kind != .decode && !j.ofMirror) (s.endJob unit j out)

/-! ## Faults (R276 to R278, R281, R321) -/

/-- A frame abandoned on a unit fault: discarded while its stream closes, where its pass has not yet counted it, dropped with REASON [27]
otherwise (R34, R278, R281). Its jobs already issued run to their end (R285). -/
def State.abandonFrame (s : State) (j : Job) : State :=
  let s := s.dropJobs fun i => i.id == j.id
  match s.stream? j.stream with
  | none => s
  | some st =>
    if st.closingPkt.isSome then
      if (st.frame? j.fseq).isNone then s.streamSync j.stream
      else
        let s := s.dropJobs fun i => i.stream == j.stream && i.fseq == j.fseq && i.unit.isNone && !i.ofMirror
        ((s.setStream j.stream { st with
          frames := st.frames.filter fun f => f.fseq != j.fseq, closeDisc := st.closeDisc + 1 }).grantAct j.stream).streamSync j.stream
    else s.dropFrame j.stream j.fseq 8

def State.startSelftest (s : State) : UnitName → State
  | .array n => s.set .AR_SELFTEST n 1
  | .cluster n => s.set .CL_SELFTEST n 1
  | .fft => s.set .FFT_SELFTEST 0 1
  | .dec n => s.set .DEC_SELFTEST n 1
  | .menc n => s.set .MENC_SELFTEST n 1
  | .lane n => ({ s with laneTests := n :: s.laneTests.filter fun l => l != n }).set .TRE_SELFTEST 0 1

/-- The job in flight on a failed unit: re-issued in full, abandoned on its second failure, not re-issued while its stream
closes. -/
def State.reissue (s : State) (u : UnitName) (j : Job) : State :=
  let s := s.unitIdle u
  let closing := ((s.stream? j.stream).map fun st => st.closingPkt.isSome).getD false
  match j.failedOn with
  | some u0 => ((s.abandonFrame j).startSelftest u).startSelftest u0
  | none =>
    if closing then s.abandonFrame j
    else s.modJob j.id fun i => { i with unit := none, slice := none, failedOn := some u }

/-- A unit fails with `jobs` in flight: ENGINE_FAULT gives the jobs re-issued. The second failure of a job raises no further
one: both units run their self-test (R278; assumption 82). -/
def State.unitFault (s : State) (src : Nat) (jobs : List Job) (body : State → State) : State :=
  if jobs.any fun j => j.failedOn.isSome then body s
  else s.engineFault src (jobs.countP fun j => !((s.stream? j.stream).any fun st => st.closingPkt.isSome)) body

/-- FFT layers run under DIRECT from now on (R277). -/
def State.fftToDirect (s : State) : State :=
  { s with jobs := s.jobs.map fun j =>
      if j.kind == .fft && j.unit.isNone then
        match (s.obj? j.obj).bind fun o => o.layers[j.layer]? with
        | none => { j with kind := .array }
        | some l => { j with kind := .array, mode := precMode l.prec
                             cycles := macCycles l.prec l.kh l.kw l.cin l.cout l.g (l.outW * l.outH) }
      else j }

/-- SOURCE of a compute unit's fault (R107). -/
def computeSource : UnitName → Nat
  | .array n => 0x300 + n
  | .cluster n => 0x200 + n
  | _ => 0x400

/-- COMPUTE_UNIT_FAULT (R277): cause 1 residue mismatch, 2 uncorrectable operand error, 4 hang. -/
def State.computeFault (s : State) (u : UnitName) (cause : Nat) : State :=
  let jobs := s.jobs.filter fun j => j.unit == some u
  let r := b2n (cause == 1)
  let s := match u with
    | .array n => (((s.set .AR_IN_SERVICE n 0).set .AR_FAULTED n 1).set .AR_CAUSE n cause).sat 32 .AR_RESIDUE_ERRS n r
    | .cluster n => (((s.set .CL_IN_SERVICE n 0).set .CL_FAULTED n 1).set .CL_CAUSE n cause).sat 32 .CL_RESIDUE_ERRS n r
    | _ => ((((s.set .FFT_IN_SERVICE 0 0).set .FFT_FAULTED 0 1).set .FFT_CAUSE 0 cause).sat 32 .FFT_RESIDUE_ERRS 0 r).set
        .FFT_FALLBACK 0 1
  s.unitFault (computeSource u) jobs fun s =>
    let s := jobs.foldl (fun s j => s.reissue u j) s
    if u == .fft then s.fftToDirect else s

def State.computeUnit (s : State) : UnitName → Bool
  | .array n => decide (n < 2) && s.get .AR_IN_SERVICE n == 1
  | .cluster n => decide (n < 8) && s.get .CL_IN_SERVICE n == 1
  | .fft => s.get .FFT_IN_SERVICE == 1
  | _ => false

def execComputeUnitFault (unit : UnitName) (cause : Nat) (s : State) : Result :=
  unitFaultCmd s (computeSource unit) (s.computeUnit unit && (cause == 1 || cause == 2 || cause == 4)) (s.computeFault unit cause)

/-- TREE_LANE_FAULT (R321): cause 1 uncorrectable, 2 mismatch, 4 hang. -/
def State.laneFault (s : State) (n cause : Nat) : State :=
  let jobs := s.jobs.filter fun j => j.kind == .tree && j.unit.isSome
  let s := ((s.set .TRE_LANE_OUT 0 (Num.setBit (s.get .TRE_LANE_OUT) n true)).set .TRE_CAUSE 0 cause).laneSync
  s.unitFault 0x500 jobs fun s => jobs.foldl (fun s j =>
    let s := if j.failedOn.isNone then s.inc .TRE_REISSUED else s
    s.reissue (.lane n) j) s

def execTreeLaneFault (lane cause : Nat) (s : State) : Result :=
  if 16 ≤ lane then .fault .noSuchInstance
  else unitFaultCmd s 0x500 (!(s.get .TRE_LANE_OUT).testBit lane && (cause == 1 || cause == 2 || cause == 4))
    (s.laneFault lane cause)

/-- TILE_STORE_UE (R40, R276): line `line` of the slice of the tile that array `a` runs reads sooted and poisoned; the job is issued again
and rewrites it. -/
def State.tileUe (s : State) (j : Job) (line : Nat) : State :=
  match j.slice with
  | none => s
  | some i =>
    let n := i * sliceLines + line
    ({ s with tileBad := ISet.add n (n + 1) s.tileBad } : State).requeue j

def execTileStoreUe (a line : Nat) (s : State) : Result :=
  match s.jobOn (.array a) with
  | none => .next s
  | some j => doneIf s (s.enginesRun && j.slice.isSome && decide (line < Num.cdiv j.work 64)) (s.tileUe j line)

end Sys2Proof.Machine
end

