-- ==== Sys2Proof/Machine/Objects.lean ====
section
/-! DEFINITION. Sys2Proof/Machine/Objects.lean: model and ensemble loads (R196, R294, R295, R313), and PIPELINE_BIND and
PIPELINE_UNBIND with the pre-processing descriptor (R197, R236 to R238, R290). -/

namespace Sys2Proof.Machine

open Sys2Proof.Num (slice u8 u16 zeroBytes toSigned b2n)

/-! ## Loads -/

def State.objCount (s : State) (tree : Bool) : Nat := s.objects.countP fun o => o.2.isTree == tree

/-- The checks of MODEL_LOAD and TREE_LOAD (R196, R184). -/
def Pkt.loadChecks (p : Pkt) : List (Bool × Reply) :=
  [p.hostBuf 2 (p.w 4) 64, word 4 (decide (4096 ≤ p.w 4) && decide (p.w 4 ≤ 2 ^ 31) && p.w 4 % 64 == 0), word 5 (p.w 5 == 0)]

/-- MODEL_LOAD and TREE_LOAD start: the image's buffer is allocated and its copy becomes a job (R196, R282). -/
def State.loadStart (s : State) (p : Pkt) : State :=
  let n := p.w 4
  s.checked p p.loadChecks
    fun s =>
      match s.alloc false n none with
      | none => s.allocRefused.complete p.id (Reply.noResource 2)
      | some (a, s) =>
        let s := { s with loadBufs := s.loadBufs ++ [(p.id, a)] }
        ((s.addJob { emptyJob with kind := .copy, pkt := some p.id, deadline := some (s.now + 1000000) }).startHostRead p.id
          (p.w64 2) n).poolSync

def execModelLoad (s : State) : Result := startPkt 0x20 State.loadStart s
def execTreeLoad (s : State) : Result := startPkt 0x28 State.loadStart s

/-- A load is over: its job and its record go. -/
def State.endLoad (s : State) (id : Nat) : State :=
  { (s.dropJobs fun j => j.pkt == some id) with loadBufs := s.loadBufs.filter fun b => b.1 != id }

/-- A load that fails: the image is freed, no slot is taken (R294). -/
def State.failLoad (s : State) (id base : Nat) (r : Reply) : State :=
  (((s.endLoad id).free base).poolSync).complete id r

/-- The lowest free object slot, 1 to 128, and the handle its next load gets (R295). -/
def State.freeSlot (s : State) : Option Nat :=
  ((List.range Config.objectSlots).map (· + 1)).find? fun k => (Tab.find? k s.objects).isNone

def nextCount (n : Nat) : Nat := if (n + 1) % 65536 == 0 then 1 else (n + 1) % 65536

/-- The control cores load the bytes `bs` that stand at `a`: a sooted granule gives zeros and is recorded as a breach (R38, R46, R49). -/
def State.coreLoad (s : State) (a : Nat) (bs : Bytes) : Bytes × State :=
  match s.sootIn a (a + bs.length) with
  | [] => (bs, s)
  | r :: rs =>
    ((bs.zipIdx).map fun b => if ISet.mem ((a + b.2) / 64) s.soot then 0#8 else b.1,
     s.breach 4 1 (0x0900 + Config.loadCore.val) (ISet.size (r :: rs)) (64 * r.1) 0)

/-- The copy of packet `p` has ended with `image` in DRAM (R294, R313): Choararok loads it to run the checks (DEDUCED, assumption 95), and the
object takes its slot.
`sigOk` is the verdict of check 03 against the model-signing key, which needs that key in the key region (R431). -/
def State.loadDone (s : State) (tree : Bool) (p : Pkt) (base : Nat) (image : Bytes) (sigOk : Bool) : State :=
  let n := p.w 4
  let s := { s with dram := memWrite s.dram base image
                    poison := s.poison.filter fun e => decide (e.1 < base) || decide (base + n ≤ e.1) }
  let (image, s) := (s.poisonSync).coreLoad base image
  let ok := sigOk && s.get .KEY_MODEL_OK == 1
  match if tree then ensembleCheck image n ok else bundleCheck image n ok with
  | some c => s.failLoad p.id base (Reply.badStruct c)
  | none =>
    match s.freeSlot with
    | none => s.failLoad p.id base (Reply.noResource 3)
    | some slot =>
      if Config.objectsPerKind ≤ s.objCount tree then s.failLoad p.id base (Reply.noResource 3)
      else
        let c := nextCount (Tab.getD 0 slot s.loads)
        let h := slot + 65536 * c
        let o := if tree then parseEnsemble image h p.client base else parseModel image h p.client base
        let s := { s.endLoad p.id with objects := Tab.put slot o s.objects, loads := Tab.put slot c s.loads }
        s.complete p.id (if tree then Reply.ok h o.nTrees o.depth o.nFeat else Reply.ok h)

/-- A load's copy runs: its packet has started, its buffer is there and its job has an entry. -/
def State.loadOf (s : State) (op id : Nat) : Option (Pkt × Nat) :=
  match s.pkt? id, Tab.find? id s.loadBufs with
  | some p, some a => if p.opcode == op && p.started && s.jobs.any fun j => j.pkt == some id && j.entry then some (p, a) else none
  | _, _ => none

def execModelLoadCopyDone (p : Nat) (image : Bytes) (sigOk : Bool) (s : State) : Result :=
  match s.loadOf 0x20 p with
  | none => .next s
  | some (q, a) => doneIf s (s.coresRun && s.readMayEnd p && image.length == q.w 4) ((s.endRead p).loadDone false q a image sigOk)

def execTreeLoadCopyDone (p : Nat) (image : Bytes) (sigOk : Bool) (s : State) : Result :=
  match s.loadOf 0x28 p with
  | none => .next s
  | some (q, a) => doneIf s (s.coresRun && s.readMayEnd p && image.length == q.w 4) ((s.endRead p).loadDone true q a image sigOk)

/-- Whether a pipeline binds the object. -/
def State.bound (s : State) (h : Nat) : Bool :=
  s.streams.any fun e => e.2.pipe.any fun p => p.model == h || p.ensemble == h

/-- An object goes: its buffer, its slot and its resident pages. -/
def State.unload (s : State) (o : Obj) : State :=
  let slot := o.handle % 65536
  let s := { s.free o.base with
    objects := Tab.del slot s.objects
    pageSlots := s.pageSlots.filter fun e => e.1 / 65536 != slot }
  s.pinSync.poolSync

/-- The object a packet names by its handle: of the kind asked for, and not one of a reset client (R130). -/
def State.named (s : State) (h : Nat) (tree : Bool) : Option Obj := (s.obj? h).filter fun o => o.isTree == tree && !o.doomed

/-- The objects of reset clients that no pipeline binds any more go (R130). -/
def State.reapDoomed (s : State) : State :=
  (s.objects.filter fun o => o.2.doomed && !s.bound o.2.handle).foldl (fun s o => s.unload o.2) s

/-- MODEL_UNLOAD and TREE_UNLOAD (R196). -/
def State.unloadPkt (tree : Bool) (s : State) (p : Pkt) : State :=
  match s.named (p.w 2) tree with
  | none => s.complete p.id (Reply.bad 2)
  | some o =>
    s.checked p [(o.loader == p.client || p.client == 0, Reply.notPermitted 1), (!(s.bound o.handle), Reply.notPermitted 2)]
      fun s => (s.unload o).complete p.id (Reply.ok)

def execModelUnload (s : State) : Result := startPkt 0x21 (State.unloadPkt false) s
def execTreeUnload (s : State) : Result := startPkt 0x29 (State.unloadPkt true) s

/-! ## The descriptor (R236 to R238) -/

def parseCrop (b : Bytes) : Crop :=
  { x0 := u16 b 0, y0 := u16 b 2, w := u16 b 4, h := u16 b 6, outW := u16 b 8, outH := u16 b 10
    rot := u8 b 12 % 4, mirror := (u8 b 12).testBit 2, coef := slice (u8 b 12) 3 3 }

def descCrops (b : Bytes) : List Crop := (chunks 32 (u8 b 3) (b.drop 64)).map parseCrop

def descSets (b : Bytes) : Nat := (descCrops b).foldl (fun n c => max n (c.coef + 1)) 1

/-- One phase of a coefficient table: every tap from -512 to 511, the row sums to 128. -/
def phaseOk (b : Bytes) (o : Nat) : Bool :=
  let t := (List.range 8).map fun i => toSigned 16 (u16 b (o + 2 * i))
  (t.all fun x => decide (-512 ≤ x) && decide (x ≤ 511)) && t.foldl (· + ·) 0 == 128

/-- Checks 01 to 11 of R238 on a descriptor of `n` bytes for a stream of at most `w` by `h`. -/
def descCheck (b : Bytes) (n w h : Nat) : Option Nat :=
  let cs := descCrops b
  let nc := u8 b 3
  let c0 := 64 + 32 * nc
  firstFail
    [(1, u16 b 0 == 0x9D10 && u8 b 2 == 1),
     (2, decide (1 ≤ nc) && decide (nc ≤ 4)),
     (3, n == c0 + 1024 * descSets b),
     (4, decide (u8 b 5 % 16 ≤ u8 b 4 / 16)),
     (5, cs.all fun c => decide (c.x0 ≤ 4095) && decide (c.y0 ≤ 4095) && decide (1 ≤ c.w) && decide (1 ≤ c.h) &&
        decide (c.x0 + c.w ≤ 4096) && decide (c.y0 + c.h ≤ 4096)),
     (6, cs.all fun c => decide (16 ≤ c.outW) && decide (c.outW ≤ 2048) && c.outW % 8 == 0 &&
        decide (16 ≤ c.outH) && decide (c.outH ≤ 2048) && c.outH % 8 == 0),
     (7, cs.all fun c => c.valid w h),
     (8, decide (cs.countP Crop.mirror ≤ 1) && cs.all fun c => !c.mirror || (decide (c.rotW ≤ 1280) && decide (c.rotH ≤ 736))),
     (9, (List.range (64 * descSets b)).all fun i => phaseOk b (c0 + 16 * i)),
     (10, (List.range 3).all fun j => decide (u8 b (36 + 6 * j) ≤ 31)),
     (11, slice (u8 b 4) 3 1 == 0 && slice (u8 b 5) 7 5 == 0 && slice (u8 b 6) 7 2 == 0 && u8 b 7 == 0 && zeroBytes b 29 32 &&
        zeroBytes b 50 64 && (chunks 32 nc (b.drop 64)).all fun e => slice (u8 e 12) 7 4 == 0 && zeroBytes e 13 32)]

/-- Check 12 against the model (R290). -/
def descFits (b : Bytes) (o : Obj) : Bool :=
  u8 b 6 == o.inFormat && (descCrops b).all fun c => c.rotW == o.inW && c.rotH == o.inH

def descPipe (b : Bytes) (model ensemble : Nat) : Pipe :=
  { model := model, ensemble := ensemble, crops := descCrops b, depth := u8 b 4 / 16 + 1, lowWater := u8 b 5 % 16
    alarmIrq := (u8 b 5).testBit 4, anyOrder := (u8 b 4).testBit 0, bufs := [], desc := b }

/-! ## PIPELINE_BIND -/

/-- The live model and ensemble a bind names; a handle of the other kind names nothing. -/
def State.model? (s : State) (h : Nat) : Option Obj := s.named h false
def State.ensemble? (s : State) (h : Nat) : Option Obj := s.named h true

/-- The checks of PIPELINE_BIND before it reads the descriptor (R533 steps 2 to 6, R298, R322). DESC_BYTES need not be a
multiple of 64, since R236 fixes it (assumption 14). -/
def State.bindChecks (s : State) (p : Pkt) : List (Bool × Reply) :=
  let n := slice (p.w 7) 15 0
  let m := s.model? (p.w 3)
  let e := s.ensemble? (p.w 4)
  let live := (s.stream? p.stream).filter fun st => st.closingPkt.isNone
  [word 2 (p.zeroBits 2 31 7), p.hostBuf 5 n 64, word 7 (p.zeroBits 7 31 16 && decide (64 ≤ n) && decide (n ≤ 4096)),
   word 2 live.isSome, word 3 m.isSome, word 4 (p.w 4 == 0 || e.isSome),
   (live.any fun st => st.owner == p.client, Reply.notPermitted 1),
   (live.any fun st => st.pipe.isNone, Reply.notPermitted 3),
   word 3 ((m.any fun o => !o.failed) && (p.w 4 == 0 || e.any fun o => !o.failed))]

/-- The soot-class buffers of a pipeline in the order they are allocated (R300, R248, R319): batch buffers, two sets of
activation buffers, track state, and the 8 stripes of tree history. -/
def pipeBuffers (b : Bytes) (o : Obj) (tree : Bool) : List Nat :=
  let batch := batchBytes (descCrops b) (o.inFormat.testBit 0) (o.inFormat.testBit 1)
  let act := Config.activationSetBytes (o.layers.map fun l => (l.outW, l.outH, l.cout, l.prec))
  List.replicate (u8 b 4 / 16 + 1) batch ++ [act, act, Config.trackStateBytes] ++ if tree then [8 * 65536] else []

/-- The registers a bind loads (R255, R323). -/
def State.bindRegs (s : State) (k : Nat) (b : Bytes) (e : Option Obj) (h : Nat) (batch : Nat) : State :=
  let s := ((s.set .PP_MODE k (u8 b 4 % 2)).set .PP_DEPTH_M1 k (u8 b 4 / 16)).set .PP_LOW_WATER k (u8 b 5 % 16)
  let s := ((s.set .PP_ALARM_IRQ k (slice (u8 b 5) 4 4)).set .PP_LAYOUT k (u8 b 6 % 2)).set .PP_CHANNELS3 k (slice (u8 b 6) 1 1)
  let s := ((s.set .PP_NCROP k (u8 b 3)).set .PP_BOUND k 1).set .PP_BATCH_KIB k (batch / 1024)
  let s := [Field.PP_ALARM, .PP_FRAMES, .PP_SKIPPED, .PP_ABANDONED, .PP_ALARMS, .PP_FAULTS, .PP_LAST_DROP_FSEQ,
    .PP_BUILD_FSEQ, .PP_GEOMETRY, .TS_HIST_FILL].foldl (fun s f => s.set f k 0) s
  match e with
  | none => s.set .TS_ENSEMBLE k 0
  | some o =>
    let s := ((s.set .TS_ENSEMBLE k h).set .TS_EVAL_CYCLES k (evalCycles o s.lanes)).set .TS_EVAL_PERIOD k o.evalPeriod
    (s.set .TS_S_FIX k (sFix o.sampleMode)).set .TS_SAMPLE_MODE k o.sampleMode

/-- The mirror that a stream keeps through a new bind of `pipe`, in buffers that fit its MIRROR crop. -/
def State.bindMirror (s : State) (k : Nat) (st : Stream) (pipe : Pipe) : Option (Option MirrorSt × State) :=
  match st.mirror, pipe.mirrorCrop with
  | some m, some c =>
    (s.placeMirror k (some m) (mirrorSizes m.cfg c st.settled.fps)).map fun x =>
      (some (if x.1 == m.bufs then m else newMirror m.cfg x.1), x.2)
  | m, _ => some (m, s)

/-- The bind of a descriptor that passed its checks: admission, allocation, registers (R288 to R290). The track state and
the history start empty (R308; assumption 15). -/
def State.bindAdmit (s : State) (p : Pkt) (st : Stream) (o : Obj) (b : Bytes) : State :=
  let k := p.stream
  let e := s.ensemble? (p.w 4)
  let pipe := descPipe b (p.w 3) (p.w 4)
  let t := st.settled
  let fps := if st.decimated then Num.cdiv t.fps 2 else t.fps
  -- a stream mirrored from an earlier bind is admitted with its mirror again (DESIGN CHOICE, assumption 103)
  let d := (s.pipeDemand t pipe fps).add ((st.mirror.map fun m => s.mirrorDemand pipe m.cfg fps (s.stepIn 1)).getD {})
  match s.admitCheck d with
  | some code => let r := s.admitRefusal code d; r.1.complete p.id r.2
  | none =>
    match (s.allocAll true (some k) (pipeBuffers b o e.isSome)).bind fun x => (x.2.bindMirror k st pipe).map fun y => (x.1, y) with
    | none => s.allocRefused.complete p.id (Reply.noResource 2)
    | some (bufs, mirror, s) =>
      let s := s.setStream k { st with
        pipe := some { pipe with bufs := bufs }, mirror := mirror, tracks := [], hist := [], zoneMem := []
        trackBad := false, histBad := false }
      let s := s.bindRegs k b e (p.w 4) (batchBytes pipe.crops (o.inFormat.testBit 0) (o.inFormat.testBit 1))
      ((s.streamSync k).schSync.poolSync).complete p.id (Reply.ok (s.frameTicks pipe) (16 * d.dram))

def State.pipelineBind (desc : Bytes) (s : State) (p : Pkt) : State :=
  let n := slice (p.w 7) 15 0
  let b := desc.take n
  s.checked p (s.bindChecks p) fun s =>
    match s.stream? p.stream, s.model? (p.w 3) with
    | some st, some o =>
      match descCheck b n st.settled.maxW st.settled.maxH with
      | some c => s.complete p.id (Reply.badStruct c)
      | none => if descFits b o then s.bindAdmit p st o b else s.complete p.id (Reply.badStruct 12)
    | _, _ => s

/-- PIPELINE_BIND (R197): `desc` is what the device reads at DESC_ADDR. -/
def execPipelineBind (desc : Bytes) (s : State) : Result :=
  startRead 0x22 State.bindChecks (fun _ => none) (fun p => some (p.w64 5, p.w 7)) (State.pipelineBind desc) s

/-! ## PIPELINE_UNBIND -/

/-- The checks of PIPELINE_UNBIND (R197, R183). -/
def State.unbindChecks (s : State) (p : Pkt) : List (Bool × Reply) :=
  word 2 (p.zeroBits 2 31 7) :: s.streamChecks p true ++
    [((s.stream? p.stream).any fun st => st.pipe.isSome && st.unbindPkt.isNone, Reply.notPermitted 3)]

/-- PIPELINE_UNBIND (R197, R235): access units not taken are discarded, the stream enters HOLD. -/
def State.pipelineUnbind (s : State) (p : Pkt) : State :=
  let k := p.stream
  s.checked p (s.unbindChecks p)
    fun s =>
      let s := (s.discardHeld k 0).1
      (s.modStream k fun st => { st with hold := true, unbindPkt := some p.id }).streamSync k

def execPipelineUnbind (s : State) : Result := startPkt 0x23 State.pipelineUnbind s

/-- The pipeline of stream `k` goes with its buffers. -/
def State.dropPipe (s : State) (k : Nat) : State :=
  match s.stream? k with
  | none => s
  | some st =>
    let s := (s.haltMirror k).freeAll ((st.pipe.map Pipe.bufs).getD [])
    let s := s.modStream k fun st => { st with
      pipe := none, unbindPkt := none, tracks := [], hist := [], zoneMem := [], trackBad := false, histBad := false }
    (((s.set .PP_BOUND k 0).set .TS_ENSEMBLE k 0).streamSync k).reapDoomed

/-- PIPELINE_UNBIND_DONE (R182): the flue pass of the last bound frame has ended; the demand is removed (R288). -/
def execPipelineUnbindDone (k : Nat) (s : State) : Result :=
  match s.stream? k with
  | none => .next s
  | some st =>
    match st.unbindPkt with
    | none => .next s
    | some id =>
      doneIf s (s.coresRun && st.frames.isEmpty && s.jobs.all fun j => j.stream != k || j.ofMirror)
        (((s.dropPipe k).recompute.poolSync).complete id (Reply.ok))

end Sys2Proof.Machine
end

