-- ==== Sys2Proof/Machine/Preproc.lean ====
section
/-! DEFINITION. Sys2Proof/Machine/Preproc.lean: the pre-processor and the batch queue (R246 to R254). -/

namespace Sys2Proof.Machine

/-- The frame stream `k` would have built next: its first decoded one, with a free batch entry (R247). -/
def State.readyFrame (s : State) (k : Nat) (st : Stream) : Option Frame :=
  match st.pipe with
  | none => none
  | some p =>
    if st.shed.isSome || decide (p.depth ≤ s.batchUsed k) then none
    else (st.frames.find? fun f => f.phase == .decoded).filter fun f => s.entryFree f.jobClass false

/-- The stream the pre-processor serves next: C0 first, the earlier deadline, the lower number (R247). -/
def State.nextBuild (s : State) : Option Nat :=
  (firstFrame (s.streams.filterMap fun e => (s.readyFrame e.1 e.2).map fun f => (e.1, f.c2, f.deadline))).map Prod.fst

/-- The buffer of batch entry `i`. -/
def Pipe.batchBuf (p : Pipe) (i : Nat) : List JobBuf := asBufs (p.bufs[i]?).toList

/-- Where the mirror picture of frame `f` is written, in a stream whose mirror has buffers (R246, R381). -/
def Stream.mirrorPic (st : Stream) (f : Frame) : Option (Nat × Nat) :=
  if f.rolled then none else st.mirror.bind fun m => m.picAt f.fseq

/-- The picture the pre-processor reads: the frame's buffer, or the held picture a rolled frame is (R412). -/
def Stream.sourceOf (st : Stream) (f : Frame) : List (Nat × Nat) :=
  if f.rolled then [(f.auAddr, st.mirrorPicBytes)] else (st.fbAt f.fseq).toList

/-- The pre-processor takes the frame: a job of the frame's class, which reads its frame buffer and writes the lowest free batch
buffer, sooted (R42, R247, R249; assumption 17), and the mirror picture (R246). -/
def State.startBuild (s : State) (k : Nat) (st : Stream) (f : Frame) : State :=
  match st.pipe with
  | none => s
  | some p =>
    let i := s.freeBatch k p.depth
    let outs := (i.map p.batchBuf).getD [] ++ asBufs (st.mirrorPic f).toList
    let s := s.addJob { emptyJob with
      kind := .preproc, cls := f.jobClass, stream := k, fseq := f.fseq, deadline := some f.da, soot := true
      ins := asBufs (st.sourceOf f), outs := outs, batch := i, since := s.now }
    let s := (outs.filterMap JobBuf.range).foldl State.raiseBuf s
    ((s.modFrame k f.fseq fun g => { g with phase := .building }).set .PP_BUILD_FSEQ k f.fseq).streamSync k

/-- PREPROCESS_START (R247). -/
def execPreprocessStart (s : State) : Result :=
  match s.nextBuild with
  | none => .next s
  | some k =>
    match s.stream? k with
    | none => .next s
    | some st =>
      match s.readyFrame k st with
      | none => .next s
      | some f => doneIf s (s.enginesRun && s.ppFree) (s.startBuild k st f)

/-- The frame under construction, with its stream. -/
def State.inBuild (s : State) : Option (Nat × Stream × Frame) :=
  s.streams.findSome? fun e => (e.2.frames.find? fun f => f.phase == .building).map fun f => (e.1, e.2, f)

/-- The alarm test after an insertion (R252). -/
def State.alarm (s : State) (k : Nat) (st : Stream) : State :=
  if s.get .PP_FREE k ≤ s.get .PP_LOW_WATER k && s.get .PP_ALARM k == 0 then
    let s := (s.set .PP_ALARM k 1).inc .PP_ALARMS k
    if s.get .PP_ALARM_IRQ k == 1 then s.signal (32 + st.owner) else s
  else s

/-- The samples of frame `f` as they are deliveredSample (R215, R221). -/
def Frame.picture (f : Frame) (k : Nat) : Plane := fun x y =>
  deliveredSample (Num.slice f.hdr6 21 18) (Config.decodedSample f.pic k x y)

/-- The planes T of a crop of frame `f` (R239 to R243). A rolled frame is the mirror picture itself, neither scaled nor rotated (R412);
its samples at the crop's size are free values (assumption 13). -/
def Frame.planes (f : Frame) (p : Pipe) (c : Crop) : Nat → Plane :=
  if f.rolled then fun k x y => (Config.decodedSample f.pic k x y % 256 : Nat)
  else cropT p.desc p.crops.length c f.outW f.outH (Num.slice f.hdr6 17 16) f.picture

/-- The crops built of frame `f`: a rolled frame has the MIRROR crop alone (R412). -/
def Frame.cropsOf (f : Frame) (p : Pipe) : List Crop := if f.rolled then p.crops.filter Crop.mirror else p.crops

/-- The tensors of frame `f` stand in its batch buffer (R239 to R245), and its mirror picture in its own (R246). -/
def State.writeBatch (s : State) (p : Pipe) (f : Frame) (buf pic : Option (Nat × Nat)) : State :=
  let d := match buf, s.obj? p.model with
    | some b, some o =>
      memWrite s.dram b.1 (batchTensors p.desc (o.inFormat.testBit 0) (o.inFormat.testBit 1) (f.planes p) (f.cropsOf p)
        ((List.range b.2).map fun i => memByte s.dram (b.1 + i)))
    | _, _ => s.dram
  let d := match pic, p.mirrorCrop with
    | some b, some c => memWrite d b.1 (mirrorPicture c (f.planes p c 0) f.pic)
    | _, _ => d
  { s with dram := d }

/-- The last crop is written (R249, R381): the batch enters the queue and its jobs are created; a frame whose deadline has
passed meanwhile is dropped instead (R285), and so is one read from a poisoned frame buffer, which taints its stream (R343). The mirror picture goes to the encoders in both cases. -/
def State.enqueue (s : State) (k : Nat) (st : Stream) (f : Frame) : State :=
  let mine (j : Job) : Bool := j.stream == k && j.fseq == f.fseq && j.kind == .preproc
  let batch := (s.jobs.find? mine).bind Job.batch
  let s := s.dropJobs mine
  match st.pipe with
  | none => s
  | some p =>
    let bad := s.poisonIn (st.sourceOf f)
    let s := s.writeBatch p f (batch.bind fun i => p.bufs[i]?) (st.mirrorPic f)
    let s := ((batch.bind fun i => p.bufs[i]?).toList ++ (st.mirrorPic f).toList).foldl State.rewritten s
    let s := if f.rolled then s else s.takePicture k f
    if bad then (if f.rolled then s else s.set .CTX_TAINTED k 1).dropFrame k f.fseq 0
    else if f.isDrop then s.dropBatch k f.fseq 0
    else
      let s := (s.modFrame k f.fseq fun g => { g with phase := .queued }).grantAct k
      let s := s.addFrameJobs k p f batch
      ((s.inc .PP_FRAMES k).streamSync k).alarm k st

/-- BATCH_ENQUEUE (R249). -/
def execBatchEnqueue (s : State) : Result :=
  match s.inBuild with
  | none => .next s
  | some (k, st, f) => doneIf s s.enginesRun (s.enqueue k st f)

/-- PREPROCESS_FAULT (R254): the batch is abandoned as R253 states. -/
def execPreprocessFault (s : State) : Result :=
  match s.inBuild with
  | none => .next s
  | some (k, _, _) => doneIf s s.enginesRun ((s.abandonBuild k).1.inc .PP_FAULTS k)

end Sys2Proof.Machine
end

