-- ==== Sys2Proof/Machine/Dram.lean ====
section
/-! DEFINITION. Sys2Proof/Machine/Dram.lean: SCRUB (R55, R56), the thermal trip (R111, R336), and the DRAM channels:
temperature and refresh (R335), tracking and runtime retraining (R338, R339), patrol (R341), corrected and uncorrectable
errors and what they do to the owner of the buffer (R59, R340 to R344). -/

namespace Sys2Proof.Machine

open Sys2Proof.Num (slice b2n ofSigned)

/-! ## SCRUB (R55, R56, R200) -/

/-- The parts of [lo, hi) outside the given ranges, which rise. -/
def gaps : Nat → Nat → List (Nat × Nat) → List (Nat × Nat)
  | lo, hi, [] => if lo < hi then [(lo, hi)] else []
  | lo, hi, (a, b) :: t => (if lo < min a hi then [(lo, min a hi)] else []) ++ gaps (max lo b) hi t

/-- What a scope covers (R55): 0 the marks of a stream, 1 every free soot-class granule, 2 the whole soot class. -/
def State.scrubRanges (s : State) (scope stream : Nat) : List (Nat × Nat) :=
  match scope with
  | 0 => (s.marks.filter fun m => m.2.2 == stream).foldl (fun rs m => ISet.add m.1 m.2.1 rs) []
  | 1 => gaps s.cleanEnd s.tagBase s.occupied
  | _ => [(s.cleanEnd, s.tagBase)]

/-- The checks of SCRUB (R55, R200). A STREAM field beside scope 1 or 2 is ignored: the rule gives it for scope 0 alone (DESIGN CHOICE,
assumption 99). -/
def State.scrubChecks (s : State) (p : Pkt) : List (Bool × Reply) :=
  [word 2 (slice (p.w 2) 1 0 != 3 && p.zeroBits 2 7 2 && p.zeroBits 2 31 15),
   (slice (p.w 2) 1 0 != 0 || (s.stream? (slice (p.w 2) 14 8)).isNone, Reply.notPermitted 3),
   (slice (p.w 2) 1 0 != 2 || (s.streams.isEmpty && s.jobs.isEmpty), Reply.notPermitted 3)]

def State.scrubPkt (s : State) (p : Pkt) : State :=
  let scope := slice (p.w 2) 1 0
  let k := slice (p.w 2) 14 8
  s.checked p (s.scrubChecks p)
    fun s =>
      let s := { s with scrub := some (p.id, scope, s.scrubRanges scope k) }
      ((s.addJob { emptyJob with kind := .scrub, cls := 3, pkt := some p.id }).set .SOOT_SCRUB_BUSY 0 1).poolSync

def execScrub (s : State) : Result := startPkt 0x38 State.scrubPkt s

/-- Ranges zeroed with their tags, marks and poison (R42, R56). -/
def State.zeroRanges (s : State) (rs : List (Nat × Nat)) : State :=
  (rs.foldl (fun s r => { (s.zeroise r.1 r.2) with marks := cutMarks r.1 r.2 s.marks }) s).poisonSync

def State.scrubEnd (s : State) (id scope : Nat) (rs : List (Nat × Nat)) : State :=
  let n := ISet.size rs / 64
  let s := (s.zeroRanges rs).dropJobs fun j => j.kind == .scrub
  let s := if scope == 2 then s.clearTiles else s
  let s := { s with scrub := none }
  ((s.set .SOOT_SCRUB_BUSY 0 0).poolSync).complete id (Reply.ok (n % 2 ^ 32) (n / 2 ^ 32))

/-- SCRUB_DONE (R56): the reply carries the granules zeroed. -/
def execScrubDone (s : State) : Result :=
  match s.scrub with
  | none => .next s
  | some (id, scope, rs) =>
    doneIf s (s.enginesRun && s.jobs.any fun j => j.kind == .scrub && j.entry) (s.scrubEnd id scope rs)

/-! ## The thermal trip (R111, R336) -/

/-- THERMAL_TRIP with its source and the temperature in eighths of a degree: the flues are fenced and the engines stop. -/
def State.thermalTrip (s : State) (sensor : Nat) (eighths : Int) : State :=
  let s := s.inRank 2 sensor
  let t := s.treatment 2
  let s := s.capture 2 sensor (ofSigned 32 eighths) 0 0
  match t with
  | .apply => { s with thermal := some (s.thermal.getD s.now) }
  | _ => s

/-- THERMAL_TRIP: a junction sensor reads 115 degrees or more. -/
def execThermalTrip (sensor : Nat) (temp : Int) (s : State) : Result :=
  doneIf s (decide (920 ≤ temp) && s.pwrok && s.aonValid) (s.thermalTrip sensor temp)

/-! ## Channels -/

/-- A channel that serves requests. -/
def State.channelUp (s : State) (c : Nat) : Bool :=
  decide (c < 16) && s.get .CH_IN_SERVICE c == 1 && s.get .CH_SELF_REFRESH c == 0 && s.get .CH_LOST c == 0

/-- A channel event: it stops by name on a channel that does not exist or does not run. -/
def onChannel (s : State) (c : Nat) (b : Bool) (t : State) : Result :=
  if 16 ≤ c then .fault .noSuchInstance else doneIf s (s.channelUp c && b) t

/-- DRAM_AGE_PROMOTION (R331). -/
def execDramAgePromotion (c : Nat) (s : State) : Result := onChannel s c true (s.inc .CH_PROMOTIONS c)

/-- DRAM_CE (R340). -/
def execDramCe (addr : Nat) (s : State) : Result :=
  if s.dramBytes ≤ addr then .fault .noSuchInstance
  else onChannel s (channelOf addr) true (s.sat 32 .CH_CE_COUNT (channelOf addr))

/-- The multiplier a reading gives at once, as its code (R335). -/
def multOf (t : Int) : Nat := if 95 < t then 2 else if 85 < t then 1 else 0

/-- The multiplier after a reading: a step up at once, a step down one level at a time, after 1,000,000 ticks of readings
below 93 or 83 degrees (R335). -/
def State.newMult (s : State) (c : Nat) (t : Int) (h : Nat × Nat × Nat) : Nat :=
  let m := s.get .CH_REFRESH_MULT c
  if m < multOf t then multOf t
  else if m == 2 && decide (h.1 + 1000000 ≤ s.now) then 1
  else if m == 1 && decide (h.2.1 + 1000000 ≤ s.now) && decide (h.2.2 + 1000000 ≤ s.now) then 0
  else m

/-- A temperature reading of channel `c` takes effect; during a runtime retrain the multiplier waits for its end (R349). -/
def State.tempRead (s : State) (c : Nat) (t : Int) : State :=
  let h := Tab.getD (s.now, s.now, s.now) c s.ch.hot
  let h := (if 93 ≤ t then s.now else h.1, if 83 ≤ t then s.now else h.2.1, h.2.2)
  let s := { s with ch.hot := Tab.put c h s.ch.hot }.set .CH_TEMP c (ofSigned 8 t)
  let s := if 115 ≤ t then s.thermalTrip (16 + c) (8 * t) else s
  if s.get .CH_RETRAINING c == 1 then s
  else
    let m := s.newMult c t h
    if m == s.get .CH_REFRESH_MULT c then s
    else ({ s with ch.hot := Tab.put c (h.1, h.2.1, s.now) s.ch.hot }.set .CH_REFRESH_MULT c m).recompute

def execDramTempRead (c : Nat) (temp : Int) (s : State) : Result :=
  onChannel s c (decide (-128 ≤ temp) && decide (temp ≤ 127)) (s.tempRead c temp)

/-- TRACKING_PASS (R338, R339): the margins are recorded; a second low pass in a row starts a runtime retrain, a
job of class C3 (R282). -/
def State.trackingPass (s : State) (c rd wr : Nat) : State :=
  let s := (s.set .CH_RD_MARGIN c rd).set .CH_WR_MARGIN c wr
  if min rd wr < s.get .CH_RETRAIN_AT c then
    if (Tab.find? c s.ch.lowMargin).isSome then
      ({ s with ch.lowMargin := Tab.del c s.ch.lowMargin, ch.retrains := Tab.put c s.now s.ch.retrains }.set .CH_RETRAINING c 1).addJob
        { emptyJob with kind := .train, cls := 3, obj := c }
    else { s with ch.lowMargin := Tab.put c () s.ch.lowMargin }
  else { s with ch.lowMargin := Tab.del c s.ch.lowMargin }

def execTrackingPass (c rd wr : Nat) (s : State) : Result :=
  onChannel s c (s.now % 65536 == c * 4096 && s.get .CH_RETRAINING c == 0 && decide (rd < 256) && decide (wr < 256) &&
    (s.power == 0 || s.power == 1)) (s.trackingPass c rd wr)

/-- PATROL_READ (R341): the next granule of the channel in ascending channel address. -/
def execPatrolRead (c : Nat) (s : State) : Result :=
  let n := Tab.getD 0 c s.ch.patrol + 1
  let last := decide (s.dramBytes / 16 / 64 ≤ n)
  let s1 := { s with ch.patrol := Tab.put c (if last then 0 else n) s.ch.patrol }
  onChannel s c (s.power == 0 || s.power == 1) (if last then s1.inc .CH_PATROL_PASSES c else s1)

/-! ## Uncorrectable errors (R342 to R344) -/

/-- A failed model or ensemble (R298, R322): its handle is shown, and every frame with a job that names it is dropped. -/
def State.failObj (s : State) (o : Obj) : State :=
  let s := { s with objects := Tab.put (o.handle % 65536) { o with failed := true } s.objects }
  let s := s.set (if o.isTree then .TRE_FAILED_OBJ else .PGR_FAILED_OBJ) 0 o.handle
  let hit (j : Job) : Bool := j.obj == o.handle && !j.ofMirror
  (((s.jobs.filter hit).map fun j => (j.stream, j.fseq)).eraseDups).foldl (fun s x => s.dropLate x.1 x.2) s

/-- What an uncorrectable error at `a` does to stream `k`, which owns the buffer there, beside what it does to the jobs that read it
(R343): the next tracker job, or the next tree job, reads a poisoned state. -/
def State.poisonStream (s : State) (k : Nat) (st : Stream) (a : Nat) : State :=
  let within (b : Nat × Nat) : Bool := decide (b.1 ≤ a) && decide (a < b.1 + b.2)
  -- the mirror buffer or the ring of a receiving stream (R400)
  let rx (m : MirrorSt) : Bool := (m.bufs.head?.any within) || (m.bufs[mirrorRing]?).any within
  let s := if s.receivesMirror && st.mirror.any rx then (s.modMirror k fun m => { m with needIdr := true }).mirrorShow k else s
  match st.pipe with
  | none => s
  | some p =>
    let i := p.bufs.findIdx within
    if i == p.depth + 2 then s.modStream k fun st => { st with trackBad := true }
    else if i == p.depth + 3 then s.modStream k fun st => { st with histBad := true }
    else s

/-- The effect of a poisoned granule at `a` on the owner of its buffer (R343). -/
def State.poisoned (s : State) (a : Nat) : State :=
  match s.allocs.find? fun x => decide (x.addr ≤ a) && decide (a < x.addr + x.bytes) with
  | none => s
  | some x =>
    match s.loadBufs.find? fun l => l.2 == x.addr with
    | some (id, base) => s.failLoad id base (Reply.deviceFault 0x0301)
    | none =>
      match s.objects.find? fun o => o.2.base == x.addr with
      | some (_, o) => s.failObj o
      | none =>
        match s.streams.find? fun e => (e.2.zonesBuf.map Prod.fst) == some x.addr with
        | some (k, _) => (s.modStream k fun st => { st with zones := [], zoneMem := [] }).set .FLU_ZONES k 0
        | none =>
          match x.stream.bind fun k => (s.stream? k).map fun st => (k, st) with
          | none => s
          | some (k, st) => s.poisonStream k st a

/-- The channel's record of an uncorrectable error at device address `a` (R342), with the ticks of the last 1,000,000. -/
def State.ueRecord (s : State) (c a : Nat) : State :=
  let s := ((s.sat 32 .CH_UE_COUNT c).set .CH_LAST_UE_ADDR c a).set .CH_LAST_UE_TICK c s.now
  { s with ueTicks := Tab.put c (s.now :: (Tab.getD [] c s.ueTicks).filter fun t => decide (s.now < t + 1000000)) s.ueTicks }

/-- The 16th error within 1,000,000 ticks (R344). -/
def State.ueBurst (s : State) (c : Nat) : Bool := decide (16 ≤ (Tab.getD [] c s.ueTicks).length)

/-- DRAM_UE is raised: a fatal one ends in FAULT, code 0x09 (R344), a contained one has `body` as its effect. -/
def State.raiseUe (s : State) (c d0 d1 : Nat) (fatal : Bool) (body : State → State) : State :=
  let s := s.inRank 10 c
  let t := s.treatment 10
  let s := s.capture 10 c d0 d1 (b2n fatal)
  let s := if fatal then s.set .CH_LOST c 1 else s
  match t with
  | .apply => if fatal then s.enterFault 9 c else body s
  | _ => s

/-- DRAM_UE of a data granule (R342, R344). -/
def State.dramUe (s : State) (addr : Nat) : State :=
  let a := addr / 64 * 64
  let c := channelOf a
  let s := ({ s with poison := Tab.put a () s.poison }.poisonSync).ueRecord c a
  let fatal := decide (64 < s.poison.countP fun p => channelOf p.1 == c) || s.ueBurst c || decide (a < coreData)
  s.raiseUe c (a % 2 ^ 32) (a / 2 ^ 32) fatal fun s => s.poisoned a

def execDramUe (addr : Nat) (s : State) : Result :=
  if s.dramBytes ≤ addr then .fault .noSuchInstance
  else if s.wdgResetNow && !s.isReady then
    -- recorded only after the reset of its tick (R112)
    done ((s.inRank 10 (channelOf addr)).capture 10 (channelOf addr) (addr / 64 * 64 % 2 ^ 32) (addr / 64 * 64 / 2 ^ 32) 0)
  else onChannel s (channelOf addr) (decide (addr < s.tagBase)) (s.dramUe addr)

/-- The device address of channel address `a` of channel `c` (R328). -/
def deviceAddr (c a : Nat) : Nat := a / 4096 * 65536 + c * 4096 + a % 4096

/-- TAG_WORD_UE (R59): the 512 granules of tag word `w` read as sooted. -/
def State.tagWordUe (s : State) (c w : Nat) : State :=
  let s := (List.range 8).foldl (fun s i =>
    let a := deviceAddr c (w * 32768 + i * 4096)
    s.raise a (a + 4096)) s
  let a := deviceAddr c (s.dramBytes / 16 - s.dramBytes / 16 / 512 + 64 * w)
  let s := (s.sat 32 .SEC_TAG_UE_COUNT).irq .SEC_SOOT_IRQ .SEC_SOOT_IRQ_EN 0 2 1
  let s := s.ueRecord c a
  s.raiseUe c (a % 2 ^ 32) (a / 2 ^ 32) (s.ueBurst c) id

def execTagWordUe (c w : Nat) (s : State) : Result :=
  onChannel s c (decide (w < (s.dramBytes / 16 - s.dramBytes / 16 / 512) / 32768)) (s.tagWordUe c w)

/-- RUNTIME_RETRAIN_DONE (R339): `rate` is the rate reached, at most the current one; none when 6400 MT/s fails too. -/
def State.retrainDone (s : State) (c : Nat) (rate : Option Nat) : State :=
  let s := { s with ch.retrains := Tab.del c s.ch.retrains }.sat 16 .CH_RETRAINS c
  let s := (s.set .CH_RETRAINING c 0).dropJobs fun j => j.kind == .train && j.obj == c
  match rate with
  | none => s.raiseUe c 0xFFFFFFFF 0xFFFFFFFF true id
  | some r =>
    let changed := r != s.get .CH_RATE c
    let s := { s with ch.rates := Tab.put c r s.ch.rates }.set .CH_RATE c r
    let h := Tab.getD (s.now, s.now, s.now) c s.ch.hot
    let m := s.newMult c (Num.toSigned 8 (s.get .CH_TEMP c)) h
    let step := m != s.get .CH_REFRESH_MULT c
    let s := if step then { s with ch.hot := Tab.put c (h.1, h.2.1, s.now) s.ch.hot }.set .CH_REFRESH_MULT c m else s
    if changed || step then s.recompute else s

def execRuntimeRetrainDone (c : Nat) (rate : Option Nat) (s : State) : Result :=
  let rateOk := match rate with
    | none => true
    | some r => (r == 8533 || r == 7500 || r == 6400) && decide (r ≤ s.get .CH_RATE c)
  let due := match Tab.find? c s.ch.retrains with
    | none => false
    | some t => decide (t + 400 ≤ s.now)
  onChannel s c (s.get .CH_RETRAINING c == 1 && due && rateOk) (s.retrainDone c rate)

end Sys2Proof.Machine
end

