-- ==== Sys2Proof/Machine/MirrorJobs.lean ====
section
/-! DEFINITION. Sys2Proof/Machine/MirrorJobs.lean: MIRROR_CONFIG (R203, R391, R392), the ends and faults of mirror jobs
(R385, R397), and the standby's decode path (R398 to R400). -/

namespace Sys2Proof.Machine

open Sys2Proof.Num (slice b2n)

/-! ## MIRROR_CONFIG -/

def Pkt.mirrorCfg (p : Pkt) : MirrorCfg :=
  { rowrate := (p.w 2).testBit 8, bufBytes := p.w 3, fillKbps := p.w 4, delayMs := slice (p.w 5) 15 0, floorKbps := p.w 6 }

/-- The settings apply from the next picture; ENABLE and a change of MODE call for a resynchronisation (R390, R403), and so do new
buffers, which hold nothing. -/
def State.setMirror (s : State) (k : Nat) (st : Stream) (m : MirrorCfg) (bufs : List (Nat × Nat)) : State :=
  match st.mirror with
  | none => s.setStream k { st with mirror := some (newMirror m bufs) }
  | some o =>
    if o.bufs != bufs then ((s.haltMirror k).dropDecodes k).setStream k { st with mirror := some (newMirror m bufs) }
    else
      let s := s.setStream k { st with mirror := some { o with cfg := m } }
      if o.cfg.rowrate == m.rowrate then s else s.resync k

/-- Mirroring of a stream ends: its jobs, its MAUs, its buffers and what it received go, its demand is removed. -/
def State.endMirror (s : State) (k : Nat) : State :=
  let bufs := (((s.stream? k).bind Stream.mirror).map MirrorSt.bufs).getD []
  let s := (((s.haltMirror k).dropDecodes k).modStream k fun st => { st with mirror := none }).mirrorShow k
  (s.freeAll bufs).poolSync.recompute

/-- 128 other streams are mirrored (R203). -/
def State.mirrorsFull (s : State) (k : Nat) : Bool :=
  decide (128 ≤ s.streams.countP fun e => e.1 != k && e.2.mirror.isSome)

/-- The checks of MIRROR_CONFIG on its operands (R203, R183). -/
def State.mirrorPktChecks (s : State) (p : Pkt) : List (Bool × Reply) :=
  [word 2 (p.zeroBits 2 7 7 && p.zeroBits 2 31 10), word 2 ((s.stream? p.stream).any fun st => st.closingPkt.isNone)]

/-- The checks of its settings at frame rate `fps` for crop `c` (R391). -/
def Pkt.mirrorWordChecks (p : Pkt) (fps : Nat) (c : Crop) : List (Bool × Reply) :=
  (mirrorChecks p.mirrorCfg fps c.rotH).map fun x => (x.2 && (x.1 != 5 || p.zeroBits 5 31 16), Reply.bad x.1)

def State.mirrorConfig (s : State) (p : Pkt) : State :=
  let k := p.stream
  let m := p.mirrorCfg
  let live := (s.stream? k).filter fun st => st.closingPkt.isNone
  let crop := (live.bind Stream.pipe).bind Pipe.mirrorCrop
  s.checked p (s.mirrorPktChecks p) fun s =>
    if !(p.w 2).testBit 9 then (s.endMirror k).complete p.id (Reply.ok)
    else
      match live, live.bind Stream.pipe, crop with
      | some st, some pipe, some c =>
        let fps := st.settled.fps
        s.checked p
          (p.mirrorWordChecks fps c)
          fun s =>
            let f := if st.decimated then Num.cdiv fps 2 else fps
            let old : Demand := match st.mirror with
              | none => {}
              | some o => s.mirrorDemand pipe o.cfg f (s.stepIn 1)
            let d := old.raise (s.mirrorDemand pipe m f (s.stepIn 1))
            match s.admitCheck d with
            | some code => let r := s.admitRefusal code d; r.1.complete p.id r.2
            | none =>
              if s.mirrorsFull k then s.complete p.id (Reply.noResource 1)
              else
                match s.placeMirror k st.mirror (mirrorSizes m c fps) with
                | none => s.allocRefused.complete p.id (Reply.noResource 2)
                | some (bufs, s1) => ((s1.setMirror k st m bufs).poolSync.schSync.recompute).complete p.id (Reply.ok)
      | _, _, _ => s.complete p.id (Reply.notPermitted 3)

def execMirrorConfig (s : State) : Result := startPkt 0x42 State.mirrorConfig s

/-! ## The ends of mirror jobs -/

/-- MIRROR_ENCODE_DONE (R385): `bytes` is the size of the AU item, its header included, a multiple of 16 (R384). -/
def execMirrorEncodeDone (m bytes : Nat) (s : State) : Result :=
  match s.jobOn (.menc m) with
  | none => .next s
  | some j =>
    doneIf s (s.enginesRun && j.encodes && bytes % 16 == 0 && decide (32 ≤ bytes))
      (((s.unitIdle (.menc m)).inc .MENC_PICTURES m).pictureDone j bytes)

/-- FR of R399, within what the buffer of the ring holds beside the picture in decode (assumption 81). -/
def State.ringSize (s : State) (st : Stream) (m : MirrorSt) : Nat :=
  min (ringPictures s.epochMs st.fps) ((m.places st.mirrorPicBytes).length - 1)

/-- The picture of FSEQ `fseq` at `a` enters the decoded ring as the reference of the next; a full ring releases its oldest (R399). -/
def MirrorSt.hold (m : MirrorSt) (size fseq a : Nat) : MirrorSt :=
  let m := m.accepted
  if size ≤ m.ring.length then { m with ring := m.ring.drop (m.ring.length + 1 - size) ++ [(fseq, a)], ringGap := true }
  else { m with ring := m.ring ++ [(fseq, a)] }

/-- A decode of the standby has ended (R398, R400): an item read poisoned has failed (R343). -/
def State.mirrorDecoded (s : State) (j : Job) (ok : Bool) : State :=
  let ok := ok && !s.poisonIn j.reads
  let s := (j.writes.foldl State.rewritten s).dropJobs fun i => i.id == j.id
  let a := ((j.writes.getLast?).map Prod.fst).getD 0
  match s.stream? j.stream with
  | none => s
  | some st =>
    (s.modMirror j.stream fun m =>
      if !ok then { m with needIdr := true }
      else if j.tile == 1 then { m with needIdr := false }.hold (s.ringSize st m) j.fseq a
      else if m.needIdr then m
      else m.hold (s.ringSize st m) j.fseq a).mirrorShow j.stream

/-- MIRROR_DECODE_DONE (R398): `ok` says whether the item decoded. -/
def execMirrorDecodeDone (m : Nat) (ok : Bool) (s : State) : Result :=
  match s.jobOn (.menc m) with
  | none => .next s
  | some j => doneIf s (s.enginesRun && j.decodes) (((s.unitIdle (.menc m)).inc .MENC_PICTURES m).mirrorDecoded j ok)

/-- MIRROR_ENCODER_FAULT (R397): cause 1 uncorrectable, 2 hang. The job is issued again on the other encoder, or given up. -/
def State.encoderFault (s : State) (m cause : Nat) : State :=
  let s := ((s.set .MENC_IN_SERVICE m 0).set .MENC_FAULTED m 1).set .MENC_CAUSE m cause
  let j := s.jobOn (.menc m)
  -- a first failure with no other encoder in service gives the job up, and re-issues none (R107)
  let again := j.filter fun i => i.failedOn.isSome || s.unitsOf 6 != 0
  s.unitFault (0x600 + m) again.toList fun s =>
    match j with
    | none => s
    | some j =>
      let s := s.unitIdle (.menc m)
      match j.failedOn with
      | some u => ((s.giveUpMirror j).startSelftest (.menc m)).startSelftest u
      | none =>
        if s.unitsOf 6 == 0 then s.giveUpMirror j
        else s.modJob j.id fun i => { i with unit := none, failedOn := some (.menc m) }

def execMirrorEncoderFault (m cause : Nat) (s : State) : Result :=
  if 2 ≤ m then .fault .noSuchInstance
  else unitFaultCmd s (0x600 + m) (s.get .MENC_IN_SERVICE m == 1 && (cause == 1 || cause == 2)) (s.encoderFault m cause)

end Sys2Proof.Machine
end

