-- ==== Sys2Proof/Machine/Wren.lean ====
section
/-! DEFINITION. Sys2Proof/Machine/Wren.lean: the Wren link (15_wren_link_and_mirroring.md): training and width, link-down, the
transmitter with its classes, credits and replay, and what each received frame does. -/

namespace Sys2Proof.Machine

open Sys2Proof.Num (u8 u32 b2n toSigned ofSigned slice satAdd wrap32)

/-- The link is up: in DATA, or in a retrain that left it (R355, R360). -/
def State.linkUp (s : State) : Bool := s.get .WRN_LSTATE == 6 || s.get .WRN_LSTATE == 7

/-- The wire layout of the eight low bytes of a body and the words after them. -/
def words64 (n : Nat) : List Nat := [n % 2 ^ 32, n / 2 ^ 32 % 2 ^ 32]

def bodyWordsN : Nat → Bytes → List Nat
  | 0, _ => []
  | n + 1, b => if b.isEmpty then [] else u32 b 0 :: bodyWordsN n (b.drop 4)

/-! ## The transmitter (R354, R363, R366, R367) -/

/-- LIMIT_x before any credit: the landing rings of R367. -/
def ringFrames : Nat → Nat
  | 0 => 64 | 1 => 2048 | _ => 1024

/-- A new frame of class `cls` may be sent: DATA, room in the replay buffer, credit. -/
def State.canSend (s : State) (cls : Nat) : Bool :=
  s.inData && decide (s.w.replay.length < 512) &&
  decide (Tab.getD 0 cls s.w.sent < Tab.getD (ringFrames cls) cls s.w.lim)

/-- A frame of a class is sent. -/
def State.sendFrame (s : State) (cls type ctx : Nat) (body : List Nat) : State :=
  { s.wrenSend type ctx body with w.sent := Tab.put cls (Tab.getD 0 cls s.w.sent + 1) s.w.sent }

/-- A frame of class `cls` with the SEQ expected and a valid TAG is accepted. -/
def State.accept (s : State) (cls : Nat) : State :=
  let s := s.set .WRN_RX_FRAMES 0 ((s.get .WRN_RX_FRAMES + 1) % 2 ^ 64)
  { s with w.rxSeq := s.w.rxSeq + 1, w.lastRx := s.now, w.badTags := 0, w.sinceCredit := s.w.sinceCredit + 1
           w.got := Tab.put cls (Tab.getD 0 cls s.w.got + 1) s.w.got }

/-- A control frame waits for WREN_FRAME_TX. -/
def State.queueCtrl (s : State) (type : Nat) (body : List Nat) : State :=
  if s.clockIsLost 20 then s.crossed else { s with w.ctrlQ := s.w.ctrlQ ++ [(type, body)] }

/-- The CREDIT of this unit (R352, R354, R369). -/
def State.creditWords (s : State) : List Nat :=
  let lim (c : Nat) : Nat := wrap32 (ringFrames c + Tab.getD 0 c s.w.got)
  [wrap32 s.w.rxSeq, lim 1, lim 2, lim 0 % 65536 + 65536 * b2n s.w.nak + 2 ^ 17 * s.role]

/-- WREN_CREDIT_SEND (R354, R408). -/
def State.sendCredit (s : State) : State :=
  { s.sendFrame 0 0x02 0 s.creditWords with w.nak := false, w.roleDue := false, w.sinceCredit := 0, w.lastCredit := s.now }

def execWrenCreditSend (s : State) : Result := doneIf s (s.canSend 0) s.sendCredit

/-- WREN_TICK_SEND (R374): the leader's tick word; `cycle` is the TCLK cycle within the tick. -/
def execWrenTickSend (cycle : Nat) (s : State) : Result :=
  doneIf s (s.canSend 0 && s.session == 2 && s.get .WRN_LEADER == 1 && s.now % 1024 == 0 && decide (cycle < 25))
    (s.sendFrame 0 0x03 0 (words64 s.now ++ [cycle]))

/-- The MIRROR and EPOCH gate is open (R363). -/
def State.gateOpen (s : State) : Bool := s.partner.isSome && s.session == 2

/-- The MAU whose frames are sent next: the longest waiting whose job has an entry (R282). -/
def State.nextMau (s : State) : Option (Nat × Mau) := s.w.maus.find? fun q => s.jobs.all fun j => j.id != q.2.job || j.entry

/-- The next 256 bytes of an MAU, as words. -/
def Mau.frameWords (m : Mau) : List Nat := bodyWordsN 64 ((m.bytes.drop (256 * m.sent)).take 256)

/-- The next MIRROR frame of an MAU (R383): 256 bytes of it, FIRST and LAST in CONTEXT. The last one ends its job. -/
def State.sendMirror (s : State) (k : Nat) (m : Mau) : State :=
  let n := m.size / 256
  let last := m.sent + 1 == n
  let ctx := k + 256 * b2n (m.sent == 0) + 512 * b2n last
  let mine (q : Nat × Mau) : Bool := q.1 == k && q.2 == m
  let s := s.sendFrame 1 0x10 ctx m.frameWords
  let s := { s with w.mirrorRun := s.w.mirrorRun + 1 }
  if last then
    ((({ s with w.maus := s.w.maus.filter fun q => !mine q } : State).dropJobs fun j => j.kind == .wren && j.id == m.job)).inc .MS_MAUS k
  else { s with w.maus := s.w.maus.map fun q => if mine q then (k, { m with sent := m.sent + 1 }) else q }

/-- The next EPOCH frame; after the last one of COMMIT the epoch is sent. -/
def State.sendEpoch (s : State) (b : Bytes) (rest : List Bytes) : State :=
  let s := { s.sendFrame 2 0x11 s.w.epoch (bodyWordsN 64 b) with w.epochQ := rest, w.mirrorRun := 0 }
  if rest.isEmpty && s.w.snapWait.isEmpty && s.w.epochOpen then { s with w.epochOpen := false }.set .WRN_EPOCH_SENT 0 s.w.epoch
  else s

/-- The sooted granules of [lo, hi) meet the gate closed (R46, R363): one refused operation of EXIT 0x03. -/
def State.refuseRange (s : State) (cause lo hi : Nat) : State :=
  match s.sootIn lo hi with
  | [] => s
  | r :: rs => s.breach 3 cause 0x0A00 (((r :: rs).map fun p => p.2 - p.1).sum) (64 * r.1) 0

/-- The gate closes on what has not passed it, or finds it closed (R46, R65, R363): the sooted frames that wait are refused and go no
further, a mirror frame counted as dropped. What waits of one MAU is one refused operation, of which every granule counts, and so is what
waits of the epoch (DESIGN CHOICE, assumption 36). CAUSE is 3 where the unit is not bound, 4 where the session is not KEYED. -/
def State.closeGate (s : State) (cause : Nat) : State :=
  let s := s.w.maus.foldl (fun s q =>
    let s := s.refuseRange cause (q.2.addr + 256 * q.2.sent) (q.2.addr + q.2.size)
    { s with w.gateDrops := s.w.gateDrops + (q.2.size / 256 - q.2.sent) }) s
  let left := (s.w.epochQ.map List.length).sum
  let base := s.epochBuf (s.w.eBuf + 1) + s.w.epochBytes
  let s := if left == 0 then s else s.refuseRange cause (base - left) base
  ({ s with w.maus := [], w.epochQ := [] } : State).dropJobs fun j => j.kind == .wren

/-- A sooted frame meets the gate closed. -/
def State.refuseFrame (s : State) : State := s.closeGate (if s.partner.isSome then 4 else 3)

/-- WREN_FRAME_TX (R366): CTRL first, then MIRROR, with one EPOCH frame in every 16 while both wait. -/
def execWrenFrameTx (s : State) : Result :=
  match s.w.ctrlQ, s.canSend 0 with
  | (t, b) :: rest, true => done ({ s with w.ctrlQ := rest }.sendFrame 0 t 0 b)
  | _, _ =>
    if (!s.w.maus.isEmpty || !s.w.epochQ.isEmpty) && !s.gateOpen && s.inData then done s.refuseFrame
    else
      let m := if s.canSend 1 then s.nextMau else none
      let e := if s.canSend 2 then s.w.epochQ.head? else none
      match m, e with
      | none, none => .next s
      | some (k, a), none => done (s.sendMirror k a)
      | none, some b => done (s.sendEpoch b (s.w.epochQ.drop 1))
      | some (k, a), some b =>
        if 15 ≤ s.w.mirrorRun then done (s.sendEpoch b (s.w.epochQ.drop 1)) else done (s.sendMirror k a)

/-! ## Training (R355 to R359) -/

/-- A full training starts from DETECT (R355, R360, R379). -/
def State.startTraining (s : State) : State :=
  let s := { s with w.train := some ⟨true, 1, s.now, none, none, none, none⟩, w.leftData := none, w.again := false }
  ((s.set .WRN_LSTATE 0 1).set .WRN_WIDTH 0 0).set .WRN_LANE 0 0

/-- A retrain starts at LOCK. -/
def State.startRetrain (s : State) : State :=
  let s := { s with w.train := some ⟨false, 2, s.now, none, none, none, none⟩, w.leftData := some s.now, w.again := false }
  (s.set .WRN_LSTATE 0 7).set .WRN_PAYLOAD_MBPS 0 0

/-- TRAIN_CFG as this unit sends it: byte 8 with its proposal, and the width committed where `set` gives one. -/
def State.sendTrainCfg (s : State) (set : Option (Nat × Nat)) : State :=
  let p := s.w.held.getD (0, 0)
  let c := match set with
    | none => 0
    | some (w, l) => 8 + 16 * w + 64 * l
  s.sendFrame 0 0x01 0 (words64 s.fuses.serial ++ [p.1 + 4 * p.2 + c])

/-- A request for a training (R357): it joins one in progress before its commit, waits for DATA after it, and else starts
one. -/
def State.requestRetrain (s : State) : State :=
  match s.w.train with
  | some t =>
    if t.set.isSome then { s with w.again := true }
    else if t.phase == 5 then s.sendTrainCfg none else s
  | none => if s.inData then s.startRetrain else s

/-- This unit asks: the partner is told while frames can be sent. -/
def State.askRetrain (s : State) : State :=
  if s.inData && s.w.train.isNone then (s.sendFrame 0 0x07 0 []).startRetrain else s.requestRetrain

/-- This unit holds a width proposal (R358). -/
def State.propose (s : State) (w lane : Nat) : State := { s with w.held := some (w, if w == 1 then lane else 0) }.askRetrain

/-- WREN_AUTO_PROPOSE (R358): `errs` receiver errors on `lane` within 1,024 ticks, which WRN_LANE_ERR counts. -/
def State.laneErrors (s : State) (lane errs : Nat) : State :=
  let s := s.sat 16 .WRN_LANE_ERR lane errs
  if s.get .WRN_AUTO_WIDTH == 1 && decide (s.get .WRN_LANE_ERR_LIMIT ≤ errs) then s.propose 1 (1 - lane) else s

/-- Lane `l` carries blocks now (R351). -/
def State.laneUsed (s : State) (l : Nat) : Bool :=
  decide (l < 2) && (s.get .WRN_WIDTH == 2 || s.get .WRN_LANE == l)

def execWrenAutoPropose (lane errs : Nat) (s : State) : Result :=
  doneIf s (s.inData && s.laneUsed lane && decide (1 ≤ errs)) (s.laneErrors lane errs)

/-- LANE_LOCK_LOSS (R357). -/
def execLaneLockLoss (lane : Nat) (s : State) : Result := doneIf s (s.inData && s.laneUsed lane) s.requestRetrain

/-- The width and lane before any proposal: as they are, or x2 after a full training (R358). -/
def State.baseWidth (s : State) (t : Training) : Nat × Nat := if t.full then (2, 0) else (s.get .WRN_WIDTH, s.get .WRN_LANE)

/-- WIDTH_WINDOW_END (R358): the leader decides and commits; the follower waits for its commit. -/
def State.windowEnd (s : State) (t : Training) : State :=
  if s.get .WRN_LEADER == 0 then s
  else
    let d := match s.w.held, t.partner with
      | some p, _ => p
      | none, some p => p
      | none, none => s.baseWidth t
    { s.sendTrainCfg (some d) with w.held := none, w.train := some { t with set := some d } }

def execWidthWindowEnd (s : State) : Result :=
  match s.w.train with
  | none => .next s
  | some t =>
    match t.window, t.set with
    | some w, none => doneIf s (s.wrenOn && decide (w + 64 ≤ s.now)) (s.windowEnd t)
    | _, _ => .next s

/-- TRAIN_CFG_RX (R356, R358): the serial and with it the leader, the partner's proposal, the leader's commit. -/
def State.trainCfg (s : State) (t : Training) (serial b8 : Nat) : State :=
  let s := { s.accept 0 with w.peer := some serial }
  if serial == s.fuses.serial then
    { s with w.train := some { t with serial := some serial } }.set .WRN_REASON 0 8
  else
    let lead := decide (serial < s.fuses.serial)
    let s := s.set .WRN_LEADER 0 (b2n lead)
    let w := b8 % 4
    let t := { t with
      serial := some serial, window := some (t.window.getD s.now)
      partner := if w == 1 || w == 2 then some (w, b8 / 4 % 2) else t.partner }
    let commit := b8.testBit 3 && !lead && t.set.isNone
    if !commit then { s with w.train := some t }
    else
      let s := { s with w.train := some { t with set := some (b8 / 16 % 4, b8 / 64 % 2) } }
      -- the follower's proposal: withdrawn against the leader's, applied alone
      if s.w.held.isSome && t.partner.isSome then
        let s := { s with w.held := none }.sat 16 .WRN_WITHDRAWALS
        s.set .WRN_EVENTS 0 (s.get .WRN_EVENTS ||| 1)
      else { s with w.held := none }

def execTrainCfgRx (serial b8 : Nat) (s : State) : Result :=
  match s.w.train with
  | none => .next s
  | some t =>
    doneIf s (s.wrenOn && t.phase == 5 && decide (serial < 2 ^ 64) && decide (b8 < 128) && b8 % 4 != 3 &&
      (!b8.testBit 3 || b8 / 16 % 4 == 1 || b8 / 16 % 4 == 2)) (s.trainCfg t serial b8)

/-- The width reached when `lanes` (bit per lane) can reach DATA: the one committed, or the widest below it, lane 0 first. -/
def reached (set : Nat × Nat) (lanes : Nat) : Option (Nat × Nat) :=
  if set.1 == 2 && lanes.testBit 0 && lanes.testBit 1 then some (2, 0)
  else if set.1 == 1 && lanes.testBit set.2 then some (1, set.2)
  else if lanes.testBit 0 then some (1, 0)
  else if lanes.testBit 1 then some (1, 1)
  else none

/-- The unit re-keys with its stored partner by itself (R365, R379): SESSION reads AUTH. -/
def State.startRekey (s : State) : State :=
  if s.partner.isNone || s.fuses.lab || s.session != 0 || s.get .KEY_TRNG_FAIL == 1 then s
  else ({ s with w.pair := some ([], false) }.set .WRN_SESSION 0 1).queueCtrl 0x04 []

/-- DATA is reached at width `w` (R353, R354, R358, R359, R379). -/
def State.enterData (s : State) (t : Training) (w lane : Nat) : State :=
  let changed := s.w.trained != 0 && (w != s.w.trained || (!t.full && lane != s.get .WRN_LANE))
  let keyed := s.session == 2
  let s := { s with w.train := none, w.leftData := none, w.trained := w, w.lastRx := s.now, w.lastCredit := s.now, w.sinceCredit := 0
                    w.pings := [], w.resend := keyed && !s.w.replay.isEmpty }
  let s := if keyed then s else { s with w.txSeq := 1, w.rxSeq := 1, w.replay := [] }
  let s := ((s.set .WRN_LSTATE 0 6).set .WRN_WIDTH 0 w).set .WRN_LANE 0 lane
  let s := s.set .WRN_PAYLOAD_MBPS 0 (2750 * w)
  let s := if t.full then s
           else (s.sat 16 .WRN_RETRAINS).set .WRN_EVENTS 0 (s.get .WRN_EVENTS ||| 4)
  let s := if changed then s.set .WRN_EVENTS 0 (s.get .WRN_EVENTS ||| 2) else s
  -- the follower measures the link delay (R374)
  let s := if s.get .WRN_LEADER == 1 then s
           else (List.range 8).foldl (fun s _ => s.queueCtrl 0x08 (words64 (25 * s.now) ++ [0])) s
  let s := s.startRekey
  let s := if s.w.again || s.w.held.isSome then s.startRetrain else s
  s.recompute

/-- WREN_TRAIN_ADVANCE (R355): the next state of the training; from CONFIG to DATA after the commit, with the lanes that reach
it. -/
def State.trainAdvance (s : State) (t : Training) (lanes : Nat) : Result :=
  if t.phase < 5 then
    let s1 := { s with w.train := some { t with phase := t.phase + 1 } }
    let s1 := if t.full then s1.set .WRN_LSTATE 0 (t.phase + 1) else s1
    doneIf s s.wrenOn (if t.phase == 4 then s1.sendTrainCfg none else s1)
  else
    match t.set with
    | none => .next s
    | some w =>
      match reached w lanes with
      | none => .next s
      | some r => doneIf s (s.wrenOn && (s.w.leftData.all fun l => decide (s.now < l + 2000))) (s.enterData t r.1 r.2)

def execWrenTrainAdvance (lanes : Nat) (s : State) : Result :=
  match s.w.train with
  | none => .next s
  | some t => s.trainAdvance t lanes

/-! ## The partner's role, and link-down (R360, R410, R414) -/

/-- PARTNER_ROLE becomes `r` (R423): any change sets PARTNER_ROLE_CHANGED; the first STANDBY of a session is E(0) (R370). -/
def State.setPartnerRole (s : State) (r : Nat) : State :=
  let was := s.get .WRN_PARTNER_ROLE
  let s := if was == r then s
    else
      let s := (s.set .WRN_PARTNER_ROLE 0 r).irq .GCTL_PAIR_IRQ .GCTL_PAIR_IRQ_EN 0 3 2
      let s := if r == 1 then s.resyncAll else if was == 1 then s.stopMirroring else s
      s.schSync
  if r == 1 && s.session == 2 && s.w.e.isNone then { s with w.e := some (s.now, s.epochMs * 1000) } else s

/-- Every PAIR_BIND that waits for the handshake completes with `r`. -/
def State.failBinds (s : State) (r : Reply) : State :=
  match s.w.pair with
  | none => s
  | some (ps, _) => ps.foldl (fun s id => s.complete id r) { s with w.pair := none }

/-- What the loss of the link does to it (R360): frames that wait at the gate refused (R65), keys zeroised, landing rings emptied, the
epoch in reception discarded. -/
def State.linkOff (s : State) (reason : Nat) : State :=
  let s := if s.session == 2 then s.refuseFrame else s
  let s := s.dropReception
  let s := s.failBinds (Reply.deviceFault 0x0201)
  let s := { s with
    w.train := none, w.leftData := none, w.ctrlQ := [], w.replay := [], w.txSeq := 1, w.rxSeq := 1, w.sent := [], w.lim := [], w.got := []
    w.nak := false, w.badTags := 0, w.rekey := false, w.resend := false, w.again := false, w.pings := [], w.e := none, w.epoch := 0, w.peer := none
    w.applied := 0, w.rxSkip := none, w.slewReq := none }
  let s := ((s.set .WRN_SESSION 0 0).set .WRN_REASON 0 reason).set .WRN_PAYLOAD_MBPS 0 0
  let s := ((s.set .WRN_LSTATE 0 0).set .WRN_WIDTH 0 0).set .WRN_LANE 0 0
  s.setPartnerRole 7

/-- The part of PAIR_LINK_DOWN that Choararok owns: STANDBY becomes ORPHAN and keeps its state (R410). -/
def State.pairRoleDown (s : State) : State := if s.role == 1 then s.setRole 2 false else s

/-- The consequence of PAIR_LINK_DOWN as R112 and R113 treat it. -/
def State.pairDown (s : State) (t : Treat) : State :=
  match t with
  | .apply => (s.stopMirroring.pairRoleDown).schSync
  | .defer => { s.stopMirroring with deferredPairDown := some s.now }.schSync
  | _ => s.schSync

/-- The link goes down: PAIR_LINK_DOWN is raised once, and the link trains again from DETECT. -/
def State.linkDown (s : State) (reason : Nat) : State :=
  if !s.linkUp then s
  else
    let s := s.inRank 7 0
    let t := s.treatment 7
    let s := ((s.linkOff reason).capture 7 0 reason 0 0).pairDown t
    if s.wrenOn then s.startTraining else s

/-- WREN_LINK_DOWN: reasons 1 and 2 once DATA has been left for 2,000 ticks, 6 the partner's unbind, 7 its reset. A unit in FAULT or
after a thermal trip, which sends nothing more, records it (R112, R113), and so does one that WDG_SYS has reset in this tick. -/
def execWrenLinkDown (reason : Nat) (s : State) : Result :=
  let late := s.w.leftData.any fun l => decide (l + 2000 ≤ s.now)
  if s.wdgResetNow && !s.isReady then done ((s.inRank 7 0).capture 7 0 reason 0 0)
  else
    doneIf s (!s.clockIsLost 20 && s.linkUp && (((reason == 1 || reason == 2) && (late || !s.wrenOn)) ||
        ((reason == 6 || reason == 7) && s.get .WRN_LSTATE == 6)))
      (s.linkDown reason)

/-- WREN_KEEPALIVE_EXPIRE. -/
def execWrenKeepaliveExpire (s : State) : Result :=
  doneIf s (!s.clockIsLost 20 && s.get .WRN_LSTATE == 6 && decide (s.w.lastRx + 256 ≤ s.now)) (s.linkDown 3)

/-- REKEY_START (R362, R435). -/
def execRekeyStart (s : State) : Result :=
  doneIf s (s.inData && s.session == 2 && !s.w.rekey && decide (2 ^ 32 - 2 ^ 24 ≤ s.w.txSeq))
    (if s.get .KEY_TRNG_FAIL == 1 then s.linkDown 4 else { s with w.rekey := true }.queueCtrl 0x05 [])

/-! ## Reception (R354, R364, R369) -/

/-- An accepted frame takes effect in DATA. -/
def onFrame (s : State) (cls : Nat) (ok : Bool) (body : State → State) : Result := doneIf s (s.inData && ok) (body (s.accept cls))

/-- WREN_FRAME_REJECT (R354, R364). -/
def State.rejectFrame (s : State) (tagBad : Bool) : State :=
  let s := { s with w.nak := true, w.badTags := if tagBad then s.w.badTags + 1 else 0 }
  let s := if tagBad then s.sat 32 .WRN_AUTH_FAILS else s
  if 16 ≤ s.w.badTags then s.linkDown 4 else s

def execWrenFrameReject (tagBad : Bool) (s : State) : Result := doneIf s s.inData (s.rejectFrame tagBad)

/-- Frames before SEQ `a` are acknowledged. -/
def acked (a next : Nat) (l : List (Nat × Nat × Nat × List Nat)) : List (Nat × Nat × Nat × List Nat) :=
  if a == wrap32 next then []
  else if l.any fun e => wrap32 e.1 == a then l.dropWhile fun e => wrap32 e.1 != a
  else l

/-- The frames of the replay buffer are sent again, unchanged. -/
def State.replay (s : State) : State :=
  (s.w.replay.foldl (fun s e => s.emit (.wren e.2.1 e.1 (e.2.2.1 :: e.2.2.2))) s).inc .WRN_REPLAYS 0 s.w.replay.length

/-- CREDIT_RX (R354, R359, R367, R369). -/
def State.creditRx (s : State) (ack lm le w3 : Nat) : State :=
  let s := { s with w.replay := acked ack s.w.txSeq s.w.replay, w.lim := [(0, w3 % 65536), (1, lm), (2, le)] }
  let s := if w3.testBit 16 || s.w.resend then { s.replay with w.resend := false } else s
  s.setPartnerRole (w3 / 2 ^ 17 % 8)

def execCreditRx (ack lm le w3 : Nat) (s : State) : Result :=
  onFrame s 0 (decide (w3 < 2 ^ 20)) fun s => s.creditRx (wrap32 ack) (wrap32 lm) (wrap32 le) w3

/-- TICK_RX (R374, R375): the offset, the slew it calls for, ALIGNED. -/
def State.tickWord (s : State) (tick cycle own : Nat) : State :=
  if s.session != 2 || s.get .WRN_LEADER == 1 then s
  else
    let o : Int := (25 * tick + cycle + s.get .WRN_LINK_DELAY : Nat) - (25 * s.now + own : Nat)
    let s := s.set .WRN_TIME_OFFSET 0 (ofSigned 32 o)
    let s := s.set .EVU_ALIGNED 0 (b2n (decide (-25 ≤ o) && decide (o ≤ 25)))
    { s with w.slewReq := if 25 < o then some false else if o < -25 then some true else none }

def execTickRx (tick cycle own : Nat) (s : State) : Result :=
  onFrame s 0 (decide (cycle < 25) && decide (own < 25) && decide (tick < 2 ^ 64)) fun s => s.tickWord tick cycle own

/-- PING_RX (R374): an echo of a PING, or a round trip; DL is half the median of eight. -/
def State.ping (s : State) (count : Nat) (echo : Bool) (own : Nat) : State :=
  if !echo then s.queueCtrl 0x08 (words64 count ++ [1])
  else
    let ps := s.w.pings ++ [own - count]
    if ps.length < 8 then { s with w.pings := ps }
    else
      let r := ps.mergeSort fun a b => decide (a ≤ b)
      { s with w.pings := [] }.set .WRN_LINK_DELAY 0 (min 65535 ((r.getD 3 0 + r.getD 4 0) / 4))

def execPingRx (count : Nat) (echo : Bool) (own : Nat) (s : State) : Result :=
  onFrame s 0 (!echo || decide (count ≤ own)) fun s => s.ping count echo own

/-- PAIR_FRAME_RX (R361): the partner is heard, and the unit answers in the exchange. -/
def execPairFrameRx (s : State) : Result :=
  onFrame s 0 true fun s =>
    match s.w.pair with
    | none => s
    | some (ps, _) => { s with w.pair := some (ps, true) }.queueCtrl 0x04 []

/-- KEY_FRAME_RX (R362): with the last piece the new key takes effect and SEQ restarts at 1 there: of this unit's direction
where it asked for the rekey, of the partner's otherwise. -/
def State.keyFrame (s : State) (last : Bool) : State :=
  if s.session != 2 then s
  else if s.w.rekey then (if last then { s with w.rekey := false, w.txSeq := 1 } else s)
  else if last then { s with w.rxSeq := 1 }.queueCtrl 0x05 [] else s.queueCtrl 0x05 []

def execKeyFrameRx (last : Bool) (s : State) : Result := onFrame s 0 true fun s => s.keyFrame last

/-- FAULT_FRAME_RX (R377). -/
def execFaultFrameRx (code ch : Nat) (s : State) : Result :=
  onFrame s 0 (decide (code < 256) && decide (ch < 16)) fun s =>
    ((s.set .WRN_PF_CODE 0 code).set .WRN_PF_CHANNEL 0 ch).linkDown 5

/-- RETRAIN_REQ_RX (R357): joins a training before its commit, too. -/
def execRetrainReqRx (s : State) : Result :=
  if s.w.train.isSome then doneIf s s.wrenOn s.requestRetrain else onFrame s 0 true State.requestRetrain

/-! ## The mirror frames a STANDBY receives (R398) -/

/-- An item is complete: an AU goes to a decoder, unless no IDR has decoded yet. -/
def State.mirrorItem (s : State) (k : Nat) (it : Item) (m : MirrorSt) : State :=
  if it.kind != 1 || (m.needIdr && !it.idr) then s
  else s.addJob { emptyJob with
    kind := .mirror, cls := 1, stream := k, fseq := it.fseq, mode := 1, tile := b2n it.idr, soot := true
    deps := (s.jobs.filter fun j => j.stream == k && j.decodes).map Job.id
    ins := asBufs (m.bufs.take 1) ++ [.recon false], outs := [.recon true, .ringPlace] }

/-- The 16 bytes `b` at the place reached in the current MAU. -/
def State.mirrorChunk (s : State) (k : Nat) (b : Bytes) : State :=
  match (s.stream? k).bind Stream.mirror with
  | none => s
  | some m =>
    let pos := m.rxPos
    if pos == 0 then
      let resync := (u8 b 12).testBit 2
      s.modMirror k fun m => { m with
        rxPos := 16, rxFirst := u32 b 8, rxItem := if resync then none else m.rxItem, rxSynced := m.rxSynced && !resync }
    else
      let s := s.modMirror k fun m => { m with rxPos := pos + 16 }
      match m.rxItem with
      | some it =>
        if 16 < it.left then s.modMirror k fun m => { m with rxItem := some { it with left := it.left - 16 } }
        else (s.modMirror k fun m => { m with rxItem := none }).mirrorItem k it m
      | none =>
        if !m.rxSynced && pos != m.rxFirst then s
        else
          let n := u32 b 4
          let it : Item := ⟨u8 b 0, (u8 b 1).testBit 0, u32 b 8, n - 16⟩
          if n < 16 || n % 16 != 0 then s.modMirror k fun m => { m with rxSynced := false }
          else if n == 16 then (s.modMirror k fun m => { m with rxSynced := true }).mirrorItem k it m
          else s.modMirror k fun m => { m with rxSynced := true, rxItem := some it }

/-- A payload of class `cls` lands in its ring, sooted (R42, R363, R367). -/
def State.land (s : State) (cls : Nat) : State :=
  let a := s.landing cls (Tab.getD 0 cls s.w.got + 0xFFFFFFFF)
  s.raise a (a + 288)

/-- `n` bytes of a body are stored in the mirror buffer of stream `k`, sooted, where its writing has come to (R398; assumption 81). -/
def State.storeMirror (s : State) (k n : Nat) : State :=
  match ((s.stream? k).bind Stream.mirror).bind fun m => m.bufs.head?.map fun b => (b, m.rxAt) with
  | none => s
  | some (b, at_) =>
    let a := b.1 + at_ % max b.2 1
    let s := (s.raise a (min (a + n) (b.1 + b.2))).raise b.1 (b.1 + (a + n - (b.1 + b.2)))
    s.modMirror k fun m => { m with rxAt := m.rxAt + n }

/-- MIRROR_FRAME_RX: STREAM, FIRST and LAST of CONTEXT, and the body. -/
def State.mirrorFrame (s : State) (ctx : Nat) (body : Bytes) : State :=
  let k := ctx % 128
  if s.session != 2 then s
  else if s.role != 1 then s.inc .WRN_RX_DISCARDS
  else if !s.mirroredHere k then s.inc .GCTL_PAIR_IGNORED
  else
    let s := s.storeMirror k body.length
    let s := if ctx.testBit 8 then s.modMirror k fun m => { m with rxPos := 0 } else s
    let s := (chunks 16 (body.length / 16) body).foldl (fun s b => s.mirrorChunk k b) s
    (if ctx.testBit 9 then s.inc .MS_MAUS k else s).mirrorShow k

/-- A body of MIRROR or EPOCH (R352). -/
def bodyOk (b : Bytes) : Bool := decide (16 ≤ b.length) && decide (b.length ≤ 256) && b.length % 16 == 0

def execMirrorFrameRx (ctx : Nat) (body : Bytes) (s : State) : Result :=
  onFrame s 1 (bodyOk body && decide (ctx < 1024) && !ctx.testBit 7) fun s => (if s.session == 2 then s.land 1 else s).mirrorFrame ctx body

/-- EPOCH_FRAME_RX (R369, R373). -/
def State.epochFrame (s : State) (ctx : Nat) (body : Bytes) : State :=
  if s.session != 2 then s
  else if s.role != 1 then s.inc .WRN_RX_DISCARDS
  else s.epochBytes ctx body

def execEpochFrameRx (ctx : Nat) (body : Bytes) (s : State) : Result :=
  onFrame s 2 (bodyOk body && decide (ctx < 2 ^ 32)) fun s => (if s.session == 2 then s.land 2 else s).epochFrame ctx body

/-! ## WRN_CTRL (R357, R358, R378) -/

/-- A host write of `v` to WRN_CTRL. -/
def State.wrenCtrl (s : State) (v : Nat) : State :=
  let w := slice v 2 1
  if w == 3 then s
  else
    let s := (s.set .WRN_AUTO_WIDTH 0 (v % 2)).set .WRN_LANE_ERR_LIMIT 0 (slice v 15 8)
    if w != 0 then s.propose w (slice v 3 3) else if v.testBit 16 then s.askRetrain else s

end Sys2Proof.Machine
end

