-- ==== Sys2Proof/Machine/Roles.lean ====
section
/-! DEFINITION. Sys2Proof/Machine/Roles.lean: pairing (R201, R361, R365), the four roles with their generation and lease
(R202, R406 to R410), and takeover (R411 to R413). -/

namespace Sys2Proof.Machine

open Sys2Proof.Num (b2n slice sub32 gt32)

/-! ## PAIR_BIND (R201, R361, R428) -/

/-- The stored partner identity becomes `p`. -/
def State.setPartner (s : State) (p : Option (Nat × Nat)) : State :=
  ({ s with partner := p }.set .WRN_BOUND 0 (b2n p.isSome)).set .WRN_PARTNER_SERIAL 0 ((p.map Prod.fst).getD 0)

def State.bindReply (s : State) : Reply :=
  let n := (s.partner.map Prod.fst).getD 0
  Reply.ok (n % 2 ^ 32) (n / 2 ^ 32) (s.get .WRN_LEADER)

/-- UNBIND (R65, R360, R410): what waits at the gate is refused, the session and the stored identity go, the role becomes SOLO. -/
def State.unbind (s : State) : State :=
  let s := (s.closeGate 3).linkDown 6
  let s := (s.failBinds (Reply.deviceFault 0x0201)).set .WRN_SESSION 0 0
  ((s.setPartner none).set .EVU_ALIGNED 0 0).setRole 3 false

/-- The partner this unit is bound to is not the one a bind asks for, or not the one on the link. -/
def State.boundElsewhere (s : State) (want : Nat) : Bool :=
  s.partner.any fun p => (want != 0 && want != p.1) || s.w.peer.any fun q => q != p.1

/-- The checks of PAIR_BIND (R201, R428, R432). -/
def State.pairChecks (s : State) (p : Pkt) : List (Bool × Reply) :=
  let un := (p.w 4).testBit 0
  [word 4 (p.zeroBits 4 31 1), (!s.fuses.lab, Reply.notPermitted 5),
   (if un then s.role == 2 || s.role == 3 else !s.boundElsewhere (p.w64 2), Reply.notPermitted 3),
   (un || s.get .KEY_PAIRING_AVAILABLE == 1, Reply.notPermitted 6),
   (un || s.inData, Reply.deviceFault 0x0201),
   (s.get .KEY_TRNG_FAIL == 0, Reply.deviceFault 0x0303),
   (s.get .KEY_IDENTITY_OK == 1, Reply.deviceFault 0x0304)]

/-- The reply to UNBIND gives a serial of 0: whether the one before or after it is meant no rule states (DESIGN CHOICE, assumption
102). -/
def State.pairBind (s : State) (p : Pkt) : State :=
  let un := (p.w 4).testBit 0
  s.checked p (s.pairChecks p)
    fun s =>
      if un then
        let s := s.unbind
        s.complete p.id (Reply.ok 0 0 (s.get .WRN_LEADER))
      else if s.session == 2 then s.complete p.id s.bindReply
      else
        match s.w.pair with
        | some (ps, heard) => { s with w.pair := some (ps ++ [p.id], heard) }
        | none => ({ s with w.pair := some ([p.id], false) }.set .WRN_SESSION 0 1).queueCtrl 0x04 []

def execPairBind (s : State) : Result := startPkt 0x40 State.pairBind s

/-- The handshake has failed: the waiting binds complete with `r`; with a partner stored REASON reads 0x09 (R365). -/
def State.handshakeFailed (s : State) (r : Reply) : State :=
  let s := (s.failBinds r).set .WRN_SESSION 0 0
  let s := { s with w.pair := none }
  if s.partner.isSome then s.set .WRN_REASON 0 9 else s

/-- The session is KEYED (R354, R361, R390): SEQ and epochs count from 1, mirrors resynchronise, a CREDIT is due. -/
def State.keyed (s : State) : State :=
  let s := { s with w.txSeq := 1, w.rxSeq := 1, w.replay := [], w.epoch := 0, w.applied := 0, w.rxSkip := none, w.e := none, w.roleDue := true }
  let s := (s.set .WRN_SESSION 0 2).resyncAll
  let s := if s.get .WRN_LEADER == 1 then s.set .EVU_ALIGNED 0 1 else s
  s.schSync

/-- The handshake succeeds with a partner of certified serial `n`. -/
def State.pairBound (s : State) (n : Nat) : State :=
  let ids := (s.w.pair.map Prod.fst).getD []
  let h := s.draw (2 ^ 384)
  let s := if s.partner.isSome then s else h.2.setPartner (some (n, h.1))
  let s := { s with w.pair := none }.keyed
  let s := if s.role == 3 then s.setRole 2 false else s
  ids.foldl (fun s id => s.complete id s.bindReply) s

/-- PAIR_HANDSHAKE_DONE (R356, R361, R365): `norOk` is the write of the stored identity. -/
def State.handshakeDone (s : State) (out : HandshakeOutcome) : State :=
  match out with
  | .certRefused => s.handshakeFailed (Reply.notPermitted 6)
  | .authFail => s.handshakeFailed (Reply.deviceFault 0x0202)
  | .partnerLab => s.handshakeFailed (Reply.notPermitted 5)
  | .ok n norOk =>
    let wants := ((s.w.pair.map Prod.fst).getD []).filterMap fun id => (s.pkt? id).map fun p => p.w64 2
    if s.w.peer != some n then s.handshakeFailed (Reply.deviceFault 0x0202)
    else if s.partner.any fun p => p.1 != n then s.handshakeFailed (Reply.notPermitted 3)
    else if wants.any fun w => w != 0 && w != n then s.handshakeFailed (Reply.deviceFault 0x0203)
    else if s.partner.isNone && !norOk then s.handshakeFailed (Reply.deviceFault 0x0302)
    else s.pairBound n

def execPairHandshakeDone (out : HandshakeOutcome) (s : State) : Result :=
  match s.w.pair with
  | none => .next s
  | some (_, heard) => doneIf s (s.inData && s.coresRun && heard) (s.handshakeDone out)

/-- PAIR_BIND_TIMEOUT (R428): the first bind that waits has waited 10,000,000 ticks for a partner not heard. -/
def execPairBindTimeout (s : State) : Result :=
  match s.w.pair with
  | some (id :: rest, false) =>
    match s.pkt? id with
    | none => .next s
    | some p =>
      doneIf s (s.coresRun && decide (p.startTick + 10000000 ≤ s.now))
        (if rest.isEmpty && s.partner.isNone then s.handshakeFailed (Reply.deviceFault 0x0202)
         else { s with w.pair := some (rest, false) }.complete id (Reply.deviceFault 0x0202))
  | _ => .next s

/-! ## Takeover (R411 to R413) -/

/-- Stream `k` is taken over cold (R413). -/
def State.coldStream (s : State) (k : Nat) : State :=
  let s := (s.modStream k fun st => { st with
    tracks := [], zoneMem := [], hist := [], nextTrack := 0, idEpoch := s.storedGen % 256, takeoverGap := none, hold := true
    refs := [], trackBad := false, histBad := false }).setF k none
  (s.set .TS_HIST_FILL k 0).streamSync k

/-- A held picture, its FSEQ and address, as a frame: rolled frame `i` of a takeover at tick `t`, `prev` the FSEQ before it (R412). `key` is
which free values its samples are. -/
def rolledFrame (st : Stream) (c : Crop) (key t i prev : Nat) (held : Nat × Nat) : Frame :=
  let fseq := held.1
  { emptyFrame with
    fseq := fseq, phase := .decoded, auAddr := held.2, fps := st.fps, c2 := st.c2, pic := key + i, deadline := t + i * periodOf st.fps, accepted := true, rolled := true
    gapBefore := if sub32 fseq prev == 1 then none else some ((prev + 1) % 2 ^ 32, (fseq + 2 ^ 32 - 1) % 2 ^ 32)
    hdr5 := (st.lastFacts.map factWord5).getD 0, hdr6 := (st.lastFacts.map factWord6).getD 0, outW := c.rotW, outH := c.rotH }

/-- The held pictures above a snapshot, in FSEQ order, each with the FSEQ before it. -/
def heldAfter (base : Nat) (ring : List (Nat × Nat)) : List (Nat × (Nat × Nat)) :=
  let l := (ring.filter fun f => gt32 f.1 base).mergeSort fun a b => decide (sub32 a.1 base ≤ sub32 b.1 base)
  (base :: l.map Prod.fst).zip l

/-- The pictures stream `st` holds; one with a poisoned granule counts as not held (R425). -/
def State.heldPictures (s : State) (st : Stream) : List (Nat × Nat) :=
  ((st.mirror.map MirrorSt.ring).getD []).filter fun e => !s.poisonIn [(e.2, st.mirrorPicBytes)]

/-- The buffers of the track state and of the tree history of a pipeline (R300). -/
def Pipe.trackBufs (p : Pipe) : List (Nat × Nat) := (p.bufs.drop (p.depth + 2)).take 2

/-- Stream `k` is taken over from snapshot `x` (R412). -/
def State.rollStream (s : State) (k : Nat) (st : Stream) (c : Crop) (x : Snap) (t : Nat) : State :=
  let mode := (((st.pipe.bind fun p => s.obj? p.ensemble)).map Obj.sampleMode).getD 0
  let held := heldAfter x.fseq (s.heldPictures st)
  let fs := (held.zipIdx).map fun q => rolledFrame st c s.freeCtr t q.2 q.1.1 q.1.2
  let s := { s with freeCtr := s.freeCtr + fs.length }
  let last := ((held.getLast?).map fun h => h.2.1).getD x.fseq
  let s := s.setStream k { st with
    tracks := x.tracks.mergeSort fun a b => decide (a.order ≤ b.order), zoneMem := x.zoneMem, nextTrack := x.nextTrack
    idEpoch := x.idEpoch, hist := (x.hist.take x.histFill).map fun v => [(histSlot mode, v)], frames := st.frames ++ fs
    hold := true, refs := [], takeoverGap := some last, trackBad := false, histBad := false }
  let s := (((st.pipe.map Pipe.trackBufs).getD []).foldl State.raiseBuf s).set .TS_HIST_FILL k (min x.histFill 8)
  let s := s.set .GCTL_ROLLED 0 (s.get .GCTL_ROLLED + fs.length)
  (s.setF k (some last)).streamSync k

/-- The record of snapshot `x` in the committed epoch buffer holds a poisoned granule (R343, R413). -/
def State.snapBad (s : State) (x : Snap) : Bool := s.poisonIn [(s.epochBuf s.w.eBuf + x.off, snapshotBytes x.tracks.length)]

/-- One stream at a takeover: from its snapshot, or cold (R412, R413). -/
def State.takeStream (snaps : List Snap) (t : Nat) (s : State) (e : Nat × Stream) : State :=
  if e.2.closingPkt.isSome then s
  else
    match snaps.find? fun x => x.stream == e.1 && !s.snapBad x, e.2.pipe.bind Pipe.mirrorCrop with
    | some x, some c => s.rollStream e.1 e.2 c x t
    | _, _ => (s.coldStream e.1).sat 8 .GCTL_COLD_STREAMS

/-- No rolled frame is left. -/
def State.rollDone (s : State) : Bool := s.streams.all fun e => e.2.frames.all fun f => !f.rolled

/-- What a STANDBY kept is of no more use. -/
def State.dropKept (s : State) : State :=
  let f (e : Nat × Stream) : Nat × Stream := (e.1, { e.2 with mirror := e.2.mirror.map fun m => { m with ring := [] } })
  { s with w.eDone := none, streams := s.streams.map f }.set .HAS_EPOCH 0 0

/-- The unit has become ACTIVE (R411): takeover, resume or cold takeover. -/
def State.takeover (s : State) (resume : Bool) : State :=
  if resume then s.dropKept
  else
    let snaps := if s.get .HAS_EPOCH == 1 then s.w.eDone.getD [] else []
    let es := s.streams
    let s := ((s.set .GCTL_ROLLED 0 0).set .GCTL_COLD_STREAMS 0 0).set .GCTL_TAKEOVER_TICK 0 s.now
    let s := (es.foldl (State.takeStream snaps s.now) s).dropKept
    if s.rollDone then s.irq .GCTL_PAIR_IRQ .GCTL_PAIR_IRQ_EN 0 2 2 else s.set .TAKEOVER_BUSY 0 1

/-- TAKEOVER_ROLL_DONE (R412). -/
def execTakeoverRollDone (s : State) : Result :=
  doneIf s (s.get .TAKEOVER_BUSY == 1 && s.rollDone)
    ((s.set .TAKEOVER_BUSY 0 0).irq .GCTL_PAIR_IRQ .GCTL_PAIR_IRQ_EN 0 2 2)

/-! ## PAIR_ROLE and the lease (R202, R406 to R410) -/

/-- The lease ends (R35, R407): the flues are fenced, the role becomes ORPHAN. -/
def State.lapse (s : State) : State :=
  let s := s.irq .GCTL_PAIR_IRQ .GCTL_PAIR_IRQ_EN 0 1 2
  { s.setRole 2 false with leaseLapsed := true }

def State.leaseOver (s : State) : Bool := s.role == 0 && s.get .LEASE_VALID == 1 && decide (s.get .GCTL_LEASE_END ≤ s.now)

/-- LEASE_EXPIRE. -/
def execLeaseExpire (s : State) : Result := doneIf s s.leaseOver s.lapse

/-- A lease of `ms` milliseconds from now. -/
def State.grant (s : State) (ms : Nat) : State := (s.set .LEASE_VALID 0 1).set .GCTL_LEASE_END 0 (s.now + ms * 1000)

/-- LEASE_MS of a PAIR_ROLE: 0 selects 2,000. -/
def Pkt.leaseMs (p : Pkt) : Nat := if slice (p.w 5) 15 0 == 0 then 2000 else slice (p.w 5) 15 0

def State.roleReply (s : State) : Reply :=
  Reply.ok (s.storedGen % 2 ^ 32) (s.storedGen / 2 ^ 32) s.role
    (if s.get .LEASE_VALID == 1 then (s.get .GCTL_LEASE_END - s.now) / 1000 else 0)

/-- The role `r` under a greater generation `g`, which is stored first. -/
def State.newRole (s : State) (g r ms : Nat) : State :=
  let s := { s with storedGen := g, nor.genWrites := s.nor.genWrites + 1 }.set .GCTL_GEN 0 g
  if r == 0 then
    let was := s.role
    let resume := was == 0 || (s.get .HAS_EPOCH == 0 && s.get .LAST_ACTIVE == 1)
    let s := ((s.setRole 0 true).grant ms).takeover resume
    (s.set .LAST_ACTIVE 0 1).schSync
  else if r == 1 then ((s.setRole 1 true).dropKept.set .LAST_ACTIVE 0 0).schSync
  else s.setRole r true

/-- The checks of PAIR_ROLE on its words (R202). -/
def Pkt.roleChecks (p : Pkt) : List (Bool × Reply) :=
  let ms := slice (p.w 5) 15 0
  [word 4 (p.zeroBits 4 31 2), word 5 (p.zeroBits 5 31 16 && (ms == 0 || (decide (100 ≤ ms) && decide (ms ≤ 60000))))]

/-- The checks of role `r` under a greater generation (R202, R406). -/
def State.newRoleChecks (s : State) (r : Nat) (norOk : Bool) : List (Bool × Reply) :=
  [((r == 3) == s.partner.isNone, Reply.notPermitted 3),
   (!(r == 0 && s.session == 2 && s.get .WRN_PARTNER_ROLE == 0), Reply.notPermitted 3),
   (norOk, Reply.deviceFault 0x0302)]

/-- PAIR_ROLE; a lease that ends in this tick lapses first (R212). -/
def State.pairRole (norOk : Bool) (s : State) (p : Pkt) : State :=
  let g := p.w64 2
  let r := slice (p.w 4) 1 0
  s.checked p p.roleChecks
    fun s =>
      let s := if s.leaseOver then s.lapse else s
      if s.storedGen < g then
        s.checked p (s.newRoleChecks r norOk)
          fun s =>
            let s := s.newRole g r p.leaseMs
            s.complete p.id s.roleReply
      else if g == s.storedGen && r == 0 && s.role == 0 && s.get .LEASE_VALID == 1 then
        if p.covered + p.leaseMs * 500 < s.now then
          (s.sat 32 .GCTL_RENEW_REFUSED).complete p.id (Reply.notPermitted 4)
        else
          let s := s.grant p.leaseMs
          s.complete p.id s.roleReply
      else s.complete p.id (Reply.notPermitted 4)

def execPairRole (norOk : Bool) (s : State) : Result := startPkt 0x41 (State.pairRole norOk) s

end Sys2Proof.Machine
end

