-- ==== Sys2Proof/Machine/Bay.lean ====
section
/-! DEFINITION. Sys2Proof/Machine/Bay.lean: the partner bay (R417 to R421): debounced inputs, slot states, outputs and lamp. -/

namespace Sys2Proof.Machine

open Sys2Proof.Num (b2n slice)

/-- SLOT_STATE (R420): 0 EMPTY, 1 OFF, 2 POWERING, 3 ON, 4 POWERING_OFF, 5 FAULT. -/
def State.slot (s : State) : Nat := s.get .BAY_SLOT_STATE

/-- The lamp takes a mode: 0 off, 1 lit, 2 blinking. -/
def State.setLed (s : State) (m : Nat) : State :=
  { s.set .BAY_LED 0 m with bay.lamp := if m == 2 then s.bay.lamp else m == 1, bay.ledTick := s.now }

/-- BAY_PERST_N and BAY_PWREN low in one tick; outputs never driven are left so (R419). -/
def State.bayOff (s : State) : State :=
  let s := { s with bay.wait := none, bay.pulse := none }
  if s.get .BAY_DRIVEN == 1 then (s.set .BAY_PWREN 0 0).set .BAY_PERST 0 1 else s

/-- Bit `b` of BAY_EVENTS, vector 3 and BAY_EVENT; changes of one tick share the event (R418). The consequence runs as R112
treats it. -/
def State.bayRaise (s : State) (b : Nat) (response : State → State) : State :=
  let s := s.inRank 9 0
  let t := s.treatment 9
  let s := s.irq .BAY_EVENTS .BAY_IRQ_EN 0 b 3
  let s := if s.sameTick 9
    then { s with captured := s.captured.map fun e => if e.tick == s.now && e.code == 9 then { e with d0 := e.d0 ||| 2 ^ b } else e }
    else s.capture 9 0 (2 ^ b) 0 0
  match t with
  | .apply => response s
  | _ => s

/-- A power fault (R420). -/
def State.bayFault (s : State) : State :=
  (s.sat 8 .BAY_POWER_FAULTS).bayRaise 2 fun s => s.bayOff.set .BAY_SLOT_STATE 0 5

/-- The slot where neither a command nor an event decides: OFF without PGOOD, ON with it while the outputs are undriven. -/
def State.slotRest (s : State) : State :=
  if s.get .BAY_PRESENT == 0 then s
  else if s.get .BAY_PGOOD == 0 then s.set .BAY_SLOT_STATE 0 1
  else if s.get .BAY_DRIVEN == 0 then s.set .BAY_SLOT_STATE 0 3
  else s

/-- Power-off is complete. -/
def State.bayPowerOff (s : State) : State := ({ s with bay.wait := none }.set .BAY_SLOT_STATE 0 1).setLed 0

def State.presence (s : State) (here first : Bool) : State :=
  let s := s.set .BAY_PRESENT 0 (b2n here)
  let respond (s : State) : State :=
    if here then s.slotRest else (s.bayOff.set .BAY_SLOT_STATE 0 0).setLed 0
  if first then (if here then s.slotRest else s)
  else (if here then s.sat 8 .BAY_INSERTIONS else s).bayRaise 1 respond

def State.powerGood (s : State) (up first : Bool) : State :=
  let s := s.set .BAY_PGOOD 0 (b2n up)
  if first then s.slotRest
  else if s.slot == 2 && up && (s.bay.wait.map Prod.fst) == some 1 then { s with bay.wait := some (2, s.now) }
  else if s.slot == 4 && !up && (s.bay.wait.map Prod.fst) == some 4 then s.bayPowerOff
  else if s.slot == 3 && !up then s.bayFault
  else if s.slot == 0 || s.slot == 1 then s.slotRest
  else s

def State.button (s : State) (down first : Bool) : State :=
  let s := s.set .BAY_ATTN 0 (b2n down)
  if first || !down then s else (s.sat 8 .BAY_PRESSES).bayRaise 0 id

/-- BAY_INPUT_DEBOUNCED (R418): input 0 presence, 1 power good, 2 button has held a new level for 20,000 ticks. The first state of
an input after power-on raises nothing (R426). -/
def State.bayInput (s : State) (input : Nat) (level : Bool) : State :=
  let first := !s.bay.settled.contains input
  let s := { s with bay.settled := if first then input :: s.bay.settled else s.bay.settled }
  match input with
  | 0 => s.presence level first
  | 1 => s.powerGood level first
  | _ => s.button level first

/-- The debounced level of an input. -/
def State.bayLevel (s : State) : Nat → Nat
  | 0 => s.get .BAY_PRESENT
  | 1 => s.get .BAY_PGOOD
  | _ => s.get .BAY_ATTN

def execBayInputDebounced (input : Nat) (level : Bool) (s : State) : Result :=
  if 3 ≤ input then .fault .noSuchInstance
  else doneIf s (s.aonValid && (!s.bay.settled.contains input || s.bayLevel input != b2n level)) (s.bayInput input level)

/-- The slot has waited for `kind` for `n` ticks. -/
def State.bayWaited (s : State) (kind n : Nat) : Bool :=
  s.aonValid && s.bay.wait.any fun w => w.1 == kind && decide (w.2 + n ≤ s.now)

def State.pgoodTicks (s : State) : Nat := 1000 * s.get .BAY_PGOOD_MS

/-- BAY_POWER_TIMEOUT (R420). -/
def execBayPowerTimeout (s : State) : Result := doneIf s (s.bayWaited 1 s.pgoodTicks) s.bayFault

/-- BAY_PERST_RELEASE (R420): the slot is ON; PGOOD lost meanwhile is a fault at once. -/
def execBayPerstRelease (s : State) : Result :=
  doneIf s (s.bayWaited 2 100000)
    (let s := (({ s with bay.wait := none }).set .BAY_PERST 0 0).set .BAY_SLOT_STATE 0 3
     if s.get .BAY_PGOOD == 0 then s.bayFault else s)

/-- BAY_PWREN_DROP (R420). -/
def execBayPwrenDrop (s : State) : Result :=
  doneIf s (s.bayWaited 3 1000)
    (let s := { s with bay.wait := some (4, s.now) }.set .BAY_PWREN 0 0
     if s.get .BAY_PGOOD == 0 then s.bayPowerOff else s)

/-- BAY_POWEROFF_END (R420). -/
def execBayPoweroffEnd (s : State) : Result :=
  doneIf s (s.bayWaited 4 s.pgoodTicks) (if s.get .BAY_PGOOD == 1 then s.bayFault else s.bayPowerOff)

/-- BAY_PERST_PULSE_END (R420). -/
def execBayPerstPulseEnd (s : State) : Result :=
  doneIf s (s.aonValid && s.bay.pulse.any fun t => decide (t + 10000 ≤ s.now))
    (let s := { s with bay.pulse := none }
     if s.slot == 3 then s.set .BAY_PERST 0 0 else s)

/-- BAY_LED_TOGGLE (R417). -/
def execBayLedToggle (s : State) : Result :=
  doneIf s (s.aonValid && s.get .BAY_LED == 2 && decide (s.bay.ledTick + 500000 ≤ s.now))
    { s with bay.lamp := !s.bay.lamp, bay.ledTick := s.now }

/-- PWREN to 1: POWERING (R420). -/
def State.bayPowerOn (s : State) : State :=
  (({ s with bay.wait := some (1, s.now), bay.pulse := none }.set .BAY_PERST 0 1).set .BAY_PWREN 0 1).set .BAY_SLOT_STATE 0 2

/-- PWREN to 0: POWERING_OFF; an empty bay has nothing to wait for. -/
def State.bayPowerDown (s : State) : State :=
  if s.slot == 0 then s.bayOff
  else ({ s with bay.wait := some (3, s.now), bay.pulse := none }.set .BAY_PERST 0 1).set .BAY_SLOT_STATE 0 4

/-- The checks of BAY_CONTROL (R204, R420, R421). -/
def State.bayChecks (s : State) (p : Pkt) : List (Bool × Reply) :=
  let on := (p.w 2).testBit 4
  let set := (p.w 2).testBit 5
  let pulse := (p.w 2).testBit 8
  [word 2 (slice (p.w 2) 1 0 != 3 && p.zeroBits 2 3 2 && p.zeroBits 2 7 6 && p.zeroBits 2 31 9), word 2 (!(pulse && set)),
   (!(((set && !on) || pulse) && s.get .WRN_PARTNER_ROLE == 0), Reply.notPermitted 3),
   (!(set && (s.slot == 2 || s.slot == 4)), Reply.notPermitted 3),
   (!(set && on && s.slot == 0), Reply.notPermitted 3),
   (!pulse || s.slot == 3, Reply.notPermitted 3)]

def State.bayControl (s : State) (p : Pkt) : State :=
  let led := slice (p.w 2) 1 0
  let on := (p.w 2).testBit 4
  let set := (p.w 2).testBit 5
  let pulse := (p.w 2).testBit 8
  s.checked p (s.bayChecks p)
    fun s =>
      let s := s.setLed led
      let s := if set then
          let s := s.set .BAY_DRIVEN 0 1
          if b2n on == s.get .BAY_PWREN then s else if on then s.bayPowerOn else s.bayPowerDown
        else s
      let s := if pulse then { s with bay.pulse := some s.now }.set .BAY_PERST 0 1 else s
      s.complete p.id (Reply.ok)

def execBayControl (s : State) : Result := startPkt 0x48 State.bayControl s

end Sys2Proof.Machine
end

