-- ==== Sys2Proof/Machine/Nor.lean ====
section
/-! DEFINITION. Sys2Proof/Machine/Nor.lean: the SPI NOR (R455 to R459), its log region (R469, R470), the fuses as they are
sensed (R429, R430, R467), and the choice of the image at boot (R460). -/

namespace Sys2Proof.Machine

open Sys2Proof.Num (u8 u16 u32 b2n popcount slice wrap32 zeroBytes)

/-! ## Hashes -/

def sha384 (b : Bytes) : Bytes := (List.range 48).map (Config.sha384Byte b)

/-! ## The log region -/

/-- Records the log region holds (R469). -/
abbrev logRecords : Nat := 244736

/-- A record is appended (R469): entering a sector that holds records erases it, which loses the oldest 64. -/
def State.log (s : State) (type : Nat) (payload : List Nat) : State :=
  let n := match s.nor.log.getLast? with
    | none => 0
    | some r => r.lseq + 1
  let old := if n % 64 == 0 && decide (logRecords ≤ s.nor.log.length) then s.nor.log.drop 64 else s.nor.log
  { s with nor.log := old ++ [⟨type, n, s.now, payload⟩] }

/-- An UPDATE record (R470): event, slot, FW_VERSION, SEC_VERSION. -/
def State.logUpdate (s : State) (event slot fw sec : Nat) : State := s.log 0x11 [event, slot, fw, sec]

/-! ## Slots (R456, R457) -/

def emptySlot : NorSlot := ⟨[], none, false, false, false⟩

def State.slotOf (s : State) (k : Nat) : NorSlot := s.nor.slots.getD k emptySlot

def State.modSlot (s : State) (k : Nat) (f : NorSlot → NorSlot) : State :=
  { s with nor.slots := s.nor.slots.set k (f (s.slotOf k)) }

/-- Sector `n` of a slot's image: 0xFF where erased, 0 past the bytes listed. -/
def NorSlot.sector (x : NorSlot) (n : Nat) : Bytes :=
  match Tab.find? n x.sectors with
  | none => List.replicate 4096 0xFF#8
  | some b => (b ++ List.replicate (4096 - b.length) 0#8).take 4096

/-- The header bytes 0 to 3071. -/
def NorSlot.hdr (x : NorSlot) : Bytes := (x.sector 0).take 3072

def NorSlot.secVersion (x : NorSlot) : Nat := u8 x.hdr 6
def NorSlot.certified (x : NorSlot) : Bool := (u8 x.hdr 7).testBit 0
def NorSlot.provRecord (x : NorSlot) : Bool := (u8 x.hdr 7).testBit 1
def NorSlot.fwVersion (x : NorSlot) : Nat := u32 x.hdr 8
def NorSlot.imageBytes (x : NorSlot) : Nat := u32 x.hdr 12
def NorSlot.modelPubkey (x : NorSlot) : Bytes := (x.hdr.drop 128).take 97

/-- The image as its signature covers it: bytes 416 to 511 zero, the mark area 0xFF (R456). -/
def NorSlot.image (x : NorSlot) : Bytes :=
  let b := (List.range (Num.cdiv x.imageBytes 4096)).flatMap x.sector
  b.take 416 ++ List.replicate 96 0#8 ++ (b.drop 512).take 2560 ++ List.replicate 1024 0xFF#8 ++ b.drop 4096

/-! ## The fuses as sensed (R429, R430) -/

/-- Positions of ROLLBACK that vote 1: two of their three copies are programmed. -/
def Fuses.rollback (f : Fuses) : Nat := min ((f.rollbackCopies + 1) / 3) 64

/-- FLU_CEILING (R430). -/
def Fuses.ceilingBits (f : Fuses) : Nat :=
  if 32 < f.ceiling || f.faults.testBit 6 then 256 else if f.ceiling == 0 then 8192 else f.ceiling * 256

/-- SEC_FUSE_STATUS after a sense. -/
def State.fuseSync (s : State) : State :=
  let f := s.fuses
  let s := ((s.set .FUSE_PROVISIONED 0 (b2n f.provisioned)).set .FUSE_LAB 0 (b2n f.lab)).set .FUSE_ROLLBACK 0 f.rollback
  (s.set .FUSE_PAIR_EPOCH 0 (min f.pairEpoch 32)).set .FUSE_FAULTS 0 f.faultMask

/-- The next PAIR_EPOCH position is programmed (R444, R450): the stored partner records can no longer be opened (R432). At
32 no key remains. -/
def State.burnPairEpoch (s : State) : State :=
  let n := min (s.fuses.pairEpoch + 1) 32
  let s := { s with fuses.pairEpoch := n, partner := none }.set .FUSE_PAIR_EPOCH 0 n
  if n == 32 then s.set .KEY_PAIRING_AVAILABLE 0 0 else s

/-! ## Selector records (R458, R459) -/

/-- The winning record and its location: the greater SEQ, compared as int32(SEQ0 - SEQ1). -/
def State.winner (s : State) : Option (Nat × SelRec) :=
  match Tab.find? 0 s.nor.selector, Tab.find? 1 s.nor.selector with
  | some a, some b => if Num.gt32 b.seq a.seq then some (1, b) else some (0, a)
  | some a, none => some (0, a)
  | none, some b => some (1, b)
  | none, none => none

/-- A new record takes the other location with the next SEQ; ATTEMPTS is 7 for a TRIAL and 0 for a CONFIRMED one. -/
def State.writeSel (s : State) (r : SelRec) : State :=
  let at0 := match s.winner with
    | none => (0, 1)
    | some (l, w) => (1 - l, wrap32 (w.seq + 1))
  { s with nor.selector := Tab.put at0.1 { r with seq := at0.2, attempts := if r.state == 1 then 7 else 0 } s.nor.selector }

/-- A record for slot `k` from its header. -/
def State.selFor (s : State) (k prev state flags : Nat) : SelRec :=
  ⟨0, k, prev, state, flags, (s.slotOf k).fwVersion, (s.slotOf k).secVersion, [], 0⟩

/-! ## Completion of the fuses, and the choice of the image (R460, R467) -/

/-- Flag bits of a record (R458). -/
def SelRec.prov (r : SelRec) : Bool := r.flags.testBit 0

/-- The first `n` fuse copies that a CONFIRMED record names are programmed, in the order of R466: ROLLBACK positions below
SEC_VERSION, then with PROV the three copies of MODEL_KEY_HASH and the three of PROVISIONED. One or two copies of three are a
majority fault, and two of them win the vote (R429). -/
def Fuses.program (f : Fuses) (r : SelRec) (n : Nat) : Fuses :=
  let need := 3 * min r.sec 64 - f.rollbackCopies
  let g := { f with rollbackCopies := f.rollbackCopies + min n need }
  let m := n - need
  if r.prov && !f.provisioned then
    { g with
      modelHash := if 2 ≤ m then r.hash else f.modelHash
      provisioned := decide (5 ≤ m)
      faults := Num.setBit (Num.setBit f.faults 2 (m == 1 || m == 2)) 8 (m == 4 || m == 5) }
  else g

/-- Every copy. -/
def Fuses.complete (f : Fuses) (r : SelRec) : Fuses := f.program r (3 * 64 + 6)

/-- The start of step 3 (R467); `ok` is false where a bit cannot be programmed. -/
def State.fuseCompletion (s : State) (ok : Bool) : State :=
  match s.winner with
  | none => s
  | some (_, r) =>
    if r.state == 2 && ok && s.fuses.complete r != s.fuses then
      let f := s.fuses.complete r
      -- the model-signing key of a newly provisioned unit counts once it stands in the key region (R431, R433)
      let f := if s.fuses.provisioned then f else { f with modelKey := s.nor.modelKey == (s.slotOf r.slot).modelPubkey }
      ({ s with fuses := f, fw.notes := s.fw.notes ++ [10] }).fuseSync
    else s

/-- Slot `k` verifies (R436): it holds an image, its key and signature hold, and its SEC_VERSION is at least the count. -/
def State.verifies (s : State) (k : Nat) (verdict : Bool) : Bool :=
  verdict && (Tab.find? 0 (s.slotOf k).sectors).isSome && decide (s.fuses.rollback ≤ (s.slotOf k).secVersion)

/-- What step 3 runs: the slot, in trial or not; none ends in FAULT 0x03. -/
abbrev BootPick := Option (Nat × Bool)

/-- A revert (R460): REVERTED in the failed slot, a CONFIRMED record with REVERTED set for PREV_SLOT, which runs. -/
def State.revert (s : State) (r : SelRec) (event : Nat) (ok : Nat → Bool) : State × BootPick :=
  let s := s.modSlot r.slot fun x => { x with reverted := true }
  let s := s.writeSel (s.selFor r.prev r.slot 2 4)
  let s := { s with fw.notes := s.fw.notes ++ [event] }
  (s, if s.verifies r.prev (ok r.prev) then some (r.prev, false) else none)

/-- A TRIAL record with FALLBACK for slot `k` (R460). -/
def State.fallback (s : State) (k prev : Nat) : State :=
  let s := s.writeSel (s.selFor k prev 1 2)
  { s with fw.notes := s.fw.notes ++ [9] }

/-- Boot ROM step 3 (R460); `ok k` is the verdict on the signature of slot `k`. -/
def State.chooseImage (s : State) (ok : Nat → Bool) : State × BootPick :=
  match s.winner with
  | none =>
    if s.verifies 0 (ok 0) then (s.fallback 0 0, some (0, false))
    else if s.verifies 1 (ok 1) then (s.fallback 1 1, some (1, false))
    else (s, none)
  | some (l, r) =>
    if r.state == 1 then
      if r.attempts % 8 == 0 then s.revert r 6 ok
      else
        let s := { s with nor.selector := Tab.put l { r with attempts := r.attempts &&& (r.attempts - 1) } s.nor.selector }
        if s.verifies r.slot (ok r.slot) then (s, some (r.slot, true)) else s.revert r 8 ok
    else if s.verifies r.slot (ok r.slot) then (s, some (r.slot, false))
    else
      let k := 1 - r.slot
      if (s.slotOf k).verified && s.verifies k (ok k) then (s.fallback k r.slot, some (k, true)) else (s, none)

end Sys2Proof.Machine
end

