-- ==== Sys2Proof/Machine/Resets.lean ====
section
/-! DEFINITION. Sys2Proof/Machine/Resets.lean: the five kinds of reset and what each keeps (R119, R127 to R132, R530), the
release of the reset inputs, and the power-down request (R527). -/

namespace Sys2Proof.Machine

open Sys2Proof.Num (slice b2n)

/-! ## The debug session (R442, R443), and the watchdog that halted cores stop -/

/-- Watchdog `w` starts a full period under the settings that wait (R479, R484). -/
def State.wdgBegin (s : State) (w : Nat) : State :=
  let n := Tab.getD (s.get .WDG_PERIOD w, s.get .WDG_ENABLE w) w s.wdg.next
  let s := { s with wdg.start := Tab.put w s.now s.wdg.start, wdg.next := Tab.del w s.wdg.next }
  let s := ((s.set .WDG_PERIOD w n.1).set .WDG_ENABLE w n.2).set .WDG_CHECKED w 0
  ((s.set .WDG_OPEN w (b2n (n.2 == 0))).set .WDG_PREWARNED w 0).set .WDG_RUNNING w 1

/-- The control cores run again (R439): WDG_FW restarts with a full period. -/
def State.resumeCores (s : State) : State :=
  if s.get .DBG_CORES_HALTED == 0 then s
  else
    let s := s.set .DBG_CORES_HALTED 0 0
    if s.isReady && s.power == 0 && s.get .WDG_RESTARTING 1 == 0 then s.wdgBegin 1 else s

/-- A fresh challenge from the TRNG. -/
def State.newChallenge (s : State) : State :=
  (List.range 8).foldl (fun s i => let d := s.draw (2 ^ 32); d.2.set .SEC_DBG_CHALLENGE i d.1) s

/-- A session that exists ends: 1 expiry, 2 END, 3 SLEEP, 4 reset, 5 tamper, 6 LAB. -/
def State.endSession (s : State) (cause : Nat) : State :=
  if s.get .DBG_SESSION == 0 then s
  else
    let s := s.log 0x04 [cause]
    let s := ((s.set .DBG_SESSION 0 0).set .DBG_PORT_OPEN 0 0).set .DBG_SUSPENDED 0 0
    let s := (s.resumeCores.set .DBG_SCOPE 0 0).set .SEC_DBG_EXPIRY 0 0
    ({ s with labArm := none }.set .DBG_STATE 0 0).newChallenge

/-! ## What a client, and what every client, loses (R128 to R130) -/

/-- A register field in the part of the field list from `a` to `b`. -/
def between (a b : Field) (f : Nat) : Bool := decide (a.ctorIdx ≤ f) && decide (f ≤ b.ctorIdx)

/-- Every register that `p` names (field, number) returns to its reset value. -/
def State.clearFields (s : State) (p : Nat → Nat → Bool) : State :=
  { s with fields := s.fields.filter fun e => !p (e.1 % 512) (e.1 / 512) }

/-- The control block of a client, its metadata ring registers included (R91, R180). -/
def clientField (f : Nat) : Bool := between .CL_CMD_BASE .META_FENCE f

/-- The per-stream registers (R231, R255, R256, R302, R324, R401, R90). -/
def streamField (f : Nat) : Bool :=
  between .CTX_STATE .PP_HP3 f || between .FLU_ZONES .FLU_RING_DROPS f || between .MS_ENABLE .MS_MAUS f ||
  between .TS_ENSEMBLE .TS_HIST_FILL f || between .SS_NET_TICKS .SS_DROPS f

/-- A stream goes at once, without a pass or a record: its engine and units are freed, its jobs abandoned (R129). -/
def State.killStream (s : State) (k : Nat) : State :=
  match s.stream? k with
  | none => s
  | some st =>
    let s : State := st.frames.foldl (fun s f => match f.phase with
      | .decoding e => s.releaseEngine k e
      | _ => s) s
    let s := (s.haltMirror k).freeUnits fun j => j.stream == k
    (s.endStream k).clearFields fun f i => streamField f && i == k

/-- The loads of packet `id` end without a reply. -/
def State.killLoad (s : State) (id : Nat) : State :=
  match Tab.find? id s.loadBufs with
  | none => s.dropJobs fun j => j.pkt == some id
  | some a => (s.endLoad id).free a

/-- The packets that `p` names are abandoned, with no completion. -/
def State.killPackets (s : State) (p : Pkt → Bool) : State :=
  let ids := (s.packets.filter p).map Pkt.id
  let s := { s with
    packets := s.packets.filter fun q => !p q
    staged := s.staged.filter fun x => !ids.contains x.id, reads := s.reads.filter fun r => !ids.contains r.pkt }
  let s := ids.foldl State.killLoad s
  { s with w.pair := s.w.pair.map fun x => (x.1.filter fun i => !ids.contains i, x.2) }

/-- The control block of client `c` and what waits for it. -/
def State.clearBlock (s : State) (c : Nat) : State :=
  let s := { s with flushes := Tab.del c s.flushes, retry := Tab.del c s.retry, dbLatch := Tab.del c s.dbLatch, looked := Tab.del c s.looked }
  s.clearFields fun f i => clientField f && i == c

/-- The host-facing state of every client goes (R129); the SCRUB in progress is abandoned with its packet. -/
def State.hostClear (s : State) : State :=
  let s := s.streams.foldl (fun s e => s.killStream e.1) s
  let s := s.killPackets fun _ => true
  let s := s.objects.foldl (fun s o => s.unload o.2) s
  let s := s.freeUnits fun _ => true
  let s := { s with jobs := [], pageSlots := [], staging := none, scrub := none, fences := [], flushes := [], retry := [], covers := [], staged := [], crossing := [], looked := []
                    lastFetch := (0, false)
                    dbLatch := [], resetting := [], loadBufs := [], degrade := [], degradeQueue := [], powerReq := none }
  let s := s.clearFields fun f _ => clientField f || streamField f
  let s := ((s.set .SOOT_SCRUB_BUSY 0 0).stepSync.undoTest false).pinSync
  ((s.set .TAKEOVER_BUSY 0 0).recompute).schSync.poolSync

/-- The event ring registers of R115 return to their reset values. -/
def State.ringClear (s : State) : State :=
  { (s.clearFields fun f _ => [Field.EVU_RING_EN, .EVU_IRQ_EN, .EVU_RING_BASE, .EVU_RING_LOG2, .EVU_RING_HEAD,
      .EVU_RING_TAIL, .EVU_LOST, .EVU_RING_FULL].any fun g => g.ctorIdx == f) with lostSinceHead := 0 }

/-- What a function-level reset leaves of configuration space: as PCI Express requires, the sticky registers, Max_Payload_Size and
the link controls stay (R128; PRESUMED, assumption 83). -/
def Cfg.flr (c : Cfg) : Cfg := { c with bars := [0, 0, 0, 0, 0, 0], maxRead := 2, timeout := 0, timeoutOff := false }

/-- Configuration space and MSI-X (R128). -/
def State.configClear (s : State) : State :=
  { s with bme := false, mse := false, msixEnable := false, funcMask := false, cfg := s.cfg.flr, d3hot := false
           msixTable := [], msixPba := [] }.set .LINK_BME 0 0

/-- A function-level reset starts (R129, R484): in READY the STATE reads FLR; during the boot and in FAULT the host-facing
state is cleared and STATE stays (R132). `up` when DL_Up's return causes it (R153). -/
def State.flrStart (s : State) (up : Bool) : State :=
  let s := if s.role == 0 || s.role == 1 then s.setRole 2 false else s
  let s := (s.set .HAS_EPOCH 0 0).set .LAST_ACTIVE 0 0
  let s := s.hostClear.ringClear.configClear
  let s := s.set .WDG_ENABLE 0 (Num.setBit (s.get .WDG_ENABLE 0) 15 false)
  let s := { s with shadowOwner := none, shadowWord := none, w.eDone := none, flr := some (up || s.flr == some true)
                    wdg.next := s.wdg.next.map fun (e : Nat × (Nat × Nat)) => if e.1 == 0 then (0, (e.2.1, Num.setBit e.2.2 15 false)) else e }
  if s.isReady then s.set .DS_STATE 0 6 else s


/-- FLR_COMPLETE (R129, R153). -/
def execFlrComplete (s : State) : Result :=
  match s.flr with
  | none => .next s
  | some up =>
    let s1 := { s with flr := none }
    let s1 := if up && s.get .LINK_DL_UP == 1 then s1.set .LINK_DOWN 0 0 else s1
    done (if s.dev == 6 then s1.set .DS_STATE 0 5 else s1)

/-! ## CLIENT_RESET (R130, R209) -/

/-- What R129 does to every client, for client `c`: its packets, fences, streams and objects go. An object that another client's
pipeline binds can be named no more and goes with that pipeline, since all other clients are left alone (DEDUCED, assumption 86). -/
def State.clientClear (s : State) (c : Nat) : State :=
  let s := s.killPackets fun q => q.client == c
  let s := (s.fences.filter fun f => f.2.creator == c).foldl (fun s f => s.destroyFence f.1) s
  let s := (s.streams.filter fun e => e.2.owner == c).foldl (fun s e =>
    let s := s.killStream e.1
    -- a close or an unbind of client 0 in flight has nothing left to do
    [e.2.unbindPkt, e.2.closingPkt].foldl (fun s p => match p with
      | none => s
      | some id => s.complete id (Reply.ok e.2.closeDone e.2.closeDisc)) s) s
  let s := (s.objects.filter fun o => o.2.loader == c).foldl (fun s o =>
    if s.bound o.2.handle then { s with objects := Tab.put o.1 { o.2 with doomed := true } s.objects } else s.unload o.2) s
  let s := { s with flushes := Tab.del c s.flushes, retry := Tab.del c s.retry }
  (s.recompute).poolSync

/-- The check of CLIENT_RESET (R209). -/
def Pkt.resetChecks (p : Pkt) : List (Bool × Reply) := [word 2 (slice (p.w 2) 9 0 != 0 && p.zeroBits 2 31 10)]

def State.clientReset (s : State) (p : Pkt) : State :=
  let c := slice (p.w 2) 9 0
  s.checked p p.resetChecks fun s =>
    let n := s.packets.countP fun q => q.client == c
    let m := s.streams.countP fun e => e.2.owner == c
    let s := (s.clientClear c).set .CL_RESETTING c 1
    { s with resetting := Tab.put p.id (c, n, m) s.resetting }

/-- CLIENT_RESET: word 2 names a client from 1 to 1,023. -/
def execClientReset (s : State) : Result := startPkt 0x7F State.clientReset s

/-- CLIENT_RESET_DONE (R130): the control block is cleared, and the replies to client 0 follow; in FAULT the host-facing part goes on
(R132), and its packet has had its reply (R98). -/
def execClientResetDone (c : Nat) (s : State) : Result :=
  let rs := s.resetting.filter fun r => r.2.1 == c
  let s1 := { (s.clearBlock c) with resetting := s.resetting.filter fun r => r.2.1 != c }
  doneIf s ((s.coresRun || s.isFault) && !rs.isEmpty) (rs.foldl (fun s r => s.complete r.1 (Reply.ok r.2.2.1 r.2.2.2)) s1)

/-! ## Zeroisation (R444, R450) -/

/-- Everything SCRUB ALL covers is zeroed (R55, R444). -/
def State.zeroSoot (s : State) : State := (s.zeroRanges [(s.cleanEnd, s.tagBase)]).clearTiles

/-- Step 6 of the tamper response: the stored partner records are erased and the role becomes SOLO (R410). -/
def State.tamperUnbind (s : State) : State := (s.setPartner none).setRole 3 false

/-- Steps 5 and 6: fetch stops, the zeroisation runs, the partner is forgotten. -/
def State.tamperZero (s : State) : State :=
  let s := (List.range Config.clients).foldl (fun s c =>
    if s.get .CL_ENABLE c == 1 then s.set .CL_FETCH_STOPPED c 1 else s) s
  (s.zeroSoot).tamperUnbind

/-- Steps 1 to 4: the session ends, the flues are fenced, the keys go and the link with them, PAIR_EPOCH advances. -/
def State.tamperKeys (s : State) : State :=
  let s := { s.endSession 5 with tamperFence := true }
  let s := if s.linkUp then s.linkDown 6 else s.set .WRN_SESSION 0 0
  s.burnPairEpoch

/-- Steps 5 and 6 where the unit runs; in DOZE and SLEEP they wait for its wake, and in the boot step 5 of the boot ROM does the
rest. -/
def State.tamperEnd (s : State) : State :=
  if s.isReady && decide (s.power < 2) && s.powerReq.isNone then s.tamperZero
  else if s.boot == .done then { s with tamperRest := true }
  else s.tamperUnbind

/-! ## Resets that run the boot ROM (R119, R127, R128) -/

/-- Registers a cold or a warm reset keeps: the event unit's (R115), the bay's (R419, R426), those of R451 and R485 that
power-on alone clears, and what the fuses gave. -/
def keptField (f : Nat) : Bool :=
  [Field.EVU_TICK_NOW, .EVU_TICK_STOPPED, .EVU_SEQ, .EVU_PENDING, .EVU_HISTORY, .EVU_SLEW_ADJ, .EVU_SLEW_DIR, .SEC_TAMPER_COUNT, .TAMPER_LEVEL,
   .WDG_EXPIRIES, .GCTL_SERIAL, .CH_USABLE_MIB].any (fun g => g.ctorIdx == f) || between .BAY_PRESENT .BAY_POWER_FAULTS f

/-- The link state that a GCTL_RESET or WDG_SYS warm reset keeps. -/
def linkField (f : Nat) : Bool :=
  [Field.LINK_LTSSM, .LINK_BME, .LINK_DL_UP, .LINK_WIDTH, .LINK_SPEED].any fun g => g.ctorIdx == f

/-- What every reset that runs the boot ROM leaves in the registers: ORPHAN with a partner stored, else SOLO; the stored
generation; LAB where the fuse says so (R128, R426, R453). -/
def State.bootRegs (s : State) : State :=
  let s := (s.setPartner s.partner).set .ROLE 0 (if s.partner.isSome then 2 else 3)
  let s := s.set .GCTL_GEN 0 s.storedGen
  s.set .DBG_STATE 0 (if s.fuses.lab then 2 else 0)

/-- A cold (`warm` false) or warm reset of cause bit `cause`; `link` keeps the host link, the configuration space and the
MSI-X table (R128). DRAM keeps its contents until step 5. -/
def State.bootReset (s : State) (cause : Nat) (warm link : Bool) : State :=
  let fault := s.isFault
  -- a TAMPER that waits for a core restart does not outlive the reset (R112)
  let s := if s.tamperWait.isEmpty then s else s.tamperKeys.tamperUnbind
  let s := s.endSession 4
  let t : State := { State.reset with
    pending := s.pending
    fields := s.fields.filter fun e => keptField (e.1 % 512) || (link && linkField (e.1 % 512))
    pwrok := s.pwrok, perstN := s.perstN, bayrstN := s.bayrstN, aonValid := s.aonValid, pwrdnReq := s.pwrdnReq
    strapAddr := s.strapAddr
    captured := s.captured, staleTick := s.staleTick, staleWritten := s.staleWritten
    clockLost := if s.clockIsLost 21 then [(21, ())] else [], thermal := s.thermal, slewTicks := s.slewTicks
    dram := s.dram, soot := s.soot
    fuses := s.fuses, rootSecret := s.rootSecret, partner := s.partner, storedGen := s.storedGen, bay := s.bay, nor := s.nor
    egress := s.egress, freeCtr := s.freeCtr }
  let t := if warm then { t with ch.rates := s.ch.rates } else t
  let t := if link then { t with
    bme := s.bme, mse := s.mse, msixEnable := s.msixEnable, funcMask := s.funcMask, cfg := s.cfg
    d3hot := s.d3hot, msixTable := s.msixTable, msixPba := s.msixPba } else t
  let t := ((t.set .RC_CAUSE 0 cause).set .RC_WAS_FAULT 0 (b2n fault)).set .DS_WARM 0 (b2n warm)
  t.bootRegs

/-- The DL_Down that a reset causes is captured; its consequence is not applied (R530). -/
def State.resetLinkDown (s : State) (code : Nat) : State :=
  if s.get .LINK_DL_UP == 1 then (s.inRank 8 0).capture 8 0 code 0 0 else s

/-- The tick that a loss of TCLK stopped goes on from the held value at the release of a cold or warm reset (R99). -/
def State.tickResume (s : State) : State :=
  { s with clockLost := Tab.del 21 s.clockLost, staleTick := if s.staleWritten then none else s.staleTick
           staleWritten := false }.set .EVU_TICK_STOPPED 0 0

/-- The boot begins: the stores are zeroed while a fresh challenge is drawn (R120, R442). -/
def State.bootBegin (s : State) : State := { s.tickResume with boot := .sramZero }.newChallenge

/-- A warm reset by GCTL_RESET (16) or WDG_SYS (32). -/
def State.warmReset (s : State) (cause : Nat) : State := (s.bootReset cause true true).bootBegin

/-- HOT_RESET (R127, R530). -/
def execHotReset (s : State) : Result :=
  doneIf s (s.pwrok && s.perstN && s.bayrstN && !s.pwrdnReq && s.boot != .inReset)
    (((s.resetLinkDown 0x0A).bootReset 8 true false).bootBegin.set .LINK_LTSSM 0 0x0A)

/-- COLD_RESET (R119, R127): PERST_N or BAYRST_N (`bay`) falls. A unit already held in reset stays so and keeps the CAUSE of the reset
it is in, which the spec leaves open (DESIGN CHOICE, assumption 87). -/
def execColdReset (bay : Bool) (s : State) : Result :=
  if (if bay then s.bayrstN else s.perstN) then
    let s1 := if s.boot == .inReset then s
              else (s.resetLinkDown 0).bootReset (if bay then 4 else 2) false false
    done (if bay then { s1 with bayrstN := false, boot := .inReset } else { s1 with perstN := false, boot := .inReset })
  else .next s

/-- POWER_ON_RESET (R119): PWROK falls, or VDD_AON drops below its threshold (`vddLost`). Nothing survives but the fuses and
the SPI NOR; the tick restarts from 0. -/
def execPowerOnReset (vddLost : Bool) (s : State) : Result :=
  if s.pwrok || (vddLost && s.aonValid) then
    done ({ State.reset with
      pending := s.pending, perstN := s.perstN, bayrstN := s.bayrstN, aonValid := s.aonValid && !vddLost
      fuses := s.fuses, partner := s.partner, storedGen := s.storedGen, nor := s.nor, egress := s.egress
      freeCtr := s.freeCtr }.bootRegs)
  else .next s

/-- AON_VALID (R119). -/
def execAonValid (s : State) : Result := doneIf s (!s.aonValid) { s with aonValid := true }

/-- PWROK_RISE (R119, R525): the straps are sampled. -/
def execPwrokRise (strap : Nat) (s : State) : Result :=
  if 4 ≤ strap then .fault .noSuchInstance
  else doneIf s (!s.pwrok && s.aonValid) { s with pwrok := true, strapAddr := strap }

/-- RESET_RELEASE (R119, R120, R99): all reset inputs are high. -/
def execResetRelease (s : State) : Result :=
  doneIf s (s.pwrok && s.aonValid && s.boot == .inReset && !s.pwrdnReq)
    ({ s with perstN := true, bayrstN := true } : State).bootBegin

/-- WARM_RESET_WRITE (R131): applied in every DEVICE_STATE. -/
def State.resetWrite (s : State) (v : Nat) : State :=
  if v / 65536 % 65536 == 0xC0DE && v.testBit 0 then s.warmReset 16 else s

/-- FUNCTION_LEVEL_RESET (R129): a configuration write of the host. Where GCTL_RESET is written in the same HCLK cycle
(`gctlReset`, the value), a warm reset that it starts wins and completes the function-level reset too (R132). -/
def execFunctionLevelReset (gctlReset : Option Nat) (s : State) : Result :=
  let warm := gctlReset.any fun v => v / 65536 % 65536 == 0xC0DE && v.testBit 0 && s.mse && !s.d3hot
  doneIf s (s.get .LINK_DL_UP == 1 && s.get .LINK_DOWN == 0 && !s.held && s.pwrok && s.perstN && s.bayrstN)
    (if warm then s.warmReset 16 else s.flrStart false)

/-- PWRDN_REQ (R527): the die but its always-on domain goes into reset, which a power-on reset alone ends. -/
def execPwrdnReq (s : State) : Result :=
  match s.thermal with
  | none => .next s
  | some t =>
    let cause := s.get .RC_CAUSE
    -- a stopped tick cannot hold it back (R113)
    doneIf s (!s.pwrdnReq && (decide (t + 16 ≤ s.now) || s.get .EVU_TICK_STOPPED == 1))
      { ((s.resetLinkDown 0).bootReset cause false false) with pwrdnReq := true, boot := .inReset }

end Sys2Proof.Machine
end

