-- ==== Sys2Proof/Machine/Boot.lean ====
section
/-! DEFINITION. Sys2Proof/Machine/Boot.lean: the boot ROM's steps and READY (R120 to R124, R131, R304, R337, R379, R433, R453,
R473, R485). -/

namespace Sys2Proof.Machine

open Sys2Proof.Num (b2n)

/-- The boot goes on: no fault, no lost clock, no thermal trip. -/
def State.booting (s : State) : Bool := !s.isFault && s.thermal.isNone && s.pwrok && s.perstN && s.bayrstN

/-- SRAM_ZERO_DONE (R120). -/
def execSramZeroDone (s : State) : Result :=
  doneIf s (s.boot == .sramZero && s.booting) ({ s with boot := .step 1 }.set .SOOT_SRAM_READY 0 1)

/-- Step 1: the fuses are sensed (R120, R429, R430, R327). -/
def State.bootFuses (s : State) : State :=
  let s := { s with certSensed := true, boot := .step 2 }.fuseSync
  let s := (s.set .FLU_CEILING 0 s.fuses.ceilingBits).set .GCTL_SERIAL 0 s.fuses.serial
  let s := (List.range 16).foldl (fun s c => s.set .CH_USABLE_MIB c (if s.fuses.v256 then 16352 else 8176)) s
  if s.fuses.rootFault then s.enterFault 1 0 else s

/-- Step 3: the fuse steps of the winning record, and the image (R460, R467). -/
def State.bootImage (s : State) (o : BootOutcome) : State :=
  let r := (s.fuseCompletion o.fuseOk).chooseImage fun k => if k == 0 then o.slotAOk else o.slotBOk
  match r.2 with
  | none => r.1.enterFault 3 0
  | some (k, trial) =>
    { r.1 with fw.slot := k, fw.trial := trial, fwCertified := (r.1.slotOf k).certified, boot := .step 4 }.set .DS_STATE 0 2

/-- A rate of R337, or 0 for a channel that fails at every one. -/
def rateOk (r : Nat) : Bool := r == 8533 || r == 7500 || r == 6400 || r == 0

/-- The channels' rates after a training: CH_RATE, TRAINED, and the stored results. -/
def State.trained (s : State) (rates : List Nat) : State :=
  (List.range 16).foldl (fun s c =>
    let r := rates.getD c 0
    let s := (s.set .CH_RATE c r).set .CH_TRAINED c (b2n (r != 0))
    if r == 0 then s else { s with ch.rates := Tab.put c r s.ch.rates }) s

def firstFailing (rates : List Nat) : Option Nat := (List.range 16).find? fun c => rates.getD c 0 == 0

/-- Step 4: DRAM training. -/
def State.bootTrain (s : State) (rates : List Nat) : State :=
  let s := s.trained rates
  match firstFailing rates with
  | some c => s.enterFault 4 c
  | none => { s with boot := .step 5 }.set .DS_STATE 0 3

/-- Step 5: all DRAM and every tag are zeroed; step 6 starts, and the Wren link trains (R379). -/
def State.bootZero (s : State) : State :=
  let s := { s with dram := [], soot := [], marks := [], poison := [], boot := .step 6 }
  let s := (List.range 16).foldl (fun s c => s.set .CH_IN_SERVICE c 1) s
  let s := (s.set .SOOT_TAGSTORE_READY 0 1).set .DS_STATE 0 4
  if s.wrenOn then s.startTraining else s

/-- A unit in service after the step 6 self-tests, or out of it with CAUSE 3. -/
def State.unitTested (s : State) (u : UnitName) (bad : Bool) : State :=
  let put (s : State) (svc cau : Field) (i : Nat) : State := if bad then s.set cau i 3 else s.set svc i 1
  match u with
  | .dec n => put s .DEC_IN_SERVICE .DEC_CAUSE n
  | .array n => put s .AR_IN_SERVICE .AR_CAUSE n
  | .cluster n => put s .CL_IN_SERVICE .CL_CAUSE n
  | .fft => let s := put s .FFT_IN_SERVICE .FFT_CAUSE 0
            if bad then s.set .FFT_FALLBACK 0 1 else s
  | .menc n => put s .MENC_IN_SERVICE .MENC_CAUSE n
  | .lane n => if bad then (s.set .TRE_LANE_OUT 0 (Num.setBit (s.get .TRE_LANE_OUT) n true)).set .TRE_CAUSE 0 3 else s

/-- Every unit that has a self-test in step 6. -/
def allUnits : List UnitName :=
  (List.range 8).map UnitName.dec ++ (List.range 2).map UnitName.array ++ (List.range 8).map UnitName.cluster ++ [.fft] ++
  (List.range 2).map UnitName.menc ++ (List.range 16).map UnitName.lane

/-- SEC_KEY_STATUS at step 6 (R433, R434, R450). -/
def State.keyChecks (s : State) (identityOk : Bool) : State :=
  let f := s.fuses
  let s := (s.set .KEY_IDENTITY_OK 0 (b2n identityOk)).set .KEY_MODEL_OK 0 (b2n (f.modelKey && f.provisioned && !f.faults.testBit 2))
  (s.set .KEY_DEBUG_OK 0 (b2n (f.debugKey && !f.faults.testBit 1))).set .KEY_PAIRING_AVAILABLE 0 (b2n (decide (f.pairEpoch < 32)))

/-- Both watchdogs as Choararok starts them at the end of step 6. -/
def State.wdgInit (s : State) : State :=
  let s := ((s.set .WDG_PERIOD 0 2000).set .WDG_PERIOD 1 500).set .WDG_ENABLE 0 3
  ((s.set .WDG_ENABLE 1 0xFF).wdgBegin 0).wdgBegin 1

/-- GCTL_RESET_CAUSE as a word. -/
def State.causeWord (s : State) : Nat := 128 * s.get .RC_WAS_FAULT + s.get .RC_CAUSE

/-- The log records of step 6 (R470, R473): what the boot ROM did, then BOOT. -/
def State.bootLog (s : State) : State :=
  match s.winner with
  | none => s
  | some (_, r) =>
    let s := s.fw.notes.foldl (fun s e => s.logUpdate e r.slot r.fw r.sec) s
    s.log 0x10 [s.fw.slot, r.seq, r.state, r.attempts, r.fw, s.fuses.rollback, s.causeWord]

/-- The hour of R493. -/
abbrev ageTicks : Nat := 3600000000

/-- READY: the budgets, the pools, the latched doorbells (R126, R304, R473). -/
def State.enterReady (s : State) : State :=
  let s := (s.set .DS_SLOT 0 s.fw.slot).set .DS_TRIAL 0 (b2n s.fw.trial)
  let s := { s with
    boot := .done
    -- a tick in which an event was captured before READY goes to the history only (R116)
    readyAt := some (if s.captured.any fun e => e.code != 14 && e.tick == s.now then s.now + 1 else s.now)
    fw.upState := if s.fw.trial then 5 else 0
    fw.trialEnd := if s.fw.trial then some (s.now + 600000000) else none
    hlt.start := s.now, hlt.ageNext := s.now + ageTicks, hlt.govLast := s.now }
  ((s.set .DS_STATE 0 5).recompute).schSync.poolSync.applyLatched

/-- Step 6. -/
def State.bootFirmware (s : State) (o : BootOutcome) : State :=
  let s := allUnits.foldl (fun s u => s.unitTested u (o.failedUnits.contains u)) s
  let s := s.laneSync.keyChecks o.identityOk
  if !o.selftestOk then s.enterFault 7 0
  else ((s.set .SOOT_LOCK 0 1).bootLog.wdgInit).enterReady

/-- BOOT_STEP_DONE (R120, R131). -/
def execBootStepDone (o : BootOutcome) (s : State) : Result :=
  if !s.booting then .next s
  else
    match s.boot with
    | .step 1 => done s.bootFuses
    | .step 2 => done (if o.pufOk then { s with boot := .step 3, rootSecret := some Config.pufSecret } else s.enterFault 2 0)
    | .step 3 => done (s.bootImage o)
    | .step 4 => doneIf s (o.rates.length == 16 && o.rates.all rateOk) (s.bootTrain o.rates)
    | .step 5 => done s.bootZero
    | .step 6 => done (s.bootFirmware o)
    | _ => .next s

end Sys2Proof.Machine
end

