-- ==== Sys2Proof/Machine/HostLink.lean ====
section
/-! DEFINITION. Sys2Proof/Machine/HostLink.lean: the PCI Express link as the device sees it: up, down, returned, in Recovery
(R122, R151 to R158), Bus Master Enable and the MSI-X controls (R140, R158), and the width a link runs at. -/

namespace Sys2Proof.Machine

open Sys2Proof.Num (b2n)

/-- A width and speed a link can train to (R133, R150). -/
def linkOk (speed width : Nat) : Bool :=
  decide (1 ≤ speed) && decide (speed ≤ 5) && (width == 1 || width == 2 || width == 4 || width == 8)

/-- The link reaches L0 at this width and speed. -/
def State.linkTo (s : State) (speed width : Nat) : State :=
  ((s.set .LINK_LTSSM 0 3).set .LINK_DL_UP 0 1).set .LINK_SPEED 0 speed |>.set .LINK_WIDTH 0 width

/-- The die is out of reset and HCLK runs. -/
def State.linkOn (s : State) : Bool := s.boot != .inReset && !s.clockIsLost 0

/-- The data link is up and no loss of it is waiting for its function-level reset. -/
def State.linkRuns (s : State) : Bool := s.linkOn && s.get .LINK_DL_UP == 1 && s.get .LINK_DOWN == 0

/-- A configuration request reaches the device: in no Recovery (R155). -/
def State.cfgReached (s : State) : Bool := s.linkRuns && !s.held

/-- HOST_LINK_UP (R122, R158): the LTSSM passes Polling (1) and Configuration (2) and reaches its first L0 (3) after a reset. -/
def execHostLinkUp (ltssm speed width : Nat) (s : State) : Result :=
  if ltssm == 3 then
    doneIf s (s.linkOn && s.get .LINK_DL_UP == 0 && s.get .LINK_DOWN == 0 && linkOk speed width)
      ((s.linkTo speed width).recompute.schSync)
  else doneIf s (s.linkOn && s.get .LINK_DL_UP == 0 && (ltssm == 1 || ltssm == 2)) (s.set .LINK_LTSSM 0 ltssm)

/-- The frame whose copy packet `id` makes. -/
def State.copyingOf (s : State) (id : Nat) : Option (Nat × Frame) :=
  s.streams.findSome? fun e => (e.2.frames.find? fun f => decide (f.phase = .copying id)).map fun f => (e.1, f)

/-- The transfer of packet `id` fails: the command ends with reply `r`, and what it had copied is given back (R149, R152). -/
def State.failRead (s : State) (id : Nat) (r : Reply) : State :=
  match s.copyingOf id with
  | some (k, f) => (s.unfeed k f).complete id r
  | none =>
    match Tab.find? id s.loadBufs with
    | some base => s.failLoad id base r
    | none => s.complete id r

/-- What was waiting on an outstanding read when the link went ends with DEVICE_FAULT (R152). -/
def State.failCopies (s : State) (detail : Nat) : State :=
  (s.reads.filter fun r => r.issued != 0).foldl (fun s r => s.failRead r.pkt (Reply.deviceFault detail)) s

/-- The consequence of HOST_LINK_DOWN (R111, R152). -/
def State.linkLost (s : State) : State := ({ s with retry := [] } : State).failCopies 0x0104

/-- HOST_LINK_DOWN with DETAIL0 `code`: DOWN is set and what waited in the crossing and the staging store is discarded and counted
(R147, R159); the consequence follows its treatment (R112, R113). -/
def State.hostLinkDown (s : State) (code : Nat) : State :=
  let s := s.inRank 8 0
  let t := s.treatment 8
  let s := (s.sat 16 .GCTL_LINK_DOWNS).capture 8 0 code 0 0
  let s := (((s.set .LINK_LTSSM 0 code).set .LINK_DL_UP 0 0).set .LINK_DOWN 0 1).drainStaged
  let s := { s with offer := none }
  if t == .apply then s.linkLost else s

/-- HOST_LINK_DOWN (R151, R152); a Hot Reset is its own command. -/
def execHostLinkDown (ltssm : Nat) (s : State) : Result :=
  doneIf s (s.linkOn && s.get .LINK_DL_UP == 1 && (ltssm == 0 || ltssm == 8 || ltssm == 9)) (s.hostLinkDown ltssm)

/-- DL_UP_RETURN (R153). -/
def execDlUpReturn (speed width : Nat) (s : State) : Result :=
  doneIf s (s.linkOn && s.get .LINK_DL_UP == 0 && s.get .LINK_DOWN == 1 && linkOk speed width)
    ((s.linkTo speed width).flrStart true)

/-! ## Recovery and width (R155, R156) -/

/-- The bit of the AER correctable error status that an error sets (R148; PRESUMED, assumption 83). -/
def LinkError.bit : LinkError → Nat
  | .receiver => 0 | .badTlp => 6 | .badDllp => 7 | .replayRollover => 8 | .replayTimeout => 12

/-- Receiver errors counted on a lane. -/
def State.hostLaneErrs (s : State) (lane errs : Nat) : State := s.sat 16 .GCTL_LANE_ERR lane errs

/-- Errors found on a lane, counted in its register and in AER (R148). -/
def State.linkErrs (s : State) (lane errs : Nat) (kind : LinkError) : State :=
  { (s.hostLaneErrs lane errs) with cfg.corStatus := s.cfg.corStatus ||| 2 ^ LinkError.bit kind }

/-- Recovery ends in L0 at the width and speed given, no wider than the width offered where the device reduces it (R156); what
waited goes out (R147, R155). -/
def State.recovered (s : State) (speed width : Nat) : State :=
  let s1 := match s.offer with
    | none => s.linkTo speed width
    | some w => (s.linkTo speed (min width w)).set .GCTL_LINK_ERR 0 (s.get .GCTL_LINK_ERR ||| 8)
  ({ s1 with offer := none } : State).drainStaged.issueReads.recompute.schSync

/-- LINK_RECOVERY (R155): the LTSSM enters Recovery, passes Recovery.Speed, and returns to L0. -/
def execLinkRecovery (phase : RecoveryPhase) (s : State) : Result :=
  match phase with
  | .enter lane errs kind =>
    if 8 ≤ lane then .fault .noSuchInstance
    else
      let s1 := match kind with
        | none => s
        | some k => s.linkErrs lane errs k
      doneIf s (s.linkRuns && !s.held) (s1.set .LINK_LTSSM 0 4)
  | .speed => doneIf s (s.linkRuns && s.get .LINK_LTSSM == 4) (s.set .LINK_LTSSM 0 5)
  | .toL0 speed width => doneIf s (s.linkRuns && s.held && linkOk speed width) (s.recovered speed width)

/-- LINK_WIDTH_REDUCE (R156): `errs` errors on `lane` within 1,024 ticks reach the limit, and the device enters Recovery, or joins the
one in progress (R159), and offers half its width: with lane reversal (R133) the half without the failing lane is the largest width
that excludes it (DEDUCED, assumption 55). -/
def execLinkWidthReduce (lane errs : Nat) (s : State) : Result :=
  if 8 ≤ lane then .fault .noSuchInstance
  else
    doneIf s (s.linkRuns && s.get .LINK_AUTO_WIDTH == 1 && !s.cfg.widthDisable && decide (s.get .LINK_LANE_ERR_LIMIT ≤ errs) &&
        decide (1 < s.get .LINK_WIDTH))
      (let s1 := { (s.linkErrs lane errs .receiver) with offer := some (s.get .LINK_WIDTH / 2) }
       if s.held then s1 else s1.set .LINK_LTSSM 0 4)

/-- The two enables of the Command register as written (R158): MSI-X that pend go out, and reads that were held are issued. -/
def State.command (s : State) (bme mse : Bool) : State :=
  ({ s with bme := bme, mse := mse }.set .LINK_BME 0 (b2n bme)).sendUnblocked.issueReads

/-- BUS_MASTER_ENABLE_WRITE (R158). -/
def execBusMasterEnableWrite (bme mse : Bool) (s : State) : Result := doneIf s s.cfgReached (s.command bme mse)

/-- MSIX_UNBLOCK (R140): MSI-X Enable and Function Mask as the host writes them, and a vector whose mask it clears. -/
def execMsixUnblock (vec : Option Nat) (enable fmask : Bool) (s : State) : Result :=
  let s1 := { s with msixEnable := enable, funcMask := fmask }
  match vec with
  | none => doneIf s s.cfgReached s1.sendUnblocked
  | some v =>
    if Config.vectors ≤ v then .fault .noSuchInstance
    else doneIf s (s.cfgReached && s.barsOpen)
      { s1 with msixTable := Tab.putD msixReset v { s.msixEntry v with masked := false } s.msixTable }.sendUnblocked

end Sys2Proof.Machine
end

