-- ==== Sys2Proof/Machine/Power.lean ====
section
/-! DEFINITION. Sys2Proof/Machine/Power.lean: the power states RUN, IDLE, DOZE and SLEEP, their entry and wake, and the host's
D-states (R57, R58, R205, R345, R346, R445 to R448). -/

namespace Sys2Proof.Machine

open Sys2Proof.Num (slice)

/-- DOZE and SLEEP may be entered (R205, R445): SOLO or ORPHAN, no stream, no job but a SCRUB, which R67 waits for, and the
cores not halted. A runtime retrain completes first too (R349). -/
def State.mayDoze (s : State) : Bool :=
  (s.role == 2 || s.role == 3) && s.streams.isEmpty && (s.jobs.all fun j => j.kind == .scrub || j.kind == .train) &&
  s.get .DBG_CORES_HALTED == 0

/-- Both watchdogs stop (R445), or start again with a full period. -/
def State.wdgStop (s : State) : State := (s.set .WDG_RUNNING 0 0).set .WDG_RUNNING 1 0
def State.wdgResume (s : State) : State := (s.wdgBegin 0).wdgBegin 1

/-- The checks of POWER_SET (R205, R445). -/
def State.powerChecks (s : State) (p : Pkt) : List (Bool × Reply) :=
  let t := slice (p.w 2) 2 0
  [word 2 (decide (t ≤ 3) && p.zeroBits 2 7 3 && p.zeroBits 2 31 10),
   ((p.w 2).testBit 9 || t == 0 || (t == 1 && s.streams.isEmpty && s.jobs.isEmpty) || (decide (2 ≤ t) && s.mayDoze),
    Reply.notPermitted 3)]

def State.powerSet (s : State) (p : Pkt) : State :=
  let t := slice (p.w 2) 2 0
  let only := (p.w 2).testBit 9
  s.checked p (s.powerChecks p)
    fun s =>
      let s := s.set .PWR_D3HOT_MAP 0 (slice (p.w 2) 8 8)
      if only || (t == 0 && s.power != 1) then s.complete p.id (Reply.ok)
      else if t == 0 then
        -- the reply follows once RUN has been entered
        { s with powerReq := some (0, some p.id), waking := some ((s.waking.getD (1, s.now)).1, (s.waking.getD (1, s.now)).2) }
      else if t == 1 then
        let s := { s with power := 1 }.wdgStop
        ((s.set .PWR_STATE 0 1).set .GCTL_PWR_ENTRY_TICK 0 s.now).complete p.id (Reply.ok)
      else { s with powerReq := some (t, some p.id) }

/-- POWER_SET. -/
def execPowerSet (s : State) : Result := startPkt 0x50 State.powerSet s

/-- The scan of the retained eighths (R57): sooted granules are zeroed and one breach covers them. -/
def State.retainScan (s : State) : State :=
  match s.sootIn 0 s.cleanEnd with
  | [] => s
  | r :: rs => ((r :: rs).foldl (fun s g => s.zeroise (64 * g.1) (64 * g.2)) (s.breach 7 7 0x0C00 (ISet.size (r :: rs)) (64 * r.1) 0)).poisonSync

/-- Breach entries not yet appended reach the SPI NOR (R50, R66). -/
def State.appendBreaches (s : State) : State :=
  { (s.breachQueue.foldl (fun s e => s.log 0x01 e) s) with breachQueue := [] }

/-- Entry to DOZE (2) or SLEEP (3) (R345, R443, R445). -/
def State.sleepEntry (s : State) (t : Nat) (id : Option Nat) : State :=
  let s := s.set .GCTL_PWR_ENTRY_TICK 0 s.now
  let s := if t == 3 then s.endSession 3
           else if s.get .DBG_SESSION == 1 then (s.set .DBG_PORT_OPEN 0 0).set .DBG_SUSPENDED 0 1 else s
  let s := { s with ch.lowMargin := [] }
  let s := (if s.get .SOOT_PRECLEAR == 1 then s.zeroRanges [(s.cleanEnd, s.tagBase)] else s).clearTiles
  let s := (s.retainScan).appendBreaches
  let s : State := match id with
    | none => s
    | some p => s.complete p (Reply.ok)
  let s := (s.linkOff (s.get .WRN_REASON)).wdgStop
  let s := (List.range 16).foldl (fun s c => if s.channelUp c then s.set .CH_SELF_REFRESH c 1 else s) s
  let s := if t == 3 then { s with pageSlots := [], staging := none }.pinSync else s
  { s with power := t, powerReq := none }

/-- POWER_TRANSITION_START (R67, R212, R345): no SCRUB, no runtime retrain and no other job runs any more, and no UPDATE_CHUNK is in
flight. -/
def execPowerTransitionStart (s : State) : Result :=
  match s.powerReq with
  | none => .next s
  | some (t, id) =>
    doneIf s (s.isReady && s.thermal.isNone && decide (2 ≤ t) && s.scrub.isNone && s.ch.retrains.isEmpty && s.jobs.isEmpty &&
      s.packets.all fun p => p.opcode != 0x61 || p.bad.isSome) (s.sleepEntry t id)

/-! ## Wake (R346, R447) -/

/-- The function is in D0, and the link in L0 (R446, R151). -/
def State.leaveD3hot (s : State) : State :=
  if s.d3hot then { s with d3hot := false }.set .LINK_LTSSM 0 3 else s

/-- A source that wakes from the state the unit is in: 1 PMCSR, 2 doorbell, 3 bay, 4 tamper, 5 another one of IDLE. -/
def State.wakes (s : State) (src : Nat) : Bool :=
  if s.power == 1 then decide (2 ≤ src) && decide (src ≤ 5)
  else decide (2 ≤ s.power) && (src == 1 || (src == 2 && !s.d3hot && !s.dbLatch.isEmpty) || src == 3 || (src == 4 && s.tamperRest))

def State.wakeStart (s : State) (src : Nat) : State :=
  let s := (s.set .PWR_WAKE_SRC 0 src).set .GCTL_PWR_WAKE_TICK 0 s.now
  let s := { s with waking := some (s.power, s.now) }
  if s.power == 1 then s
  else
    let s := if s.d3hot && src != 1 then { (s.emit .pme) with cfg.pmeStatus := true } else s.leaveD3hot
    let s := (List.range 16).foldl (fun s c => s.set .CH_SELF_REFRESH c 0) s
    ((s.set .DS_STATE 0 8).set .SOOT_SCRUB_BUSY 0 1).addJob { emptyJob with kind := .clear, cls := 3 }

/-- POWER_WAKE. -/
def execPowerWake (src : Nat) (s : State) : Result :=
  doneIf s (s.isReady && s.thermal.isNone && s.waking.isNone && s.wakes src) (s.wakeStart src)

/-- The end of a wake from IDLE: RUN again, 10 ticks after the source; a POWER_SET to RUN gets its reply (R205). -/
def State.idleEnd (s : State) : State :=
  let req := s.powerReq
  let s := ({ s with power := 0, waking := none, powerReq := none }.set .PWR_STATE 0 0).set .PWR_LAST_STATE 0 1 |>.wdgResume
  match req with
  | some (0, some id) => s.complete id (Reply.ok)
  | _ => { s with powerReq := req }

/-- The clears of R346: every non-retained eighth with its marks and poison, and every tag. -/
def State.wakeClear (s : State) : State :=
  let s := s.dropJobs fun j => j.kind == .clear
  let s := { s with dram := memZero s.dram s.cleanEnd s.dramBytes, soot := [], marks := cutMarks s.cleanEnd s.dramBytes s.marks
                    poison := s.poison.filter fun e => decide (e.1 < s.cleanEnd) }
  (s.poisonSync).set .SOOT_SCRUB_BUSY 0 0

/-- READY again after DOZE or SLEEP: the latched doorbells act, the link trains, the watchdogs start. -/
def State.wakeReady (s : State) : State :=
  let s := ((s.set .DS_STATE 0 5).set .PWR_STATE 0 0).set .PWR_LAST_STATE 0 s.power
  let s := { s with power := 0, waking := none }.wdgResume
  -- a sample due while the unit slept is skipped (R498)
  let s := if s.now < s.hlt.ageNext then s
           else { s with hlt.ageNext := s.hlt.ageNext + ((s.now - s.hlt.ageNext) / ageTicks + 1) * ageTicks }
  -- steps 5 and 6 of a tamper response that waited (R450)
  let s := if s.tamperRest then { s.tamperZero with tamperRest := false } else s
  let s := if s.wrenOn then s.startTraining else s
  (s.recompute).schSync.poolSync.applyLatched

/-- WAKE_COMPLETE: `rates` are those the channels verify or train at, `verified` the verdict on the running slot after
SLEEP. -/
def execWakeComplete (verified : Bool) (rates : List Nat) (s : State) : Result :=
  match s.waking with
  | none => .next s
  | some (p, since) =>
    if s.isFault || s.thermal.isSome then .next s
    else if p == 1 then doneIf s (decide (since + 10 ≤ s.now)) s.idleEnd
    else if rates.length != 16 || !rates.all rateOk then .next s
    else
      let s := s.trained rates
      match firstFailing rates with
      | some c => done (s.enterFault 4 c)
      | none =>
        let s := s.wakeClear
        done (if p == 3 && !verified then s.enterFault 3 0 else s.wakeReady)

/-! ## D-states (R446) -/

/-- Every group whose tick has ended is written. -/
def formPast : Nat → State → State
  | 0, s => s
  | n + 1, s =>
    match s.groupStamp with
    | none => s
    | some t => if t < s.now then formPast n (s.formGroup t) else s

/-- PMCSR is written to D3hot: staged output first, then the mapped state or D3_DENIED. -/
def State.toD3hot (s : State) : State :=
  let s := { (formPast s.captured.length s) with d3hot := true }.set .LINK_LTSSM 0 6
  if s.isReady && s.thermal.isNone && s.mayDoze && decide (s.power < 2) && s.waking.isNone then
    let s := s.set .PWR_D3_DENIED 0 0
    if s.powerReq.isSome then s else { s with powerReq := some (2 + s.get .PWR_D3HOT_MAP, none) }
  else s.set .PWR_D3_DENIED 0 1

/-- PMCSR_D3HOT. -/
def execPmcsrD3hot (s : State) : Result := doneIf s (s.cfgReached && !s.d3hot) s.toD3hot

/-- PMCSR_D0_WRITE: the function is awake, so the write wakes nothing. -/
def execPmcsrD0Write (s : State) : Result :=
  doneIf s (s.cfgReached && s.d3hot && decide (s.power < 2)) s.leaveD3hot

end Sys2Proof.Machine
end

