-- ==== Sys2Proof/Machine/Pcie.lean ====
section
/-! DEFINITION. Sys2Proof/Machine/Pcie.lean: configuration space (R133 to R137) and what the device does with TLPs in error
(R148). The places of bits inside a capability structure are those of the PCI Express Base Specification 5.0, which R135 names
(PRESUMED, assumption 83). -/

namespace Sys2Proof.Machine

open Sys2Proof.Num (b2n slice)

def barSize (bar : Nat) : Nat :=
  if bar == 0 then 2 ^ 24 else if bar == 2 then 2 ^ 22 else if bar == 4 then 2 ^ 16 else if bar == 6 then 2 ^ 12 else 0

/-- What BAR register `i` reads: the base address above the BAR's size; 64-bit memory, Prefetchable clear; the odd ones the upper
halves (R137). -/
def Cfg.bar (c : Cfg) (i : Nat) : Nat :=
  let v := c.bars.getD i 0
  if i % 2 == 1 then v else v / barSize i * barSize i + 4

/-- An extended capability header: ID, version, next structure. -/
def extCap (id ver next : Nat) : Nat := id + ver * 2 ^ 16 + next * 2 ^ 20

/-- The 32-bit word of configuration space at `off`, a multiple of 4 (R134, R135); 0 where nothing is (R136). -/
def State.cfgWord (s : State) (off : Nat) : Nat :=
  let c := s.cfg
  if off == 0x00 || off == 0x2C then 0x09601F3D
  else if off == 0x04 then 2 * b2n s.mse + 4 * b2n s.bme + 2 ^ 20
  else if off == 0x08 then 0x12000000 + s.fuses.revision % 256
  else if 0x10 ≤ off && off < 0x28 then c.bar ((off - 0x10) / 4)
  else if off == 0x34 then 0x40
  else if off == 0x40 then 0x40035001
  else if off == 0x44 then (if s.d3hot then 3 else 0) + 8 + 2 ^ 8 * b2n c.pmeEn + 2 ^ 15 * b2n c.pmeStatus
  else if off == 0x50 then 0x07FF6011 + 2 ^ 30 * b2n s.funcMask + 2 ^ 31 * b2n s.msixEnable
  else if off == 0x54 then 0x0004
  else if off == 0x58 then 0x8004
  else if off == 0x60 then 0x00020010
  else if off == 0x64 then 0x10008022
  else if off == 0x68 then 2 ^ 5 * c.maxPayload + 2 ^ 12 * c.maxRead
  else if off == 0x6C then 0x00400885
  else if off == 0x70 then
    c.aspm + 2 ^ 9 * b2n c.widthDisable + 2 ^ 16 * s.get .LINK_SPEED + 2 ^ 20 * s.get .LINK_WIDTH
  else if off == 0x84 then 0x00030013
  else if off == 0x88 then c.timeout + 16 * b2n c.timeoutOff
  else if off == 0x8C then 0x3E
  else if off == 0x90 then 5 + 32 * b2n c.speedDisable
  else if off == 0x100 then extCap 0x0001 2 0x148
  else if off == 0x104 then c.uncStatus
  else if off == 0x108 then c.uncMask
  else if off == 0x10C then c.uncSev
  else if off == 0x110 then c.corStatus
  else if off == 0x114 then c.corMask
  else if off == 0x118 then c.firstErr + 0xA0 + 2 ^ 6 * b2n c.ecrcGen + 2 ^ 8 * b2n c.ecrcCheck
  else if 0x11C ≤ off && off < 0x12C then c.header.getD ((off - 0x11C) / 4) 0
  else if off == 0x148 then extCap 0x0003 1 0x158
  else if off == 0x14C then s.get .GCTL_SERIAL % 2 ^ 32
  else if off == 0x150 then s.get .GCTL_SERIAL / 2 ^ 32
  else if off == 0x158 then extCap 0x0019 1 0x178
  else if 0x164 ≤ off && off < 0x174 then Config.eqControl ((off - 0x164) / 4) % 2 ^ 32
  else if off == 0x178 then extCap 0x0025 1 0x184
  else if off == 0x17C then 0x80000001
  else if off == 0x180 then 2 ^ 31 * s.get .LINK_DL_UP
  else if off == 0x184 then extCap 0x0026 1 0x1B0
  else if off == 0x1B0 then extCap 0x0027 1 0x1D8
  else if 0x1B8 ≤ off && off < 0x1D8 then Tab.getD 0 ((off - 0x1B8) / 4) c.margin
  else if off == 0x1D8 then extCap 0x002A 1 0
  else 0

/-- What is written to BAR register `i`: the bits below the BAR's size stay 0. -/
def Cfg.setBar (c : Cfg) (i v : Nat) : Cfg :=
  { c with bars := c.bars.set i (if i % 2 == 1 then v else v / barSize i * barSize i) }

/-- A configuration write that leaves `v` in the bytes of the word at `off`; `ones` are the bits the request itself wrote as 1. The
power state of PMCSR is written by commands of its own (R446). -/
def State.cfgSet (s : State) (off v ones : Nat) : State :=
  let c := s.cfg
  if off == 0x04 then s.command (v.testBit 2) (v.testBit 1)
  else if 0x10 ≤ off && off < 0x28 then { s with cfg := c.setBar ((off - 0x10) / 4) v }
  else if off == 0x44 then { s with cfg.pmeEn := v.testBit 8, cfg.pmeStatus := c.pmeStatus && !ones.testBit 15 }
  else if off == 0x50 then { s with funcMask := v.testBit 30, msixEnable := v.testBit 31 }.sendUnblocked
  else if off == 0x68 then
    let s := { s with cfg.maxPayload := slice v 7 5, cfg.maxRead := slice v 14 12 }
    if ones.testBit 15 then s.flrStart false else s
  else if off == 0x70 then { s with cfg.aspm := v % 4, cfg.widthDisable := v.testBit 9 }
  else if off == 0x88 then { s with cfg.timeout := v % 16, cfg.timeoutOff := v.testBit 4 }
  else if off == 0x90 then { s with cfg.speedDisable := v.testBit 5 }
  else if off == 0x104 then { s with cfg.uncStatus := Num.clearBits c.uncStatus ones }
  else if off == 0x108 then { s with cfg.uncMask := v }
  else if off == 0x10C then { s with cfg.uncSev := v }
  else if off == 0x110 then { s with cfg.corStatus := Num.clearBits c.corStatus ones }
  else if off == 0x114 then { s with cfg.corMask := v }
  else if off == 0x118 then { s with cfg.ecrcGen := v.testBit 6, cfg.ecrcCheck := v.testBit 8 }
  else if 0x1B8 ≤ off && off < 0x1D8 then { s with cfg.margin := Tab.putD 0 ((off - 0x1B8) / 4) (v % 65536) c.margin }
  else s

/-- A configuration write of `width` bytes of value `v` at `off`. -/
def State.cfgWrite (s : State) (off width v : Nat) : State :=
  let o := off / 4 * 4
  let sh := 2 ^ (8 * (off % 4))
  let mask := (2 ^ (8 * width) - 1) * sh
  let ones := (v * sh) &&& mask
  s.cfgSet o (Num.clearBits (s.cfgWord o) mask ||| ones) ones

/-- A configuration access of 1, 2 or 4 bytes inside one word. -/
def cfgAccessOk (off width : Nat) : Bool := (width == 1 || width == 2 || width == 4) && decide (off % 4 + width ≤ 4)

/-! ## Errors (R148) -/

/-- The AER bit of an error in a received TLP. -/
def TlpFault.bit : TlpFault → Nat
  | .poisoned => 12 | .ecrc => 19 | .unexpectedCompletion => 16 | .malformed => 18 | .receiverOverflow => 17
  | .flowControl => 13 | .dlProtocol => 4 | .outside => 20

end Sys2Proof.Machine
end

