-- ==== Sys2Proof/Machine/Regs.lean ====
section
/-! DEFINITION. Sys2Proof/Machine/Regs.lean: the BAR0 register map. One row per field gives where the field stands in
BAR0 (base offset, stride and number of instances, bits) and its access type (R9). A field of more than 32 bits stands in
two consecutive words, the low half first (R8, R15). -/

namespace Sys2Proof.Machine

/-- The access types of R9. -/
inductive Access where
  | ro | rw | rw1c | wo | rwl | rc
  deriving DecidableEq, Repr

/-- One field of the map. -/
structure Row where
  field : Field
  base : Nat
  stride : Nat
  count : Nat
  hi : Nat
  lo : Nat
  acc : Access
  deriving Repr

def regRows0 : List Row :=
  [⟨.GCTL_ID, 0x0, 0, 1, 31, 0, .ro⟩,
   ⟨.DS_WARM, 0x4, 0, 1, 23, 23, .ro⟩,
   ⟨.DS_DB_LATCHED, 0x4, 0, 1, 22, 22, .ro⟩,
   ⟨.DS_TRIAL, 0x4, 0, 1, 21, 21, .ro⟩,
   ⟨.DS_SLOT, 0x4, 0, 1, 20, 20, .ro⟩,
   ⟨.DS_CHANNEL, 0x4, 0, 1, 19, 16, .ro⟩,
   ⟨.DS_FAULT_CODE, 0x4, 0, 1, 15, 8, .ro⟩,
   ⟨.DS_STATE, 0x4, 0, 1, 3, 0, .ro⟩,
   ⟨.CERT_REASON, 0x8, 0, 1, 14, 8, .ro⟩,
   ⟨.CERT_LIFETIME_OUT, 0x8, 0, 1, 1, 1, .ro⟩,
   ⟨.CERT_CERTIFIED, 0x8, 0, 1, 0, 0, .ro⟩,
   ⟨.GCTL_RESET_KEY, 0xC, 0, 1, 31, 16, .wo⟩,
   ⟨.GCTL_RESET_WARM, 0xC, 0, 1, 0, 0, .wo⟩,
   ⟨.RC_WAS_FAULT, 0x10, 0, 1, 7, 7, .ro⟩,
   ⟨.RC_CAUSE, 0x10, 0, 1, 6, 0, .ro⟩,
   ⟨.GCTL_SERIAL, 0x20, 0, 1, 63, 0, .ro⟩,
   ⟨.LINK_LTSSM, 0x100, 0, 1, 23, 16, .ro⟩,
   ⟨.LINK_BME, 0x100, 0, 1, 12, 12, .ro⟩,
   ⟨.LINK_DOWN, 0x100, 0, 1, 11, 11, .ro⟩,
   ⟨.LINK_DL_UP, 0x100, 0, 1, 10, 10, .ro⟩,
   ⟨.LINK_WIDTH, 0x100, 0, 1, 9, 4, .ro⟩,
   ⟨.LINK_SPEED, 0x100, 0, 1, 3, 0, .ro⟩,
   ⟨.LINK_LANE_ERR_LIMIT, 0x104, 0, 1, 15, 8, .rw⟩,
   ⟨.LINK_AUTO_WIDTH, 0x104, 0, 1, 0, 0, .rw⟩,
   ⟨.GCTL_LINK_DISCARDS, 0x108, 0, 1, 31, 0, .rc⟩,
   ⟨.GCTL_LINK_DOWNS, 0x10C, 0, 1, 15, 0, .ro⟩,
   ⟨.GCTL_LINK_ERR, 0x110, 0, 1, 4, 0, .rw1c⟩,
   ⟨.GCTL_LANE_ERR, 0x120, 4, 8, 15, 0, .rc⟩,
   ⟨.ROLE, 0x200, 0, 1, 1, 0, .ro⟩,
   ⟨.LEASE_VALID, 0x200, 0, 1, 2, 2, .ro⟩,
   ⟨.LAST_ACTIVE, 0x200, 0, 1, 3, 3, .ro⟩,
   ⟨.HAS_EPOCH, 0x200, 0, 1, 4, 4, .ro⟩,
   ⟨.TAKEOVER_BUSY, 0x200, 0, 1, 5, 5, .ro⟩,
   ⟨.GCTL_GEN, 0x208, 0, 1, 63, 0, .ro⟩,
   ⟨.GCTL_LEASE_END, 0x210, 0, 1, 63, 0, .ro⟩,
   ⟨.GCTL_PAIR_IRQ, 0x218, 0, 1, 3, 0, .rw1c⟩,
   ⟨.GCTL_PAIR_IRQ_EN, 0x21C, 0, 1, 3, 0, .rw⟩,
   ⟨.GCTL_ROLLED, 0x220, 0, 1, 31, 0, .ro⟩,
   ⟨.GCTL_COLD_STREAMS, 0x224, 0, 1, 7, 0, .ro⟩,
   ⟨.GCTL_RENEW_REFUSED, 0x228, 0, 1, 31, 0, .rc⟩,
   ⟨.GCTL_PAIR_IGNORED, 0x22C, 0, 1, 31, 0, .ro⟩,
   ⟨.GCTL_TAKEOVER_TICK, 0x230, 0, 1, 63, 0, .ro⟩,
   ⟨.PWR_STATE, 0x300, 0, 1, 2, 0, .ro⟩,
   ⟨.PWR_LAST_STATE, 0x300, 0, 1, 6, 4, .ro⟩,
   ⟨.PWR_D3HOT_MAP, 0x300, 0, 1, 8, 8, .ro⟩,
   ⟨.PWR_D3_DENIED, 0x300, 0, 1, 9, 9, .ro⟩]

def regRows1 : List Row :=
  [⟨.PWR_WAKE_SRC, 0x300, 0, 1, 19, 16, .ro⟩,
   ⟨.GCTL_PWR_ENTRY_TICK, 0x308, 0, 1, 63, 0, .ro⟩,
   ⟨.GCTL_PWR_WAKE_TICK, 0x310, 0, 1, 63, 0, .ro⟩,
   ⟨.EVU_TICK_NOW, 0x10000, 0, 1, 63, 0, .ro⟩,
   ⟨.EVU_RING_EN, 0x10008, 0, 1, 0, 0, .rw⟩,
   ⟨.EVU_IRQ_EN, 0x10008, 0, 1, 1, 1, .rw⟩,
   ⟨.EVU_TICK_STOPPED, 0x1000C, 0, 1, 0, 0, .ro⟩,
   ⟨.EVU_SLEWING, 0x1000C, 0, 1, 1, 1, .ro⟩,
   ⟨.EVU_ALIGNED, 0x1000C, 0, 1, 2, 2, .ro⟩,
   ⟨.EVU_RING_FULL, 0x1000C, 0, 1, 3, 3, .ro⟩,
   ⟨.EVU_RING_BASE, 0x10010, 0, 1, 63, 0, .rw⟩,
   ⟨.EVU_RING_LOG2, 0x10018, 0, 1, 4, 0, .rw⟩,
   ⟨.EVU_RING_HEAD, 0x1001C, 0, 1, 31, 0, .ro⟩,
   ⟨.EVU_RING_TAIL, 0x10020, 0, 1, 31, 0, .rw⟩,
   ⟨.EVU_LOST, 0x10024, 0, 1, 31, 0, .rc⟩,
   ⟨.EVU_SEQ, 0x10028, 0, 1, 31, 0, .ro⟩,
   ⟨.EVU_PENDING, 0x1002C, 0, 1, 14, 0, .rw1c⟩,
   ⟨.EVU_SLEW_ADJ, 0x10030, 0, 1, 9, 0, .ro⟩,
   ⟨.EVU_SLEW_DIR, 0x10030, 0, 1, 31, 31, .ro⟩,
   ⟨.EVU_HISTORY, 0x10800, 4, 128, 31, 0, .ro⟩,
   ⟨.DBG_STATE, 0x30000, 0, 1, 1, 0, .ro⟩,
   ⟨.DBG_SESSION, 0x30000, 0, 1, 2, 2, .ro⟩,
   ⟨.DBG_PORT_OPEN, 0x30000, 0, 1, 3, 3, .ro⟩,
   ⟨.DBG_SUSPENDED, 0x30000, 0, 1, 4, 4, .ro⟩,
   ⟨.DBG_CORES_HALTED, 0x30000, 0, 1, 5, 5, .ro⟩,
   ⟨.DBG_SCOPE, 0x30000, 0, 1, 10, 8, .ro⟩,
   ⟨.SEC_DBG_CHALLENGE, 0x30010, 4, 8, 31, 0, .ro⟩,
   ⟨.SEC_DBG_EXPIRY, 0x30030, 0, 1, 63, 0, .ro⟩,
   ⟨.SEC_DBG_CTRL_END, 0x30038, 0, 1, 0, 0, .wo⟩,
   ⟨.SEC_DBG_CTRL_KEY, 0x30038, 0, 1, 31, 16, .wo⟩,
   ⟨.SEC_DBG_ACCEPTS, 0x3003C, 0, 1, 31, 0, .ro⟩,
   ⟨.SEC_DBG_REFUSALS, 0x30040, 0, 1, 31, 0, .ro⟩,
   ⟨.FUSE_PROVISIONED, 0x30044, 0, 1, 0, 0, .ro⟩,
   ⟨.FUSE_LAB, 0x30044, 0, 1, 1, 1, .ro⟩,
   ⟨.FUSE_ROLLBACK, 0x30044, 0, 1, 14, 8, .ro⟩,
   ⟨.FUSE_PAIR_EPOCH, 0x30044, 0, 1, 21, 16, .ro⟩,
   ⟨.FUSE_FAULTS, 0x30044, 0, 1, 31, 24, .ro⟩,
   ⟨.KEY_IDENTITY_OK, 0x30048, 0, 1, 0, 0, .ro⟩,
   ⟨.KEY_MODEL_OK, 0x30048, 0, 1, 1, 1, .ro⟩,
   ⟨.KEY_DEBUG_OK, 0x30048, 0, 1, 2, 2, .ro⟩,
   ⟨.KEY_PAIRING_AVAILABLE, 0x30048, 0, 1, 3, 3, .ro⟩,
   ⟨.KEY_TRNG_FAIL, 0x30048, 0, 1, 4, 4, .ro⟩,
   ⟨.SEC_LAB_ARM, 0x3004C, 0, 1, 31, 0, .wo⟩,
   ⟨.TAMPER_LATCHED, 0x30050, 0, 1, 3, 0, .ro⟩,
   ⟨.TAMPER_LEVEL, 0x30050, 0, 1, 9, 8, .ro⟩,
   ⟨.SEC_TAMPER_EN, 0x30054, 0, 1, 1, 0, .rwl⟩]

def regRows2 : List Row :=
  [⟨.SEC_TAMPER_COUNT, 0x30058, 0, 1, 31, 0, .ro⟩,
   ⟨.SOOT_LOCK, 0x30400, 0, 1, 31, 31, .rwl⟩,
   ⟨.SOOT_PRECLEAR, 0x30400, 0, 1, 0, 0, .rwl⟩,
   ⟨.SOOT_SCRUB_BUSY, 0x30404, 0, 1, 2, 2, .ro⟩,
   ⟨.SOOT_SRAM_READY, 0x30404, 0, 1, 1, 1, .ro⟩,
   ⟨.SOOT_TAGSTORE_READY, 0x30404, 0, 1, 0, 0, .ro⟩,
   ⟨.SEC_SOOT_IRQ, 0x30408, 0, 1, 2, 0, .rw1c⟩,
   ⟨.SEC_SOOT_IRQ_EN, 0x3040C, 0, 1, 2, 0, .rw⟩,
   ⟨.SEC_BREACH_SEQ, 0x30410, 0, 1, 31, 0, .ro⟩,
   ⟨.SEC_BREACH_TOTAL, 0x30418, 0, 1, 63, 0, .ro⟩,
   ⟨.SEC_TAG_UE_COUNT, 0x30420, 0, 1, 31, 0, .ro⟩,
   ⟨.BREACH_LOG, 0x30800, 4, 512, 31, 0, .ro⟩,
   ⟨.FLU_FENCED, 0x40000, 0, 1, 0, 0, .ro⟩,
   ⟨.FLU_CEILING, 0x40004, 0, 1, 15, 0, .ro⟩,
   ⟨.FLU_DEFAULT, 0x40008, 0, 1, 15, 0, .ro⟩,
   ⟨.FLU_ZONES, 0x40400, 4, 128, 23, 16, .ro⟩,
   ⟨.FLU_KIND_EN, 0x40400, 4, 128, 15, 13, .ro⟩,
   ⟨.FLU_BUDGET_BITS, 0x40600, 4, 128, 15, 0, .ro⟩,
   ⟨.FLU_RECORDS, 0x41000, 16, 128, 31, 0, .ro⟩,
   ⟨.FLU_BUDGET_GAPS, 0x41004, 16, 128, 31, 0, .ro⟩,
   ⟨.FLU_SUPPRESSED, 0x41008, 16, 128, 31, 0, .ro⟩,
   ⟨.FLU_RING_DROPS, 0x4100C, 16, 128, 31, 0, .ro⟩,
   ⟨.WDG_RUNNING, 0x50000, 0x100, 2, 0, 0, .ro⟩,
   ⟨.WDG_OPEN, 0x50000, 0x100, 2, 1, 1, .ro⟩,
   ⟨.WDG_PREWARNED, 0x50000, 0x100, 2, 2, 2, .ro⟩,
   ⟨.WDG_RESTARTING, 0x50000, 0x100, 2, 3, 3, .ro⟩,
   ⟨.WDG_PERIOD, 0x50004, 0x100, 2, 15, 0, .rw⟩,
   ⟨.WDG_ENABLE, 0x50008, 0x100, 2, 15, 0, .rw⟩,
   ⟨.WDG_CHECKIN, 0x5000C, 0x100, 2, 31, 0, .wo⟩,
   ⟨.WDG_CHECKED, 0x50010, 0x100, 2, 15, 0, .ro⟩,
   ⟨.WDG_MISSED, 0x50014, 0x100, 2, 15, 0, .ro⟩,
   ⟨.WDG_PREWARN, 0x50018, 0x100, 2, 15, 0, .rw⟩,
   ⟨.WDG_IGNORED_WRITES, 0x5001C, 0x100, 2, 15, 0, .rc⟩,
   ⟨.WDG_BAD_CHECKINS, 0x5001C, 0x100, 2, 31, 16, .rc⟩,
   ⟨.WDG_EXPIRIES, 0x50020, 0x100, 2, 31, 0, .ro⟩,
   ⟨.WDG_IRQ, 0x50024, 0x100, 2, 0, 0, .rw1c⟩,
   ⟨.WDG_IRQ_EN, 0x50028, 0x100, 2, 0, 0, .rw⟩,
   ⟨.HLT_ACLK_MHZ, 0x60000, 0, 1, 10, 0, .ro⟩,
   ⟨.HLT_GOV_HELD, 0x60000, 0, 1, 12, 12, .ro⟩,
   ⟨.HLT_GOV_MODE, 0x60000, 0, 1, 16, 16, .rw⟩,
   ⟨.HLT_GOV_TARGET, 0x60004, 0, 1, 10, 0, .ro⟩,
   ⟨.HLT_VCORE_MV, 0x60008, 0, 1, 11, 0, .ro⟩,
   ⟨.HLT_OFFSET, 0x60008, 0, 1, 23, 16, .ro⟩,
   ⟨.HLT_CPM_MARGIN, 0x6000C, 0, 1, 7, 0, .ro⟩,
   ⟨.HLT_WARN_RAILS, 0x60010, 0, 1, 15, 0, .ro⟩,
   ⟨.HLT_AVS_FAULT, 0x60010, 0, 1, 16, 16, .ro⟩]

def regRows3 : List Row :=
  [⟨.HLT_SUPPLY_WARNS, 0x60014, 0, 1, 31, 0, .ro⟩,
   ⟨.HLT_XING_DISCARDS, 0x60018, 0, 1, 31, 0, .ro⟩,
   ⟨.HLT_DIE_TEMP, 0x6001C, 0, 1, 7, 0, .ro⟩,
   ⟨.HLT_DRAM_TEMP, 0x6001C, 0, 1, 15, 8, .ro⟩,
   ⟨.HLT_CAPACITY, 0x60020, 0, 1, 9, 0, .ro⟩,
   ⟨.HLT_EOL_DAYS, 0x60024, 0, 1, 15, 0, .ro⟩,
   ⟨.HLT_EOL_CONF, 0x60024, 0, 1, 22, 16, .ro⟩,
   ⟨.HLT_LIMITER, 0x60024, 0, 1, 31, 24, .ro⟩,
   ⟨.HLT_EOL_ALARM, 0x60028, 0, 1, 15, 0, .rw⟩,
   ⟨.HLT_IRQ, 0x6002C, 0, 1, 2, 0, .rw1c⟩,
   ⟨.HLT_IRQ_EN, 0x60030, 0, 1, 2, 0, .rw⟩,
   ⟨.IND_VALUE, 0x60100, 16, 10, 15, 0, .ro⟩,
   ⟨.IND_LIMIT, 0x60100, 16, 10, 31, 16, .ro⟩,
   ⟨.IND_SLOPE, 0x60104, 16, 10, 31, 0, .ro⟩,
   ⟨.IND_DAYS, 0x60108, 16, 10, 15, 0, .ro⟩,
   ⟨.IND_R2, 0x60108, 16, 10, 31, 16, .ro⟩,
   ⟨.IND_SAMPLES, 0x6010C, 16, 10, 15, 0, .ro⟩,
   ⟨.WEQ_CTLE, 0x60200, 16, 2, 3, 0, .ro⟩,
   ⟨.WEQ_TAPS, 0x60200, 16, 2, 31, 8, .ro⟩,
   ⟨.WEQ_TAP5, 0x60204, 16, 2, 5, 0, .ro⟩,
   ⟨.WEQ_EYE_H, 0x60204, 16, 2, 15, 8, .ro⟩,
   ⟨.WEQ_EYE_W, 0x60204, 16, 2, 23, 16, .ro⟩,
   ⟨.BAY_PRESENT, 0x70000, 0, 1, 0, 0, .ro⟩,
   ⟨.BAY_PGOOD, 0x70000, 0, 1, 1, 1, .ro⟩,
   ⟨.BAY_ATTN, 0x70000, 0, 1, 2, 2, .ro⟩,
   ⟨.BAY_PWREN, 0x70000, 0, 1, 3, 3, .ro⟩,
   ⟨.BAY_PERST, 0x70000, 0, 1, 4, 4, .ro⟩,
   ⟨.BAY_DRIVEN, 0x70000, 0, 1, 5, 5, .ro⟩,
   ⟨.BAY_LED, 0x70000, 0, 1, 7, 6, .ro⟩,
   ⟨.BAY_SLOT_STATE, 0x70000, 0, 1, 10, 8, .ro⟩,
   ⟨.BAY_EVENTS, 0x70004, 0, 1, 2, 0, .rw1c⟩,
   ⟨.BAY_IRQ_EN, 0x70008, 0, 1, 2, 0, .rw⟩,
   ⟨.BAY_PGOOD_MS, 0x7000C, 0, 1, 9, 0, .rw⟩,
   ⟨.BAY_PRESSES, 0x70010, 0, 1, 7, 0, .ro⟩,
   ⟨.BAY_INSERTIONS, 0x70010, 0, 1, 15, 8, .ro⟩,
   ⟨.BAY_POWER_FAULTS, 0x70010, 0, 1, 23, 16, .ro⟩,
   ⟨.WRN_LSTATE, 0x80000, 0, 1, 3, 0, .ro⟩,
   ⟨.WRN_WIDTH, 0x80000, 0, 1, 5, 4, .ro⟩,
   ⟨.WRN_LANE, 0x80000, 0, 1, 6, 6, .ro⟩,
   ⟨.WRN_LEADER, 0x80000, 0, 1, 7, 7, .ro⟩,
   ⟨.WRN_SESSION, 0x80000, 0, 1, 9, 8, .ro⟩,
   ⟨.WRN_BOUND, 0x80000, 0, 1, 10, 10, .ro⟩,
   ⟨.WRN_PARTNER_ROLE, 0x80000, 0, 1, 13, 11, .ro⟩,
   ⟨.WRN_REASON, 0x80000, 0, 1, 23, 16, .ro⟩,
   ⟨.WRN_AUTO_WIDTH, 0x80004, 0, 1, 0, 0, .rw⟩,
   ⟨.WRN_WIDTH_REQ, 0x80004, 0, 1, 2, 1, .wo⟩]

def regRows4 : List Row :=
  [⟨.WRN_REQ_LANE, 0x80004, 0, 1, 3, 3, .wo⟩,
   ⟨.WRN_LANE_ERR_LIMIT, 0x80004, 0, 1, 15, 8, .rw⟩,
   ⟨.WRN_RETRAIN, 0x80004, 0, 1, 16, 16, .wo⟩,
   ⟨.WRN_EPOCH_MS, 0x80008, 0, 1, 11, 0, .rw⟩,
   ⟨.WRN_EVENTS, 0x8000C, 0, 1, 3, 0, .rw1c⟩,
   ⟨.WRN_PARTNER_SERIAL, 0x80010, 0, 1, 63, 0, .ro⟩,
   ⟨.WRN_TIME_OFFSET, 0x80018, 0, 1, 31, 0, .ro⟩,
   ⟨.WRN_LINK_DELAY, 0x8001C, 0, 1, 15, 0, .ro⟩,
   ⟨.WRN_EPOCH_SENT, 0x80020, 0, 1, 31, 0, .ro⟩,
   ⟨.WRN_EPOCH_APPLIED, 0x80024, 0, 1, 31, 0, .ro⟩,
   ⟨.WRN_EPOCH_DISCARDED, 0x80028, 0, 1, 31, 0, .ro⟩,
   ⟨.WRN_EPOCH_ABANDONED, 0x8002C, 0, 1, 31, 0, .ro⟩,
   ⟨.WRN_PAYLOAD_MBPS, 0x80030, 0, 1, 15, 0, .ro⟩,
   ⟨.WRN_TX_FRAMES, 0x80040, 0, 1, 63, 0, .ro⟩,
   ⟨.WRN_RX_FRAMES, 0x80048, 0, 1, 63, 0, .ro⟩,
   ⟨.WRN_REPLAYS, 0x80050, 0, 1, 31, 0, .ro⟩,
   ⟨.WRN_AUTH_FAILS, 0x80054, 0, 1, 31, 0, .ro⟩,
   ⟨.WRN_WITHDRAWALS, 0x80058, 0, 1, 15, 0, .ro⟩,
   ⟨.WRN_RETRAINS, 0x8005C, 0, 1, 15, 0, .ro⟩,
   ⟨.WRN_RX_DISCARDS, 0x80060, 0, 1, 31, 0, .ro⟩,
   ⟨.WRN_PF_CODE, 0x80064, 0, 1, 7, 0, .ro⟩,
   ⟨.WRN_PF_CHANNEL, 0x80064, 0, 1, 11, 8, .ro⟩,
   ⟨.WRN_LANE_ERR, 0x80070, 4, 2, 15, 0, .rc⟩,
   ⟨.MENC_IN_SERVICE, 0x90000, 0x2000, 2, 0, 0, .ro⟩,
   ⟨.MENC_BUSY, 0x90000, 0x2000, 2, 1, 1, .ro⟩,
   ⟨.MENC_FAULTED, 0x90000, 0x2000, 2, 2, 2, .ro⟩,
   ⟨.MENC_SELFTEST, 0x90000, 0x2000, 2, 3, 3, .ro⟩,
   ⟨.MENC_DECODING, 0x90000, 0x2000, 2, 4, 4, .ro⟩,
   ⟨.MENC_CAUSE, 0x90004, 0x2000, 2, 2, 0, .ro⟩,
   ⟨.MENC_PICTURES, 0x90008, 0x2000, 2, 31, 0, .ro⟩,
   ⟨.MENC_REISSUED, 0x9000C, 0x2000, 2, 31, 0, .ro⟩,
   ⟨.MENC_BUSY_TICKS, 0x90010, 0x2000, 2, 63, 0, .ro⟩,
   ⟨.MS_ENABLE, 0x91000, 16, 128, 0, 0, .ro⟩,
   ⟨.MS_MODE, 0x91000, 16, 128, 1, 1, .ro⟩,
   ⟨.MS_ROWRATE_NOW, 0x91000, 16, 128, 2, 2, .ro⟩,
   ⟨.MS_FLOORED, 0x91000, 16, 128, 3, 3, .ro⟩,
   ⟨.MS_DISCONTINUOUS, 0x91000, 16, 128, 4, 4, .ro⟩,
   ⟨.MS_SIDE, 0x91000, 16, 128, 7, 6, .ro⟩,
   ⟨.MS_RESYNC, 0x91000, 16, 128, 31, 31, .wo⟩,
   ⟨.MS_MAU_BYTES, 0x91004, 16, 128, 20, 0, .ro⟩,
   ⟨.MS_BUF_BYTES, 0x91008, 16, 128, 24, 0, .ro⟩,
   ⟨.MS_MAUS, 0x9100C, 16, 128, 31, 0, .ro⟩,
   ⟨.TRE_IN_SERVICE, 0xA0000, 0, 1, 0, 0, .ro⟩,
   ⟨.TRE_BUSY, 0xA0000, 0, 1, 1, 1, .ro⟩,
   ⟨.TRE_SELFTEST, 0xA0000, 0, 1, 3, 3, .ro⟩,
   ⟨.TRE_LANES, 0xA0000, 0, 1, 20, 16, .ro⟩]

def regRows5 : List Row :=
  [⟨.TRE_LANE_OUT, 0xA0004, 0, 1, 15, 0, .ro⟩,
   ⟨.TRE_CAUSE, 0xA0008, 0, 1, 2, 0, .ro⟩,
   ⟨.TRE_JOBS, 0xA000C, 0, 1, 31, 0, .ro⟩,
   ⟨.TRE_EVALS, 0xA0010, 0, 1, 31, 0, .ro⟩,
   ⟨.TRE_REISSUED, 0xA0014, 0, 1, 31, 0, .ro⟩,
   ⟨.TRE_BUSY_TICKS, 0xA0018, 0, 1, 63, 0, .ro⟩,
   ⟨.TRE_CE_COUNT, 0xA0020, 0, 1, 31, 0, .ro⟩,
   ⟨.TRE_FAILED_OBJ, 0xA0024, 0, 1, 31, 0, .ro⟩,
   ⟨.TS_ENSEMBLE, 0xA0800, 16, 128, 31, 0, .ro⟩,
   ⟨.TS_EVAL_CYCLES, 0xA0804, 16, 128, 31, 0, .ro⟩,
   ⟨.TS_EVAL_PERIOD, 0xA0808, 16, 128, 7, 0, .ro⟩,
   ⟨.TS_S_FIX, 0xA0808, 16, 128, 14, 8, .ro⟩,
   ⟨.TS_SAMPLE_MODE, 0xA0808, 16, 128, 17, 16, .ro⟩,
   ⟨.TS_HIST_FILL, 0xA080C, 16, 128, 3, 0, .ro⟩,
   ⟨.SCH_JOBS, 0xB0000, 0, 1, 8, 0, .ro⟩,
   ⟨.SCH_PKT_JOBS, 0xB0000, 0, 1, 22, 16, .ro⟩,
   ⟨.SCH_STEP, 0xB0000, 0, 1, 26, 24, .ro⟩,
   ⟨.SCH_ACLK_MHZ, 0xB0004, 0, 1, 10, 0, .ro⟩,
   ⟨.SCH_REFUSE_MEM, 0xB0008, 0, 1, 31, 0, .rc⟩,
   ⟨.SCH_REFUSE_COMP, 0xB000C, 0, 1, 31, 0, .rc⟩,
   ⟨.SCH_DEADLINE_DROPS, 0xB0010, 0, 1, 31, 0, .ro⟩,
   ⟨.SCH_CAUSE, 0xB0014, 0, 1, 4, 0, .ro⟩,
   ⟨.SCH_UNDO_PENDING, 0xB0014, 0, 1, 8, 8, .ro⟩,
   ⟨.SCH_UNDO_TICKS, 0xB0018, 0, 1, 31, 0, .ro⟩,
   ⟨.SCH_STEP_CHANGES, 0xB001C, 0, 1, 31, 0, .ro⟩,
   ⟨.SCH_IRQ, 0xB0020, 0, 1, 1, 0, .rw1c⟩,
   ⟨.SCH_IRQ_EN, 0xB0024, 0, 1, 1, 0, .rw⟩,
   ⟨.SCH_MEM_BUDGET, 0xB0100, 4, 16, 15, 0, .ro⟩,
   ⟨.SCH_MEM_ADMITTED, 0xB0100, 4, 16, 31, 16, .ro⟩,
   ⟨.SCH_CAP, 0xB0200, 16, 8, 31, 0, .ro⟩,
   ⟨.SCH_ADMITTED, 0xB0204, 16, 8, 31, 0, .ro⟩,
   ⟨.SCH_UTIL, 0xB0208, 16, 8, 9, 0, .ro⟩,
   ⟨.SCH_UNITS, 0xB020C, 16, 8, 3, 0, .ro⟩,
   ⟨.SCH_FFT_CAP, 0xB0280, 0, 1, 31, 0, .ro⟩,
   ⟨.SCH_FFT_ADMITTED, 0xB0284, 0, 1, 31, 0, .ro⟩,
   ⟨.SS_NET_TICKS, 0xB0800, 16, 128, 31, 0, .ro⟩,
   ⟨.SS_DRAM_MBPS, 0xB0804, 16, 128, 15, 0, .ro⟩,
   ⟨.SS_DECIMATED, 0xB0808, 16, 128, 0, 0, .ro⟩,
   ⟨.SS_SHED, 0xB0808, 16, 128, 1, 1, .ro⟩,
   ⟨.SS_DROPS, 0xB080C, 16, 128, 31, 0, .ro⟩,
   ⟨.CLEAN_EIGHTHS, 0xC0000, 0, 1, 2, 0, .rw⟩,
   ⟨.PGR_CLEAN_FREE, 0xC0008, 0, 1, 63, 0, .ro⟩,
   ⟨.PGR_SOOT_FREE, 0xC0010, 0, 1, 63, 0, .ro⟩,
   ⟨.PGR_SOOT_LARGEST, 0xC0018, 0, 1, 63, 0, .ro⟩,
   ⟨.PGR_MODELS, 0xC0020, 0, 1, 6, 0, .ro⟩,
   ⟨.PGR_ENSEMBLES, 0xC0020, 0, 1, 14, 8, .ro⟩]

def regRows6 : List Row :=
  [⟨.PGR_RESIDENT, 0xC0024, 0, 1, 9, 0, .ro⟩,
   ⟨.PGR_PINNED, 0xC0024, 0, 1, 25, 16, .ro⟩,
   ⟨.PGR_FETCHES, 0xC0028, 0, 1, 31, 0, .ro⟩,
   ⟨.PGR_RESTAGED, 0xC002C, 0, 1, 31, 0, .ro⟩,
   ⟨.PGR_ALLOC_REFUSALS, 0xC0030, 0, 1, 31, 0, .rc⟩,
   ⟨.PGR_FAILED_OBJ, 0xC0034, 0, 1, 31, 0, .ro⟩,
   ⟨.CH_IN_SERVICE, 0x100000, 0x1000, 16, 0, 0, .ro⟩,
   ⟨.CH_TRAINED, 0x100000, 0x1000, 16, 1, 1, .ro⟩,
   ⟨.CH_SELF_REFRESH, 0x100000, 0x1000, 16, 2, 2, .ro⟩,
   ⟨.CH_RETRAINING, 0x100000, 0x1000, 16, 3, 3, .ro⟩,
   ⟨.CH_LOST, 0x100000, 0x1000, 16, 4, 4, .ro⟩,
   ⟨.CH_REFRESH_MULT, 0x100000, 0x1000, 16, 6, 5, .ro⟩,
   ⟨.CH_RATE, 0x100004, 0x1000, 16, 13, 0, .ro⟩,
   ⟨.CH_USABLE_MIB, 0x100008, 0x1000, 16, 15, 0, .ro⟩,
   ⟨.CH_ROWLOCK, 0x10000C, 0x1000, 16, 0, 0, .rw⟩,
   ⟨.CH_AGE_LIMIT, 0x10000C, 0x1000, 16, 15, 8, .rw⟩,
   ⟨.CH_RETRAIN_AT, 0x10000C, 0x1000, 16, 20, 16, .rw⟩,
   ⟨.CH_TEMP, 0x100010, 0x1000, 16, 7, 0, .ro⟩,
   ⟨.CH_CE_COUNT, 0x100014, 0x1000, 16, 31, 0, .ro⟩,
   ⟨.CH_UE_COUNT, 0x100018, 0x1000, 16, 31, 0, .ro⟩,
   ⟨.CH_POISONED, 0x10001C, 0x1000, 16, 6, 0, .ro⟩,
   ⟨.CH_LAST_UE_ADDR, 0x100020, 0x1000, 16, 63, 0, .ro⟩,
   ⟨.CH_LAST_UE_TICK, 0x100028, 0x1000, 16, 63, 0, .ro⟩,
   ⟨.CH_PATROL_PASSES, 0x100030, 0x1000, 16, 31, 0, .ro⟩,
   ⟨.CH_RETRAINS, 0x100034, 0x1000, 16, 15, 0, .ro⟩,
   ⟨.CH_RD_MARGIN, 0x100038, 0x1000, 16, 7, 0, .ro⟩,
   ⟨.CH_WR_MARGIN, 0x100038, 0x1000, 16, 15, 8, .ro⟩,
   ⟨.CH_PROMOTIONS, 0x100040, 0x1000, 16, 31, 0, .ro⟩,
   ⟨.DEC_IN_SERVICE, 0x200000, 0x1000, 8, 0, 0, .ro⟩,
   ⟨.DEC_BUSY, 0x200000, 0x1000, 8, 1, 1, .ro⟩,
   ⟨.DEC_FAULTED, 0x200000, 0x1000, 8, 2, 2, .ro⟩,
   ⟨.DEC_SELFTEST, 0x200000, 0x1000, 8, 3, 3, .ro⟩,
   ⟨.DEC_STREAM, 0x200000, 0x1000, 8, 14, 8, .ro⟩,
   ⟨.DEC_CAUSE, 0x200004, 0x1000, 8, 2, 0, .ro⟩,
   ⟨.DEC_FRAMES, 0x200008, 0x1000, 8, 31, 0, .ro⟩,
   ⟨.DEC_BUSY_TICKS, 0x200010, 0x1000, 8, 63, 0, .ro⟩,
   ⟨.CL_IN_SERVICE, 0x300000, 0x1000, 8, 0, 0, .ro⟩,
   ⟨.CL_BUSY, 0x300000, 0x1000, 8, 1, 1, .ro⟩,
   ⟨.CL_FAULTED, 0x300000, 0x1000, 8, 2, 2, .ro⟩,
   ⟨.CL_SELFTEST, 0x300000, 0x1000, 8, 3, 3, .ro⟩,
   ⟨.CL_CAUSE, 0x300004, 0x1000, 8, 2, 0, .ro⟩,
   ⟨.CL_JOBS, 0x300008, 0x1000, 8, 31, 0, .ro⟩,
   ⟨.CL_REISSUED, 0x30000C, 0x1000, 8, 31, 0, .ro⟩,
   ⟨.CL_BUSY_TICKS, 0x300010, 0x1000, 8, 63, 0, .ro⟩,
   ⟨.CL_RESIDUE_ERRS, 0x300018, 0x1000, 8, 31, 0, .ro⟩,
   ⟨.CL_CE_COUNT, 0x30001C, 0x1000, 8, 31, 0, .ro⟩]

def regRows7 : List Row :=
  [⟨.CL_TRACK_JOBS, 0x300020, 0x1000, 8, 31, 0, .ro⟩,
   ⟨.AR_IN_SERVICE, 0x380000, 0x1000, 2, 0, 0, .ro⟩,
   ⟨.AR_BUSY, 0x380000, 0x1000, 2, 1, 1, .ro⟩,
   ⟨.AR_FAULTED, 0x380000, 0x1000, 2, 2, 2, .ro⟩,
   ⟨.AR_SELFTEST, 0x380000, 0x1000, 2, 3, 3, .ro⟩,
   ⟨.AR_MODE, 0x380000, 0x1000, 2, 5, 4, .ro⟩,
   ⟨.AR_CAUSE, 0x380004, 0x1000, 2, 2, 0, .ro⟩,
   ⟨.AR_JOBS, 0x380008, 0x1000, 2, 31, 0, .ro⟩,
   ⟨.AR_REISSUED, 0x38000C, 0x1000, 2, 31, 0, .ro⟩,
   ⟨.AR_BUSY_TICKS, 0x380010, 0x1000, 2, 63, 0, .ro⟩,
   ⟨.AR_RESIDUE_ERRS, 0x380018, 0x1000, 2, 31, 0, .ro⟩,
   ⟨.AR_CE_COUNT, 0x38001C, 0x1000, 2, 31, 0, .ro⟩,
   ⟨.FFT_IN_SERVICE, 0x390000, 0, 1, 0, 0, .ro⟩,
   ⟨.FFT_BUSY, 0x390000, 0, 1, 1, 1, .ro⟩,
   ⟨.FFT_FAULTED, 0x390000, 0, 1, 2, 2, .ro⟩,
   ⟨.FFT_SELFTEST, 0x390000, 0, 1, 3, 3, .ro⟩,
   ⟨.FFT_FALLBACK, 0x390000, 0, 1, 4, 4, .ro⟩,
   ⟨.FFT_CAUSE, 0x390004, 0, 1, 2, 0, .ro⟩,
   ⟨.FFT_JOBS, 0x390008, 0, 1, 31, 0, .ro⟩,
   ⟨.FFT_REISSUED, 0x39000C, 0, 1, 31, 0, .ro⟩,
   ⟨.FFT_BUSY_TICKS, 0x390010, 0, 1, 63, 0, .ro⟩,
   ⟨.FFT_RESIDUE_ERRS, 0x390018, 0, 1, 31, 0, .ro⟩,
   ⟨.FFT_CE_COUNT, 0x39001C, 0, 1, 31, 0, .ro⟩,
   ⟨.CTX_STATE, 0x400000, 0x400, 128, 2, 0, .ro⟩,
   ⟨.CTX_CODEC, 0x400000, 0x400, 128, 5, 4, .ro⟩,
   ⟨.CTX_PRIORITY, 0x400000, 0x400, 128, 11, 8, .ro⟩,
   ⟨.CTX_CLASS, 0x400000, 0x400, 128, 12, 12, .ro⟩,
   ⟨.CTX_TAINTED, 0x400000, 0x400, 128, 13, 13, .ro⟩,
   ⟨.CTX_DECODING, 0x400000, 0x400, 128, 15, 15, .ro⟩,
   ⟨.CTX_ENGINE, 0x400000, 0x400, 128, 18, 16, .ro⟩,
   ⟨.CTX_OWNER, 0x400000, 0x400, 128, 31, 22, .ro⟩,
   ⟨.CTX_MAX_WIDTH, 0x400004, 0x400, 128, 15, 0, .ro⟩,
   ⟨.CTX_MAX_HEIGHT, 0x400004, 0x400, 128, 31, 16, .ro⟩,
   ⟨.CTX_FPS_X100, 0x400008, 0x400, 128, 15, 0, .ro⟩,
   ⟨.CTX_AU_MAX_KIB, 0x40000C, 0x400, 128, 13, 0, .ro⟩,
   ⟨.CTX_AU_DEPTH, 0x40000C, 0x400, 128, 21, 16, .ro⟩,
   ⟨.CTX_AU_HELD, 0x40000C, 0x400, 128, 29, 24, .ro⟩,
   ⟨.CTX_WIDTH, 0x400010, 0x400, 128, 15, 0, .ro⟩,
   ⟨.CTX_HEIGHT, 0x400010, 0x400, 128, 31, 16, .ro⟩,
   ⟨.CTX_PROFILE, 0x400014, 0x400, 128, 7, 0, .ro⟩,
   ⟨.CTX_LEVEL, 0x400014, 0x400, 128, 15, 8, .ro⟩,
   ⟨.CTX_CHROMA, 0x400014, 0x400, 128, 17, 16, .ro⟩,
   ⟨.CTX_BIT_DEPTH, 0x400014, 0x400, 128, 21, 18, .ro⟩,
   ⟨.CTX_OUT_WIDTH, 0x400018, 0x400, 128, 15, 0, .ro⟩,
   ⟨.CTX_OUT_HEIGHT, 0x400018, 0x400, 128, 31, 16, .ro⟩,
   ⟨.CTX_FB_COUNT, 0x40001C, 0x400, 128, 4, 0, .ro⟩]

def regRows8 : List Row :=
  [⟨.CTX_FB_FREE, 0x40001C, 0x400, 128, 12, 8, .ro⟩,
   ⟨.CTX_FB_KIB, 0x40001C, 0x400, 128, 31, 16, .ro⟩,
   ⟨.CTX_LAST_FSEQ, 0x400020, 0x400, 128, 31, 0, .ro⟩,
   ⟨.CTX_DEC_FSEQ, 0x400024, 0x400, 128, 31, 0, .ro⟩,
   ⟨.CTX_FRAMES_DECODED, 0x400028, 0x400, 128, 31, 0, .ro⟩,
   ⟨.CTX_FRAMES_CONCEALED, 0x40002C, 0x400, 128, 31, 0, .ro⟩,
   ⟨.CTX_FRAMES_DROPPED, 0x400030, 0x400, 128, 31, 0, .ro⟩,
   ⟨.CTX_ERR_COUNT, 0x400034, 0x400, 128, 31, 0, .ro⟩,
   ⟨.CTX_LAST_ERROR, 0x400038, 0x400, 128, 15, 0, .ro⟩,
   ⟨.CTX_F_VALID, 0x40003C, 0x400, 128, 0, 0, .ro⟩,
   ⟨.CTX_LAST_ERROR_TICK, 0x400040, 0x400, 128, 63, 0, .ro⟩,
   ⟨.CTX_HDR_CHANGES, 0x400048, 0x400, 128, 31, 0, .ro⟩,
   ⟨.PP_MODE, 0x400100, 0x400, 128, 0, 0, .ro⟩,
   ⟨.PP_DEPTH_M1, 0x400100, 0x400, 128, 7, 4, .ro⟩,
   ⟨.PP_LOW_WATER, 0x400100, 0x400, 128, 11, 8, .ro⟩,
   ⟨.PP_ALARM_IRQ, 0x400100, 0x400, 128, 12, 12, .ro⟩,
   ⟨.PP_LAYOUT, 0x400100, 0x400, 128, 16, 16, .ro⟩,
   ⟨.PP_CHANNELS3, 0x400100, 0x400, 128, 17, 17, .ro⟩,
   ⟨.PP_NCROP, 0x400100, 0x400, 128, 26, 24, .ro⟩,
   ⟨.PP_BOUND, 0x400100, 0x400, 128, 31, 31, .ro⟩,
   ⟨.PP_USED, 0x400104, 0x400, 128, 4, 0, .ro⟩,
   ⟨.PP_FREE, 0x400104, 0x400, 128, 12, 8, .ro⟩,
   ⟨.PP_ALARM, 0x400104, 0x400, 128, 16, 16, .ro⟩,
   ⟨.PP_BUILDING, 0x400104, 0x400, 128, 17, 17, .ro⟩,
   ⟨.PP_GEOMETRY, 0x400104, 0x400, 128, 18, 18, .ro⟩,
   ⟨.PP_HOLDING, 0x400104, 0x400, 128, 19, 19, .ro⟩,
   ⟨.PP_BUILD_FSEQ, 0x400108, 0x400, 128, 31, 0, .ro⟩,
   ⟨.PP_BATCH_KIB, 0x40010C, 0x400, 128, 31, 0, .ro⟩,
   ⟨.PP_FRAMES, 0x400110, 0x400, 128, 31, 0, .ro⟩,
   ⟨.PP_SKIPPED, 0x400114, 0x400, 128, 31, 0, .ro⟩,
   ⟨.PP_ABANDONED, 0x400118, 0x400, 128, 31, 0, .ro⟩,
   ⟨.PP_ALARMS, 0x40011C, 0x400, 128, 31, 0, .ro⟩,
   ⟨.PP_FAULTS, 0x400120, 0x400, 128, 31, 0, .ro⟩,
   ⟨.PP_LAST_DROP_FSEQ, 0x400124, 0x400, 128, 31, 0, .ro⟩,
   ⟨.PP_X0P0, 0x400140, 0x400, 128, 15, 0, .ro⟩,
   ⟨.PP_Y0P0, 0x400140, 0x400, 128, 31, 16, .ro⟩,
   ⟨.PP_WP0, 0x400144, 0x400, 128, 15, 0, .ro⟩,
   ⟨.PP_HP0, 0x400144, 0x400, 128, 31, 16, .ro⟩,
   ⟨.PP_X0P1, 0x400148, 0x400, 128, 15, 0, .ro⟩,
   ⟨.PP_Y0P1, 0x400148, 0x400, 128, 31, 16, .ro⟩,
   ⟨.PP_WP1, 0x40014C, 0x400, 128, 15, 0, .ro⟩,
   ⟨.PP_HP1, 0x40014C, 0x400, 128, 31, 16, .ro⟩,
   ⟨.PP_X0P2, 0x400150, 0x400, 128, 15, 0, .ro⟩,
   ⟨.PP_Y0P2, 0x400150, 0x400, 128, 31, 16, .ro⟩,
   ⟨.PP_WP2, 0x400154, 0x400, 128, 15, 0, .ro⟩,
   ⟨.PP_HP2, 0x400154, 0x400, 128, 31, 16, .ro⟩]

def regRows9 : List Row :=
  [⟨.PP_X0P3, 0x400158, 0x400, 128, 15, 0, .ro⟩,
   ⟨.PP_Y0P3, 0x400158, 0x400, 128, 31, 16, .ro⟩,
   ⟨.PP_WP3, 0x40015C, 0x400, 128, 15, 0, .ro⟩,
   ⟨.PP_HP3, 0x40015C, 0x400, 128, 31, 16, .ro⟩,
   ⟨.CL_CMD_BASE, 0x800000, 0x100, 1024, 63, 0, .rw⟩,
   ⟨.CL_CMD_LOG2, 0x800008, 0x100, 1024, 4, 0, .rw⟩,
   ⟨.CL_CPL_BASE, 0x800010, 0x100, 1024, 63, 0, .rw⟩,
   ⟨.CL_CPL_LOG2, 0x800018, 0x100, 1024, 4, 0, .rw⟩,
   ⟨.CL_ENABLE, 0x80001C, 0x100, 1024, 0, 0, .rw⟩,
   ⟨.CL_IRQ_EN, 0x80001C, 0x100, 1024, 1, 1, .rw⟩,
   ⟨.CL_FENCE_EN, 0x80001C, 0x100, 1024, 2, 2, .rw⟩,
   ⟨.CL_WB_EN, 0x80001C, 0x100, 1024, 3, 3, .rw⟩,
   ⟨.CL_CMD_HEAD, 0x800020, 0x100, 1024, 31, 0, .ro⟩,
   ⟨.CL_CMD_TAIL, 0x800024, 0x100, 1024, 31, 0, .ro⟩,
   ⟨.CL_CPL_HEAD, 0x800028, 0x100, 1024, 31, 0, .ro⟩,
   ⟨.CL_CPL_TAIL, 0x80002C, 0x100, 1024, 31, 0, .ro⟩,
   ⟨.CL_CPL_RESERVED, 0x800030, 0x100, 1024, 31, 0, .ro⟩,
   ⟨.CL_INFLIGHT, 0x800034, 0x100, 1024, 6, 0, .ro⟩,
   ⟨.CL_HALTED, 0x800038, 0x100, 1024, 0, 0, .ro⟩,
   ⟨.CL_FETCH_STOPPED, 0x800038, 0x100, 1024, 1, 1, .ro⟩,
   ⟨.CL_FLUSHING, 0x800038, 0x100, 1024, 2, 2, .ro⟩,
   ⟨.CL_FLUSH_PENDING, 0x800038, 0x100, 1024, 3, 3, .ro⟩,
   ⟨.CL_WAIT_DOORBELL, 0x800038, 0x100, 1024, 4, 4, .ro⟩,
   ⟨.CL_WAIT_SLOT, 0x800038, 0x100, 1024, 5, 5, .ro⟩,
   ⟨.CL_RESETTING, 0x800038, 0x100, 1024, 6, 6, .ro⟩,
   ⟨.CL_WB_ADDR, 0x800040, 0x100, 1024, 63, 2, .rw⟩,
   ⟨.CL_CPL_FENCE, 0x800048, 0x100, 1024, 16, 0, .rw⟩,
   ⟨.CL_CPL_FENCE_VALID, 0x800048, 0x100, 1024, 31, 31, .ro⟩,
   ⟨.CL_DB_REJECTS, 0x80004C, 0x100, 1024, 31, 0, .rc⟩,
   ⟨.CL_FLUSH_WORDS, 0x800050, 0x100, 1024, 20, 0, .ro⟩,
   ⟨.CL_MAX_INFLIGHT, 0x800054, 0x100, 1024, 6, 0, .rw⟩,
   ⟨.CL_FLUSH, 0x800058, 0x100, 1024, 31, 0, .wo⟩,
   ⟨.CL_FETCHED, 0x80005C, 0x100, 1024, 31, 0, .ro⟩,
   ⟨.META_BASE, 0x800080, 0x100, 1024, 63, 0, .ro⟩,
   ⟨.META_LOG2, 0x800088, 0x100, 1024, 4, 0, .ro⟩,
   ⟨.META_IRQ_EN, 0x80008C, 0x100, 1024, 0, 0, .ro⟩,
   ⟨.META_FENCE_EN, 0x80008C, 0x100, 1024, 1, 1, .ro⟩,
   ⟨.META_POLICY, 0x80008C, 0x100, 1024, 2, 2, .ro⟩,
   ⟨.META_DROPPING, 0x80008C, 0x100, 1024, 3, 3, .ro⟩,
   ⟨.META_HEAD, 0x800090, 0x100, 1024, 31, 0, .ro⟩,
   ⟨.META_TAIL, 0x800094, 0x100, 1024, 31, 0, .rw⟩,
   ⟨.META_DROPS, 0x800098, 0x100, 1024, 31, 0, .rc⟩,
   ⟨.META_OVERRUNS, 0x80009C, 0x100, 1024, 31, 0, .rc⟩,
   ⟨.META_FENCE, 0x8000A0, 0x100, 1024, 16, 0, .ro⟩]

/-- The whole map. -/
def regRows : List Row :=
  regRows0 ++ regRows1 ++ regRows2 ++ regRows3 ++ regRows4 ++ regRows5 ++ regRows6 ++ regRows7 ++ regRows8 ++ regRows9

/-- The instance and the first bit of row `r` that the 32-bit word at `off` shows: the instance number, and whether the
word is the low (0) or the high (1) half. -/
def Row.hit (r : Row) (off : Nat) : Option (Nat × Nat) :=
  if off < r.base then none
  else
    let i := if r.stride = 0 then 0 else (off - r.base) / r.stride
    let rem := off - r.base - i * r.stride
    if i < r.count then
      if rem = 0 then some (i, 0) else if rem = 4 ∧ 31 < r.hi then some (i, 1) else none
    else none

/-- The rows that the word at `off` shows, with instance and half. -/
def rowsAt (off : Nat) : List (Row × Nat × Nat) :=
  regRows.filterMap fun r => (r.hit off).map fun h => (r, h)

/-- The part of a field value `v` that half `h` of its register shows, in place in the word. -/
def Row.show (r : Row) (h v : Nat) : Nat := if h = 0 then (v * 2 ^ r.lo) % 2 ^ 32 else (v * 2 ^ r.lo) / 2 ^ 32 % 2 ^ 32

/-- The value a field takes when word `w` is written to half `h` and the other half stays (R9). -/
def Row.merge (r : Row) (h w v : Nat) : Nat :=
  if h = 0 then
    if 31 < r.hi then (v * 2 ^ r.lo / 2 ^ 32 * 2 ^ 32 + w) / 2 ^ r.lo
    else Num.slice w r.hi r.lo
  else ((w % 2 ^ (r.hi - 31)) * 2 ^ 32 + v * 2 ^ r.lo % 2 ^ 32) / 2 ^ r.lo

end Sys2Proof.Machine
end

