-- ==== Sys2Proof/Machine/Formats.lean ====
section
/-! DEFINITION. Sys2Proof/Machine/Formats.lean: byte layouts the rules give to what State keeps as records: the CRC-32, the frames of
the Wren link (R351, R352), the marks, selector records and log records of the SPI NOR (R457, R458, R469), and the keys of R432. -/

namespace Sys2Proof.Machine

open Sys2Proof.Num (u8 u16 u32 leBytes)

/-! ## CRC-32 (IEEE 802.3) -/

def crcBit (c : Nat) : Nat := if c % 2 == 1 then (c / 2) ^^^ 0xEDB88320 else c / 2

def crcByte (c : Nat) (b : Byte) : Nat := (List.range 8).foldl (fun c _ => crcBit c) (c ^^^ b.toNat)

def crc32 (b : Bytes) : Nat := b.foldl crcByte 0xFFFFFFFF ^^^ 0xFFFFFFFF

/-! ## Wren frames (R351, R352) -/

/-- CLASS of a TYPE: 1 MIRROR, 2 EPOCH, 0 CTRL. -/
def frameClass (type : Nat) : Nat := if type == 0x10 then 1 else if type == 0x11 then 2 else 0

/-- Bytes 0 to 15. -/
def frameHeader (enc : Bool) (type seq ctx len : Nat) : Bytes :=
  leBytes 1 type ++ leBytes 1 (frameClass type + (if enc then 4 else 0)) ++ leBytes 2 len ++ leBytes 8 seq ++ leBytes 4 ctx

/-- A frame on the wire: `body` as sent, with the GCM tag where it is enciphered and the CRC-32 of header and body otherwise. -/
def frameBytes (enc : Bool) (type seq ctx : Nat) (body gcmTag : Bytes) : Bytes :=
  let h := frameHeader enc type seq ctx body.length
  h ++ body ++ (if enc then gcmTag else leBytes 4 (crc32 (h ++ body)) ++ zeros 12)

/-- The LEN a TYPE allows: 16 for every CTRL type, 16 to 256 in multiples of 16 for MIRROR and EPOCH. -/
def frameLenOk (type len : Nat) : Bool :=
  if frameClass type == 0 then len == 16 else decide (16 ≤ len) && decide (len ≤ 256) && len % 16 == 0

def frameTypeOk (type : Nat) : Bool := (decide (1 ≤ type) && decide (type ≤ 8)) || type == 0x10 || type == 0x11

/-- A received frame passes the checks of R352 on its fields, and its CRC where it is not enciphered. -/
def frameOk (b : Bytes) : Bool :=
  let type := u8 b 0
  let len := u16 b 2
  frameTypeOk type && frameLenOk type len && decide (u8 b 1 < 8) && u8 b 1 % 4 == frameClass type && b.length == 32 + len &&
  (frameClass type != 0 || u32 b 12 == 0) &&
  ((u8 b 1).testBit 2 || b.drop (16 + len) == leBytes 4 (crc32 (b.take (16 + len))) ++ zeros 12)

/-- The lane of 8-byte block `n` of a frame: alternating from lane 0 at x2, the lane in use at x1 (R351). -/
def blockLane (width lane n : Nat) : Nat := if width == 2 then n % 2 else lane

/-! ## SPI NOR (R457, R458, R469) -/

/-- The mark area's first 16 bytes: BEGUN, COMPLETE, VERIFIED, REVERTED, erased words where unset. -/
def NorSlot.marks (x : NorSlot) : Bytes :=
  let w (set : Bool) (v : Nat) : Bytes := leBytes 4 (if set then v else 0xFFFFFFFF)
  leBytes 4 (x.begun.getD 0xFFFFFFFF) ++ w x.complete 0x5A5A0002 ++ w x.verified 0x5A5A0003 ++ w x.reverted 0x5A5A0004

/-- The slot states of R457: 0 EMPTY, 1 INCOMPLETE, 2 COMPLETE, 3 VERIFIED. -/
def NorSlot.status (x : NorSlot) : Nat :=
  if x.begun.isNone then 0 else if x.verified && x.complete then 3 else if x.complete then 2 else 1

/-- Bytes 0 to 123 of a selector record, and the whole of it with its CRC and ATTEMPTS (R458). -/
def SelRec.body (r : SelRec) : Bytes :=
  leBytes 4 0x09605E1C ++ leBytes 4 r.seq ++ leBytes 1 r.slot ++ leBytes 1 r.prev ++ leBytes 1 r.state ++ leBytes 1 r.flags ++
  leBytes 4 r.fw ++ leBytes 1 r.sec ++ zeros 7 ++ (r.hash ++ zeros 48).take 48 ++ zeros 52

def SelRec.bytes (r : SelRec) : Bytes := r.body ++ leBytes 4 (crc32 r.body) ++ leBytes 1 r.attempts

/-- A stored record counts where MAGIC and CRC hold (R459). -/
def recordValid (b : Bytes) : Bool := u32 b 0 == 0x09605E1C && u32 b 124 == crc32 (b.take 124)

/-- The payload of a log record: its fields as 32-bit words, SEC_DBG_EXPIRY as two (DESIGN CHOICE, assumption 106). -/
def LogRec.fields (r : LogRec) : Bytes :=
  match r.type, r.payload with
  | 2, [id, scope, life, expiry] => leBytes 4 id ++ leBytes 4 scope ++ leBytes 4 life ++ leBytes 8 expiry
  | _, p => p.flatMap (leBytes 4)

/-- Bytes 0 to 59 of a log record, and the whole of it with its CRC (R469). -/
def LogRec.body (r : LogRec) : Bytes :=
  leBytes 1 r.type ++ zeros 3 ++ leBytes 4 r.lseq ++ leBytes 8 r.tick ++
  (r.fields ++ zeros 32).take 32 ++ zeros 12

def LogRec.bytes (r : LogRec) : Bytes := r.body ++ leBytes 4 (crc32 r.body)

/-! ## Keys (R432) -/

/-- A key derived from the root secret with its label and context: 1 the identity key, 2 the region sealing key, 3 the pairing record
key, whose context is the PAIR_EPOCH count. The function is uninterpreted. -/
def State.derived (s : State) (label context : Nat) : Option Nat := s.rootSecret.map fun k => Config.deriveKey k label context

def State.identityKey (s : State) : Option Nat := s.derived 1 0
def State.sealingKey (s : State) : Option Nat := s.derived 2 0
def State.pairingKey (s : State) : Option Nat := if s.fuses.pairEpoch < 32 then s.derived 3 s.fuses.pairEpoch else none

end Sys2Proof.Machine
end

