-- ==== Sys2Proof/Machine/Security.lean ====
section
/-! DEFINITION. Sys2Proof/Machine/Security.lean: the debug token and session (R440 to R444), tamper (R449, R450), the TRNG
(R435) and ATTEST (R437). -/

namespace Sys2Proof.Machine

open Sys2Proof.Num (u8 u16 u32 u64 b2n slice zeroBytes leBytes)

/-! ## DEBUG_TOKEN (R208, R440 to R442) -/

/-- The checks before the device reads the token: LAB first (R441 step 1), then the words (R184, R208), then the TRNG. -/
def State.tokenChecks (s : State) (p : Pkt) : List (Bool × Reply) :=
  [(!s.fuses.lab, Reply.notPermitted 5), p.hostBuf 2 (p.w 4) 64,
   word 4 (decide (64 ≤ p.w 4) && decide (p.w 4 ≤ 1024) && p.w 4 % 64 == 0),
   (s.get .KEY_TRNG_FAIL == 0, Reply.deviceFault 0x0303)]

/-- The challenge as 32 bytes. -/
def State.challenge (s : State) : Bytes := (List.range 8).flatMap fun i => leBytes 4 (s.get .SEC_DBG_CHALLENGE i)

/-- The first step of R441 from 2 on that a token fails, with its reply. -/
def State.tokenStep (s : State) (p : Pkt) (b : Bytes) (sigOk : Bool) : Option (Nat × Reply) :=
  if u32 b 0 != 0x0960DB01 || u16 b 4 != 1 then some (2, Reply.badStruct 2)
  else if p.w 4 != 192 then some (3, Reply.badStruct 3)
  else if slice (u8 b 6) 7 3 != 0 || u8 b 7 != 0 || !zeroBytes b 56 96 then some (4, Reply.badStruct 4)
  else if u8 b 6 == 0 || u32 b 48 < 60 || 86400 < u32 b 48 then some (5, Reply.badStruct 5)
  else if u64 b 8 != s.get .GCTL_SERIAL || (b.drop 16).take 32 != s.challenge || !sigOk || s.get .KEY_DEBUG_OK == 0 then
    some (6, Reply.notPermitted 6)
  else none

/-- A refusal is counted and logged. -/
def State.tokenRefused (s : State) (step id : Nat) : State := (s.inc .SEC_DBG_REFUSALS).log 0x03 [step, id]

/-- An accepted token starts the session, or opens the port of the one that exists (R442). -/
def State.tokenAccepted (s : State) (b : Bytes) : State :=
  let scope := u8 b 6
  let s := if s.get .DBG_SESSION == 1 then s
           else (s.set .DBG_SESSION 0 1).set .SEC_DBG_EXPIRY 0 (s.now + u32 b 48 * 1000000)
  let s := ((s.set .DBG_STATE 0 1).set .DBG_PORT_OPEN 0 1).set .DBG_SUSPENDED 0 0
  let s := (s.set .DBG_SCOPE 0 scope).inc .SEC_DBG_ACCEPTS
  s.log 0x02 [u32 b 52, scope, u32 b 48, s.get .SEC_DBG_EXPIRY]

def State.debugToken (token : Bytes) (sigOk : Bool) (s : State) (p : Pkt) : State :=
  let b := token.take (p.w 4)
  match firstBad (s.tokenChecks p) with
  | some r => (if s.fuses.lab then s.tokenRefused 1 0 else s).complete p.id r
  | none =>
    match s.tokenStep p b sigOk with
    | some (n, r) => (s.tokenRefused n (if n == 6 then u32 b 52 else 0)).complete p.id r
    | none =>
      let s := s.tokenAccepted b
      s.complete p.id (Reply.ok ((s.get .SEC_DBG_EXPIRY - s.now) / 1000000))

/-- DEBUG_TOKEN: `token` is what the device reads at TOKEN_ADDR, `sigOk` the verdict on its signature. -/
def execDebugToken (token : Bytes) (sigOk : Bool) (s : State) : Result :=
  startRead 0x70 State.tokenChecks (fun _ => none) (fun p => some (p.w64 2, p.w 4)) (State.debugToken token sigOk) s

/-- DEBUG_SESSION_EXPIRE (R443). -/
def execDebugSessionExpire (s : State) : Result :=
  doneIf s (s.get .DBG_SESSION == 1 && decide (s.get .SEC_DBG_EXPIRY ≤ s.now)) (s.endSession 1)

/-- A write to SEC_DBG_CTRL (R443). -/
def State.debugEnd (s : State) (v : Nat) : State := if v / 65536 % 65536 == 0xC105 && v.testBit 0 then s.endSession 2 else s

/-! ## LAB entry (R444) -/

/-- The steps of LAB entry. -/
def State.labEntry (s : State) : State :=
  let s := s.hostClear.zeroSoot
  let s := ((s.linkOff (s.get .WRN_REASON)).burnPairEpoch).endSession 6
  let s := { s.setPartner none with fuses.lab := true }.appendBreaches
  s.warmReset 16

/-- A write to SEC_LAB_ARM: the two values in order within 1,000,000 ticks, in a session with SCOPE [2]. -/
def State.labArmWrite (s : State) (v : Nat) : State :=
  let ok := s.get .DBG_SESSION == 1 && s.get .DBG_PORT_OPEN == 1 && (s.get .DBG_SCOPE).testBit 2
  if !ok then { s with labArm := none }
  else
    match s.labArm with
    | none => { s with labArm := if v == 0x00001AB0 then some s.now else none }
    | some t => if v == 0xC0DE1AB0 && decide (s.now ≤ t + 1000000) then s.labEntry else { s with labArm := none }

/-! ## Tamper (R449, R450) -/

/-- A source asserts: it is latched, counted and captured, and the response runs as far as the unit's state lets it; it waits for the
core restart of a WDG_FW expiry of its tick (R112). -/
def State.tamper (s : State) (src : Nat) : State :=
  let s := s.inRank 3 src
  let t := s.treatment 3
  let n := min (s.tamperN + 1) 255
  let s := { s with tamperN := n }.set .TAMPER_LATCHED 0 (s.get .TAMPER_LATCHED ||| 2 ^ src)
  let s := if src < 2 then s.set .TAMPER_LEVEL 0 (s.get .TAMPER_LEVEL ||| 2 ^ src) else s
  let s := (s.sat 32 .SEC_TAMPER_COUNT).capture 3 src n 0 0
  let s := if s.boot == .done then s.log 0x08 [src, n] else s
  match t with
  | .defer => { s with tamperWait := s.tamperWait ++ [src] }
  | .apply => s.tamperKeys.tamperEnd
  | _ => s.tamperKeys

/-- TAMPER: sources 0 and 1 count while enabled. -/
def execTamper (src : Nat) (s : State) : Result :=
  if 4 ≤ src then .fault .noSuchInstance
  else doneIf s (s.aonValid && (decide (2 ≤ src) || (s.get .SEC_TAMPER_EN).testBit src)) (s.tamper src)

/-- TRNG_HEALTH_FAIL (R435). -/
def execTrngHealthFail (s : State) : Result := doneIf s (s.boot != .inReset) (s.set .KEY_TRNG_FAIL 0 1)

/-! ## ATTEST (R208, R437) -/

def State.attestChecks (s : State) (p : Pkt) : List (Bool × Reply) :=
  [p.hostBuf 2 48 64, p.hostBuf 4 (p.w 6) 64, word 6 (p.w 6 % 64 == 0), word 7 (p.w 7 == 0),
   (s.get .KEY_TRNG_FAIL == 0, Reply.deviceFault 0x0303), (s.get .KEY_IDENTITY_OK == 1, Reply.deviceFault 0x0304)]

/-- A result block the device writes to host memory, in writes no longer than Max_Payload_Size (R146); discarded and counted once
while no request is issued (R147). -/
def State.hostWrite (s : State) (addr : Nat) (b : Bytes) : State :=
  if s.linkClosed then s.discard
  else (pieces s.writeMax (b.length / s.writeMax + 2) addr b.length).foldl (fun s x =>
    s.post (.block x.1 ((b.drop (x.1 - addr)).take x.2))) s

/-- CERT_STATE and DEVICE_STATE as words. -/
def State.certWord (s : State) : Nat := s.get .CERT_CERTIFIED + 2 * s.get .CERT_LIFETIME_OUT + 256 * s.get .CERT_REASON
def State.devWord (s : State) : Nat :=
  s.dev + 256 * s.get .DS_FAULT_CODE + 65536 * s.get .DS_CHANNEL + 2 ^ 20 * s.get .DS_SLOT + 2 ^ 21 * s.get .DS_TRIAL +
  2 ^ 22 * s.get .DS_DB_LATCHED + 2 ^ 23 * s.get .DS_WARM

/-- The image of a loaded object, and OBJECTS_HASH over the occupied slots in ascending order. -/
def State.objImage (s : State) (o : Obj) : Bytes := (List.range o.bytes).map fun i => memByte s.dram (o.base + i)

def State.objectsHash (s : State) : Bytes :=
  sha384 (s.objects.flatMap fun o => leBytes 4 o.2.handle ++ sha384 (s.objImage o.2))

/-- Bytes 0 to 287 of the measurement. -/
def State.measurement (s : State) (nonce : Bytes) : Bytes :=
  let x := s.slotOf s.fw.slot
  leBytes 4 0x0960A771 ++ leBytes 2 1 ++ leBytes 1 (s.get .DBG_STATE) ++ leBytes 1 s.role ++ leBytes 8 (s.get .GCTL_SERIAL) ++
  leBytes 8 s.now ++ leBytes 4 s.certWord ++ leBytes 4 x.fwVersion ++ leBytes 1 s.fuses.rollback ++
  leBytes 1 (min s.fuses.pairEpoch 32) ++ zeros 6 ++ leBytes 8 s.storedGen ++ leBytes 8 ((s.partner.map Prod.fst).getD 0) ++
  (nonce ++ zeros 48).take 48 ++ sha384 x.image ++ (s.fuses.modelHash ++ zeros 48).take 48 ++ s.objectsHash ++ zeros 40

def State.attest (nonce : Bytes) (s : State) (p : Pkt) : State :=
  let n := p.w 6
  s.checked p (s.attestChecks p) fun s =>
    if n < 384 then s.complete p.id { status := stPartial, detail := 6 }
    else
      let m := s.measurement nonce
      let k := s.draw (2 ^ 384)
      let b := m ++ (List.range 96).map (Config.signatureByte s.identityKey m k.1)
      let full := decide (1024 ≤ n)
      let b := if full then b ++ (s.nor.cert ++ zeros 640).take 640 else b
      (k.2.hostWrite (p.w64 4) b).complete p.id (Reply.ok (if full then 1024 else 384) (if full then s.nor.cert.length else 0))

/-- ATTEST: `nonce` is what the device reads at NONCE_ADDR. -/
def execAttest (nonce : Bytes) (s : State) : Result :=
  startRead 0x71 State.attestChecks (fun _ => some 2) (fun p => some (p.w64 2, 48)) (State.attest nonce) s

end Sys2Proof.Machine
end

