-- ==== Sys2Proof/Machine/Update.lean ====
section
/-! DEFINITION. Sys2Proof/Machine/Update.lean: the firmware update opcodes and the trial (R207, R461 to R466, R472). -/

namespace Sys2Proof.Machine

open Sys2Proof.Num (u8 u16 u32 b2n zeroBytes)

/-- The inactive slot (R461). -/
def State.inactive (s : State) : Nat := 1 - s.get .DS_SLOT

/-- A step taken from a state other than its own completes with UPDATE_STATE before its words are checked (R207, R533). -/
def State.inUpdate (s : State) (states : List Nat) : Bool × Reply :=
  (states.contains s.fw.upState, { status := stUpdateState, detail := s.fw.upState })

def State.upTo (s : State) (n : Nat) : State := { s with fw.upState := n }

def norFault : Reply := Reply.deviceFault 0x0302

/-- An UPDATE log record about slot `k` (R470). -/
def State.logStep (s : State) (event k : Nat) : State :=
  s.logUpdate event k (s.slotOf k).fwVersion (s.slotOf k).secVersion

/-! ## UPDATE_BEGIN and UPDATE_CHUNK -/

/-- The checks of UPDATE_BEGIN (R207, R461). -/
def State.beginChecks (s : State) (p : Pkt) : List (Bool × Reply) :=
  [s.inUpdate [0, 1, 2, 3], word 2 (decide (4096 ≤ p.w 2) && decide (p.w 2 ≤ 24 * 2 ^ 20) && p.w 2 % 4096 == 0),
   word 3 (p.w 3 == 0)]

/-- UPDATE_BEGIN (R461): the header sector is erased and BEGUN programmed; `norOk` is false where the NOR fails. -/
def State.updateBegin (norOk : Bool) (s : State) (p : Pkt) : State :=
  let n := p.w 2
  let k := s.inactive
  s.checked p (s.beginChecks p)
    fun s =>
      let s := s.modSlot k fun x => ⟨Tab.del 0 x.sectors, if norOk then some n else none, false, false, false⟩
      let s := { s with fw.upMap := [] }
      if norOk then ({ s with fw.upBytes := n }.upTo 1 |>.logStep 1 k).complete p.id (Reply.ok k)
      else (s.upTo 0).complete p.id norFault

def execUpdateBegin (norOk : Bool) (s : State) : Result := startPkt 0x60 (State.updateBegin norOk) s

def State.chunkChecks (s : State) (p : Pkt) : List (Bool × Reply) :=
  let o := p.w 2
  let n := p.w 3
  [s.inUpdate [1, 2], word 2 (o % 4096 == 0 && decide (o < s.fw.upBytes)),
   word 3 (decide (4096 ≤ n) && decide (n ≤ 2 ^ 20) && n % 4096 == 0 && decide (o + n ≤ s.fw.upBytes)), p.hostBuf 4 n 64]

/-- One sector of a chunk is erased and programmed; sector 0 loses its marks and gets BEGUN again (R462). -/
def NorSlot.writeSector (x : NorSlot) (n : Nat) (b : Bytes) (bytes : Nat) : NorSlot :=
  let x := { x with sectors := Tab.put n b x.sectors }
  if n == 0 then { x with begun := some bytes, complete := false, verified := false, reverted := false } else x

def State.writeChunk (s : State) (k first : Nat) (parts : List Bytes) : State :=
  ((List.range parts.length).zip parts).foldl (fun s e =>
    let n := first + e.1
    let s := s.modSlot k fun x => x.writeSector n e.2 s.fw.upBytes
    { s with fw.upMap := if s.fw.upMap.contains n then s.fw.upMap else n :: s.fw.upMap }) s

/-- The source granules of a program operation of `n` bytes from `a` are checked: sooted ones are refused, and the operation fails
(R46). -/
def State.norSource (s : State) (a n : Nat) : State :=
  match s.sootIn a (a + n) with
  | [] => s
  | r :: rs => s.breach 5 1 0x0B00 (ISet.size (r :: rs)) (64 * r.1) 0

/-- UPDATE_CHUNK (R462), whose bytes stand in Choararok's data while they are programmed (assumption 95); bytes 3072 to 4095 of sector 0 must be 0xFF (R456). -/
def State.updateChunk (data : Bytes) (norOk : Bool) (s : State) (p : Pkt) : State :=
  let first := p.w 2 / 4096
  let count := p.w 3 / 4096
  let k := s.inactive
  let parts := chunks 4096 count data
  let marksFree := decide (0 < first) || (List.range 1024).all fun i => u8 data (3072 + i) == 255
  s.checked p (s.chunkChecks p ++ [word 4 marksFree]) fun s =>
    let clean := (s.sootIn Config.chunkBuffer.val (Config.chunkBuffer.val + p.w 3)).isEmpty
    let s := s.norSource Config.chunkBuffer.val (p.w 3)
    if norOk && clean then
      let s := s.writeChunk k first parts
      let all := (List.range (s.fw.upBytes / 4096)).all fun n => s.fw.upMap.contains n
      if all then (((s.modSlot k fun x => { x with complete := true }).upTo 2).logStep 2 k).complete p.id (Reply.ok)
      else (s.upTo 1).complete p.id (Reply.ok)
    else
      let s := { s with fw.upMap := s.fw.upMap.filter fun n => decide (n < first) || decide (first + count ≤ n) }
      (s.upTo 1).complete p.id norFault

/-- `data` is what the device reads at HOST_ADDR. -/
def execUpdateChunk (data : Bytes) (norOk : Bool) (s : State) : Result :=
  startRead 0x61 State.chunkChecks (fun _ => some 3) (fun p => some (p.w64 4, p.w 3)) (State.updateChunk data norOk) s

/-! ## UPDATE_VERIFY and UPDATE_ACTIVATE -/

/-- Check 1 of R463 on the header; `rootOk` is the verdict on ROOT_PUBKEY. -/
def NorSlot.headerOk (x : NorSlot) (rootOk : Bool) : Bool :=
  let h := x.hdr
  u32 h 0 == 0x0960F1A5 && u16 h 4 == 1 && decide (u8 h 7 < 4) && zeroBytes h 113 128 && zeroBytes h 225 416 &&
  zeroBytes h 512 3072 && (x.provRecord || zeroBytes h 128 225) && x.begun == some x.imageBytes && rootOk

/-- UPDATE_VERIFY (R463). -/
def State.updateVerify (rootOk sigOk norOk : Bool) (s : State) (p : Pkt) : State :=
  let k := s.inactive
  let x := s.slotOf k
  s.checked p [s.inUpdate [2, 3]] fun s =>
    if !x.headerOk rootOk then (s.upTo 2).complete p.id { status := stUpdateSignature, detail := 1 }
    else if !sigOk then (s.upTo 2).complete p.id { status := stUpdateSignature, detail := 2 }
    else if x.secVersion < s.fuses.rollback then (s.upTo 2).complete p.id { status := stUpdateRollback }
    else if !norOk then s.complete p.id norFault
    else (((s.modSlot k fun x => { x with verified := true }).upTo 3).logStep 3 k).complete p.id (Reply.ok)

def execUpdateVerify (rootOk sigOk norOk : Bool) (s : State) : Result :=
  startPkt 0x62 (State.updateVerify rootOk sigOk norOk) s

/-- UPDATE_ACTIVATE (R464). -/
def State.updateActivate (norOk : Bool) (s : State) (p : Pkt) : State :=
  let k := s.inactive
  let x := s.slotOf k
  s.checked p [s.inUpdate [3], (norOk, norFault)] fun s =>
    let r := s.selFor k (s.get .DS_SLOT) 1 0
    let r := if x.provRecord && !s.fuses.provisioned then { r with flags := 1, hash := sha384 x.modelPubkey } else r
    (((s.writeSel r).upTo 4).logStep 4 k).complete p.id (Reply.ok)

def execUpdateActivate (norOk : Bool) (s : State) : Result := startPkt 0x63 (State.updateActivate norOk) s

/-! ## UPDATE_CONFIRM, and the end of a trial without it -/

/-- Step 3 of R466: with PROV the model-signing key enters the key region. -/
def State.storeModelKey (s : State) (r : SelRec) : State :=
  if r.prov then { s with nor.modelKey := (s.slotOf r.slot).modelPubkey, fuses.modelKey := true } else s

/-- UPDATE_CONFIRM (R466): `norOk` for the record; `copies` is how many fuse copies are programmed before one fails, none
where all are. -/
def State.updateConfirm (norOk : Bool) (copies : Option Nat) (s : State) (p : Pkt) : State :=
  s.checked p [s.inUpdate [5]] fun s =>
    -- the confirm has started: the timer of R465 no longer reverts
    let s := { s with fw.trialEnd := none }
    if !norOk then s.complete p.id norFault else
    match s.winner with
    | none => s.complete p.id norFault
    | some (_, r) =>
      let fresh := r.prov && !s.fuses.provisioned
      let s := (s.writeSel { r with state := 2 }).set .DS_TRIAL 0 0
      let s := { s with fw.trial := false, fw.trialEnd := none }.upTo 0
      match copies with
      | some n =>
        (({ s with fuses := s.fuses.program r n }.fuseSync).logStep 5 r.slot).complete p.id norFault
      | none =>
        let s := { s with fuses := s.fuses.complete r }
        let s := if fresh then s.storeModelKey r else s
        ((s.fuseSync).logStep 5 r.slot).complete p.id (Reply.ok)

def execUpdateConfirm (norOk : Bool) (copies : Option Nat) (s : State) : Result :=
  startPkt 0x64 (State.updateConfirm norOk copies) s

/-- The revert of a trial that nobody confirmed (R465), and its warm reset. -/
def State.trialOver (s : State) (r : SelRec) : State :=
  let s := (s.modSlot r.slot fun x => { x with reverted := true }).writeSel (s.selFor r.prev r.slot 2 4)
  (s.logStep 7 r.slot).warmReset 16

/-- TRIAL_CONFIRM_TIMEOUT (R465): acted on while the cores run, after the tick of the expiry, in which an UPDATE_CONFIRM still counts
(R474). -/
def execTrialConfirmTimeout (s : State) : Result :=
  match s.fw.trialEnd, s.winner with
  | some t, some (_, r) => doneIf s (s.coresRun && decide (t < s.now)) (s.trialOver r)
  | _, _ => .next s

end Sys2Proof.Machine
end

