-- ==== Sys2Proof/Machine/Health.lean ====
section
/-! DEFINITION. Sys2Proof/Machine/Health.lean: the watchdogs (R475 to R484), the voltage loop, the governor, supply warnings and
the equaliser (R486 to R492), ageing (R493, R494), and HEALTH_QUERY (R206, R495, R496). -/

namespace Sys2Proof.Machine

open Sys2Proof.Num (slice b2n cdiv clampInt toSigned ofSigned leBytes)

/-! ## Watchdog writes (R477 to R479) -/

/-- A slot belongs to the writer: slot 15 of WDG_SYS to the host, every other one to Choararok. -/
def slotOwned (w slot : Nat) (byHost : Bool) : Bool := byHost == (w == 0 && slot == 15)

def State.wdgIgnore (s : State) (w : Nat) : State := s.sat 16 .WDG_IGNORED_WRITES w

/-- A write to WDG_CHECKIN; once every enabled slot has checked in, the window opens. -/
def State.checkin (s : State) (w v : Nat) (byHost : Bool) : State :=
  let slot := v % 16
  if slice v 31 16 == 0 && slice v 15 8 == 0xA5 && slice v 7 4 == 0 && (s.get .WDG_ENABLE w).testBit slot &&
    slotOwned w slot byHost
  then
    let c := s.get .WDG_CHECKED w ||| 2 ^ slot
    let s := s.set .WDG_CHECKED w c
    if s.get .WDG_ENABLE w &&& c == s.get .WDG_ENABLE w && s.get .WDG_RUNNING w == 1 then s.set .WDG_OPEN w 1 else s
  else s.sat 16 .WDG_BAD_CHECKINS w

/-- The settings of the next period: (PERIOD, ENABLE). -/
def State.wdgNow (s : State) (w : Nat) : Nat × Nat :=
  Tab.getD (s.get .WDG_PERIOD w, s.get .WDG_ENABLE w) w s.wdg.next

/-- A write to WDG_PERIOD: the host owns that of WDG_SYS, Choararok that of WDG_FW; 0 is discarded. -/
def State.wdgPeriod (s : State) (w v : Nat) (byHost : Bool) : State :=
  let v := v % 65536
  if s.get .WDG_OPEN w == 0 || byHost != (w == 0) then s.wdgIgnore w
  else if v == 0 then s
  else { s with wdg.next := Tab.put w (v, (s.wdgNow w).2) s.wdg.next }

/-- A write to WDG_ENABLE: the host writes bit 15 of WDG_SYS, Choararok every other bit. -/
def State.wdgEnable (s : State) (w v : Nat) (byHost : Bool) : State :=
  if s.get .WDG_OPEN w == 0 || (byHost && w != 0) then s.wdgIgnore w
  else
    let n := s.wdgNow w
    let v := v % 65536
    let m := if w != 0 then v
             else if byHost then Num.setBit n.2 15 (v.testBit 15)
             else Num.setBit v 15 (n.2.testBit 15)
    { s with wdg.next := Tab.put w (n.1, m) s.wdg.next }

/-! ## Watchdog periods (R475, R480 to R484) -/

/-- The slots a period's end asks for: while the cores are halted only the host's (R439). -/
def State.wdgAsked (s : State) (w : Nat) : Nat :=
  if s.get .DBG_CORES_HALTED == 1 && w == 0 then s.get .WDG_ENABLE w &&& 2 ^ 15 else s.get .WDG_ENABLE w

/-- The control cores restart (R481). -/
def State.fwRestart (s : State) : State :=
  { s with wdg.restart := some s.now }.set .WDG_RESTARTING 1 1 |>.set .WDG_RUNNING 1 0

/-- The consequence of WDG_EXPIRE: WDG_SYS, or WDG_FW within 10,000,000 ticks of its last restart, resets the unit (R482). -/
def State.wdgExpired (s : State) (w : Nat) : State :=
  if w == 0 || s.wdg.restarted.any fun r => decide (s.now ≤ r + 10000000) then s.warmReset 32 else s.fwRestart

def State.wdgPeriodEnd (s : State) (w : Nat) : State :=
  let missing := Num.clearBits (s.wdgAsked w) (s.get .WDG_CHECKED w)
  if missing == 0 then s.wdgBegin w
  else
    let s := s.inRank 5 w
    let t := s.treatment 5
    let s := ((s.sat 32 .WDG_EXPIRIES w).set .WDG_MISSED w missing).capture 5 w missing 0 0
    if t == .apply then (s.wdgBegin w).wdgExpired w else s.wdgBegin w

/-- The start of a running period. -/
def State.wdgRuns (s : State) (w : Nat) : Option Nat :=
  if s.get .WDG_RUNNING w == 1 then Tab.find? w s.wdg.start else none

/-- WDG_FW counts CCLK cycles and stops with CCLK; WDG_SYS counts WDCLK cycles (R476). -/
def State.wdgCounts (s : State) (w : Nat) : Bool := !s.clockIsLost (if w == 0 then 22 else 19)

/-- WDG_PERIOD_END: a period of WDG_SYS lasts PERIOD_MS within 0.1 % (R476). -/
def execWdgPeriodEnd (w : Nat) (s : State) : Result :=
  if 2 ≤ w then .fault .noSuchInstance
  else
    match s.wdgRuns w with
    | none => .next s
    | some t =>
      -- WDG_SYS counts WDCLK, so a stopped tick does not hold it (R113, R475)
      doneIf s (s.wdgCounts w &&
          (decide (t + s.get .WDG_PERIOD w * (if w == 0 then 999 else 1000) ≤ s.now) || (w == 0 && s.get .EVU_TICK_STOPPED == 1)))
        (s.wdgPeriodEnd w)

/-- WDG_PREWARN (R480). -/
def execWdgPrewarn (w : Nat) (s : State) : Result :=
  if 2 ≤ w then .fault .noSuchInstance
  else
    match s.wdgRuns w with
    | none => .next s
    | some t =>
      let p := s.get .WDG_PREWARN w
      doneIf s (s.wdgCounts w && p != 0 && s.get .WDG_OPEN w == 0 && s.get .WDG_PREWARNED w == 0 &&
          decide (t + (s.get .WDG_PERIOD w - p) * (if w == 0 then 999 else 1000) ≤ s.now))
        ((s.set .WDG_PREWARNED w 1).irq .WDG_IRQ .WDG_IRQ_EN w 0 5)

/-- The restart is complete (R481): started packets complete, and a transfer of theirs ends as a failed one does (R149, R192); what was
deferred is applied. -/
def State.fwRestartDone (s : State) : State :=
  let s := { s with wdg.restart := none, wdg.restarted := some s.now }.set .WDG_RESTARTING 1 0
  let ids := (s.packets.filter Pkt.started).map Pkt.id
  let s := ids.foldl (fun s id => s.failRead id (Reply.deviceFault 0x0401)) s
  let s := if s.tamperWait.isEmpty then s else ({ s with tamperWait := [] } : State).tamperKeys.tamperEnd
  let s := if s.deferredPairDown.isSome then ({ s with deferredPairDown := none }.pairRoleDown).schSync else s
  let s := if s.get .DBG_CORES_HALTED == 0 && s.power == 0 then s.wdgBegin 1 else s
  (s.packets.map Pkt.client).eraseDups.foldl (fun s c => s.drain c) s

/-- FW_RESTART_DONE: 20 ms after it started. -/
def execFwRestartDone (s : State) : Result :=
  match s.wdg.restart with
  | none => .next s
  | some t => doneIf s (decide (t + 20000 ≤ s.now)) s.fwRestartDone

/-! ## Voltage and frequency (R486 to R489) -/

/-- VNOM at `f` MHz, and TARGET with the OFFSET in force. -/
def vnom (f : Nat) : Nat := 650 + cdiv ((f - 400) * 200) 850

def State.target (s : State) : Nat :=
  (clampInt ((vnom (s.get .HLT_ACLK_MHZ) : Int) + 5 * toSigned 8 (s.get .HLT_OFFSET)) 650 900).toNat

/-- The highest TARGET of the interval follows a change. -/
def State.targetSync (s : State) : State := { s with hlt.vMax := max s.hlt.vMax s.target }

/-- OFFSET moves by `d` steps of 5 mV. -/
def State.moveOffset (s : State) (d : Int) : State :=
  (s.set .HLT_OFFSET 0 (ofSigned 8 (toSigned 8 (s.get .HLT_OFFSET) + d))).targetSync

/-- The warning state of R490 holds. -/
def State.warned (s : State) : Bool := s.get .HLT_GOV_HELD == 1

/-- The die has its supplies and the AVSBus runs: from boot ROM step 1 on (R517, R528). -/
def State.avsOn (s : State) : Bool := s.boot != .inReset && s.boot != .sramZero

/-- AVS_OFFSET_RAISE (R486). -/
def execAvsOffsetRaise (margin : Nat) (s : State) : Result :=
  doneIf s (s.avsOn && !s.warned && decide (margin < 4) && decide (s.hlt.avsLast + 10 ≤ s.now) &&
      decide (toSigned 8 (s.get .HLT_OFFSET) < 10))
    { s.moveOffset 1 with hlt.avsLast := s.now }

/-- HLT_INTERVAL_END (R486, R492). -/
def State.intervalEnd (s : State) (margin : Nat) (die dram : Int) : State :=
  let s := (s.set .HLT_VCORE_MV 0 s.hlt.vMax).set .HLT_CPM_MARGIN 0 margin
  let s := (s.set .HLT_DIE_TEMP 0 (ofSigned 8 die)).set .HLT_DRAM_TEMP 0 (ofSigned 8 dram)
  let s := if decide (12 < margin) && !s.warned && decide (-10 < toSigned 8 (s.get .HLT_OFFSET)) then s.moveOffset (-1) else s
  { s with hlt.start := s.now, hlt.vMax := s.target }

def s8 (t : Int) : Bool := decide (-128 ≤ t) && decide (t ≤ 127)

def execHltIntervalEnd (margin : Nat) (dieTemp dramTemp : Int) (s : State) : Result :=
  doneIf s (s.boot == .done && decide (s.hlt.start + 1048576 ≤ s.now) && decide (margin < 256) && s8 dieTemp && s8 dramTemp)
    (s.intervalEnd margin dieTemp dramTemp)

/-- need_k of R488. -/
def need (admitted cap : Nat) : Nat := if cap == 0 then (if admitted == 0 then 0 else 1250) else cdiv (1250 * admitted) cap

/-- The governor's formula. -/
def State.govTarget (s : State) : Nat :=
  let t := s.sums
  let m := [need t.arr (s.budget 0x11), need t.fft (s.budget 0x19), need t.cl (s.budget 0x12), need t.tree (s.budget 0x15)].foldl max 0
  min 1250 (max 400 (25 * cdiv m 25))

/-- ACLK by the governor: 400 while a warning holds it, 1,250 when FIXED. -/
def State.govern (s : State) : State :=
  let f := s.govTarget
  let a := if s.warned then 400 else if s.get .HLT_GOV_MODE == 1 then 1250 else f
  ({ s with hlt.govLast := s.now }.set .HLT_GOV_TARGET 0 f).set .HLT_ACLK_MHZ 0 a |>.targetSync

/-- GOVERNOR_RECOMPUTE (R488). -/
def execGovernorRecompute (s : State) : Result := doneIf s s.enginesRun s.govern

/-! ## Supply warnings (R490) -/

/-- A reading outside 95 to 105 % of the rail's set point (R490, R516). -/
def State.outOfBand (s : State) (rail mv : Nat) : Bool :=
  let p := match rail with
    | 0 => s.target | 1 => 750 | 2 => 850 | 3 => 800 | _ => 1800
  decide (mv * 100 < 95 * p) || decide (105 * p < mv * 100)

/-- The warning state starts (R111, R489): ACLK 400, the governor held, the budgets at 400 MHz (R291). -/
def State.warn (s : State) : State :=
  let s := { s with hlt.warnSince := none }
  if s.warned then s
  else
    let s := ((s.set .HLT_GOV_HELD 0 1).set .HLT_ACLK_MHZ 0 400).set .SCH_ACLK_MHZ 0 400
    ((s.irq .HLT_IRQ .HLT_IRQ_EN 0 1 4).targetSync.recompute).schSync

def State.supplyWarn (s : State) (rail mv : Nat) (avs : Bool) : State :=
  let s := s.inRank 6 rail
  let t := s.treatment 6
  let s := if avs then s.set .HLT_AVS_FAULT 0 1 else s.set .HLT_WARN_RAILS 0 (s.get .HLT_WARN_RAILS ||| 2 ^ rail)
  let s := (s.sat 32 .HLT_SUPPLY_WARNS).capture 6 rail (if avs then 0 else mv) 0 0
  if t == .apply then s.warn else s

/-- SUPPLY_WARN: a rail, or the AVSBus, enters warning. -/
def execSupplyWarn (rail mv : Nat) (avs : Bool) (s : State) : Result :=
  if 5 ≤ rail then .fault .noSuchInstance
  else if s.wdgResetNow && !s.isReady then
    -- recorded only after the reset of its tick (R112)
    done ((s.inRank 6 rail).capture 6 rail (if avs then 0 else mv) 0 0)
  else if avs then doneIf s (s.avsOn && rail == 0 && s.get .HLT_AVS_FAULT == 0) (s.supplyWarn 0 0 true)
  else doneIf s (s.avsOn && !(s.get .HLT_WARN_RAILS).testBit rail && s.outOfBand rail mv) (s.supplyWarn rail mv false)

/-- SUPPLY_RAIL_CLEAR: the rail, and with rail 0 the AVSBus, leaves warning. -/
def State.railClear (s : State) (rail : Nat) : State :=
  let s := s.set .HLT_WARN_RAILS 0 (Num.setBit (s.get .HLT_WARN_RAILS) rail false)
  let s := if rail == 0 then s.set .HLT_AVS_FAULT 0 0 else s
  if s.get .HLT_WARN_RAILS == 0 && s.get .HLT_AVS_FAULT == 0 then { s with hlt.warnSince := some s.now } else s

def execSupplyRailClear (rail : Nat) (s : State) : Result :=
  if 5 ≤ rail then .fault .noSuchInstance
  else doneIf s ((s.get .HLT_WARN_RAILS).testBit rail || (rail == 0 && s.get .HLT_AVS_FAULT == 1)) (s.railClear rail)

/-- WARNING_STATE_CLEAR (R489, R490): no rail in warning for 1,000,000 ticks. -/
def State.warnClear (s : State) : State :=
  let s := (({ s with hlt.warnSince := none }.set .HLT_GOV_HELD 0 0).set .SCH_ACLK_MHZ 0 1250).irq .HLT_IRQ .HLT_IRQ_EN 0 1 4
  (s.recompute).schSync.govern

def execWarningStateClear (s : State) : Result :=
  match s.hlt.warnSince with
  | none => .next s
  | some t => doneIf s (s.warned && decide (t + 1000000 ≤ s.now)) s.warnClear

/-! ## The equaliser (R491) -/

/-- Tap `n` (0 to 4) of a lane. -/
def State.tap (s : State) (lane n : Nat) : Int :=
  if n == 4 then toSigned 6 (s.get .WEQ_TAP5 lane) else toSigned 6 (s.get .WEQ_TAPS lane / 2 ^ (6 * n))

/-- CTLE, then five taps, each moved by its step. -/
def State.eqAdapt (s : State) (lane : Nat) (steps : List Int) : State :=
  let c : Int := (s.get .WEQ_CTLE lane : Int) + steps.getD 0 0
  let t (n : Nat) : Nat := ofSigned 6 (s.tap lane n + steps.getD (n + 1) 0)
  ((s.set .WEQ_CTLE lane c.toNat).set .WEQ_TAPS lane (t 0 + 64 * t 1 + 4096 * t 2 + 262144 * t 3)).set .WEQ_TAP5 lane (t 4)

/-- WREN_EQ_ADAPT: at most one step per parameter every 1,024 ticks, inside its range. -/
def execWrenEqAdapt (lane : Nat) (steps : List Int) (s : State) : Result :=
  let c : Int := (s.get .WEQ_CTLE lane : Int) + steps.getD 0 0
  let ok := steps.length == 6 && (steps.all fun d => decide (-1 ≤ d) && decide (d ≤ 1)) && decide (0 ≤ c) && decide (c ≤ 15) &&
    (List.range 5).all fun n => decide (-31 ≤ s.tap lane n + steps.getD (n + 1) 0) && decide (s.tap lane n + steps.getD (n + 1) 0 ≤ 31)
  if 2 ≤ lane then .fault .noSuchInstance
  else
    doneIf s (s.inData && s.laneUsed lane && ok && Tab.getD 0 lane s.hlt.eqNext ≤ s.now)
      ({ s with hlt.eqNext := Tab.put lane (s.now + 1024) s.hlt.eqNext }.eqAdapt lane steps)

/-- WREN_EYE_MEASURE: every 65,536 ticks. -/
def execWrenEyeMeasure (lane h w : Nat) (s : State) : Result :=
  let m := min h (Tab.getD h lane s.hlt.eyeMin)
  if 2 ≤ lane then .fault .noSuchInstance
  else
    doneIf s (s.inData && s.laneUsed lane && decide (h < 256) && decide (w < 256) && decide (Tab.getD 0 lane s.hlt.eyeNext ≤ s.now))
      ({ s with hlt.eyeMin := Tab.put lane m s.hlt.eyeMin, hlt.eyeNext := Tab.put lane (s.now + 65536) s.hlt.eyeNext }.set .WEQ_EYE_H lane h |>.set .WEQ_EYE_W lane w)

/-! ## Ageing (R493, R494) -/

/-- Limit of indicator `i`. -/
def indLimit (i : Nat) : Nat := if i < 6 then 5000 else if i == 6 then 1024 else if i == 7 then 50000 else 4

/-- SPI NOR wear (R493, indicator 7). -/
def State.norWear (s : State) : Nat :=
  let seq := (s.winner.map fun w => w.2.seq).getD 0
  let l := (s.nor.log.getLast?.map LogRec.lseq).getD 0
  min 65535 (max (max seq s.nor.genWrites) (l / logRecords + 1) / 2)

/-- The ten values of a sample. -/
def State.sampleValues (s : State) (osc : List Nat) (ce : Nat) : List Nat :=
  (List.range 6).map (fun i => min 65535 (osc.getD i 0)) ++
  [min ce 65535, s.norWear, Tab.getD (s.get .WEQ_EYE_H 0) 0 s.hlt.eyeMin, Tab.getD (s.get .WEQ_EYE_H 1) 1 s.hlt.eyeMin]

def sumInt (l : List Int) : Int := l.foldl (· + ·) 0

/-- The least-squares line of a history, x counted in ticks from the newest sample: (n, Sx, Sy, D, N, V) with slope N / D,
R2 = N^2 / (D V). -/
def fit (h : List (Nat × Nat)) : Int × Int × Int × Int × Int × Int :=
  let t0 : Int := ((h.head?.map Prod.fst).getD 0 : Nat)
  let n : Int := h.length
  let x := h.map fun e => (e.1 : Int) - t0
  let y := h.map fun e => (e.2 : Int)
  let sx := sumInt x
  let sy := sumInt y
  let d := n * sumInt (x.map fun a => a * a) - sx * sx
  let m := n * sumInt ((x.zip y).map fun p => p.1 * p.2) - sx * sy
  let v := n * sumInt (y.map fun a => a * a) - sy * sy
  (n, sx, sy, d, m, v)

/-- Ticks of a day. -/
def dayTicks : Int := 86400000000

/-- DAYS and R2 of indicator `i` from its history, newest first (R494). Where every value is the same R2 is 0 / 0, which no rule states:
a free value (assumption 105). -/
def daysOf (i : Nat) (h : List (Nat × Nat)) : Nat × Nat :=
  if h.length < 24 then (65535, 0)
  else
    let (n, sx, sy, d, m, v) := fit h
    let r2 := if v == 0 then Config.flatFit.val else (1000 * m * m / (d * v)).toNat
    -- n d times the distance from the fitted value at the newest sample to the limit
    let lim : Int := indLimit i
    let gap := if i < 8 then lim * n * d - (sy * d - m * sx) else (sy * d - m * sx) - lim * n * d
    let up := if i < 8 then m else -m
    if d == 0 then (65535, 0)
    else if gap ≤ 0 then (0, r2)
    else if up ≤ 0 then (65535, 0)
    else (min 65534 (gap / (n * up * dayTicks)).toNat, r2)

/-- The slope in value units per 1,000 days, rounded down. -/
def slopeOf (h : List (Nat × Nat)) : Int :=
  let (_, _, _, d, m, _) := fit h
  if h.length < 24 || d == 0 then 0 else m * 1000 * dayTicks / d

def State.history (s : State) (i : Nat) : List (Nat × Nat) := s.hlt.ageing.map fun e => (e.1, e.2.getD i 0)

/-- Indicator `i`'s registers. The rounding of the slope is a free value (assumption 1). -/
def State.indicatorSync (s : State) (i : Nat) : State :=
  let h := s.history i
  let r := daysOf i h
  let s := ((s.set .IND_VALUE i ((h.head?.map Prod.snd).getD 0)).set .IND_LIMIT i (indLimit i)).set .IND_SAMPLES i h.length
  let k := s.draw 2
  let s := k.2.set .IND_SLOPE i (ofSigned 32 (clampInt (slopeOf h + k.1) (-(2 ^ 31)) (2 ^ 31 - 1)))
  (s.set .IND_DAYS i r.1).set .IND_R2 i r.2

/-- EOL_DAYS, LIMITER and EOL_CONF. -/
def State.eolSync (s : State) : State :=
  let m := (List.range 10).foldl (fun m i => min m (s.get .IND_DAYS i)) 65535
  let lim := if m == 65535 then none else (List.range 10).find? fun i => s.get .IND_DAYS i == m
  let was := s.get .HLT_EOL_DAYS
  let s := (s.set .HLT_EOL_DAYS 0 m).set .HLT_LIMITER 0 (lim.getD 0xFF)
  let s := s.set .HLT_EOL_CONF 0 (match lim with
    | none => 0
    | some i => min s.hlt.ageing.length 720 * s.get .IND_R2 i / 7200)
  let a := s.get .HLT_EOL_ALARM
  if m < a && a ≤ was then s.irq .HLT_IRQ .HLT_IRQ_EN 0 0 4 else s

def State.ageSample (s : State) (osc : List Nat) (ce : Nat) : State :=
  let v := s.sampleValues osc ce
  let s := { s with hlt.ageing := ((s.now, v) :: s.hlt.ageing).take 720, hlt.eyeMin := [], hlt.ageNext := s.hlt.ageNext + ageTicks }
  ((List.range 10).foldl (fun s i => s.indicatorSync i) s).eolSync

/-- AGEING_SAMPLE: `osc` the six oscillator drifts, `ce` the corrected errors of the hour on the worst channel. -/
def execAgeingSample (osc : List Nat) (ce : Nat) (s : State) : Result :=
  doneIf s (s.isReady && decide (s.power < 2) && s.thermal.isNone && osc.length == 6 && decide (s.hlt.ageNext ≤ s.now)) (s.ageSample osc ce)

/-! ## HEALTH_QUERY (R206, R495, R496) -/

def maskOf (n : Nat) (p : Nat → Bool) : Nat := ((List.range n).filter p).foldl (fun m i => m + 2 ^ i) 0

def State.onMask (s : State) (f : Field) (n : Nat) : Nat := maskOf n fun i => s.get f i == 1

/-- Indicator `i` of the SUMMARY block. -/
def State.indicatorBytes (s : State) (i : Nat) : Bytes :=
  leBytes 2 (s.get .IND_VALUE i) ++ leBytes 2 (s.get .IND_LIMIT i) ++ leBytes 4 (s.get .IND_SLOPE i) ++
  leBytes 2 (s.get .IND_DAYS i) ++ leBytes 2 (s.get .IND_R2 i) ++ leBytes 2 (s.get .IND_SAMPLES i) ++ zeros 2

/-- The SUMMARY block. -/
def State.summary (s : State) : Bytes :=
  let lanes := if s.get .TRE_IN_SERVICE == 1 then 65535 - s.get .TRE_LANE_OUT else 0
  leBytes 4 0x09604E01 ++ leBytes 2 1 ++ leBytes 2 256 ++ leBytes 8 s.now ++ leBytes 4 s.devWord ++ leBytes 4 s.certWord ++
  leBytes 2 (s.get .HLT_CAPACITY) ++ leBytes 2 (s.get .HLT_EOL_DAYS) ++ leBytes 1 (s.get .HLT_EOL_CONF) ++
  leBytes 1 (s.get .HLT_LIMITER) ++ leBytes 1 s.role ++ leBytes 1 (s.get .SCH_STEP) ++
  leBytes 1 (s.countOn .DEC_IN_SERVICE 8) ++ leBytes 1 (s.onMask .CL_IN_SERVICE 8) ++
  leBytes 1 (s.onMask .AR_IN_SERVICE 2 + 4 * s.get .FFT_IN_SERVICE + 16 * s.onMask .MENC_IN_SERVICE 2) ++ zeros 1 ++
  leBytes 2 lanes ++ leBytes 2 (maskOf 16 fun c => s.get .CH_IN_SERVICE c == 1 && s.get .CH_LOST c == 0) ++
  leBytes 2 (s.get .HLT_ACLK_MHZ) ++ leBytes 2 (s.get .HLT_VCORE_MV) ++ leBytes 1 (s.get .HLT_DIE_TEMP) ++
  leBytes 1 (s.get .HLT_DRAM_TEMP) ++ leBytes 1 (s.get .WRN_WIDTH) ++ zeros 1 ++
  leBytes 4 (s.get .WDG_EXPIRIES 0) ++ leBytes 4 (s.get .WDG_EXPIRIES 1) ++ leBytes 4 (s.get .HLT_SUPPLY_WARNS) ++ zeros 4 ++
  leBytes 4 ((List.range 16).foldl (fun n c => n + s.get .CH_REFRESH_MULT c * 4 ^ c) 0) ++ zeros 28 ++
  (List.range 10).flatMap s.indicatorBytes

/-- The STREAM block of stream `k`. -/
def State.streamBlock (s : State) (k : Nat) (st : Stream) : Bytes :=
  let r (f : Field) : Bytes := leBytes 4 (s.get f k)
  leBytes 4 0x09604E02 ++ leBytes 2 1 ++ leBytes 2 64 ++ leBytes 1 k ++ leBytes 1 (s.get .CTX_STATE k) ++
  leBytes 1 (s.get .SS_DECIMATED k + 2 * s.get .SS_SHED k) ++ zeros 1 ++ leBytes 4 st.fed ++
  r .CTX_FRAMES_DECODED ++ r .CTX_FRAMES_DROPPED ++ r .CTX_ERR_COUNT ++ r .CTX_FRAMES_CONCEALED ++ r .SS_DROPS ++
  r .FLU_RECORDS ++ r .FLU_BUDGET_GAPS ++ r .FLU_RING_DROPS ++ r .PP_ABANDONED ++ r .SS_NET_TICKS ++
  leBytes 2 (s.get .CTX_LAST_ERROR k) ++ leBytes 2 (s.get .SS_DRAM_MBPS k) ++ r .CTX_HDR_CHANGES

/-- What the egress check makes of one source granule (R46): 1 sooted, 5 in a tag region (the CAUSE), 0 written as it is. -/
def State.granuleCause (s : State) (a : Nat) : Nat :=
  if s.tagBase ≤ a then 5 else if s.sooted a then 1 else 0

/-- The granules of a transfer of `n` bytes from `a`. -/
def granules (a n : Nat) : List Nat := (List.range (cdiv (a + n) 64 - a / 64)).map fun i => 64 * (a / 64 + i)

/-- The breach entries of an egress transfer, in the order of their first refused granules (R49), from (cause, granules). -/
def State.egressBreach (s : State) (c host a : Nat) (cause : Nat) (gs : List Nat) : State :=
  match gs with
  | [] => s
  | g :: _ => s.breach (if cause == 5 then 6 else 1) cause c gs.length g ((host + (g - a)) % 2 ^ 32)

/-- DUMP of `n` bytes from device address `a` (R48, R206, R343). -/
def State.dump (s : State) (p : Pkt) (host a n : Nat) : State :=
  let gs := granules a n
  let soot := gs.filter fun g => s.granuleCause g == 1
  let tags := gs.filter fun g => s.granuleCause g == 5
  let bad := gs.any fun g => (Tab.find? g s.poison).isSome
  let bytes := (List.range n).map fun i =>
    let g := (a + i) / 64 * 64
    if s.granuleCause g != 0 || (Tab.find? g s.poison).isSome then 0#8 else s.byteAt (a + i)
  let s := s.hostWrite host bytes
  match (gs.filter fun g => s.granuleCause g != 0) with
  | [] => s.complete p.id (if bad then Reply.deviceFault 0x0301 else Reply.ok)
  | g :: t =>
    let c := s.granuleCause g
    -- the two entries in the order of their first refused granules; tag regions lie above every buffer
    let s := (s.egressBreach p.client host a 1 soot)
    let seq := s.get .SEC_BREACH_SEQ
    let s := s.egressBreach p.client host a 5 tags
    let seq := if c == 1 then seq else s.get .SEC_BREACH_SEQ
    s.complete p.id
      ⟨if bad then stDeviceFault else stSootBreach, if bad then 0x0301 else (if c == 5 then 6 else 1) + 256 * c,
       g % 2 ^ 32, g / 2 ^ 32, t.length + 1, seq⟩

/-- The checks of HEALTH_QUERY. A DUMP whose DEV_ADDR + BYTES runs past the DRAM is refused with BAD_PARAM naming word 6: no rule gives
its reply (assumption 104). -/
def State.healthChecks (s : State) (p : Pkt) : List (Bool × Reply) :=
  let sel := slice (p.w 2) 7 0
  let k := slice (p.w 2) 14 8
  let n := p.w 5
  let a := p.w64 6
  [word 2 (decide (sel ≤ 2) && p.zeroBits 2 31 15), p.hostBuf 3 n 64,
   word 5 (decide (64 ≤ n) && decide (n ≤ 2 ^ 20) && n % 64 == 0),
   word 6 (sel == 2 || p.w 6 == 0), word 7 (sel == 2 || p.w 7 == 0), word 6 (sel != 2 || decide (a + n ≤ s.dramBytes)),
   word 8 (p.w 8 == 0), word 2 (sel != 1 || (s.stream? k).isSome),
   (sel != 2 || p.client == 0, Reply.notPermitted 0),
   (sel != 1 || p.client == 0 || (s.stream? k).any fun st => st.owner == p.client, Reply.notPermitted 1)]

def State.healthQuery (s : State) (p : Pkt) : State :=
  let sel := slice (p.w 2) 7 0
  let k := slice (p.w 2) 14 8
  let host := p.w64 3
  let n := p.w 5
  s.checked p (s.healthChecks p) fun s =>
    if sel == 2 then s.dump p host (p.w64 6) n
    else if sel == 0 then
      let r0 := s.get .HLT_CAPACITY
      (s.hostWrite host (s.summary.take n)).complete p.id
        ⟨if n < 256 then stPartial else stOk, if n < 256 then 4 else 0, r0, s.get .HLT_EOL_DAYS, s.get .HLT_EOL_CONF, min n 256⟩
    else
      match s.stream? k with
      | none => s
      | some st =>
        (s.hostWrite host (s.streamBlock k st)).complete p.id
          (Reply.ok st.fed (s.get .CTX_FRAMES_DROPPED k) (s.get .CTX_ERR_COUNT k) 64)

/-- HEALTH_QUERY. -/
def execHealthQuery (s : State) : Result :=
  startRead 0x51 State.healthChecks (fun _ => some 2) (fun _ => none) State.healthQuery s

end Sys2Proof.Machine
end

