-- ==== Sys2Proof/Machine/Time.lean ====
section
/-! DEFINITION. Sys2Proof/Machine/Time.lean: the tick (R100), lost clocks (R95 to R99), failed host reads (R149) and the copy of
the breach log in the SPI NOR (R50). -/

namespace Sys2Proof.Machine

/-! ## TICK -/

/-- The tick ends and the next begins; a degradation step that waited for it is reported (R112). -/
def State.tick (s : State) : State := s.advance.reportStep

/-- TICK (R100, R116): TCLK runs while the always-on domain is powered and TCLK has not been lost. -/
def execTick (s : State) : Result :=
  doneIf s (s.aonValid && s.get .EVU_TICK_STOPPED == 0 && !s.clockIsLost 21) s.tick

/-! ## CLOCK_LOSS -/

/-- The clock has started and is not stopped on purpose: TCLK and WDCLK run with the always-on domain, the others from the
PLL locks of bring-up on; ACLK and VCLK stop in IDLE and below (R95, R445). Its monitor runs too: WDCLK watches every clock but
itself, and TCLK watches WDCLK. -/
def State.clockArmed (s : State) (id : Nat) : Bool :=
  s.aonValid && (id == 21 || id == 22 || s.boot != .inReset) && !((id == 17 || id == 18) && s.power != 0) &&
  !s.clockIsLost (if id == 22 then 21 else 22)

/-- The consequence of a declared loss (R97 to R99). `t` is how it is treated; a loss in FAULT is recorded only (R113). -/
def State.clockLost' (s : State) (id : Nat) (t : Treat) : State :=
  if t != .apply && t != .defer then s
  else if id == 0 then (s.set .LINK_DOWN 0 1).drainStaged.linkLost
  else if id == 20 then (s.linkOff (s.get .WRN_REASON)).pairDown t
  else s.enterFault 5 0

/-- CLOCK_LOSS: SOURCE is the clock, DETAIL0 1 where the consequence is FAULT. A lost HCLK or WCLK takes the column of
HOST_LINK_DOWN or PAIR_LINK_DOWN (R112). -/
def State.clockLoss (s : State) (id : Nat) : State :=
  let s := s.inRank 1 id
  let t := if s.isFault then .record else s.treatment (if id == 0 then 8 else if id == 20 then 7 else 1)
  let s := { s with clockLost := Tab.put id () s.clockLost }
  let s := if id == 21 then { s with staleTick := some s.now }.set .EVU_TICK_STOPPED 0 1 else s
  (s.capture 1 id (Num.b2n (id != 0 && id != 20)) 0 0).clockLost' id t

def execClockLoss (id : Nat) (s : State) : Result :=
  if 22 < id then .fault .noSuchInstance
  else doneIf s (s.clockArmed id && !s.clockIsLost id) (s.clockLoss id)

/-! ## DEVICE_READ_FAIL -/

/-- The next packet to start has passed its checks and reads host memory before its effect. -/
def State.readsFirst (s : State) (p : Pkt) : Bool :=
  if p.opcode == 0x22 then (firstBad (s.bindChecks p)).isNone
  else if p.opcode == 0x30 then p.readsZones && (firstBad (s.flueChecks p)).isNone
  else if p.opcode == 0x61 then (firstBad (s.chunkChecks p)).isNone
  else if p.opcode == 0x70 then (firstBad (s.tokenChecks p)).isNone
  else p.opcode == 0x71 && (firstBad (s.attestChecks p)).isNone

/-- DEVICE_READ_FAIL (R149, R179): the bit of GCTL_LINK_ERR; a ring fetch is made again one tick later, a command that was reading
ends with DEVICE_FAULT and what it had copied is given back; after a failed CPL_HEAD writeback replies go on. A request that was
issued may fail while Bus Master Enable is clear (R158). -/
def execDeviceReadFail (kind : ReadFail) (requester : ReadRequester) (s : State) : Result :=
  let s1 := s.readFailed kind
  match requester with
  | .ring c =>
    if Config.clients ≤ c then .fault .noSuchInstance
    else doneIf s (s.fetchTurn == some c && decide (2 ≤ s.coveredWords c)) { s1 with retry := Tab.put c s.now s1.retry }
  | .packet id =>
    let r := Reply.deviceFault (ReadFail.detail kind)
    if s.reads.any fun r => r.pkt == id && r.issued != 0 then doneIf s (!s.linkDead && !s.held) (s1.failRead id r)
    else match s.nextStart with
      | none => .next s
      | some p => doneIf s (p.id == id && s.mayAsk && s.readsFirst p) (((s1.markStarted id).complete id r).drain p.client)
  | .writeback c =>
    if Config.clients ≤ c then .fault .noSuchInstance else doneIf s (s.get .CL_WB_EN c == 1 && !s.linkDead && !s.held) s1

/-! ## BREACH_LOG_APPEND -/

/-- BREACH_LOG_APPEND (R50): Choararok copies the oldest entry not yet copied. -/
def execBreachLogAppend (s : State) : Result :=
  match s.breachQueue with
  | [] => .next s
  | e :: es => doneIf s s.coresRun ({ s with breachQueue := es }.log 0x01 e)

end Sys2Proof.Machine
end

