-- ==== Sys2Proof/Machine/Access.lean ====
section
/-! DEFINITION. Sys2Proof/Machine/Access.lean: accesses to the registers and tables by the host (R9 to R15, R125, R137 to R142,
R532), by the SMBus (R522) and by JTAG (R438). -/

namespace Sys2Proof.Machine

open Sys2Proof.Num (slice wrap32)

/-! ## The blocks of BAR0 (R27, R125, R532) -/

/-- The ID of the clock that answers the block at `off`. -/
def blockClock (off : Nat) : Nat :=
  if off < 0x10000 then 0
  else if off < 0x20000 then 21
  else if 0x50000 ≤ off && off < 0x50100 then 22
  else if 0x70000 ≤ off && off < 0x80000 then 21
  else if 0x80000 ≤ off && off < 0x90000 then 20
  else if 0x90000 ≤ off && off < 0x94000 then 18
  else if 0xA0000 ≤ off && off < 0xB0000 then 17
  else if 0x100000 ≤ off && off < 0x110000 then 1 + (off - 0x100000) / 0x1000
  else if 0x200000 ≤ off && off < 0x208000 then 18
  else if 0x300000 ≤ off && off < 0x3A0000 then 17
  else 19

/-- GCTL, EVU, SEC and HLT read live in every state. -/
def liveBlock (off : Nat) : Bool :=
  off < 0x20000 || (0x30000 ≤ off && off < 0x40000) || (0x60000 ≤ off && off < 0x70000)

def clientBlock (off : Nat) : Bool := 0x800000 ≤ off && off < 0x840000

/-- Before READY and in an FLR the other blocks read their reset values. -/
def State.readsReset (s : State) (off : Nat) : Bool :=
  !liveBlock off && ((decide (1 ≤ s.dev) && decide (s.dev ≤ 4)) || s.dev == 6)

/-- Whether a write to the word at `off` is applied. -/
def State.writable (s : State) (off : Nat) : Bool :=
  !s.clockIsLost (blockClock off) &&
  (off == 0xC || s.dev == 5 ||
   ((clientBlock off || (0x10000 ≤ off && off < 0x20000)) && ((decide (1 ≤ s.dev) && decide (s.dev ≤ 4)) || s.dev == 8)))

/-! ## Reads (R9, R11, R13) -/

/-- The 32-bit word at aligned offset `off`, each field taken from `val`. -/
def wordOf (val : Field → Nat → Nat) (off : Nat) : Nat :=
  (rowsAt off).foldl (fun w r => if r.1.acc = .wo then w else w + r.1.show r.2.2 (val r.1.field r.2.1)) 0

/-- The value a field reads before READY and in an FLR: its reset value; CH_USABLE_MIB comes from the fuses (R125, R327). -/
def State.resetView (s : State) (f : Field) (i : Nat) : Nat :=
  if f = .CH_USABLE_MIB then (if s.fuses.v256 then 16352 else 8176) else f.reset i

/-- What a read of the word finds: 0 where the block's clock is lost (R97), the reset value, or the live value. After a loss of TCLK
the HCLK copy still gives TICK_NOW, and EVU_STATUS shows TICK_STOPPED alone (R99, R101; DEDUCED, assumption 88). -/
def State.readWord (s : State) (off : Nat) : Nat :=
  if s.clockIsLost (blockClock off) then
    if off == 0x10000 || off == 0x10004 then wordOf (fun f i => s.get f i) off
    else if off == 0x1000C then s.get .EVU_TICK_STOPPED
    else 0
  else if s.readsReset off then wordOf s.resetView off
  else wordOf (fun f i => s.get f i) off

/-- The RC fields that a full read of the word has shown clear. -/
def State.readClear (s : State) (off : Nat) : State :=
  if s.clockIsLost (blockClock off) || s.readsReset off then s
  else (rowsAt off).foldl (fun s r => if r.1.acc = .rc then s.set r.1.field r.2.1 0 else s) s

/-- The word at `off` is the low or the high half of a 64-bit register. META_BASE_LO and META_BASE_HI are two 32-bit registers
(R91). -/
def isLow (off : Nat) : Bool := (rowsAt off).any fun r => decide (31 < r.1.hi) && r.2.2 == 0 && r.1.field != .META_BASE
def isHigh (off : Nat) : Bool := (rowsAt off).any fun r => r.2.2 == 1 && r.1.field != .META_BASE

/-- A 32-bit host read of BAR0: its value, with the shadow rule of R15 and the clears of R9. -/
def State.read32 (s : State) (off : Nat) : Nat × State :=
  if isHigh off && s.shadowOwner == some (off - 4) then
    match s.shadowWord with
    | some w => (w, { s with shadowWord := none })
    | none => (s.readWord off, s)
  else
    let s1 := if isLow off then { s with shadowOwner := some off, shadowWord := some (s.readWord (off + 4)) } else s
    (s.readWord off, s1.readClear off)

/-- A full-width aligned host read of BAR0; the data goes back to the host. -/
def State.hostRead (s : State) (off width : Nat) : State :=
  if width == 8 then
    let v := s.readWord off + 2 ^ 32 * s.readWord (off + 4)
    ((s.readClear off).readClear (off + 4)).emit (.readData 0 off v)
  else
    let r := s.read32 off
    r.2.emit (.readData 0 off r.1)

/-- The MSI-X table and pending bits as BAR4 shows them (R29, R139, R140). -/
def State.msixWord (s : State) (off : Nat) : Nat :=
  if off < 0x8000 then
    let e := s.msixEntry (off / 16)
    match off % 16 / 4 with
    | 0 => e.addr % 2 ^ 32
    | 1 => e.addr / 2 ^ 32
    | 2 => e.data
    | _ => Num.b2n e.masked
  else if off < 0x8100 then
    let k := (off - 0x8000) / 4 * 32
    (List.range 32).foldl (fun w i => if (Tab.find? (k + i) s.msixPba).isSome then w + 2 ^ i else w) 0
  else 0

/-- Byte `a` of a BAR, of the words as they stand. -/
def State.barByte (s : State) (bar a : Nat) : Byte :=
  let w := if bar == 0 then s.readWord (a / 4 * 4) else if bar == 4 then s.msixWord (a / 4 * 4) else 0
  BitVec.ofNat 8 (w / 2 ^ (8 * (a % 4)))

/-! ## Writes (R7, R9, R10) -/

/-- What a write of `v` does to one field of the word: `unlocked` where LOCK does not hold (R438). -/
def State.writeRow (s : State) (v : Nat) (unlocked : Bool) (r : Row × Nat × Nat) : State :=
  let old := s.get r.1.field r.2.1
  match r.1.acc with
  | .rw => s.set r.1.field r.2.1 (r.1.merge r.2.2 v old)
  | .rw1c => s.set r.1.field r.2.1 (Num.clearBits old (r.1.merge r.2.2 v old))
  | .rwl => if unlocked || s.get .SOOT_LOCK == 0 then s.set r.1.field r.2.1 (r.1.merge r.2.2 v old) else s
  | _ => s

/-- A write to a word whose fields have no behaviour of their own. -/
def State.writeFields (s : State) (off v : Nat) (unlocked : Bool) : State :=
  (rowsAt off).foldl (fun s r => s.writeRow v unlocked r) s

/-- SEC_SOOT_CTRL: PRECLEAR first, then LOCK, which no write clears (R10). -/
def State.sootCtrl (s : State) (v : Nat) (unlocked : Bool) : State :=
  let s1 := if unlocked || s.get .SOOT_LOCK == 0 then s.set .SOOT_PRECLEAR 0 (v % 2) else s
  if v.testBit 31 then s1.set .SOOT_LOCK 0 1 else s1

/-- An enable register is written; an enable that rises over a set bit signals the vector (R531). -/
def State.enableWrite (s : State) (reg en : Field) (i bits vec v : Nat) : State :=
  let new := v % 2 ^ bits
  let rise := Num.clearBits new (s.get en i)
  let s1 := s.set en i new
  if rise &&& s.get reg i == 0 then s1 else s1.signal vec

/-- The enable registers: offset, cause register, enable register, instance, bits, vector. -/
def enables : List (Nat × Field × Field × Nat × Nat × Nat) :=
  [(0x21C, .GCTL_PAIR_IRQ, .GCTL_PAIR_IRQ_EN, 0, 4, 2), (0x3040C, .SEC_SOOT_IRQ, .SEC_SOOT_IRQ_EN, 0, 3, 1),
   (0x50028, .WDG_IRQ, .WDG_IRQ_EN, 0, 1, 5), (0x50128, .WDG_IRQ, .WDG_IRQ_EN, 1, 1, 5),
   (0x60030, .HLT_IRQ, .HLT_IRQ_EN, 0, 3, 4), (0x70008, .BAY_EVENTS, .BAY_IRQ_EN, 0, 3, 3),
   (0xB0024, .SCH_IRQ, .SCH_IRQ_EN, 0, 2, 6)]

/-- Client control (R160): ENABLE rises only over valid rings, and then zeroes the counts; it falls only with nothing in
flight and no flush. -/
def State.clientCtrl (s : State) (c v : Nat) : State :=
  let was := s.get .CL_ENABLE c
  let k := s.get .CL_CMD_LOG2 c
  let j := s.get .CL_CPL_LOG2 c
  let ok := s.get .CL_CMD_BASE c % 4096 == 0 && s.get .CL_CPL_BASE c % 4096 == 0 && decide (10 ≤ k) && decide (k ≤ 20) &&
    decide (6 ≤ j) && decide (j ≤ 16)
  if v % 2 == 1 && !ok then s
  else if v % 2 == 0 && was == 1 && (s.get .CL_INFLIGHT c != 0 || s.get .CL_FLUSHING c == 1) then s
  else
    let s := (((s.set .CL_ENABLE c (v % 2)).set .CL_IRQ_EN c (slice v 1 1)).set .CL_FENCE_EN c (slice v 2 2)).set .CL_WB_EN c
      (slice v 3 3)
    if v % 2 == 1 && was == 0 then
      let s := { s with looked := Tab.del c s.looked }
      ((((s.set .CL_CMD_HEAD c 0).set .CL_CMD_TAIL c 0).set .CL_CPL_HEAD c 0).set .CL_CPL_TAIL c 0).set .CL_CPL_RESERVED c 0
    else s

/-- CL_CPL_FENCE (R161). -/
def State.cplFence (s : State) (c v : Nat) : State :=
  let h := v % 2 ^ 17
  if (Tab.find? h s.fences).any fun f => f.creator == c then (s.set .CL_CPL_FENCE c h).set .CL_CPL_FENCE_VALID c 1 else s

/-- The header words a flush reads in host memory where the command does not carry them: free values (assumption 1). -/
def State.freeHeaders (s : State) (c : Nat) : List Word × State :=
  let n := s.coveredWords c / 2 + 1
  ((List.range n).map fun i => BitVec.ofNat 32 (Config.freeValue (s.freeCtr + i)), { s with freeCtr := s.freeCtr + n })

/-- A write to the control block of client `c` at offset `r` in it. -/
def State.clientWrite (s : State) (c off r v : Nat) : State :=
  if r < 0x1C then (if s.get .CL_ENABLE c == 0 then s.writeFields off v false else s)
  else if r == 0x1C then s.clientCtrl c v
  else if r == 0x48 then s.cplFence c v
  else if r == 0x54 then
    (if 1 ≤ v % 128 && v % 128 ≤ 64 then s.set .CL_MAX_INFLIGHT c (v % 128) else s)
  else if r == 0x58 then
    let h := s.freeHeaders c
    h.2.clientFlush c v h.1 .timeout
  else if r == 0x94 then s.metaTail c v
  else s.writeFields off v false

/-- CLEAN_EIGHTHS (R303). -/
def State.cleanEighths (s : State) (v : Nat) : State :=
  let n := v % 8
  let idle := s.objects.isEmpty && s.loads.isEmpty && s.streams.isEmpty && s.get .SOOT_SCRUB_BUSY == 0
  let clean := !ISet.meets (s.cleanEnd / 64) (n * s.eighth / 64) s.soot
  if 1 ≤ n && n ≤ 4 && idle && (clean || n ≤ s.get .CLEAN_EIGHTHS) then (s.set .CLEAN_EIGHTHS 0 n).poolSync else s

/-- RESYNC of stream `k`, on the sending side (R390). -/
def State.resyncWrite (s : State) (k v : Nat) : State :=
  if v.testBit 31 && s.get .MS_SIDE k == 1 then s.resync k else s

/-- A 32-bit write that is applied: each register's own rule, or that of its access type. -/
def State.regWrite (s : State) (off v : Nat) (unlocked : Bool) : State :=
  match enables.find? fun e => e.1 == off with
  | some e => s.enableWrite e.2.1 e.2.2.1 e.2.2.2.1 e.2.2.2.2.1 e.2.2.2.2.2 v
  | none =>
    if off == 0xC then s.resetWrite v
    else if off == 0x10008 then s.evuCtrl v
    else if off == 0x10010 || off == 0x10014 then
      s.evuBase (Row.merge ⟨.EVU_RING_BASE, 0x10010, 0, 1, 63, 0, .rw⟩ (off % 8 / 4) v (s.get .EVU_RING_BASE))
    else if off == 0x10018 then s.evuLog2 v
    else if off == 0x10020 then s.evuTail v
    else if off == 0x30038 then s.debugEnd v
    else if off == 0x3004C then s.labArmWrite v
    else if off == 0x30400 then s.sootCtrl v unlocked
    else if off == 0x50004 || off == 0x50104 then s.wdgPeriod (off / 256 % 2) v true
    else if off == 0x50008 || off == 0x50108 then s.wdgEnable (off / 256 % 2) v true
    else if off == 0x5000C || off == 0x5010C then s.checkin (off / 256 % 2) v true
    else if off == 0x50018 || off == 0x50118 then
      (if v % 65536 < s.get .WDG_PERIOD (off / 256 % 2) then s.writeFields off v false else s)
    else if off == 0x7000C then (if 10 ≤ v % 1024 && v % 1024 ≤ 1000 then s.writeFields off v false else s)
    else if off == 0x80004 then s.wrenCtrl v
    else if off == 0x80008 then (if 50 ≤ v % 4096 && v % 4096 ≤ 2000 then s.writeFields off v false else s)
    else if 0x91000 ≤ off && off < 0x91800 && off % 16 == 0 then s.resyncWrite ((off - 0x91000) / 16) v
    else if off == 0xC0000 then s.cleanEighths v
    else if 0x100000 ≤ off && off < 0x110000 && off % 0x1000 == 0xC then
      (if slice v 15 8 != 0 && slice v 20 16 != 0 then s.writeFields off v false else s)
    else if clientBlock off then s.clientWrite ((off - 0x800000) / 256) off (off % 256) v
    else s.writeFields off v unlocked

/-- A host write of one word of BAR0, where R125 and the block's clock let it through. -/
def State.write32 (s : State) (off v : Nat) (unlocked : Bool := false) : State :=
  if s.writable off then s.regWrite off (wrap32 v) unlocked else s

/-- A 32-bit or 64-bit aligned host write to BAR0. One that gives all of EVU_RING_BASE is accepted or discarded whole (R7, R114). -/
def State.write0 (s : State) (off width v : Nat) : State :=
  if width == 8 && off == 0x10010 then (if s.writable off then s.evuBase v else s)
  else if width == 8 then (s.write32 off v).write32 (off + 4) (v / 2 ^ 32)
  else s.write32 off v

/-- BAD_ACCESS (R138). -/
def State.badAccess (s : State) : State := s.set .GCTL_LINK_ERR 0 (s.get .GCTL_LINK_ERR ||| 16)

/-- One word of the MSI-X table is written (R139); the pending bits take no write. -/
def State.msixWrite (s : State) (off v : Nat) : State :=
  if 0x8000 ≤ off then s
  else
    let n := off / 16
    let e := s.msixEntry n
    let e : MsixEntry := match off % 16 / 4 with
      | 0 => { e with addr := e.addr / 2 ^ 32 * 2 ^ 32 + v / 4 * 4 }
      | 1 => { e with addr := v * 2 ^ 32 + e.addr % 2 ^ 32 }
      | 2 => { e with data := v }
      | _ => { e with masked := v.testBit 0 }
    { s with msixTable := Tab.putD msixReset n e s.msixTable }

/-- A host write to a BAR (R137, R138): BAR0 registers, BAR2 doorbells, the BAR4 table, whose vectors may be unblocked. -/
def State.barWrite (s : State) (bar off width v : Nat) : State :=
  if (width != 4 && width != 8) || off % width != 0 then s.badAccess
  else if bar == 0 then s.write0 off width v
  else if bar == 2 then s.pageWrite (off / 4096) (off % 4096) width v
  else
    let s := s.msixWrite off (wrap32 v)
    (if width == 8 then s.msixWrite (off + 4) (wrap32 (v / 2 ^ 32)) else s).sendUnblocked

/-! ## The rows of one register -/

/-- A host write of one 32-bit register at its fixed offset. -/
def hostReg (off v : Nat) (s : State) : Result := hostAct s fun s => s.write32 off v

/-- The same for a register of client `c`. -/
def clientReg (r c v : Nat) (s : State) : Result :=
  if Config.clients ≤ c then .fault .noSuchInstance else hostReg (0x800000 + 256 * c + r) v s

/-- CLIENT_ENABLE_WRITE (R160). -/
def execClientEnableWrite (c v : Nat) (s : State) : Result := clientReg 0x1C c v s
/-- CPL_FENCE_WRITE (R161). -/
def execCplFenceWrite (c v : Nat) (s : State) : Result := clientReg 0x48 c v s
/-- META_TAIL_WRITE (R83). -/
def execMetaTailWrite (c v : Nat) (s : State) : Result := clientReg 0x94 c v s
/-- EVU_RING_CTRL_WRITE (R114). -/
def execEvuRingCtrlWrite (v : Nat) (s : State) : Result := hostReg 0x10008 v s
/-- EVU_RING_TAIL_WRITE (R114). -/
def execEvuRingTailWrite (v : Nat) (s : State) : Result := hostReg 0x10020 v s
/-- WARM_RESET_WRITE (R131). -/
def execWarmResetWrite (v : Nat) (s : State) : Result := hostReg 0xC v s
/-- DEBUG_END_WRITE (R443). -/
def execDebugEndWrite (v : Nat) (s : State) : Result := hostReg 0x30038 v s
/-- LAB_ARM_WRITE (R444). -/
def execLabArmWrite (v : Nat) (s : State) : Result := hostReg 0x3004C v s
/-- WREN_RETRAIN_WRITE (R357). -/
def execWrenRetrainWrite (v : Nat) (s : State) : Result := hostReg 0x80004 v s
/-- WREN_WIDTH_REQ (R358). -/
def execWrenWidthReq (v : Nat) (s : State) : Result := hostReg 0x80004 v s
/-- MIRROR_RESYNC_WRITE (R390). -/
def execMirrorResyncWrite (k v : Nat) (s : State) : Result :=
  if Config.streams ≤ k then .fault .noSuchInstance else hostReg (0x91000 + 16 * k) v s
/-- CLEAN_EIGHTHS_WRITE (R303). -/
def execCleanEighthsWrite (v : Nat) (s : State) : Result := hostReg 0xC0000 v s
/-- IRQ_ENABLE_WRITE (R531): `off` is one of the enable registers. -/
def execIrqEnableWrite (off v : Nat) (s : State) : Result :=
  if enables.any fun e => e.1 == off then hostReg off v s else .fault .noSuchInstance

/-- A watchdog register, written by the host or by Choararok. -/
def wdgReg (r w v : Nat) (byHost : Bool) (own : State → State) (s : State) : Result :=
  if 2 ≤ w then .fault .noSuchInstance
  else if byHost then hostReg (0x50000 + 256 * w + r) v s
  else doneIf s (s.coresRun && !s.clockIsLost (blockClock (0x50000 + 256 * w))) (own s)

/-- WDG_CHECKIN (R478). -/
def execWdgCheckin (w v : Nat) (byHost : Bool) (s : State) : Result :=
  wdgReg 0xC w v byHost (fun s => s.checkin w (wrap32 v) false) s
/-- WDG_PERIOD_WRITE (R479). -/
def execWdgPeriodWrite (w v : Nat) (byHost : Bool) (s : State) : Result :=
  wdgReg 0x4 w v byHost (fun s => s.wdgPeriod w (wrap32 v) false) s
/-- WDG_ENABLE_WRITE (R479). -/
def execWdgEnableWrite (w v : Nat) (byHost : Bool) (s : State) : Result :=
  wdgReg 0x8 w v byHost (fun s => s.wdgEnable w (wrap32 v) false) s

/-! ## Any register, and bad requests -/

/-- REGISTER_WRITE (R9, R14): `bar` 0, 2 or 4, or 6 for configuration space, which no closed BAR and no D3hot shuts (R134,
R446). -/
def execRegisterWrite (bar off width v : Nat) (s : State) : Result :=
  if barSize bar ≤ off then .fault .noSuchInstance
  else if bar == 6 then
    if cfgAccessOk off width then doneIf s s.cfgReached (s.cfgWrite off width v) else .fault .noSuchInstance
  else hostAct s fun s => s.barWrite bar off width v

/-- A host read; while the BARs are closed it is answered with Unsupported Request (R148, R446). -/
def hostAsk (off : Nat) (s : State) (f : State → State) : Result :=
  doneIf s s.barsReached (if s.barsOpen then f s else s.unsupported.emit (.unsupported off))

/-- An aligned BAR0 read of 4 or 8 bytes. -/
def readReg (off width : Nat) (s : State) : Result :=
  if barSize 0 ≤ off || off % width != 0 then .fault .noSuchInstance else hostAsk off s fun s => s.hostRead off width

/-- The word at an aligned offset of BAR2, which reads as 0, or of BAR4. -/
def State.tableRead (s : State) (bar off width : Nat) : State :=
  s.emit (.readData bar off (if bar == 2 then 0
    else s.msixWord off + (if width == 8 then 2 ^ 32 * s.msixWord (off + 4) else 0)))

/-- REGISTER_READ_CLEAR (R9): a full-width read of a BAR, or of configuration space (`bar` 6). -/
def execRegisterReadClear (bar off width : Nat) (s : State) : Result :=
  if barSize bar ≤ off then .fault .noSuchInstance
  else if bar == 6 then
    if cfgAccessOk off width then
      doneIf s s.cfgReached (s.emit (.readData 8 off (s.cfgWord (off / 4 * 4) / 2 ^ (8 * (off % 4)) % 2 ^ (8 * width))))
    else .fault .noSuchInstance
  else if width == 4 || width == 8 then
    if bar == 0 then readReg off width s
    else if off % width != 0 then .fault .noSuchInstance
    else hostAsk off s fun s => s.tableRead bar off width
  else .fault .noSuchInstance
/-- SHADOW_LOW_READ (R15). -/
def execShadowLowRead (off : Nat) (s : State) : Result := readReg off 4 s
/-- SHADOW_HIGH_READ (R15). -/
def execShadowHighRead (off : Nat) (s : State) : Result := readReg off 4 s

/-- A request of `bytes` bytes at `off` crosses an aligned 8-byte boundary, or is longer than 8. -/
def crosses (off bytes : Nat) : Bool := decide (8 < off % 8 + bytes)

/-- A read that R138 lets through returns the bytes asked for and touches nothing; a full-width aligned read of BAR0 is an
ordinary one. -/
def State.oddRead (s : State) (bar off bytes be : Nat) : State :=
  let full := (bytes == 4 || bytes == 8) && off % bytes == 0 && be % 2 ^ bytes == 2 ^ bytes - 1
  if bar == 0 && full then s.hostRead off bytes
  else s.emit (.readBytes bar off ((List.range bytes).map fun i => if be.testBit i then s.barByte bar (off + i) else 0#8))

/-- A request whose size, alignment or byte enables R138 names. A write that is aligned, of 4 or 8 bytes and fully enabled is not one:
it is REGISTER_WRITE. -/
def oddAccess (bar : Nat) (write : Bool) (off bytes be : Nat) (s : State) : Result :=
  if write then
    if (bytes == 4 || bytes == 8) && off % bytes == 0 && be % 2 ^ bytes == 2 ^ bytes - 1 then .next s
    else hostAct s State.badAccess
  else if crosses off bytes then hostAsk off s fun s => (s.badAccess.aer 15).emit (.completerAbort off)
  else hostAsk off s fun s => s.oddRead bar off bytes be

/-- BAD_BAR_ACCESS (R138, R148): a request that is not carried out as asked, or a TLP in error, which is discarded; an error in the
data of a read request is none, and an ECRC error counts while checking is on. A request outside every BAR is an Unsupported
Request. -/
def execBadBarAccess (bar : Nat) (write : Bool) (off bytes be : Nat) (fault : Option TlpFault) (s : State) : Result :=
  if barSize bar ≤ off || bar == 6 || bytes == 0 then .fault .noSuchInstance
  else
    let bad (e : TlpFault) (b : Bool) : Result :=
      if b then doneIf s s.barsReached (s.aer (TlpFault.bit e)) else oddAccess bar write off bytes be s
    match fault with
    | none => oddAccess bar write off bytes be s
    | some .outside =>
      doneIf s s.barsReached (if write then s.unsupported else s.unsupported.emit (.unsupported off))
    | some .poisoned => bad .poisoned write
    | some .ecrc => bad .ecrc s.cfg.ecrcCheck
    | some e => bad e true

/-! ## SMBus (R522) -/

/-- SMB_ALERT_N is low while an enabled bit of HLT_IRQ is set. -/
def State.smbAlert (s : State) : Bool := s.get .HLT_IRQ &&& s.get .HLT_IRQ_EN != 0

/-- The word the SMBus returns for an offset. -/
def State.smbusWord (s : State) (off : Nat) : Nat :=
  let readable := (off < 0x1000 || (0x60000 ≤ off && off < 0x61000)) && !crosses off 4 && (decide (s.power < 2) || off < 0x100)
  if readable then (List.range 4).foldl (fun w i => w + 2 ^ (8 * i) * (s.barByte 0 (off + i)).toNat) 0 else 0

/-- SMBUS_READ: a transaction for another address leaves the device alone; a wrong one is not acknowledged, nor is any before
boot ROM step 1. -/
def execSmbusRead (addr cmd len off : Nat) (pecOk : Bool) (s : State) : Result :=
  if addr != 0x60 + s.strapAddr then done s
  else if s.boot == .inReset || s.boot == .sramZero || cmd != 1 || len != 4 || !pecOk then done (s.emit .nack)
  else done (s.emit (.readData 5 off (s.smbusWord off)))

/-! ## JTAG (R438, R439, R524) -/

/-- The port grants access under bit `b` of a SCOPE: LAB, or a session whose port is open; in DOZE and SLEEP none (R448). -/
def State.jtagGrants (s : State) (b : Nat) : Bool :=
  decide (s.power < 2) && (s.get .DBG_STATE == 2 || (s.get .DBG_SESSION == 1 && s.get .DBG_PORT_OPEN == 1 && (s.get .DBG_SCOPE).testBit b))

/-- In LAB the port sees the always-on registers in DOZE and SLEEP too (R448): those of EVU and BAY (R532). -/
def State.jtagAsleep (s : State) (off : Nat) : Bool := decide (2 ≤ s.power) && s.get .DBG_STATE == 2 && blockClock off == 21

/-- One breach of the debug port over granules or lines, where there are any. -/
def State.jtagBreach (s : State) (exit cause : Nat) (gs : List Nat) : State :=
  match gs with
  | [] => s
  | g :: _ => s.breach exit cause 0x0800 gs.length g 0

/-- The granules of an access that a tag or the tag regions refuse: (sooted, tag regions). -/
def State.jtagRefused (s : State) (a n : Nat) : List Nat × List Nat :=
  let gs := granules a n
  (gs.filter fun g => s.granuleCause g == 1, gs.filter fun g => s.granuleCause g == 5)

/-- A memory read: refused granules read zero, each kind in one breach entry; poisoned ones read zero (R342). -/
def State.jtagRead (s : State) (a n : Nat) : State :=
  let r := s.jtagRefused a n
  let bytes := (List.range n).map fun i =>
    let g := (a + i) / 64 * 64
    if s.granuleCause g != 0 || (Tab.find? g s.poison).isSome then 0#8 else s.byteAt (a + i)
  ((s.jtagBreach 2 1 r.1).jtagBreach 6 5 r.2).emit (.readBytes 6 a bytes)

/-- A memory write leaves every tag as it is (R42, R44); tag regions refuse it; a granule written in full loses its poison
mark. Choararok's data holds no byte of the model, so a write there changes the free values it reads as. -/
def State.jtagWrite (s : State) (a : Nat) (b : Bytes) : State :=
  let n := min b.length (s.tagBase - a)
  let tags := (granules a b.length).filter fun g => s.granuleCause g == 5
  let s1 := { s with
    dram := memWrite s.dram a (b.take n)
    poison := s.poison.filter fun e => !(decide (a ≤ e.1) && decide (e.1 + 64 ≤ a + n))
    freeCtr := s.freeCtr + 1 }
  (s1.poisonSync).jtagBreach 6 5 tags

/-- HALT holds the control cores: WDG_FW stops. -/
def State.haltCores (s : State) : State :=
  if s.get .DBG_CORES_HALTED == 1 then s else (s.set .DBG_CORES_HALTED 0 1).set .WDG_RUNNING 1 0

/-- A register read: an aligned one clears RC fields; a narrower view of one 8-byte span does not (R14). -/
def State.jtagReg (s : State) (off : Nat) : State :=
  if off % 4 == 0 then (s.readClear off).emit (.readData 6 off (s.readWord off))
  else if crosses off 4 then s
  else s.emit (.readData 6 off ((List.range 4).foldl (fun w i => w + 2 ^ (8 * i) * (s.barByte 0 (off + i)).toNat) 0))

/-- One refused line, or working storage: no rule gives such a place a device address, so FIRST_ADDR is a free value (assumption 1). -/
def State.jtagNoAddr (s : State) (cause : Nat) : State :=
  let k := s.draw (2 ^ 40)
  (k.2.breach 2 cause 0x0800 1 k.1 0).emit (.readData 6 0 0)

/-- Data no field of State holds: a line of an on-chip store, a core's trace, the pins' levels (a free value, assumption 1). -/
def State.jtagFree (s : State) (off : Nat) : State :=
  let k := s.draw (2 ^ 512)
  k.2.emit (.readData 6 off k.1)

/-- A read of line `n` of the staging store, or of the tile store (R46, R438). -/
def State.jtagLine (s : State) (staging : Bool) (n : Nat) : State :=
  if !decide (n < (if staging then Config.pageSlots * slotLines else 16 * sliceLines)) then s
  else if (if staging then s.stagingLine n else s.tileLine n) then s.jtagNoAddr 2
  else s.jtagFree n

/-- What one access does where the port grants it. A step of a halted core changes nothing that State holds (00_scope.md). -/
def State.jtag (s : State) : JtagReq → State
  | .idcode => s.emit (.readData 6 0 0x109607AB)
  | .bypass => s
  | .boundaryScan => if s.get .DBG_STATE == 2 then s.jtagFree 0 else s
  | .regRead off => if s.jtagGrants 2 || off == 0x30000 || s.jtagAsleep off then s.jtagReg off else s
  | .regWrite off v =>
    if !s.jtagGrants 2 then s
    else if off % 4 != 0 then s.badAccess
    else s.write32 off v (s.get .DBG_STATE == 2)
  | .memRead a n => if s.jtagGrants 2 && decide (a + n ≤ s.dramBytes) then s.jtagRead a n else s
  | .memWrite a b => if s.jtagGrants 2 && decide (a + b.length ≤ s.dramBytes) then s.jtagWrite a b else s
  | .lineRead staging n => if s.jtagGrants 2 then s.jtagLine staging n else s
  | .workingRead => if s.jtagGrants 2 then s.jtagNoAddr 6 else s
  | .haltCores => if s.jtagGrants 0 then s.haltCores else s
  | .stepCores => s
  | .resumeCores => if s.jtagGrants 0 then s.resumeCores else s
  | .trace => if s.jtagGrants 1 then s.jtagFree 0 else s

/-- JTAG_ACCESS: in reset the port gives its IDCODE only. -/
def execJtagAccess (req : JtagReq) (s : State) : Result :=
  if !s.aonValid then .next s
  else if s.boot == .inReset && req != .idcode then done s
  else done (s.jtag req)

/-- TAP_RESET (R524): the TAP alone. -/
def execTapReset (s : State) : Result := doneIf s s.aonValid s

end Sys2Proof.Machine
end

