-- ==== Sys2Proof/Machine/Dispatch.lean ====
section
/-! DEFINITION. Sys2Proof/Machine/Dispatch.lean: one arm per command. -/

namespace Sys2Proof.Machine

def exec (i : Instr) (s : State) : Host.Outcome State Fault Refusal :=
  match i with
  | .nop => Sys2Proof.Machine.execNop s
  | .fenceCreate h => Sys2Proof.Machine.execFenceCreate h s
  | .fenceDestroy => Sys2Proof.Machine.execFenceDestroy s
  | .fenceSignal => Sys2Proof.Machine.execFenceSignal s
  | .fenceWait => Sys2Proof.Machine.execFenceWait s
  | .fenceWaitTimeout p => Sys2Proof.Machine.execFenceWaitTimeout p s
  | .barrier => Sys2Proof.Machine.execBarrier s
  | .barrierComplete p => Sys2Proof.Machine.execBarrierComplete p s
  | .streamOpen => Sys2Proof.Machine.execStreamOpen s
  | .streamFeed => Sys2Proof.Machine.execStreamFeed s
  | .feedCopyDone k fseq au => Sys2Proof.Machine.execFeedCopyDone k fseq au s
  | .streamFlush => Sys2Proof.Machine.execStreamFlush s
  | .streamClose => Sys2Proof.Machine.execStreamClose s
  | .streamCloseComplete k => Sys2Proof.Machine.execStreamCloseComplete k s
  | .streamReconfig => Sys2Proof.Machine.execStreamReconfig s
  | .modelLoad => Sys2Proof.Machine.execModelLoad s
  | .modelLoadCopyDone p image sigOk => Sys2Proof.Machine.execModelLoadCopyDone p image sigOk s
  | .modelUnload => Sys2Proof.Machine.execModelUnload s
  | .pipelineBind desc => Sys2Proof.Machine.execPipelineBind desc s
  | .pipelineUnbind => Sys2Proof.Machine.execPipelineUnbind s
  | .pipelineUnbindDone k => Sys2Proof.Machine.execPipelineUnbindDone k s
  | .treeLoad => Sys2Proof.Machine.execTreeLoad s
  | .treeLoadCopyDone p image sigOk => Sys2Proof.Machine.execTreeLoadCopyDone p image sigOk s
  | .treeUnload => Sys2Proof.Machine.execTreeUnload s
  | .flueConfig zones => Sys2Proof.Machine.execFlueConfig zones s
  | .metadataRingSet => Sys2Proof.Machine.execMetadataRingSet s
  | .scrub => Sys2Proof.Machine.execScrub s
  | .scrubDone => Sys2Proof.Machine.execScrubDone s
  | .pairBind => Sys2Proof.Machine.execPairBind s
  | .pairHandshakeDone outcome => Sys2Proof.Machine.execPairHandshakeDone outcome s
  | .pairBindTimeout => Sys2Proof.Machine.execPairBindTimeout s
  | .pairRole norOk => Sys2Proof.Machine.execPairRole norOk s
  | .takeoverRollDone => Sys2Proof.Machine.execTakeoverRollDone s
  | .mirrorConfig => Sys2Proof.Machine.execMirrorConfig s
  | .bayControl => Sys2Proof.Machine.execBayControl s
  | .powerSet => Sys2Proof.Machine.execPowerSet s
  | .powerTransitionStart => Sys2Proof.Machine.execPowerTransitionStart s
  | .powerWake src => Sys2Proof.Machine.execPowerWake src s
  | .wakeComplete verified rates => Sys2Proof.Machine.execWakeComplete verified rates s
  | .healthQuery => Sys2Proof.Machine.execHealthQuery s
  | .updateBegin norOk => Sys2Proof.Machine.execUpdateBegin norOk s
  | .updateChunk data norOk => Sys2Proof.Machine.execUpdateChunk data norOk s
  | .updateVerify rootOk sigOk norOk => Sys2Proof.Machine.execUpdateVerify rootOk sigOk norOk s
  | .updateActivate norOk => Sys2Proof.Machine.execUpdateActivate norOk s
  | .updateConfirm norOk copies => Sys2Proof.Machine.execUpdateConfirm norOk copies s
  | .debugToken token sigOk => Sys2Proof.Machine.execDebugToken token sigOk s
  | .attest nonce => Sys2Proof.Machine.execAttest nonce s
  | .clientReset => Sys2Proof.Machine.execClientReset s
  | .clientResetDone c => Sys2Proof.Machine.execClientResetDone c s
  | .commandDoorbell c off width v => Sys2Proof.Machine.execCommandDoorbell c off width v s
  | .completionDoorbell c v => Sys2Proof.Machine.execCompletionDoorbell c v s
  | .packetFetch c words => Sys2Proof.Machine.execPacketFetch c words s
  | .fetchRetry c read => Sys2Proof.Machine.execFetchRetry c read s
  | .deviceReadFail kind requester => Sys2Proof.Machine.execDeviceReadFail kind requester s
  | .clientFlush c tag headers fail => Sys2Proof.Machine.execClientFlush c tag headers fail s
  | .clientEnableWrite c v => Sys2Proof.Machine.execClientEnableWrite c v s
  | .cplFenceWrite c v => Sys2Proof.Machine.execCplFenceWrite c v s
  | .metaTailWrite c v => Sys2Proof.Machine.execMetaTailWrite c v s
  | .evuRingCtrlWrite v => Sys2Proof.Machine.execEvuRingCtrlWrite v s
  | .evuRingTailWrite v => Sys2Proof.Machine.execEvuRingTailWrite v s
  | .warmResetWrite v => Sys2Proof.Machine.execWarmResetWrite v s
  | .debugEndWrite v => Sys2Proof.Machine.execDebugEndWrite v s
  | .labArmWrite v => Sys2Proof.Machine.execLabArmWrite v s
  | .wdgCheckin w v byHost => Sys2Proof.Machine.execWdgCheckin w v byHost s
  | .wdgPeriodWrite w v byHost => Sys2Proof.Machine.execWdgPeriodWrite w v byHost s
  | .wdgEnableWrite w v byHost => Sys2Proof.Machine.execWdgEnableWrite w v byHost s
  | .wrenRetrainWrite v => Sys2Proof.Machine.execWrenRetrainWrite v s
  | .wrenWidthReq v => Sys2Proof.Machine.execWrenWidthReq v s
  | .mirrorResyncWrite k v => Sys2Proof.Machine.execMirrorResyncWrite k v s
  | .cleanEighthsWrite v => Sys2Proof.Machine.execCleanEighthsWrite v s
  | .irqEnableWrite off v => Sys2Proof.Machine.execIrqEnableWrite off v s
  | .registerWrite bar off width v => Sys2Proof.Machine.execRegisterWrite bar off width v s
  | .registerReadClear bar off width => Sys2Proof.Machine.execRegisterReadClear bar off width s
  | .shadowLowRead off => Sys2Proof.Machine.execShadowLowRead off s
  | .shadowHighRead off => Sys2Proof.Machine.execShadowHighRead off s
  | .badBarAccess bar write off bytes be fault => Sys2Proof.Machine.execBadBarAccess bar write off bytes be fault s
  | .msixUnblock vec enable fmask => Sys2Proof.Machine.execMsixUnblock vec enable fmask s
  | .pmcsrD3hot => Sys2Proof.Machine.execPmcsrD3hot s
  | .busMasterEnableWrite bme mse => Sys2Proof.Machine.execBusMasterEnableWrite bme mse s
  | .functionLevelReset gctlReset => Sys2Proof.Machine.execFunctionLevelReset gctlReset s
  | .flrComplete => Sys2Proof.Machine.execFlrComplete s
  | .smbusRead addr cmd len off pecOk => Sys2Proof.Machine.execSmbusRead addr cmd len off pecOk s
  | .jtagAccess req => Sys2Proof.Machine.execJtagAccess req s
  | .tapReset => Sys2Proof.Machine.execTapReset s
  | .powerOnReset vddLost => Sys2Proof.Machine.execPowerOnReset vddLost s
  | .aonValid => Sys2Proof.Machine.execAonValid s
  | .coldReset bay => Sys2Proof.Machine.execColdReset bay s
  | .resetRelease => Sys2Proof.Machine.execResetRelease s
  | .hotReset => Sys2Proof.Machine.execHotReset s
  | .sramZeroDone => Sys2Proof.Machine.execSramZeroDone s
  | .bootStepDone outcome => Sys2Proof.Machine.execBootStepDone outcome s
  | .hostLinkDown ltssm => Sys2Proof.Machine.execHostLinkDown ltssm s
  | .dlUpReturn speed width => Sys2Proof.Machine.execDlUpReturn speed width s
  | .linkWidthReduce lane errs => Sys2Proof.Machine.execLinkWidthReduce lane errs s
  | .clockLoss id => Sys2Proof.Machine.execClockLoss id s
  | .thermalTrip sensor temp => Sys2Proof.Machine.execThermalTrip sensor temp s
  | .pwrdnReq => Sys2Proof.Machine.execPwrdnReq s
  | .supplyWarn rail mv avs => Sys2Proof.Machine.execSupplyWarn rail mv avs s
  | .supplyRailClear rail => Sys2Proof.Machine.execSupplyRailClear rail s
  | .warningStateClear => Sys2Proof.Machine.execWarningStateClear s
  | .avsOffsetRaise margin => Sys2Proof.Machine.execAvsOffsetRaise margin s
  | .hltIntervalEnd margin dieTemp dramTemp => Sys2Proof.Machine.execHltIntervalEnd margin dieTemp dramTemp s
  | .governorRecompute => Sys2Proof.Machine.execGovernorRecompute s
  | .tamper src => Sys2Proof.Machine.execTamper src s
  | .bayInputDebounced input level => Sys2Proof.Machine.execBayInputDebounced input level s
  | .bayPowerTimeout => Sys2Proof.Machine.execBayPowerTimeout s
  | .bayPerstRelease => Sys2Proof.Machine.execBayPerstRelease s
  | .bayPwrenDrop => Sys2Proof.Machine.execBayPwrenDrop s
  | .bayPoweroffEnd => Sys2Proof.Machine.execBayPoweroffEnd s
  | .bayPerstPulseEnd => Sys2Proof.Machine.execBayPerstPulseEnd s
  | .bayLedToggle => Sys2Proof.Machine.execBayLedToggle s
  | .tick => Sys2Proof.Machine.execTick s
  | .eventGroup => Sys2Proof.Machine.execEventGroup s
  | .breachLogAppend => Sys2Proof.Machine.execBreachLogAppend s
  | .wdgPeriodEnd w => Sys2Proof.Machine.execWdgPeriodEnd w s
  | .wdgPrewarn w => Sys2Proof.Machine.execWdgPrewarn w s
  | .fwRestartDone => Sys2Proof.Machine.execFwRestartDone s
  | .leaseExpire => Sys2Proof.Machine.execLeaseExpire s
  | .debugSessionExpire => Sys2Proof.Machine.execDebugSessionExpire s
  | .trialConfirmTimeout => Sys2Proof.Machine.execTrialConfirmTimeout s
  | .decodeStart e => Sys2Proof.Machine.execDecodeStart e s
  | .decodeDone e out => Sys2Proof.Machine.execDecodeDone e out s
  | .decodeOverrun e au => Sys2Proof.Machine.execDecodeOverrun e au s
  | .decodeEngineFault e cause au => Sys2Proof.Machine.execDecodeEngineFault e cause au s
  | .selftestDone unit passed => Sys2Proof.Machine.execSelftestDone unit passed s
  | .preprocessStart => Sys2Proof.Machine.execPreprocessStart s
  | .batchEnqueue => Sys2Proof.Machine.execBatchEnqueue s
  | .preprocessFault => Sys2Proof.Machine.execPreprocessFault s
  | .jobEntryGrant => Sys2Proof.Machine.execJobEntryGrant s
  | .pageStageStart => Sys2Proof.Machine.execPageStageStart s
  | .pageStageDone => Sys2Proof.Machine.execPageStageDone s
  | .jobIssue unit => Sys2Proof.Machine.execJobIssue unit s
  | .jobComplete unit out => Sys2Proof.Machine.execJobComplete unit out s
  | .frameDeadline k fseq => Sys2Proof.Machine.execFrameDeadline k fseq s
  | .computeUnitFault unit cause => Sys2Proof.Machine.execComputeUnitFault unit cause s
  | .stagingStoreUe slot line => Sys2Proof.Machine.execStagingStoreUe slot line s
  | .treeLaneFault lane cause => Sys2Proof.Machine.execTreeLaneFault lane cause s
  | .fluePass k writes bad => Sys2Proof.Machine.execFluePass k writes bad s
  | .mirrorEncodeDone m bytes => Sys2Proof.Machine.execMirrorEncodeDone m bytes s
  | .mirrorDecodeDone m ok => Sys2Proof.Machine.execMirrorDecodeDone m ok s
  | .mirrorEncoderFault m cause => Sys2Proof.Machine.execMirrorEncoderFault m cause s
  | .dramAgePromotion ch => Sys2Proof.Machine.execDramAgePromotion ch s
  | .dramTempRead ch temp => Sys2Proof.Machine.execDramTempRead ch temp s
  | .trackingPass ch rd wr => Sys2Proof.Machine.execTrackingPass ch rd wr s
  | .runtimeRetrainDone ch rate => Sys2Proof.Machine.execRuntimeRetrainDone ch rate s
  | .patrolRead ch => Sys2Proof.Machine.execPatrolRead ch s
  | .dramCe addr => Sys2Proof.Machine.execDramCe addr s
  | .dramUe addr => Sys2Proof.Machine.execDramUe addr s
  | .tagWordUe ch word => Sys2Proof.Machine.execTagWordUe ch word s
  | .admissionRecompute => Sys2Proof.Machine.execAdmissionRecompute s
  | .degradeUndo => Sys2Proof.Machine.execDegradeUndo s
  | .wrenTrainAdvance lanes => Sys2Proof.Machine.execWrenTrainAdvance lanes s
  | .widthWindowEnd => Sys2Proof.Machine.execWidthWindowEnd s
  | .wrenAutoPropose lane errs => Sys2Proof.Machine.execWrenAutoPropose lane errs s
  | .laneLockLoss lane => Sys2Proof.Machine.execLaneLockLoss lane s
  | .wrenLinkDown reason => Sys2Proof.Machine.execWrenLinkDown reason s
  | .wrenKeepaliveExpire => Sys2Proof.Machine.execWrenKeepaliveExpire s
  | .wrenFrameTx => Sys2Proof.Machine.execWrenFrameTx s
  | .wrenCreditSend => Sys2Proof.Machine.execWrenCreditSend s
  | .wrenTickSend cycle => Sys2Proof.Machine.execWrenTickSend cycle s
  | .rekeyStart => Sys2Proof.Machine.execRekeyStart s
  | .trainCfgRx serial b8 => Sys2Proof.Machine.execTrainCfgRx serial b8 s
  | .creditRx ack limMirror limEpoch w3 => Sys2Proof.Machine.execCreditRx ack limMirror limEpoch w3 s
  | .tickRx tick cycle own => Sys2Proof.Machine.execTickRx tick cycle own s
  | .pairFrameRx => Sys2Proof.Machine.execPairFrameRx s
  | .keyFrameRx last => Sys2Proof.Machine.execKeyFrameRx last s
  | .faultFrameRx code ch => Sys2Proof.Machine.execFaultFrameRx code ch s
  | .retrainReqRx => Sys2Proof.Machine.execRetrainReqRx s
  | .pingRx count echo own => Sys2Proof.Machine.execPingRx count echo own s
  | .mirrorFrameRx ctx body => Sys2Proof.Machine.execMirrorFrameRx ctx body s
  | .epochFrameRx ctx body => Sys2Proof.Machine.execEpochFrameRx ctx body s
  | .epochStart => Sys2Proof.Machine.execEpochStart s
  | .snapshotDeadline => Sys2Proof.Machine.execSnapshotDeadline s
  | .wrenEqAdapt lane steps => Sys2Proof.Machine.execWrenEqAdapt lane steps s
  | .wrenEyeMeasure lane h w => Sys2Proof.Machine.execWrenEyeMeasure lane h w s
  | .ageingSample osc ce => Sys2Proof.Machine.execAgeingSample osc ce s
  | .trngHealthFail => Sys2Proof.Machine.execTrngHealthFail s
  | .tileStoreUe a line => Sys2Proof.Machine.execTileStoreUe a line s
  | .hostLinkUp ltssm speed width => Sys2Proof.Machine.execHostLinkUp ltssm speed width s
  | .linkRecovery phase => Sys2Proof.Machine.execLinkRecovery phase s
  | .wrenFrameReject tagBad => Sys2Proof.Machine.execWrenFrameReject tagBad s
  | .pmcsrD0Write => Sys2Proof.Machine.execPmcsrD0Write s
  | .pwrokRise strap => Sys2Proof.Machine.execPwrokRise strap s

end Sys2Proof.Machine
end

