-- ==== Sys2Proof/Safety.lean ====
section
/-! DEFINITION. Sys2Proof/Safety.lean: the invariants that statements speak of: the canonical forms of the tables, and the
registers that follow the state. -/

namespace Sys2Proof.Machine

/-- The registers that follow the state agree with it: FLU_STATUS.FENCED (R90), SCH_JOBS (R302), PGR_RESIDENT, MODELS and
ENSEMBLES (R303), DB_LATCHED (R123), and CERT_STATE (R61, R62). -/
def State.Settled (s : State) : Prop :=
  s.get .FLU_FENCED = Num.b2n s.fencedReg ∧
  s.get .SCH_JOBS = s.jobs.countP Job.entry ∧
  s.get .SCH_PKT_JOBS = s.jobs.countP (fun j => j.entry && j.pkt.isSome) ∧
  s.get .PGR_RESIDENT = s.pageSlots.length ∧
  s.get .PGR_MODELS = s.objects.countP (fun o => !o.2.isTree) ∧
  s.get .PGR_ENSEMBLES = s.objects.countP (fun o => o.2.isTree) ∧
  s.get .DS_DB_LATCHED = Num.b2n (!s.dbLatch.isEmpty) ∧
  s.get .CERT_REASON = s.certReason ∧
  s.get .CERT_CERTIFIED = Num.b2n (s.certReason == 0) ∧
  s.get .CERT_LIFETIME_OUT = Num.b2n (s.certReason % 4 != 0)

/-! ## Frames -/

/-- The state less its register file and the parts that replies and messages touch: a packet that completes takes its copy job and its
reads with it. -/
def State.quiet (s : State) : State :=
  { s with
    fields := [], packets := [], captured := [], egress := [], fences := [], msixPba := [], staged := [], crossing := [], reads := [],
    jobs := s.jobs.filter fun j => j.pkt.isNone }

/-- The counters of discarded writes (R97, R147). -/
def linkCounts : Field → Bool
  | .GCTL_LINK_DISCARDS | .HLT_XING_DISCARDS => true
  | _ => false

/-- The registers a reply touches (R168 to R170). -/
def replyFields (f : Field) : Bool := linkCounts f || f == .CL_INFLIGHT || f == .CL_CPL_HEAD

/-- The registers that follow the state, SEC_SOOT_IRQ (R62), and the counters of discarded messages. -/
def settleFields : Field → Bool
  | .FLU_FENCED | .SCH_JOBS | .SCH_PKT_JOBS | .PGR_RESIDENT | .PGR_MODELS | .PGR_ENSEMBLES | .DS_DB_LATCHED | .CERT_REASON
  | .CERT_CERTIFIED | .CERT_LIFETIME_OUT | .SEC_SOOT_IRQ => true
  | f => linkCounts f

/-- From `s` to `t` only registers of `F` and the parts that `quiet` leaves out have changed, and nothing put on the wire is taken
back. -/
def Keeps (F : Field → Bool) (s t : State) : Prop :=
  (∀ f i, F f = false → t.get f i = s.get f i) ∧ t.quiet = s.quiet ∧ ∃ l, t.egress = s.egress ++ l

/-- The registers a packet command touches besides those of its own effect. -/
def packetFields (f : Field) : Bool := replyFields f || settleFields f

/-! ## What statements about commands speak of -/

/-- `p` is the packet that starts next, and the packets in flight have different numbers. -/
def State.Starts (s : State) (p : Pkt) : Prop := s.nextStart = some p ∧ (s.packets.map Pkt.id).Nodup

/-- Packets in flight have different numbers, all below the next one (R165). -/
def State.PktIds (s : State) : Prop := (s.packets.map Pkt.id).Nodup ∧ ∀ p ∈ s.packets, p.id < s.nextPkt

/-- Between `s` and `t` the device puts `x` on the wire. -/
def Sent (s t : State) (x : Egress) : Prop := ∃ l, t.egress = s.egress ++ l ∧ x ∈ l

/-- Between `s` and `t` the device puts `x` on the wire, or in the crossing while it is full (R147, R155). -/
def Posted (s t : State) (x : Egress) : Prop := if s.held = true then x ∈ t.crossing else Sent s t x

/-- Between `s` and `t` the device writes reply `r` to packet `p` (R168), formed in `tick`, in its slot (R162); while the crossing is
full the reply waits in the staging store (R147). -/
def RepliedAt (s t : State) (p : Pkt) (tick : Nat) (r : Reply) : Prop :=
  if s.held = true then (⟨p.id, r, tick⟩ : Staged) ∈ t.staged
  else ∃ slot, Sent s t (.reply p.client slot (s.replyAddr p.client slot) (replyWords (p.w 1) tick r))

/-- As `RepliedAt`, in the tick of `s`. -/
def Replied (s t : State) (p : Pkt) (r : Reply) : Prop := RepliedAt s t p s.now r

/-- Between `s` and `t` the bytes `b` are written to host memory at `a`, in writes no longer than Max_Payload_Size (R146). -/
def Written (s t : State) (a : Nat) (b : Bytes) : Prop :=
  ∀ i, i < b.length → ∃ x c, Posted s t (.block x c) ∧ c.length ≤ s.writeMax ∧ x ≤ a + i ∧ a + i < x + c.length ∧
    c.getD (a + i - x) 0#8 = b.getD i 0#8

/-- No part of a metadata record is put on the wire between `s` and `t`. -/
def NoRecord (s t : State) : Prop :=
  ∃ l, t.egress = s.egress ++ l ∧ ∀ x ∈ l, ∀ c n a, (∀ ws, x ≠ .record c n a ws) ∧ ∀ w, x ≠ .recordHead c n a w

/-- `c` answers a next state that `P` holds of. -/
def Runs (c : Instr) (s : State) (P : State → Prop) : Prop := ∃ t, exec c s = .next t ∧ P t

/-- The effect of the copy command of opcode `op` for packet `p` is worked out in `u`: a copy that waited may end, or `p` starts next,
passes its first checks and has no copy or one that may end at once (R146, R173, R282). -/
def State.CopyReady (s : State) (op : Nat) (pre : State → Pkt → List (Bool × Reply)) (job : Option Nat) (src : Option (Nat × Nat))
    (p : Pkt) (u : State) : Prop :=
  (s.packets.map Pkt.id).Nodup ∧
  ((s.reading op = some p ∧ u = s.endRead p.id) ∨
   (s.reading op = none ∧ s.nextStart = some p ∧ p.opcode = op ∧ firstBad (pre s p) = none ∧
     if job.isNone && src.isNone then u = s.markStarted p.id
     else ((s.markStarted p.id).startCopy p job src).readMayEnd p.id = true ∧
       u = ((s.markStarted p.id).startCopy p job src).endRead p.id))

/-- What command `c` of opcode `op` does where its packet starts and no copy of its kind may end: a check that fails is answered, and a
copy that cannot end at once waits with its job (R282) and its transfer (R146, R158). -/
def StartsCopy (c : Instr) (op : Nat) (pre : State → Pkt → List (Bool × Reply)) (job : Pkt → Option Nat)
    (src : Pkt → Option (Nat × Nat)) : Prop :=
  ∀ (s : State) (p : Pkt), s.Starts p → s.reading op = none → p.opcode = op →
    (∀ r, firstBad (pre s p) = some r → s.linkClosed = false → Runs c s fun t => Replied s t p r) ∧
    (firstBad (pre s p) = none → (job p).isSome = true ∨ (src p).isSome = true →
      ((s.markStarted p.id).startCopy p (job p) (src p)).readMayEnd p.id = false →
      Runs c s fun t => t.pkt? p.id = some { p with started := true, startTick := s.now } ∧
        (∀ cls, job p = some cls → ∃ j ∈ t.jobs, j.kind = .copy ∧ j.cls = cls ∧ j.pkt = some p.id) ∧
        ((src p).isSome = true → ∃ r ∈ t.reads, r.pkt = p.id))

/-- A host access reaches the BARs and they are open (R137, R148, R158, R446). -/
def State.HostOpen (s : State) : Prop := s.barsReached = true ∧ s.barsOpen = true

/-- Of the registers, only those of `F` in block `i`, and the ones that follow the state, differ between `s` and `t`. -/
def RegsBut (F : Field → Bool) (i : Nat) (s t : State) : Prop :=
  ∀ f j, settleFields f = false → F f = false ∨ j ≠ i → t.get f j = s.get f j

/-- Nothing but registers of `F` in block `i`, and the ones that follow the state, differs between `s` and `t`; what goes on the
wire is added. -/
def KeepsBlock (F : Field → Bool) (i : Nat) (s t : State) : Prop :=
  RegsBut F i s t ∧ t.quiet = s.quiet ∧ t.packets = s.packets ∧ t.jobs = s.jobs ∧ t.reads = s.reads ∧ t.staged = s.staged ∧
    t.fences = s.fences ∧ ∃ l, t.egress = s.egress ++ l

/-- Nothing but the Wren link, registers of `F` and the ones that follow the state differs between `s` and `t`. -/
def KeepsWren (F : Field → Bool) (s t : State) : Prop :=
  (∀ f i, settleFields f = false → F f = false → t.get f i = s.get f i) ∧ { t.quiet with w := {} } = { s.quiet with w := {} } ∧
    t.packets = s.packets ∧ t.fences = s.fences ∧ ∃ l, t.egress = s.egress ++ l

/-- Vector `v` is signalled between `s` and `t`: its message is sent, or it pends where it is blocked in `s` (R139 to R141). -/
def Signalled (s t : State) (v : Nat) : Prop :=
  if s.msixBlocked v then (Tab.find? v t.msixPba).isSome = true
  else (Tab.find? v s.msixPba).isSome = false → s.linkDead = false → Posted s t (.msix v (s.msixEntry v).addr (s.msixEntry v).data)

/-- Event `code` is raised between `s` and `t`: its bit of EVU_PENDING is set, and unless the last group of a stopped tick is
written, it waits for its group with the tick of `s`, or of the next one where it comes out of its rank (R99, R102, R110). -/
def Raised (s t : State) (code src d0 d1 d2 : Nat) : Prop :=
  (t.get .EVU_PENDING).testBit code = true ∧
    ((s.get .EVU_TICK_STOPPED = 1 ∧ s.staleWritten = true) ∨ ⟨(s.inRank code src).now, code, src, d0, d1, d2⟩ ∈ t.captured)

/-- The link of `s` has gone down for `reason` in `t`, and trains again (R360, R410). -/
def WrenDown (s t : State) (reason : Nat) : Prop :=
  t.get .WRN_REASON = reason ∧ t.get .WRN_SESSION = 0 ∧ t.get .WRN_PARTNER_ROLE = 7 ∧ t.get .WRN_LSTATE = 1 ∧
    (t.get .EVU_PENDING).testBit 7 = true ∧ ((s.inRank 7 0).treatment 7 = .apply → s.role = 1 → t.role = 2)

/-- The registers of a unit that its faults and self-tests move (in service, faulted, self-test, cause, number), and the CAUSE a
passed self-test leaves (R230, R278, R397). -/
def unitRegs : UnitName → Option ((Field × Field × Field × Field) × Nat × Nat)
  | .dec n => some ((.DEC_IN_SERVICE, .DEC_FAULTED, .DEC_SELFTEST, .DEC_CAUSE), n, 4)
  | .array n => some ((.AR_IN_SERVICE, .AR_FAULTED, .AR_SELFTEST, .AR_CAUSE), n, 5)
  | .cluster n => some ((.CL_IN_SERVICE, .CL_FAULTED, .CL_SELFTEST, .CL_CAUSE), n, 5)
  | .fft => some ((.FFT_IN_SERVICE, .FFT_FAULTED, .FFT_SELFTEST, .FFT_CAUSE), 0, 5)
  | .menc n => some ((.MENC_IN_SERVICE, .MENC_FAULTED, .MENC_SELFTEST, .MENC_CAUSE), n, 5)
  | .lane _ => none

/-! ## What a family of commands leaves alone -/

/-- Registers of the board and of the machine as a whole: the host link, roles, power, debug, fuses and keys, tamper, watchdogs,
the bay, the Wren link's state, and where the host keeps its rings. -/
def boardField : Field → Bool
  | .GCTL_SERIAL | .DS_SLOT | .DS_TRIAL | .RC_CAUSE | .LINK_BME | .LINK_DOWN | .LINK_DL_UP | .LINK_WIDTH | .LINK_SPEED | .ROLE
  | .LEASE_VALID | .GCTL_GEN | .GCTL_LEASE_END | .PWR_STATE | .PWR_D3HOT_MAP | .EVU_RING_EN | .EVU_RING_BASE | .EVU_RING_LOG2
  | .DBG_STATE | .DBG_SESSION | .DBG_PORT_OPEN | .DBG_SCOPE | .SEC_DBG_EXPIRY | .FUSE_PROVISIONED | .FUSE_LAB | .FUSE_ROLLBACK
  | .FUSE_PAIR_EPOCH | .KEY_IDENTITY_OK | .KEY_MODEL_OK | .KEY_DEBUG_OK | .TAMPER_LATCHED | .SEC_TAMPER_EN | .SOOT_LOCK
  | .WDG_PERIOD | .WDG_ENABLE | .WDG_CHECKED | .BAY_PWREN | .BAY_PERST | .BAY_LED | .BAY_SLOT_STATE | .WRN_LSTATE | .WRN_WIDTH
  | .WRN_LANE | .WRN_SESSION | .CL_CMD_BASE | .CL_CMD_LOG2 | .CL_CPL_BASE | .CL_CPL_LOG2 | .CL_ENABLE => true
  | _ => false

/-- Configuration space less the errors it reports (R148). -/
def Cfg.noErrors (c : Cfg) : Cfg := { c with uncStatus := 0, firstErr := 0, header := [] }

/-- The board is as it was: pins, boot, configuration space, fuses, NOR and firmware, keys, partner, power, bay and clocks. -/
def SameBoard (s t : State) : Prop :=
  (∀ f i, boardField f = true → t.get f i = s.get f i) ∧ t.boot = s.boot ∧ t.bme = s.bme ∧ t.mse = s.mse ∧ t.d3hot = s.d3hot ∧
    t.cfg.noErrors = s.cfg.noErrors ∧ t.msixTable = s.msixTable ∧ t.fuses = s.fuses ∧ t.nor = s.nor ∧ t.fw = s.fw ∧ t.partner = s.partner ∧
    t.storedGen = s.storedGen ∧ t.power = s.power ∧ t.bay = s.bay ∧ t.clockLost = s.clockLost ∧ t.thermal = s.thermal

/-- Commands that work on fences, streams, objects, pipelines, frames, jobs and memory. -/
def streamWork : Instr → Bool
  | .nop | .fenceCreate _ | .fenceDestroy | .fenceSignal | .fenceWait | .fenceWaitTimeout _ | .barrier | .barrierComplete _
  | .streamOpen | .streamFeed | .feedCopyDone .. | .streamFlush | .streamClose | .streamCloseComplete _ | .streamReconfig
  | .modelLoad | .modelLoadCopyDone .. | .modelUnload | .pipelineBind _ | .pipelineUnbind | .pipelineUnbindDone _ | .treeLoad
  | .treeLoadCopyDone .. | .treeUnload | .flueConfig _ | .metadataRingSet | .scrub | .scrubDone | .mirrorConfig | .healthQuery
  | .clientFlush .. | .cplFenceWrite .. | .metaTailWrite .. | .decodeStart _ | .decodeDone .. | .decodeOverrun .. | .preprocessStart
  | .batchEnqueue | .preprocessFault | .jobEntryGrant | .pageStageStart | .pageStageDone | .jobIssue _ | .jobComplete ..
  | .frameDeadline .. | .fluePass .. | .mirrorEncodeDone .. | .mirrorDecodeDone .. | .admissionRecompute | .degradeUndo => true
  | _ => false

/-- What streams and memory hold is as it was. -/
def SameStreams (s t : State) : Prop :=
  t.streams = s.streams ∧ t.objects = s.objects ∧ t.dram = s.dram ∧ t.soot = s.soot ∧ t.allocs = s.allocs ∧
    t.pageSlots = s.pageSlots ∧ ∀ i, t.get .CTX_STATE i = s.get .CTX_STATE i ∧ t.get .CTX_OWNER i = s.get .CTX_OWNER i ∧
      t.get .FLU_BUDGET_BITS i = s.get .FLU_BUDGET_BITS i ∧ t.get .FLU_KIND_EN i = s.get .FLU_KIND_EN i ∧
      t.get .PP_BOUND i = s.get .PP_BOUND i

/-- Commands that work on the board: the bay, check-ins, debug and update packets, power requests, reads of the ports, the event
ring, and the Wren link's equaliser and timers. -/
def boardWork : Instr → Bool
  | .bayControl | .bayInputDebounced .. | .bayPowerTimeout | .bayPerstRelease | .bayPwrenDrop | .bayPoweroffEnd
  | .bayPerstPulseEnd | .bayLedToggle | .wdgCheckin .. | .wdgPeriodWrite .. | .wdgEnableWrite .. | .wdgPrewarn _ | .updateBegin _
  | .updateChunk .. | .updateVerify .. | .updateActivate _ | .updateConfirm .. | .debugToken .. | .attest _ | .debugEndWrite _
  | .debugSessionExpire | .powerSet | .smbusRead .. | .tapReset | .evuRingCtrlWrite _ | .evuRingTailWrite _ | .eventGroup
  | .breachLogAppend | .tick | .ageingSample .. | .trngHealthFail | .wrenEqAdapt .. | .wrenEyeMeasure .. | .dramAgePromotion _
  | .trackingPass .. | .patrolRead _ | .commandDoorbell .. | .completionDoorbell .. | .packetFetch ..
  | .clientEnableWrite .. | .msixUnblock .. | .busMasterEnableWrite .. | .pwrokRise _ => true
  | _ => false

/-- Frame `fseq` of stream `k` is there, and `P` holds of it. -/
def State.HasFrame (s : State) (k fseq : Nat) (P : Frame → Prop) : Prop :=
  ∃ st f, s.stream? k = some st ∧ st.frame? fseq = some f ∧ P f

end Sys2Proof.Machine
end

