-- ==== Sys2Proof/Certificates/Slice0/Obligations.lean ====
section
/-! DEFINITION. Sys2Proof/Certificates/Slice0/Obligations.lean: the statements for the provers. A statement's docstring names the
rules it rests on and, where it rests on a choice of the model, the log entry. `Runs c s P` says that `c` completes from `s` in a
state that `P` holds of. -/

open Sys2Proof Sys2Proof.Machine


/-! ## The block as a whole -/

/-- A step takes the command at the front of the queue and runs it on the state with the queue's rest; on an empty queue the
block idles. The queue and its idling are the model's (log entry 18). -/
def Obligations.StepRunsFront : Prop :=
  (∀ (s : State) (c : Instr) (rest : List Instr),
    step { s with pending := c :: rest } = exec c { s with pending := rest }) ∧
  ∀ s : State, s.pending = [] → step s = .next s

/-- After reset the registers that follow the state agree with it, no client is enabled, nothing is in flight, nothing is
certified, every vector is masked, and registers hold the values the register tables give (R7, R61, R128, R139, R160).
ROLE reads SOLO since the model's reset stores no partner (R410; the model's choice, log entry 3). -/
def Obligations.ResetHoldsSpecValues : Prop :=
  let r := State.reset
  r.Settled ∧ r.pending = [] ∧ r.packets = [] ∧ r.streams = [] ∧ r.jobs = [] ∧ r.objects = [] ∧ r.fences = [] ∧ r.dram = [] ∧
    r.soot = [] ∧ r.bme = false ∧ r.mse = false ∧ r.get .DS_STATE = 1 ∧ r.get .RC_CAUSE = 1 ∧ r.get .CERT_REASON = 0x70 ∧
    r.get .CERT_CERTIFIED = 0 ∧ r.get .SOOT_PRECLEAR = 1 ∧ r.get .SOOT_LOCK = 0 ∧ r.get .ROLE = 3 ∧
    r.get .LINK_LANE_ERR_LIMIT = 16 ∧ r.get .WRN_EPOCH_MS = 250 ∧ r.get .SCH_ACLK_MHZ = 1250 ∧ r.get .CLEAN_EIGHTHS = 1 ∧
    (∀ c, r.get .CL_ENABLE c = 0 ∧ r.get .CL_MAX_INFLIGHT c = 32) ∧ (∀ v, (r.msixEntry v).masked = true) ∧
    ∀ k, r.get .FLU_KIND_EN k = 7 ∧ r.get .FLU_BUDGET_BITS k = 2048

/-- Every step keeps the registers that follow the state in agreement with it: FENCED with the role and the lease (R90), the
job, page and object counts (R302, R303), DB_LATCHED with the latched doorbells (R123), CERT_STATE with the conditions of
certification (R61, R62). -/
def Obligations.StepKeepsSettled : Prop :=
  ∀ s t : State, s.Settled → step s = .next t → t.Settled

/-- Work on fences, streams, objects, frames, jobs and memory leaves the board alone: pins, boot, configuration space, fuses,
NOR and firmware, debug and power state, the partner and the role, watchdog settings, the bay, the host's ring settings. -/
def Obligations.StreamWorkLeavesTheBoard : Prop :=
  ∀ (c : Instr) (s t : State), streamWork c = true → exec c s = .next t → SameBoard s t

/-- Work on the board (the bay, check-ins, update, debug and power packets, doorbells and fetches, the event ring, the
equaliser, the DRAM patrol) leaves streams, objects, pages, buffers, memory and its tags alone. -/
def Obligations.BoardWorkLeavesTheStreams : Prop :=
  ∀ (c : Instr) (s t : State), boardWork c = true → exec c s = .next t → SameStreams s t

/-! ## Packet commands: fences and BARRIER (R172, R174 to R177, R182) -/

/-- NOP, FENCE_CREATE and FENCE_DESTROY complete with OK: a created fence holds INITIAL and SHARE_KEY, a destroyed one is gone;
nothing else changes but what every reply touches, and CPL_FENCE_VALID where a destroyed fence was named (R161). FENCE_SIGNAL
sets or adds and reports the value (R175); FENCE_WAIT reports a value that has reached its target, times out at once with
TIMEOUT 0, and otherwise stays in flight (R176). FENCE_WAIT_TIMEOUT reports the value below its target (R176); BARRIER starts
and stays in flight; BARRIER_COMPLETE replies OK once nothing earlier of its client is in flight and its work has ended (R172).
-/
def Obligations.FencesAndBarrierComplete : Prop :=
  (∀ (s : State) (p : Pkt), s.Starts p → s.linkClosed = false →
     (p.opcode = 0x00 → Runs .nop s fun t => Replied s t p Reply.ok ∧ Keeps packetFields s t) ∧
     (∀ h, p.opcode = 0x03 → s.fences.length < Config.fences → h < Config.fences → Tab.find? h s.fences = none →
       Runs (.fenceCreate h) s fun t => Replied s t p (Reply.ok h) ∧ Keeps packetFields s t ∧
         ∃ v, Tab.find? h t.fences = some ⟨p.client, p.w 4, v⟩ ∧ (s.bumps p.client = false → v = p.w64 2)) ∧
     (∀ f, p.opcode = 0x04 → p.w 2 < 2 ^ 17 → s.fenceFor p.client (p.w 2) (p.w 3) = some f → f.creator = p.client →
       Runs .fenceDestroy s fun t => Replied s t p Reply.ok ∧ Tab.find? (p.w 2) t.fences = none ∧
         Keeps (fun g => packetFields g || g == .CL_CPL_FENCE_VALID) s t)) ∧
  (∀ (s : State) (p : Pkt) (f : Fence), s.Starts p → s.linkClosed = false →
     (∀ v, p.opcode = 0x01 → p.w 2 / 2 ^ 17 % 2 ^ 14 = 0 → s.fenceFor p.client (p.w 2 % 2 ^ 17) (p.w 3) = some f →
       v = (if (p.w 2).testBit 31 then f.value + p.w64 4 else p.w64 4) → f.value ≤ v → v < 2 ^ 64 →
       Runs .fenceSignal s fun t => Replied s t p (Reply.value v) ∧ Keeps packetFields s t ∧
         ∃ g, Tab.find? (p.w 2 % 2 ^ 17) t.fences = some g ∧ g.creator = f.creator ∧ g.key = f.key ∧ v ≤ g.value) ∧
     (p.opcode = 0x02 → p.w 2 < 2 ^ 17 → s.fenceFor p.client (p.w 2) (p.w 3) = some f →
       Runs .fenceWait s fun t => Keeps packetFields s t ∧
         (p.w64 4 ≤ f.value → Replied s t p (Reply.value f.value)) ∧
         (f.value < p.w64 4 → p.w 6 = 0 → Replied s t p ⟨stFenceTimeout, 1, f.value % 2 ^ 32, f.value / 2 ^ 32, 0, 0⟩) ∧
         (f.value < p.w64 4 → p.w 6 ≠ 0 → s.bumps p.client = false →
           t.pkt? p.id = some { p with started := true, startTick := s.now }))) ∧
  ((∀ (s : State) (id v : Nat) (p : Pkt), s.pkt? id = some p → s.isStaged id = false → s.coresRun = true → s.linkClosed = false →
     p.opcode = 0x02 → p.started = true → p.startTick + p.w 6 < s.now →
     v = ((Tab.find? (p.w 2 % 2 ^ 17) s.fences).map Fence.value).getD 0 → v < p.w64 4 →
     Runs (.fenceWaitTimeout id) s fun t =>
       RepliedAt s t p (s.now - 1) ⟨stFenceTimeout, 1, v % 2 ^ 32, v / 2 ^ 32, 0, 0⟩ ∧ Keeps packetFields s t) ∧
   (∀ (s : State) (p : Pkt), s.Starts p → p.opcode = 0x05 →
     Runs .barrier s fun t => t.pkt? p.id = some { p with started := true, startTick := s.now } ∧ Keeps packetFields s t) ∧
   (∀ (s : State) (id : Nat) (p : Pkt), s.pkt? id = some p → s.isStaged id = false → s.coresRun = true → s.linkClosed = false →
     p.opcode = 0x05 → p.started = true → (∀ q ∈ s.packets, q.client = p.client → p.id ≤ q.id) → s.workEnded p.client = true →
     Runs (.barrierComplete id) s fun t => Replied s t p Reply.ok ∧ Keeps packetFields s t))

/-! ## Packet commands: streams (R191 to R195, R216 to R219) -/

/-- STREAM_OPEN that passes its checks, is admitted and finds memory takes the lowest free context and replies with it (R191,
R231). -/
def Obligations.StreamOpenCompletes : Prop :=
  ∀ (s u v : State) (p : Pkt) (k : Nat) (bit fb : Nat × Nat), s.Starts p → s.linkClosed = false → p.opcode = 0x10 →
    u = s.markStarted p.id → firstBad (u.openChecks p) = none →
    let codec := Num.slice (p.w 2) 1 0
    let w := Num.slice (p.w 3) 15 0
    let h := Num.slice (p.w 3) 31 16
    let fps := Num.slice (p.w 4) 15 0
    let auK := Num.slice (p.w 5) 13 0
    let auD := Num.slice (p.w 5) 21 16
    u.admitCheck (openDemand codec w h fps auK (frameBufBytes codec w h)) = none → u.freeContext = some k →
    u.allocAll true (some k) [auK * 1024 * auD, frameBufBytes codec w h * frameBufCount codec w h] = some ([bit, fb], v) →
    Runs .streamOpen s fun t => Replied s t p (Reply.ok k (auK * auD)) ∧
      t.stream? k = some (newStream p.client codec (Num.slice (p.w 2) 7 4) ((p.w 2).testBit 8) w h fps auK auD bit fb) ∧
      t.get .CTX_STATE k = 1 ∧ t.get .CTX_OWNER k = p.client ∧ t.get .CTX_CODEC k = codec ∧ t.get .CTX_MAX_WIDTH k = w ∧
      t.get .CTX_MAX_HEIGHT k = h ∧ t.get .CTX_FPS_X100 k = fps ∧ t.get .FLU_KIND_EN k = 7 ∧ t.get .PP_BOUND k = 0

/-- STREAM_FEED that passes its checks and finds a slot sets F, takes the slot, raises the tags of every byte the copy will write, and
its copy job and its transfer from host memory wait (R192, R44, R158, R282). The copy's end ends the transfer, fixes the frame's
deadline and replies OK (R216, R219), reports the failed check (R226), or answers ABORTED_ROLE to a feed that a fence has come before
(R192). The reply's RESULT0 counts the slots that hold an access unit, this one too. -/
def Obligations.StreamFeedCompletes : Prop :=
  (∀ (s u : State) (p : Pkt) (st : Stream) (slot : Nat), s.Starts p → p.opcode = 0x11 → u = s.markStarted p.id →
    firstBad (u.feedChecks p) = none → u.stream? p.stream = some st → firstBad (u.feedStreamChecks p st) = none →
    st.freeSlot = some slot →
    Runs .streamFeed s fun t =>
      t.get .CTX_LAST_FSEQ p.stream = p.w 3 ∧ t.get .CTX_F_VALID p.stream = 1 ∧
      (∃ x f, t.stream? p.stream = some x ∧ x.f = some (p.w 3) ∧ x.frames = st.frames ++ [f] ∧ f.fseq = p.w 3 ∧
        f.phase = .copying p.id ∧ f.slot = some slot ∧ f.auBytes = Num.slice (p.w 2) 31 8) ∧
      (∃ j ∈ t.jobs, j.kind = .ingest ∧ j.pkt = some p.id ∧ j.stream = p.stream ∧ j.fseq = p.w 3) ∧
      (∃ r ∈ t.reads, r.pkt = p.id) ∧
      ∀ a, st.bitBuf.1 + slot * st.auMaxKib * 1024 ≤ a →
        a < st.bitBuf.1 + slot * st.auMaxKib * 1024 + Num.slice (p.w 2) 31 8 → t.sooted a = true) ∧
  (∀ (s : State) (k fseq id : Nat) (st : Stream) (f : Frame) (p : Pkt) (au : Bytes), s.stream? k = some st →
    st.frame? fseq = some f → f.phase = .copying id → s.pkt? id = some p → s.isStaged id = false → s.coresRun = true →
    s.linkClosed = false → s.readMayEnd id = true → au.length = f.auBytes →
    (∃ j ∈ s.jobs, j.stream = k ∧ j.fseq = fseq ∧ j.kind = .ingest ∧ j.entry = true) →
    Runs (.feedCopyDone k fseq au) s fun t =>
      (s.feedFenced id = true → Replied s t p ⟨stAbortedRole, s.roleDetail, 0, 0, 0, 0⟩) ∧
      (∀ code, s.feedFenced id = false → ingestFault st.codec au = some code →
        Replied s t p ⟨stStreamError, code, 0, 0, 0, 0⟩) ∧
      (s.feedFenced id = false → ingestFault st.codec au = none →
        Replied s t p (Reply.ok (st.auHeld + 1)) ∧
        (st.closingPkt = none → st.shed = none → st.pipe.isSome = true → st.unbindPkt = none →
          ∃ x g, t.stream? k = some x ∧ x.frame? fseq = some g ∧ g.phase = .held ∧ g.accepted = true ∧
            g.deadline = max s.now st.prevD + periodOf st.fps)))

/-- STREAM_FLUSH discards every access unit no engine has taken and says how many (R193); STREAM_CLOSE puts the context in state
5 with its packet in flight (R34, R231). STREAM_CLOSE_COMPLETE frees the context and replies with the frames finished and
discarded (R34, R194, R231). STREAM_RECONFIG that passes its checks and is admitted keeps its settings until an engine takes the
context (R33, R195). -/
def Obligations.StreamFlushCloseReconfigComplete : Prop :=
  (∀ (s u : State) (p : Pkt) (st : Stream), s.Starts p → u = s.markStarted p.id → firstBad (u.flushChecks p) = none →
     u.stream? p.stream = some st →
     (p.opcode = 0x12 → s.linkClosed = false → Runs .streamFlush s fun t =>
       (∃ b, b ≤ 1 ∧ Replied s t p (Reply.ok (st.frames.countP fun f => f.phase == .held) b)) ∧
       ∃ x, t.stream? p.stream = some x ∧ ∀ f ∈ x.frames, f.phase ≠ .held) ∧
     (p.opcode = 0x13 → Runs .streamClose s fun t =>
       (∃ x, t.stream? p.stream = some x ∧ x.closingPkt = some p.id) ∧ t.get .CTX_STATE p.stream = 5)) ∧
  (∀ (s : State) (k id : Nat) (st : Stream) (p : Pkt), s.stream? k = some st → st.closingPkt = some id →
     st.unbindPkt ≠ some id → s.coresRun = true → st.frames = [] → s.halfRecord st.owner = false →
     (∀ j ∈ s.jobs, j.stream = k → j.ofMirror = true) → s.linkClosed = false → s.pkt? id = some p → s.isStaged id = false →
     p.opcode = 0x13 → (s.packets.map Pkt.id).Nodup →
     Runs (.streamCloseComplete k) s fun t =>
       Replied s t p (Reply.ok st.closeDone st.closeDisc) ∧ t.stream? k = none ∧ t.get .CTX_STATE k = 0 ∧ t.get .PP_BOUND k = 0) ∧
  (∀ (s u : State) (p : Pkt) (st : Stream), s.Starts p → s.linkClosed = false → p.opcode = 0x14 → u = s.markStarted p.id →
     firstBad (u.reconfigChecks p) = none → u.stream? p.stream = some st → firstBad (st.reconfigChecks p) = none →
     u.reconfigRefused st (st.withReconf p) = none →
     Runs .streamReconfig s fun t => Replied s t p Reply.ok ∧
       ∃ x, t.stream? p.stream = some x ∧ x.reconf = (st.withReconf p).reconf ∧ x.maxW = st.maxW ∧ x.fps = st.fps)

/-! ## Packet commands: objects and pipelines (R196, R197, R294, R295) -/

/-- MODEL_LOAD and TREE_LOAD that pass their checks and find memory hold a buffer and a copy job until the copy ends (R196,
R282). MODEL_UNLOAD and TREE_UNLOAD of an object of the client (or by client 0) that no pipeline binds remove it and its pages
(R196). -/
def Obligations.LoadsStartAndUnloadsComplete : Prop :=
  (∀ (s u v : State) (p : Pkt) (a : Nat) (tree : Bool), s.Starts p → p.opcode = (if tree then 0x28 else 0x20) →
     u = s.markStarted p.id → firstBad p.loadChecks = none → u.alloc false (p.w 4) none = some (a, v) →
     Runs (if tree then .treeLoad else .modelLoad) s fun t =>
       (p.id, a) ∈ t.loadBufs ∧ (∃ j ∈ t.jobs, j.kind = .copy ∧ j.pkt = some p.id) ∧ (∃ r ∈ t.reads, r.pkt = p.id) ∧
       t.allocs = v.allocs ∧ t.pkt? p.id = some { p with started := true, startTick := s.now }) ∧
  (∀ (s u : State) (p : Pkt) (o : Obj) (tree : Bool), s.Starts p → s.linkClosed = false →
     p.opcode = (if tree then 0x29 else 0x21) → u = s.markStarted p.id → u.named (p.w 2) tree = some o →
     o.loader = p.client ∨ p.client = 0 → u.bound o.handle = false →
     Runs (if tree then .treeUnload else .modelUnload) s fun t => Replied s t p Reply.ok ∧
       Tab.find? (o.handle % 65536) t.objects = none ∧ ∀ e ∈ t.pageSlots, e.1 / 65536 ≠ o.handle % 65536)

/-- The end of a load's copy: an image that passes every check becomes an object in the lowest free slot, its bytes are in
memory, and the reply carries the handle (R294, R295, R313); an image that fails one takes no slot and the reply names the
check; one that passes them and finds no slot is refused (R196). The checks read the image as Choararok loads it, which gives zeros
for a sooted granule (R38; log entry 95). -/
def Obligations.LoadsEnd : Prop :=
  ∀ (s : State) (id a : Nat) (p : Pkt) (image : Bytes) (sigOk tree : Bool),
    s.loadOf (if tree then 0x28 else 0x20) id = some (p, a) → s.coresRun = true → s.linkClosed = false → s.isStaged id = false →
    s.readMayEnd id = true → image.length = p.w 4 →
    let ok := sigOk && s.get .KEY_MODEL_OK == 1
    let seen := (s.coreLoad a image).1
    let check := if tree then ensembleCheck seen (p.w 4) ok else bundleCheck seen (p.w 4) ok
    Runs (if tree then .treeLoadCopyDone id image sigOk else .modelLoadCopyDone id image sigOk) s fun t =>
      (∀ c, check = some c → Replied s t p (Reply.badStruct c) ∧ t.objects = s.objects) ∧
      (check = none → (s.freeSlot = none ∨ Config.objectsPerKind ≤ s.objCount tree) →
        Replied s t p (Reply.noResource 3) ∧ t.objects = s.objects) ∧
      (∀ slot, check = none → s.freeSlot = some slot → s.objCount tree < Config.objectsPerKind →
        ∃ o, Tab.find? slot t.objects = some o ∧ o.isTree = tree ∧ o.handle % 65536 = slot % 65536 ∧ o.base = a ∧
          Replied s t p (if tree then Reply.ok o.handle o.nTrees o.depth o.nFeat else Reply.ok o.handle) ∧
          t.dram = memWrite s.dram a image)

/-- PIPELINE_BIND with a descriptor that passes its checks, admitted and with memory, binds the pipeline (R197, R236 to R238); it waits
for its descriptor where the link cannot read it at once (R158). PIPELINE_UNBIND puts its stream in HOLD with nothing held back, and
waits (R197, R235); PIPELINE_UNBIND_DONE removes the pipeline and replies OK (R182). That a stream mirrored before is admitted and
placed with its mirror is the model's choice (log entry 103). -/
def Obligations.PipelineBindAndUnbindComplete : Prop :=
  (∀ desc, StartsCopy (.pipelineBind desc) 0x22 State.bindChecks (fun _ => none) fun p => some (p.w64 5, p.w 7)) ∧
  (∀ (s u v : State) (p : Pkt) (st : Stream) (o : Obj) (desc : Bytes) (bufs : List (Nat × Nat)) (mirror : Option MirrorSt),
     s.CopyReady 0x22 State.bindChecks none (some (p.w64 5, p.w 7)) p u → s.linkClosed = false →
     firstBad (u.bindChecks p) = none → u.stream? p.stream = some st → u.model? (p.w 3) = some o →
     let n := Num.slice (p.w 7) 15 0
     let b := desc.take n
     let pipe := descPipe b (p.w 3) (p.w 4)
     let fps := if st.decimated then Num.cdiv st.settled.fps 2 else st.settled.fps
     let d := (u.pipeDemand st.settled pipe fps).add ((st.mirror.map fun m => u.mirrorDemand pipe m.cfg fps (u.stepIn 1)).getD {})
     descCheck b n st.settled.maxW st.settled.maxH = none → descFits b o = true → u.admitCheck d = none →
     ((u.allocAll true (some p.stream) (pipeBuffers b o (u.ensemble? (p.w 4)).isSome)).bind fun x =>
       (x.2.bindMirror p.stream st pipe).map fun y => (x.1, y)) = some (bufs, mirror, v) →
     Runs (.pipelineBind desc) s fun t => (∃ ticks, Replied s t p (Reply.ok ticks (16 * d.dram))) ∧
       (∃ x q, t.stream? p.stream = some x ∧ x.pipe = some q ∧ q.model = p.w 3 ∧ q.ensemble = p.w 4 ∧ q.bufs = bufs ∧
         x.mirror = mirror ∧ x.tracks = []) ∧ t.get .PP_BOUND p.stream = 1) ∧
  ((∀ (s u : State) (p : Pkt), s.Starts p → p.opcode = 0x23 → u = s.markStarted p.id → firstBad (u.unbindChecks p) = none →
     Runs .pipelineUnbind s fun t => ∃ x, t.stream? p.stream = some x ∧ x.hold = true ∧ x.unbindPkt = some p.id ∧
       ∀ f ∈ x.frames, f.phase ≠ .held) ∧
   (∀ (s : State) (k id : Nat) (st : Stream) (p : Pkt), s.stream? k = some st → st.unbindPkt = some id → s.coresRun = true →
     st.frames = [] → (∀ j ∈ s.jobs, j.stream = k → j.ofMirror = true) → s.linkClosed = false → s.pkt? id = some p →
     s.isStaged id = false →
     Runs (.pipelineUnbindDone k) s fun t => Replied s t p Reply.ok ∧ t.get .PP_BOUND k = 0 ∧
       ∃ x, t.stream? k = some x ∧ x.pipe = none ∧ x.unbindPkt = none))

/-- FLUE_CONFIG that passes its checks sets what its SET bits name: the budget no higher than the ceiling, the kinds, the zones
and the ring policy (R88, R198); it waits for its zone table where the link cannot read it at once (R158, R282). METADATA_RING_SET
that passes its checks sets the client's ring and empties it (R92, R199). -/
def Obligations.FlueConfigAndRingSetComplete : Prop :=
  (∀ zones, StartsCopy (.flueConfig zones) 0x30 State.flueChecks (fun p => if p.readsZones then some 2 else none) Pkt.zoneTable) ∧
  (∀ (s u : State) (p : Pkt) (zones : Bytes),
     s.CopyReady 0x30 State.flueChecks (if p.readsZones then some 2 else none) p.zoneTable p u → s.linkClosed = false →
     firstBad (u.flueChecks p) = none →
     let set := Num.slice (p.w 2) 20 16
     let zc := Num.slice (p.w 4) 22 16
     (set.testBit 3 = true → badZone 0 (chunks 32 zc zones) = none) →
     (set.testBit 3 = true → zc ≠ 0 → (u.alloc false (32 * zc) none).isSome = true) →
     Runs (.flueConfig zones) s fun t => Replied s t p Reply.ok ∧
       (set.testBit 0 = true → t.get .FLU_BUDGET_BITS p.stream = min (Num.slice (p.w 3) 15 0) (s.get .FLU_CEILING)) ∧
       (set.testBit 0 = false → t.get .FLU_BUDGET_BITS p.stream = s.get .FLU_BUDGET_BITS p.stream) ∧
       (set.testBit 1 = true → t.get .FLU_KIND_EN p.stream = Num.slice (p.w 3) 18 16) ∧
       (set.testBit 3 = true → t.get .FLU_ZONES p.stream = zc) ∧
       (set.testBit 4 = true → t.get .META_POLICY p.client = Num.slice (p.w 3) 24 24)) ∧
  (∀ (s u : State) (p : Pkt), s.Starts p → s.linkClosed = false → p.opcode = 0x31 → u = s.markStarted p.id →
     firstBad (u.ringChecks p) = none →
     Runs .metadataRingSet s fun t => Replied s t p Reply.ok ∧
       t.get .META_BASE p.client = p.w64 2 ∧ t.get .META_LOG2 p.client = Num.slice (p.w 4) 4 0 ∧
       t.get .META_IRQ_EN p.client = Num.slice (p.w 4) 8 8 ∧ t.get .META_FENCE_EN p.client = Num.b2n ((p.w 4).testBit 9) ∧
       t.get .META_FENCE p.client = Num.slice (p.w 5) 16 0 ∧ t.get .META_HEAD p.client = 0 ∧ t.get .META_TAIL p.client = 0)

/-! ## SCRUB and device memory (R42, R55, R56) -/

/-- SCRUB that passes its checks covers the ranges of its scope and shows SCRUB_BUSY (R55, R56). SCRUB_DONE leaves every byte of
them 0 and every granule's tag clear, leaves every other byte as it was, and replies with the granules zeroed.
A byte not listed in memory reads 0 by the model's choice (log entry 25). -/
def Obligations.ScrubCompletes : Prop :=
  (∀ (s u : State) (p : Pkt), s.Starts p → p.opcode = 0x38 → u = s.markStarted p.id → firstBad (u.scrubChecks p) = none →
    Runs .scrub s fun t => t.get .SOOT_SCRUB_BUSY = 1 ∧
      t.scrub = some (p.id, Num.slice (p.w 2) 1 0, u.scrubRanges (Num.slice (p.w 2) 1 0) (Num.slice (p.w 2) 14 8)) ∧
      ∃ j ∈ t.jobs, j.kind = .scrub ∧ j.pkt = some p.id) ∧
  (∀ (s : State) (id scope : Nat) (rs : List (Nat × Nat)) (p : Pkt), s.scrub = some (id, scope, rs) → s.enginesRun = true →
    (∃ j ∈ s.jobs, j.kind = .scrub ∧ j.entry = true) → s.linkClosed = false → s.pkt? id = some p → s.isStaged id = false →
    Runs .scrubDone s fun t =>
      Replied s t p (Reply.ok (ISet.size rs / 64 % 2 ^ 32) (ISet.size rs / 64 / 2 ^ 32)) ∧ t.scrub = none ∧
      t.get .SOOT_SCRUB_BUSY = 0 ∧ (scope = 2 → t.tileSoot = []) ∧
      (∀ r ∈ rs, ∀ a, r.1 ≤ a → a < r.2 → memByte t.dram a = 0#8 ∧ ISet.mem (a / 64) t.soot = false) ∧
      ∀ a, (∀ r ∈ rs, ¬(r.1 ≤ a ∧ a < r.2)) → memByte t.dram a = memByte s.dram a)

/-- A byte of memory reads as it was last written or zeroed, and every other byte as before (R38, R42). -/
def Obligations.MemoryReadsAsWritten : Prop :=
  ∀ m : Mem,
    (∀ (a : Nat) (bs : Bytes), (∀ i, i < bs.length → memByte (memWrite m a bs) (a + i) = bs.getD i 0#8) ∧
      ∀ x, x < a ∨ a + bs.length ≤ x → memByte (memWrite m a bs) x = memByte m x) ∧
    ∀ lo hi : Nat, (∀ x, lo ≤ x → x < hi → memByte (memZero m lo hi) x = 0#8) ∧
      ∀ x, x < lo ∨ hi ≤ x → memByte (memZero m lo hi) x = memByte m x

/-- A DUMP of HEALTH_QUERY writes 0 for every byte of a sooted granule, of a tag region or of a poisoned granule, whatever
memory holds there, and replies OK where there is none (R46, R48, R206, R343). HEALTH_QUERY SUMMARY and STREAM write their block
and reply (R206, R495, R496). A result waits where its job has no entry (R282). -/
def Obligations.HealthQueryCompletesAndHidesSoot : Prop :=
  StartsCopy .healthQuery 0x51 State.healthChecks (fun _ => some 2) (fun _ => none) ∧
  (∀ (s u : State) (p : Pkt), s.CopyReady 0x51 State.healthChecks (some 2) none p u → s.linkClosed = false →
     firstBad (u.healthChecks p) = none → Num.slice (p.w 2) 7 0 = 2 →
     Runs .healthQuery s fun t =>
       (∃ bs : Bytes, Written s t (p.w64 3) bs ∧ bs.length = p.w 5 ∧
         ∀ i, i < p.w 5 → s.tagBase ≤ (p.w64 6 + i) / 64 * 64 ∨ s.sooted ((p.w64 6 + i) / 64 * 64) = true ∨
           (Tab.find? ((p.w64 6 + i) / 64 * 64) s.poison).isSome = true → bs.getD i 0#8 = 0#8) ∧
       ((∀ g ∈ granules (p.w64 6) (p.w 5), s.granuleCause g = 0 ∧ Tab.find? g s.poison = none) → Replied s t p Reply.ok)) ∧
  (∀ (s u : State) (p : Pkt), s.CopyReady 0x51 State.healthChecks (some 2) none p u → s.linkClosed = false →
     firstBad (u.healthChecks p) = none →
     (Num.slice (p.w 2) 7 0 = 0 → Runs .healthQuery s fun t =>
       Written s t (p.w64 3) (u.summary.take (p.w 5)) ∧
       Replied s t p ⟨if p.w 5 < 256 then stPartial else stOk, if p.w 5 < 256 then 4 else 0, s.get .HLT_CAPACITY,
         s.get .HLT_EOL_DAYS, s.get .HLT_EOL_CONF, min (p.w 5) 256⟩) ∧
     (∀ st, Num.slice (p.w 2) 7 0 = 1 → u.stream? (Num.slice (p.w 2) 14 8) = some st → Runs .healthQuery s fun t =>
       Written s t (p.w64 3) (u.streamBlock (Num.slice (p.w 2) 14 8) st) ∧
       Replied s t p (Reply.ok st.fed (s.get .CTX_FRAMES_DROPPED (Num.slice (p.w 2) 14 8))
         (s.get .CTX_ERR_COUNT (Num.slice (p.w 2) 14 8)) 64)))

/-! ## Pairing, roles and the lease (R201, R202, R361, R406 to R412) -/

/-- PAIR_BIND: UNBIND leaves the unit SOLO with no partner and no session, and replies a serial of 0 (log entry 102); a bind under a
KEYED session replies at once; another waits for the handshake. PAIR_BIND_TIMEOUT answers the first that waited for a partner not
heard (R201, R428). PAIR_HANDSHAKE_DONE: a good handshake with the partner the link names stores it, keys the session and makes SOLO
an ORPHAN (R361, R410); a failed one leaves no session and no bind waiting (R365). -/
def Obligations.PairBindAndHandshakeComplete : Prop :=
  ((∀ (s u : State) (p : Pkt), s.Starts p → p.opcode = 0x40 → u = s.markStarted p.id → firstBad (u.pairChecks p) = none →
     ((p.w 4).testBit 0 = true → s.linkClosed = false → (∀ ids b, s.w.pair = some (ids, b) → p.id ∉ ids) →
       Runs .pairBind s fun t => (∃ tick n, RepliedAt s t p tick (Reply.ok 0 0 n)) ∧ t.partner = none ∧ t.role = 3 ∧
         t.session = 0) ∧
     ((p.w 4).testBit 0 = false → s.session = 2 → s.linkClosed = false →
       Runs .pairBind s fun t => Replied s t p s.bindReply) ∧
     ((p.w 4).testBit 0 = false → s.session ≠ 2 →
       Runs .pairBind s fun t => (∃ ids b, t.w.pair = some (ids, b) ∧ p.id ∈ ids) ∧
         (s.w.pair = none → t.session = 1))) ∧
   (∀ (s : State) (id : Nat) (rest : List Nat) (p : Pkt), s.w.pair = some (id :: rest, false) → s.pkt? id = some p →
     s.isStaged id = false → s.coresRun = true → p.startTick + 10000000 ≤ s.now → s.linkClosed = false →
     Runs .pairBindTimeout s fun t => Replied s t p (Reply.deviceFault 0x0202))) ∧
  (∀ (s : State) (ids : List Nat), s.w.pair = some (ids, true) → s.inData = true → s.coresRun = true →
     (∀ n nor, s.w.peer = some n → (∀ q, s.partner = some q → q.1 = n) → (s.partner = none → nor = true) →
       (∀ id ∈ ids, ∀ p, s.pkt? id = some p → p.w64 2 = 0 ∨ p.w64 2 = n) →
       Runs (.pairHandshakeDone (.ok n nor)) s fun t => t.session = 2 ∧ t.partner.map Prod.fst = some n ∧ t.w.pair = none ∧
         (s.role = 3 → t.role = 2) ∧
         ∀ id p, ids = [id] → s.pkt? id = some p → s.isStaged id = false → s.linkClosed = false →
           Replied s t p (Reply.ok (n % 2 ^ 32) (n / 2 ^ 32) (s.get .WRN_LEADER))) ∧
     (∀ out, out = .certRefused ∨ out = .authFail ∨ out = .partnerLab →
       Runs (.pairHandshakeDone out) s fun t => t.session = 0 ∧ t.w.pair = none ∧ t.partner = s.partner))

/-- PAIR_ROLE under a greater generation stores it and takes the role, ACTIVE with a lease from now; under the stored one it
renews a lease in force, unless it came too late (R202, R406, R407). LEASE_EXPIRE fences the flues and makes the unit ORPHAN
(R35, R90, R407); TAKEOVER_ROLL_DONE ends a takeover (R412); both raise their bit of GCTL_PAIR_IRQ. -/
def Obligations.PairRoleLeaseAndTakeoverComplete : Prop :=
  (∀ (s u v : State) (p : Pkt), s.Starts p → s.linkClosed = false → p.opcode = 0x41 → u = s.markStarted p.id →
     firstBad p.roleChecks = none → v = (if u.leaseOver then u.lapse else u) →
     (v.storedGen < p.w64 2 → firstBad (v.newRoleChecks (Num.slice (p.w 4) 1 0) true) = none →
       Runs (.pairRole true) s fun t => (∃ r, r.status = stOk ∧ Replied s t p r) ∧ t.storedGen = p.w64 2 ∧
         t.get .GCTL_GEN = p.w64 2 ∧ t.role = Num.slice (p.w 4) 1 0 ∧
         (Num.slice (p.w 4) 1 0 = 0 → t.get .LEASE_VALID = 1 ∧ t.get .GCTL_LEASE_END = s.now + p.leaseMs * 1000)) ∧
     (p.w64 2 = v.storedGen → Num.slice (p.w 4) 1 0 = 0 → v.role = 0 → v.get .LEASE_VALID = 1 →
       s.now ≤ p.covered + p.leaseMs * 500 → ∀ nor,
       Runs (.pairRole nor) s fun t => (∃ r, r.status = stOk ∧ Replied s t p r) ∧ t.role = 0 ∧
         t.get .GCTL_LEASE_END = s.now + p.leaseMs * 1000)) ∧
  ((∀ s : State, s.leaseOver = true → Runs .leaseExpire s fun t =>
     t.role = 2 ∧ t.get .LEASE_VALID = 0 ∧ t.get .FLU_FENCED = 1 ∧ (t.get .GCTL_PAIR_IRQ).testBit 1 = true) ∧
   (∀ s : State, s.get .TAKEOVER_BUSY = 1 → s.rollDone = true → Runs .takeoverRollDone s fun t =>
     t.get .TAKEOVER_BUSY = 0 ∧ (t.get .GCTL_PAIR_IRQ).testBit 2 = true))

/-- MIRROR_CONFIG gives its stream the mirror of its words, in buffers that hold it, or takes it away (R203, R391, R392; the buffers:
log entry 81). The end of a mirror encode or decode frees the encoder, counts the picture and removes the job; a failed decode asks
for an IDR, a good IDR enters the ring (R385, R398, R400). -/
def Obligations.MirrorConfigAndJobsComplete : Prop :=
  (∀ (s u : State) (p : Pkt) (st : Stream), s.Starts p → s.linkClosed = false → p.opcode = 0x42 → u = s.markStarted p.id →
     firstBad (u.mirrorPktChecks p) = none → u.stream? p.stream = some st →
     ((p.w 2).testBit 9 = false → Runs .mirrorConfig s fun t => Replied s t p Reply.ok ∧
       ∃ x, t.stream? p.stream = some x ∧ x.mirror = none) ∧
     (∀ pipe c bufs v, (p.w 2).testBit 9 = true → st.pipe = some pipe → pipe.mirrorCrop = some c →
       firstBad (p.mirrorWordChecks st.settled.fps c) = none →
       let f := if st.decimated then Num.cdiv st.settled.fps 2 else st.settled.fps
       let old : Demand := match st.mirror with
         | none => {}
         | some o => u.mirrorDemand pipe o.cfg f (u.stepIn 1)
       u.admitCheck (old.raise (u.mirrorDemand pipe p.mirrorCfg f (u.stepIn 1))) = none → u.mirrorsFull p.stream = false →
       u.placeMirror p.stream st.mirror (mirrorSizes p.mirrorCfg c st.settled.fps) = some (bufs, v) →
       Runs .mirrorConfig s fun t => Replied s t p Reply.ok ∧
         ∃ x m, t.stream? p.stream = some x ∧ x.mirror = some m ∧ m.cfg = p.mirrorCfg ∧ m.bufs = bufs)) ∧
  (∀ (s : State) (m : Nat) (j : Job), s.enginesRun = true → s.jobOn (.menc m) = some j →
     let freed := fun t : State => t.get .MENC_BUSY m = 0 ∧ t.get .MENC_PICTURES m = Num.wrap32 (s.get .MENC_PICTURES m + 1) ∧
       ∀ i ∈ t.jobs, i.unit ≠ some (.menc m) ∨ i.id ≠ j.id
     (∀ bytes, j.encodes = true → bytes % 16 = 0 → 32 ≤ bytes → Runs (.mirrorEncodeDone m bytes) s freed) ∧
     (∀ ok, j.decodes = true → Runs (.mirrorDecodeDone m ok) s fun t => freed t ∧
       ∀ st r, s.stream? j.stream = some st → st.mirror = some r → ∃ x n, t.stream? j.stream = some x ∧ x.mirror = some n ∧
         (ok = false ∨ s.poisonIn j.reads = true → n.needIdr = true ∧ n.ring = r.ring) ∧
         (ok = true → s.poisonIn j.reads = false → j.tile = 1 → n.needIdr = false ∧ ∃ e ∈ n.ring, e.1 = j.fseq) ∧
         (ok = true → s.poisonIn j.reads = false → j.tile ≠ 1 → r.needIdr = true → n = r)))

/-- BAY_CONTROL that passes its checks drives the lamp and, as its words ask, power and reset of the slot (R204, R420, R421). -/
def Obligations.BayControlCompletes : Prop :=
  ∀ (s u : State) (p : Pkt), s.Starts p → s.linkClosed = false → p.opcode = 0x48 → u = s.markStarted p.id →
    firstBad (u.bayChecks p) = none →
    Runs .bayControl s fun t => Replied s t p Reply.ok ∧ t.get .BAY_LED = Num.slice (p.w 2) 1 0 ∧
      ((p.w 2).testBit 5 = true → t.get .BAY_DRIVEN = 1) ∧
      ((p.w 2).testBit 5 = true → (p.w 2).testBit 4 = true → t.get .BAY_PWREN = 1) ∧
      ((p.w 2).testBit 5 = true → (p.w 2).testBit 4 = true → s.get .BAY_PWREN = 0 → t.get .BAY_SLOT_STATE = 2) ∧
      ((p.w 2).testBit 5 = true → (p.w 2).testBit 4 = false → s.get .BAY_PWREN = 1 → s.get .BAY_SLOT_STATE ≠ 0 →
        t.get .BAY_SLOT_STATE = 4 ∧ t.get .BAY_PERST = 1) ∧
      ((p.w 2).testBit 8 = true → t.get .BAY_PERST = 1)

/-! ## Power (R205, R345, R346, R445 to R447) -/

/-- POWER_SET from RUN to RUN or to IDLE replies at once and IDLE is entered; RUN from IDLE is asked for and answered when the wake
ends; DOZE and SLEEP are asked for; POWER_TRANSITION_START enters them, once nothing else runs, with both
watchdogs stopped and the Wren link off (R205, R212, R345, R445). A source that wakes starts a wake and is shown; WAKE_COMPLETE ends
it: RUN again from IDLE after 10 ticks, READY again from DOZE and SLEEP with every channel trained and, after SLEEP, the running
slot verified (R346, R447).
That the entry raises no WREN_DOWN is the model's reading (log entry 60). -/
def Obligations.PowerEntryAndWakeComplete : Prop :=
  ((∀ (s u : State) (p : Pkt), s.Starts p → p.opcode = 0x50 → u = s.markStarted p.id → firstBad (u.powerChecks p) = none →
     let m := Num.slice (p.w 2) 2 0
     Runs .powerSet s fun t => t.get .PWR_D3HOT_MAP = Num.slice (p.w 2) 8 8 ∧
       ((p.w 2).testBit 9 = true ∨ m = 1 ∨ m = 0 ∧ s.power ≠ 1 → s.linkClosed = false → Replied s t p Reply.ok) ∧
       ((p.w 2).testBit 9 = false → m = 0 → s.power = 1 → t.powerReq = some (0, some p.id) ∧ t.waking.isSome = true) ∧
       ((p.w 2).testBit 9 = false → m = 1 → t.power = 1 ∧ t.get .PWR_STATE = 1 ∧ t.get .WDG_RUNNING 0 = 0 ∧ t.get .WDG_RUNNING 1 = 0) ∧
       ((p.w 2).testBit 9 = false → 2 ≤ m → t.powerReq = some (m, some p.id))) ∧
   (∀ (s : State) (m : Nat) (id : Option Nat), s.powerReq = some (m, id) → 2 ≤ m → s.isReady = true → s.thermal = none →
     s.scrub = none → s.ch.retrains = [] → s.jobs = [] → (∀ q ∈ s.packets, q.opcode ≠ 0x61) →
     Runs .powerTransitionStart s fun t => t.power = m ∧ t.powerReq = none ∧ t.get .WDG_RUNNING 0 = 0 ∧ t.get .WDG_RUNNING 1 = 0 ∧
       t.get .WRN_LSTATE = 0 ∧ t.tileSoot = [] ∧
       ∀ q p, id = some q → s.pkt? q = some p → s.isStaged q = false → s.linkClosed = false → Replied s t p Reply.ok)) ∧
  ((∀ (s : State) (src : Nat), s.isReady = true → s.thermal = none → s.waking = none → s.wakes src = true →
     Runs (.powerWake src) s fun t => t.waking = some (s.power, s.now) ∧ t.get .PWR_WAKE_SRC = src ∧
       t.get .GCTL_PWR_WAKE_TICK = s.now ∧ (s.power ≠ 1 → t.dev = 8)) ∧
   (∀ (s : State) (verified : Bool) (rates : List Nat) (since : Nat), s.isFault = false → s.thermal = none →
     (s.waking = some (1, since) → since + 10 ≤ s.now →
       Runs (.wakeComplete verified rates) s fun t => t.power = 0 ∧ t.get .PWR_STATE = 0 ∧ t.waking = none ∧
         ∀ q p, s.powerReq = some (0, some q) → s.pkt? q = some p → s.isStaged q = false → s.linkClosed = false →
           Replied s t p Reply.ok) ∧
     (∀ m, s.waking = some (m, since) → m ≠ 1 → rates.length = 16 → rates.all rateOk = true → firstFailing rates = none →
       (m = 3 → verified = true) →
       Runs (.wakeComplete verified rates) s fun t => t.power = 0 ∧ t.get .PWR_STATE = 0 ∧ t.waking = none ∧ t.dev = 5)))

/-! ## Firmware update, debug token, attestation (R207, R208, R437, R441, R442, R461 to R466) -/

/-- The update opcodes, each from its own state and with the NOR writes succeeding (R207, R461 to R464): UPDATE_CHUNK waits for its
bytes (R158, R282), and is refused where its source is sooted (R46; where the bytes stand: log entry 95). UPDATE_CONFIRM ends the
trial: the record is confirmed, the fuses are programmed, and the update is idle (R466). -/
def Obligations.UpdateCompletes : Prop :=
  (∀ (s u : State) (p : Pkt), s.Starts p → s.linkClosed = false → u = s.markStarted p.id →
     (p.opcode = 0x60 → firstBad (u.beginChecks p) = none →
       Runs (.updateBegin true) s fun t => Replied s t p (Reply.ok s.inactive) ∧ t.fw.upState = 1 ∧ t.fw.upBytes = p.w 2 ∧
         t.fw.upMap = []) ∧
     (p.opcode = 0x62 → u.fw.upState = 2 ∨ u.fw.upState = 3 → (u.slotOf u.inactive).headerOk true = true →
       u.fuses.rollback ≤ (u.slotOf u.inactive).secVersion →
       Runs (.updateVerify true true true) s fun t => Replied s t p Reply.ok ∧ t.fw.upState = 3) ∧
     (p.opcode = 0x63 → u.fw.upState = 3 →
       Runs (.updateActivate true) s fun t => Replied s t p Reply.ok ∧ t.fw.upState = 4)) ∧
  ((∀ data norOk, StartsCopy (.updateChunk data norOk) 0x61 State.chunkChecks (fun _ => some 3) fun p => some (p.w64 4, p.w 3)) ∧
   (∀ (s u : State) (p : Pkt) (data : Bytes), s.CopyReady 0x61 State.chunkChecks (some 3) (some (p.w64 4, p.w 3)) p u →
     s.linkClosed = false → firstBad (u.chunkChecks p) = none →
     0 < p.w 2 / 4096 ∨ (∀ i, i < 1024 → Num.u8 data (3072 + i) = 255) →
     let soot := s.sootIn Config.chunkBuffer.val (Config.chunkBuffer.val + p.w 3)
     (soot = [] → Runs (.updateChunk data true) s fun t => Replied s t p Reply.ok ∧ (t.fw.upState = 1 ∨ t.fw.upState = 2) ∧
       ∀ n, p.w 2 / 4096 ≤ n → n < p.w 2 / 4096 + p.w 3 / 4096 → n ∈ t.fw.upMap) ∧
     (soot ≠ [] → Runs (.updateChunk data true) s fun t => Replied s t p norFault ∧ t.fw.upState = 1 ∧
       ∀ k, t.slotOf k = s.slotOf k))) ∧
  (∀ (s u : State) (p : Pkt) (w : Nat) (r : SelRec), s.Starts p → s.linkClosed = false → p.opcode = 0x64 →
     u = s.markStarted p.id → u.fw.upState = 5 → u.winner = some (w, r) →
     Runs (.updateConfirm true none) s fun t => Replied s t p Reply.ok ∧ t.fw.upState = 0 ∧ t.fw.trial = false ∧
       t.fw.trialEnd = none ∧ t.get .DS_TRIAL = 0 ∧ t.fuses.rollbackCopies = (s.fuses.complete r).rollbackCopies)

/-- DEBUG_TOKEN: a token that passes every step of R441 opens a session with its SCOPE (R442); a token that fails one is
answered, counted and leaves the session as it was (R441). ATTEST writes a report that begins with the measurement, and replies
with its length; into fewer than 384 bytes it writes nothing (R208, R437). Both wait for what they read from the host (R158). -/
def Obligations.DebugTokenAndAttestComplete : Prop :=
  ((∀ token sigOk, StartsCopy (.debugToken token sigOk) 0x70 State.tokenChecks (fun _ => none) fun p => some (p.w64 2, p.w 4)) ∧
   ∀ nonce, StartsCopy (.attest nonce) 0x71 State.attestChecks (fun _ => some 2) fun p => some (p.w64 2, 48)) ∧
  (∀ (s u : State) (p : Pkt) (token : Bytes) (sigOk : Bool),
     s.CopyReady 0x70 State.tokenChecks none (some (p.w64 2, p.w 4)) p u → s.linkClosed = false →
     firstBad (u.tokenChecks p) = none →
     (u.tokenStep p (token.take (p.w 4)) sigOk = none →
       Runs (.debugToken token sigOk) s fun t => (∃ n, Replied s t p (Reply.ok n)) ∧ t.get .DBG_SESSION = 1 ∧ t.get .DBG_STATE = 1 ∧
         t.get .DBG_PORT_OPEN = 1 ∧ t.get .DBG_SCOPE = Num.u8 (token.take (p.w 4)) 6 ∧
         t.get .SEC_DBG_ACCEPTS = Num.wrap32 (s.get .SEC_DBG_ACCEPTS + 1) ∧
         (s.get .DBG_SESSION ≠ 1 → t.get .SEC_DBG_EXPIRY = s.now + Num.u32 (token.take (p.w 4)) 48 * 1000000)) ∧
     (∀ n r, u.tokenStep p (token.take (p.w 4)) sigOk = some (n, r) →
       Runs (.debugToken token sigOk) s fun t => Replied s t p r ∧ t.get .DBG_SESSION = s.get .DBG_SESSION ∧
         t.get .DBG_SCOPE = s.get .DBG_SCOPE ∧ t.get .DBG_PORT_OPEN = s.get .DBG_PORT_OPEN ∧
         t.get .SEC_DBG_REFUSALS = Num.wrap32 (s.get .SEC_DBG_REFUSALS + 1))) ∧
  (∀ (s u : State) (p : Pkt) (nonce : Bytes), s.CopyReady 0x71 State.attestChecks (some 2) (some (p.w64 2, 48)) p u →
     s.linkClosed = false → firstBad (u.attestChecks p) = none →
     (p.w 6 < 384 → Runs (.attest nonce) s fun t => Replied s t p { status := stPartial, detail := 6 }) ∧
     (384 ≤ p.w 6 → Runs (.attest nonce) s fun t =>
       (∃ rest, Written s t (p.w64 4) (u.measurement nonce ++ rest)) ∧
       ∃ n, Replied s t p (Reply.ok (if 1024 ≤ p.w 6 then 1024 else 384) n)))

/-- CLIENT_RESET shows RESETTING and remembers what it found in flight; CLIENT_RESET_DONE clears the control block and reports
it, in FAULT too (R130, R132, R209). -/
def Obligations.ClientResetCompletes : Prop :=
  (∀ (s u : State) (p : Pkt), s.Starts p → p.opcode = 0x7F → u = s.markStarted p.id → firstBad p.resetChecks = none →
    let c := Num.slice (p.w 2) 9 0
    Runs .clientReset s fun t => t.get .CL_RESETTING c = 1 ∧
      Tab.find? p.id t.resetting =
        some (c, s.packets.countP (fun q => q.client == c), s.streams.countP fun e => e.2.owner == c)) ∧
  (∀ (s : State) (c : Nat), s.coresRun = true ∨ s.isFault = true → (∃ r ∈ s.resetting, r.2.1 = c) →
    Runs (.clientResetDone c) s fun t => t.get .CL_ENABLE c = 0 ∧ t.get .CL_RESETTING c = 0 ∧ (∀ r ∈ t.resetting, r.2.1 ≠ c) ∧
      ∀ id n m p, s.resetting = [(id, (c, n, m))] → s.pkt? id = some p → p.client ≠ c → s.isStaged id = false →
        s.thermal = none → s.linkClosed = false → Replied s t p (Reply.ok n m))

/-! ## Doorbells, fetch and flush (R125, R126, R147 to R149, R163 to R169, R178) -/

/-- A doorbell in range becomes the tail and restarts a stopped fetch; one out of range is discarded and counted (R149, R163,
R164). Before READY, and in DOZE and SLEEP, the latest one is latched (R125, R126). With CCLK lost the crossing discards it and
counts it (R97). -/
def Obligations.DoorbellsComplete : Prop :=
  ∀ (s : State) (c v : Nat), s.HostOpen → c < Config.clients → v < 2 ^ 32 → s.get .CL_RESETTING c = 0 →
    (s.clockIsLost 19 = false → s.dev = 5 → s.power < 2 → s.get .CL_ENABLE c = 1 → Tab.find? c s.flushes = none →
      let head := s.get .CL_CMD_HEAD c
      let tail := s.get .CL_CPL_TAIL c
      let cmdOk := Num.sub32 v head ≤ 2 ^ s.get .CL_CMD_LOG2 c ∧ Num.sub32 v (s.get .CL_CMD_TAIL c) ≤ Num.sub32 v head
      let cplOk := Num.sub32 v tail ≤ Num.sub32 (s.get .CL_CPL_HEAD c) tail
      let rejected := fun t : State => t.get .CL_DB_REJECTS c = Num.satAdd 32 (s.get .CL_DB_REJECTS c) 1 ∧
        KeepsBlock (· == .CL_DB_REJECTS) c s t
      (cmdOk → Runs (.commandDoorbell c 0 4 v) s fun t => t.get .CL_CMD_TAIL c = v ∧ t.get .CL_FETCH_STOPPED c = 0 ∧
        RegsBut (fun f => f == .CL_CMD_TAIL || f == .CL_FETCH_STOPPED) c s t ∧
        { t.quiet with covers := [] } = { s.quiet with covers := [] } ∧ t.packets = s.packets) ∧
      (¬cmdOk → Runs (.commandDoorbell c 0 4 v) s rejected) ∧
      (cplOk → Runs (.completionDoorbell c v) s fun t => t.get .CL_CPL_TAIL c = v ∧ KeepsBlock (· == .CL_CPL_TAIL) c s t) ∧
      (¬cplOk → Runs (.completionDoorbell c v) s rejected)) ∧
    (s.clockIsLost 19 = false → (1 ≤ s.dev ∧ s.dev ≤ 4) ∨ s.dev = 8 ∨ (s.dev = 5 ∧ (s.power = 2 ∨ s.power = 3)) →
      (Runs (.commandDoorbell c 0 4 v) s fun t => (Tab.find? c t.dbLatch).map Prod.fst = some (some v) ∧
        t.get .DS_DB_LATCHED = 1 ∧ RegsBut (fun _ => false) c s t) ∧
      Runs (.completionDoorbell c v) s fun t => (Tab.find? c t.dbLatch).map Prod.snd = some (some v) ∧
        t.get .DS_DB_LATCHED = 1 ∧ RegsBut (fun _ => false) c s t) ∧
    (s.clockIsLost 19 = true → Runs (.completionDoorbell c v) s fun t =>
      t.get .HLT_XING_DISCARDS = Num.satAdd 32 (s.get .HLT_XING_DISCARDS) 1 ∧ KeepsBlock (· == .HLT_XING_DISCARDS) 0 s t)

/-- PACKET_FETCH by the client whose turn it is (R171): a covered packet within its allowances advances CMD_HEAD past it, takes a
reply slot and is held in flight; one not covered waits for a doorbell, one without an allowance for a slot, and a LENGTH below 2
halts the client (R165, R169). FETCH_RETRY reads again, or a second failure sets its bit, stops the fetch and signals (R149).
DEVICE_READ_FAIL sets the bit of its kind in GCTL_LINK_ERR; a failed ring fetch is made again, a packet that was reading completes
with DEVICE_FAULT, and a failed writeback changes nothing more (R148, R149, R179). That a LENGTH below 2 counts in FETCHED is the
model's choice (log entry 85). -/
def Obligations.FetchAndReadFailureComplete : Prop :=
  ((∀ (s : State) (c : Nat) (ws : List Word), c < Config.clients → s.fetchTurn = some c → fetchWordsOk s c ws = true →
     let len := Num.slice (ws.getD 0 0#32).toNat 23 16
     (2 ≤ len → len ≤ s.coveredWords c → s.allowance c = true → s.PktIds → Runs (.packetFetch c ws) s fun t =>
       t.get .CL_CMD_HEAD c = Num.wrap32 (s.get .CL_CMD_HEAD c + len) ∧
       t.get .CL_FETCHED c = Num.wrap32 (s.get .CL_FETCHED c + 1) ∧
       t.get .CL_CPL_RESERVED c = Num.wrap32 (s.get .CL_CPL_RESERVED c + 1) ∧ t.nextPkt = s.nextPkt + 1 ∧
       t.lastFetch = (if c = 0 then (s.lastFetch.1, true) else (c, false)) ∧
       ∃ cov, let p : Pkt := ⟨s.nextPkt, c, ws.take len, false, 0, none, cov, false⟩; commonCheck c p = none → p ∈ t.packets) ∧
     (s.coveredWords c < 2 ∨ 2 ≤ len ∧ s.coveredWords c < len → Runs (.packetFetch c ws) s fun t =>
       t.get .CL_WAIT_DOORBELL c = 1 ∧ RegsBut (· == .CL_WAIT_DOORBELL) c s t ∧ t.packets = s.packets ∧
       { t.quiet with looked := [] } = { s.quiet with looked := [] }) ∧
     (2 ≤ s.coveredWords c → len ≤ s.coveredWords c → s.allowance c = false → Runs (.packetFetch c ws) s fun t =>
       t.get .CL_WAIT_SLOT c = 1 ∧ KeepsBlock (fun f => f == .CL_WAIT_SLOT || f == .CL_WAIT_DOORBELL) c s t) ∧
     (2 ≤ s.coveredWords c → len < 2 → s.allowance c = true → Runs (.packetFetch c ws) s fun t =>
       t.get .CL_HALTED c = 1 ∧ t.get .CL_CMD_HEAD c = Num.wrap32 (s.get .CL_CMD_HEAD c + 2))) ∧
   (∀ (s : State) (c t0 : Nat), Tab.find? c s.retry = some t0 → t0 < s.now →
     (∀ kind, Runs (.fetchRetry c (.failed kind)) s fun t => t.get .CL_FETCH_STOPPED c = 1 ∧ Tab.find? c t.retry = none ∧
       t.get .GCTL_LINK_ERR = s.get .GCTL_LINK_ERR ||| ReadFail.bit kind ∧ Signalled s t (32 + c)) ∧
     ∀ ws, let u : State := { s with retry := Tab.del c s.retry }
       let len := Num.slice (ws.getD 0 0#32).toNat 23 16
       u.mayFetch c = true → fetchWordsOk u c ws = true → 2 ≤ len → len ≤ u.coveredWords c → u.allowance c = true →
       Runs (.fetchRetry c (.words ws)) s fun t => t.get .CL_CMD_HEAD c = Num.wrap32 (s.get .CL_CMD_HEAD c + len) ∧
         Tab.find? c t.retry = none)) ∧
  (∀ (s : State) (kind : ReadFail),
     let bit := s.get .GCTL_LINK_ERR ||| ReadFail.bit kind
     (∀ c, c < Config.clients → s.fetchTurn = some c → 2 ≤ s.coveredWords c →
       Runs (.deviceReadFail kind (.ring c)) s fun t => t.get .GCTL_LINK_ERR = bit ∧ Tab.find? c t.retry = some s.now ∧
         RegsBut (· == .GCTL_LINK_ERR) 0 s t ∧ t.packets = s.packets) ∧
     (∀ p r, s.linkClosed = false → s.held = false → s.thermal = none → s.pkt? p.id = some p → r ∈ s.reads → r.pkt = p.id →
       r.issued ≠ 0 →
       Runs (.deviceReadFail kind (.packet p.id)) s fun t => t.get .GCTL_LINK_ERR = bit ∧
         Replied s t p (Reply.deviceFault (ReadFail.detail kind))) ∧
     (∀ p, s.linkClosed = false → s.held = false → s.Starts p → s.readsFirst p = true → (∀ r ∈ s.reads, r.pkt ≠ p.id) →
       Runs (.deviceReadFail kind (.packet p.id)) s fun t => t.get .GCTL_LINK_ERR = bit ∧
         Replied s t p (Reply.deviceFault (ReadFail.detail kind))) ∧
     (∀ c, c < Config.clients → s.get .CL_WB_EN c = 1 → s.linkDead = false → s.held = false →
       Runs (.deviceReadFail kind (.writeback c)) s fun t => t.get .GCTL_LINK_ERR = bit ∧ KeepsBlock (· == .GCTL_LINK_ERR) 0 s t))

/-- CLIENT_FLUSH drops what was not started, empties the ring, and replies FLUSHED where a slot is free, with the words cut off,
the packets walked over and the packets dropped; a header that cannot be read sets the bit of its failure (R149, R178). -/
def Obligations.ClientFlushCompletes : Prop :=
  ∀ (s : State) (c tag : Nat) (headers : List Word) (fail : ReadFail), s.HostOpen → c < Config.clients → s.dev ≠ 6 →
    s.dev ≠ 7 → s.get .CL_FLUSHING c = 0 → s.get .CL_FLUSH_PENDING c = 0 → s.get .CL_ENABLE c = 1 → s.get .CL_RESETTING c = 0 →
    let n := s.coveredWords c
    let walk := flushWalk headers n
    Runs (.clientFlush c tag headers fail) s fun t =>
      t.get .CL_CMD_HEAD c = s.get .CL_CMD_TAIL c ∧ t.get .CL_HALTED c = 0 ∧ t.get .CL_FETCH_STOPPED c = 0 ∧
      t.get .CL_FLUSH_WORDS c = n - walk.2.1 ∧
      (∀ p ∈ t.packets, p.client = c → p.started = true ∨ s.isStaged p.id = true) ∧
      t.get .GCTL_LINK_ERR = (if walk.2.2 then s.get .GCTL_LINK_ERR ||| ReadFail.bit fail else s.get .GCTL_LINK_ERR) ∧
      (s.slotFree c = false → t.get .CL_FLUSH_PENDING c = 1) ∧
      (s.slotFree c = true → Tab.find? c t.flushes = none ∧ (s.thermal = none → s.linkClosed = false →
        ∃ slot, Sent s t (.reply c slot (s.replyAddr c slot) (replyWords (tag % 2 ^ 32) s.now
          ⟨stFlushed, min (n - walk.2.1) 65535, walk.1,
            s.packets.countP (fun p => p.client == c && !p.started && !s.isStaged p.id), s.get .CL_CMD_TAIL c, 0⟩))))

/-! ## Client and event ring registers (R7, R83, R84, R114, R160, R161) -/

/-- ENABLE rises only over valid rings and then zeroes the five counts; it falls only with nothing in flight and no flush; any
other write leaves the client as it was (R160). META_TAIL in range frees its slots; out of range it is discarded (R83).
EVU_CTRL: RING_EN rises only over a valid ring, and then zeroes head and tail; EVU_RING_TAIL in range moves, and is discarded
out of range or with the ring disabled; EVU_RING_BASE takes an aligned base while the ring is off, and else keeps its own whole (R7,
R114). -/
def Obligations.RingRegistersComplete : Prop :=
  (∀ (s : State) (c v : Nat), s.HostOpen → c < Config.clients → v < 2 ^ 32 →
     (s.writable (0x80001C + 256 * c) = true →
       let k := s.get .CL_CMD_LOG2 c
       let j := s.get .CL_CPL_LOG2 c
       let rings := s.get .CL_CMD_BASE c % 4096 = 0 ∧ s.get .CL_CPL_BASE c % 4096 = 0 ∧ 10 ≤ k ∧ k ≤ 20 ∧ 6 ≤ j ∧ j ≤ 16
       let ctrl := fun t : State => t.get .CL_ENABLE c = v % 2 ∧ t.get .CL_IRQ_EN c = v / 2 % 2 ∧
         t.get .CL_FENCE_EN c = v / 4 % 2 ∧ t.get .CL_WB_EN c = v / 8 % 2
       (v % 2 = 1 → rings → s.get .CL_ENABLE c = 0 → Runs (.clientEnableWrite c v) s fun t => ctrl t ∧
         t.get .CL_CMD_HEAD c = 0 ∧ t.get .CL_CMD_TAIL c = 0 ∧ t.get .CL_CPL_HEAD c = 0 ∧ t.get .CL_CPL_TAIL c = 0 ∧
         t.get .CL_CPL_RESERVED c = 0) ∧
       (v % 2 = 0 → s.get .CL_INFLIGHT c = 0 → s.get .CL_FLUSHING c = 0 → Runs (.clientEnableWrite c v) s fun t => ctrl t ∧
         KeepsBlock (fun f => f == .CL_ENABLE || f == .CL_IRQ_EN || f == .CL_FENCE_EN || f == .CL_WB_EN) c s t) ∧
       ((v % 2 = 1 ∧ ¬rings) ∨ (v % 2 = 0 ∧ s.get .CL_ENABLE c = 1 ∧ (s.get .CL_INFLIGHT c ≠ 0 ∨ s.get .CL_FLUSHING c = 1)) →
         Runs (.clientEnableWrite c v) s (KeepsBlock (fun _ => false) c s))) ∧
     (s.writable (0x800094 + 256 * c) = true →
       let n := 2 ^ s.get .META_LOG2 c
       let ok := s.get .META_LOG2 c ≠ 0 ∧ Num.sub32 (s.get .META_HEAD c) v ≤ n ∧ Num.sub32 v (s.get .META_TAIL c) ≤ n
       (ok → Runs (.metaTailWrite c v) s fun t => t.get .META_TAIL c = v ∧ (s.fenced = true → NoRecord s t)) ∧
       (¬ok → Runs (.metaTailWrite c v) s (KeepsBlock (fun _ => false) c s)))) ∧
  (∀ (s : State) (v : Nat), s.HostOpen → v < 2 ^ 32 →
     (s.writable 0x10008 = true →
       let ok := 6 ≤ s.get .EVU_RING_LOG2 ∧ s.get .EVU_RING_LOG2 ≤ 12 ∧ s.get .EVU_RING_BASE % 4096 = 0
       Runs (.evuRingCtrlWrite v) s fun t => t.get .EVU_IRQ_EN = v / 2 % 2 ∧ t.quiet = s.quiet ∧
         (v % 2 = 0 → t.get .EVU_RING_EN = 0 ∧ RegsBut (fun f => f == .EVU_RING_EN || f == .EVU_IRQ_EN) 0 s t) ∧
         (v % 2 = 1 → s.get .EVU_RING_EN = 0 → ok → t.get .EVU_RING_EN = 1 ∧ t.get .EVU_RING_HEAD = 0 ∧ t.get .EVU_RING_TAIL = 0 ∧
           RegsBut (fun f => f == .EVU_RING_EN || f == .EVU_IRQ_EN || f == .EVU_RING_HEAD || f == .EVU_RING_TAIL) 0 s t) ∧
         (v % 2 = 1 → s.get .EVU_RING_EN = 1 ∨ ¬ok → RegsBut (· == .EVU_IRQ_EN) 0 s t)) ∧
     (s.writable 0x10020 = true →
       let n := 2 ^ s.get .EVU_RING_LOG2
       let ok := s.get .EVU_RING_EN = 1 ∧ Num.sub32 (s.get .EVU_RING_HEAD) v ≤ n ∧ Num.sub32 v (s.get .EVU_RING_TAIL) ≤ n
       (ok → Runs (.evuRingTailWrite v) s fun t => t.get .EVU_RING_TAIL = v ∧ KeepsBlock (· == .EVU_RING_TAIL) 0 s t) ∧
       (¬ok → Runs (.evuRingTailWrite v) s (KeepsBlock (fun _ => false) 0 s))) ∧
     -- one write of all of EVU_RING_BASE is accepted or discarded whole (R7, R114)
     ∀ b, b < 2 ^ 64 → s.writable 0x10010 = true → Runs (.registerWrite 0 0x10010 8 b) s fun t =>
       t.get .EVU_RING_BASE = (if s.get .EVU_RING_EN = 0 ∧ b % 4096 = 0 then b else s.get .EVU_RING_BASE) ∧
       KeepsBlock (· == .EVU_RING_BASE) 0 s t)

/-- A write to CL_CPL_FENCE is discarded unless the handle names a live fence of this client; else it sets CPL_FENCE_VALID; the
fence's destruction clears that, and with it at 0 a reply updates no fence (R161). -/
def Obligations.CompletionFenceRule : Prop :=
  (∀ (s : State) (c v : Nat), s.HostOpen → c < Config.clients → s.writable (0x800048 + 256 * c) = true →
    let h := v % 2 ^ 17
    ((∃ f, Tab.find? h s.fences = some f ∧ f.creator = c) → Runs (.cplFenceWrite c v) s fun t =>
      t.get .CL_CPL_FENCE c = h ∧ t.get .CL_CPL_FENCE_VALID c = 1 ∧
      KeepsBlock (fun f => f == .CL_CPL_FENCE || f == .CL_CPL_FENCE_VALID) c s t) ∧
    ((∀ f, Tab.find? h s.fences = some f → f.creator ≠ c) →
      Runs (.cplFenceWrite c v) s (KeepsBlock (fun _ => false) c s))) ∧
  (∀ (s : State) (h : Nat) (f : Fence), Tab.find? h s.fences = some f → s.get .CL_CPL_FENCE f.creator = h →
    (s.destroyFence h).get .CL_CPL_FENCE_VALID f.creator = 0 ∧ Tab.find? h (s.destroyFence h).fences = none) ∧
  ∀ (s : State) (id : Nat) (p : Pkt) (r : Reply), s.pkt? id = some p → s.get .CL_CPL_FENCE_VALID p.client = 0 →
    (s.complete id r).fences = s.fences

/-! ## Any register (R7, R9, R10, R14, R15, R125, R138, R148, R531) -/

/-- Writes of registers: an interrupt enable that rises over a set bit signals (R531); a write that R125 keeps out changes nothing, and
one that finds the BARs closed is an Unsupported Request, reported in AER (R148); an unaligned or narrow one sets BAD_ACCESS (R138);
LOCK holds PRECLEAR and is never cleared (R10); RW takes the value and RW1C clears bits (R9). RESYNC of a stream of the sending side
empties its backlog (R390); CLEAN_EIGHTHS moves only an idle unit's boundary over clean granules (R303). -/
def Obligations.RegisterWritesComplete : Prop :=
  (∀ (s : State) (v : Nat), s.HostOpen → ∀ e ∈ enables, s.writable e.1 = true → Runs (.irqEnableWrite e.1 v) s fun t =>
    t.get e.2.2.1 e.2.2.2.1 = v % 2 ^ e.2.2.2.2.1 ∧
    (Num.clearBits (v % 2 ^ e.2.2.2.2.1) (s.get e.2.2.1 e.2.2.2.1) &&& s.get e.2.1 e.2.2.2.1 ≠ 0 →
      Signalled s t e.2.2.2.2.2)) ∧
  (∀ (s : State) (bar off width v : Nat), s.barsReached = true → bar ≠ 6 → off < barSize bar →
    (s.barsOpen = false → Runs (.registerWrite bar off width v) s fun t => t.cfg.uncStatus = s.cfg.uncStatus ||| 2 ^ 20 ∧
      RegsBut (fun _ => false) 0 s t ∧ t.dram = s.dram ∧ t.packets = s.packets ∧ t.msixTable = s.msixTable) ∧
    (s.barsOpen = true → bar = 0 → width = 4 → off % 4 = 0 → s.writable off = false →
      Runs (.registerWrite bar off width v) s (KeepsBlock (fun _ => false) 0 s)) ∧
    (s.barsOpen = true → (width ≠ 4 ∧ width ≠ 8) ∨ off % width ≠ 0 → Runs (.registerWrite bar off width v) s fun t =>
      t.get .GCTL_LINK_ERR = s.get .GCTL_LINK_ERR ||| 16 ∧ KeepsBlock (· == .GCTL_LINK_ERR) 0 s t)) ∧
  (∀ (s : State) (v : Nat), s.HostOpen → v < 2 ^ 32 →
    (s.writable 0x30400 = true → Runs (.registerWrite 0 0x30400 4 v) s fun t =>
      t.get .SOOT_PRECLEAR = (if s.get .SOOT_LOCK = 0 then v % 2 else s.get .SOOT_PRECLEAR) ∧
      t.get .SOOT_LOCK = (if v.testBit 31 then 1 else s.get .SOOT_LOCK)) ∧
    (s.writable 0x104 = true → Runs (.registerWrite 0 0x104 4 v) s fun t => t.get .LINK_LANE_ERR_LIMIT = v / 256 % 256 ∧
      t.get .LINK_AUTO_WIDTH = v % 2 ∧ KeepsBlock (fun f => f == .LINK_LANE_ERR_LIMIT || f == .LINK_AUTO_WIDTH) 0 s t) ∧
    (s.writable 0x110 = true → Runs (.registerWrite 0 0x110 4 v) s fun t =>
      t.get .GCTL_LINK_ERR = Num.clearBits (s.get .GCTL_LINK_ERR) (v % 32) ∧ KeepsBlock (· == .GCTL_LINK_ERR) 0 s t) ∧
    (∀ k st m, k < Config.streams → s.writable (0x91000 + 16 * k) = true → v.testBit 31 = true → s.get .MS_SIDE k = 1 →
      s.stream? k = some st → st.mirror = some m → Runs (.mirrorResyncWrite k v) s fun t =>
        ∃ x n, t.stream? k = some x ∧ x.mirror = some n ∧ n.resync = true ∧ n.w = 0 ∧ n.items = []) ∧
    (s.writable 0xC0000 = true →
      let idle := s.objects = [] ∧ s.loads = [] ∧ s.streams = [] ∧ s.get .SOOT_SCRUB_BUSY = 0
      let clean := ISet.meets (s.cleanEnd / 64) (v % 8 * s.eighth / 64) s.soot = false ∨ v % 8 ≤ s.get .CLEAN_EIGHTHS
      (1 ≤ v % 8 ∧ v % 8 ≤ 4 ∧ idle ∧ clean → Runs (.cleanEighthsWrite v) s fun t => t.get .CLEAN_EIGHTHS = v % 8) ∧
      (¬(1 ≤ v % 8 ∧ v % 8 ≤ 4 ∧ idle ∧ clean) → Runs (.cleanEighthsWrite v) s (KeepsBlock (fun _ => false) 0 s))))

/-- Reads: a full read returns the word and clears its RC fields and nothing else (R9); the low half of a 64-bit register keeps
the high half for the read that follows (R15); closed BARs answer Unsupported Request and report it (R148); a read across 8 bytes is
aborted and a narrower one changes nothing, a partial write changes only GCTL_LINK_ERR (R14, R138); a TLP found in error is discarded
and reported in AER (R148; the bits' places: log entry 83); a request outside every BAR is an Unsupported Request (R148). -/
def Obligations.RegisterReadsComplete : Prop :=
  (∀ (s : State) (off : Nat), s.HostOpen → off < 2 ^ 24 → off % 4 = 0 →
    let rc := fun (f : Field) (i : Nat) => ∃ r ∈ rowsAt off, r.1.acc = .rc ∧ r.1.field = f ∧ r.2.1 = i
    let cleared := fun t : State =>
      (∀ f i, rc f i → s.clockIsLost (blockClock off) = false → s.readsReset off = false → t.get f i = 0) ∧
      (∀ f i, settleFields f = false → ¬rc f i → t.get f i = s.get f i)
    (isHigh off = false → Runs (.registerReadClear 0 off 4) s fun t => Sent s t (.readData 0 off (s.readWord off)) ∧ cleared t) ∧
    (off % 8 = 0 → Runs (.registerReadClear 0 off 8) s fun t =>
      Sent s t (.readData 0 off (s.readWord off + 2 ^ 32 * s.readWord (off + 4)))) ∧
    (isLow off = true → isHigh off = false → Runs (.shadowLowRead off) s fun t =>
      Sent s t (.readData 0 off (s.readWord off)) ∧ t.shadowOwner = some off ∧ t.shadowWord = some (s.readWord (off + 4))) ∧
    (isHigh off = true →
      (∀ w, s.shadowOwner = some (off - 4) → s.shadowWord = some w → Runs (.shadowHighRead off) s fun t =>
        Sent s t (.readData 0 off w) ∧ t.shadowWord = none) ∧
      (s.shadowOwner ≠ some (off - 4) ∨ s.shadowWord = none → Runs (.shadowHighRead off) s fun t =>
        Sent s t (.readData 0 off (s.readWord off))))) ∧
  (∀ (s : State) (off : Nat), s.barsReached = true → s.barsOpen = false → off < 2 ^ 24 → off % 4 = 0 →
    Runs (.registerReadClear 0 off 4) s fun t => Sent s t (.unsupported off) ∧
      t.cfg.uncStatus = s.cfg.uncStatus ||| 2 ^ 20 ∧ RegsBut (fun _ => false) 0 s t) ∧
  ((∀ (s : State) (bar off bytes be : Nat), s.HostOpen → bar ≠ 6 → off < barSize bar → bytes ≠ 0 →
    let full := (bytes = 4 ∨ bytes = 8) ∧ off % bytes = 0 ∧ be % 2 ^ bytes = 2 ^ bytes - 1
    (¬full → Runs (.badBarAccess bar true off bytes be none) s fun t =>
      t.get .GCTL_LINK_ERR = s.get .GCTL_LINK_ERR ||| 16 ∧ KeepsBlock (· == .GCTL_LINK_ERR) 0 s t) ∧
    (8 < off % 8 + bytes → Runs (.badBarAccess bar false off bytes be none) s fun t =>
      t.get .GCTL_LINK_ERR = s.get .GCTL_LINK_ERR ||| 16 ∧ t.cfg.uncStatus = s.cfg.uncStatus ||| 2 ^ 15 ∧
      Sent s t (.completerAbort off)) ∧
    (off % 8 + bytes ≤ 8 → ¬full → Runs (.badBarAccess bar false off bytes be none) s fun t =>
      (∃ bs : Bytes, Sent s t (.readBytes bar off bs) ∧ bs.length = bytes ∧
        ∀ i, i < bytes → bs.getD i 0#8 = if be.testBit i then s.barByte bar (off + i) else 0#8) ∧
      KeepsBlock (fun _ => false) 0 s t)) ∧
   (∀ (s : State) (bar off bytes be : Nat) (write : Bool) (e : TlpFault), s.barsReached = true → bar ≠ 6 → off < barSize bar →
     bytes ≠ 0 → (e = .poisoned → write = true) → (e = .ecrc → s.cfg.ecrcCheck = true) →
     Runs (.badBarAccess bar write off bytes be (some e)) s fun t =>
       t.cfg.uncStatus = s.cfg.uncStatus ||| 2 ^ TlpFault.bit e ∧ RegsBut (fun _ => false) 0 s t ∧ t.packets = s.packets ∧
       t.dram = s.dram ∧ (e = .outside → write = false → Sent s t (.unsupported off))))

/-- Configuration accesses: a read gives the word of configuration space (R134, R135; its layout: log entry 83); the enables the host
writes stand, and no vector that is no longer blocked stays pending (R140, R158); D3hot asks for DOZE or SLEEP where the unit may go,
else it is denied, and takes the link to L1; D0 returns the function and the link (R151, R446). -/
def Obligations.ConfigurationWritesComplete : Prop :=
  ∀ s : State, s.cfgReached = true →
    (∀ off, off < 2 ^ 12 → off % 4 = 0 → Runs (.registerReadClear 6 off 4) s fun t =>
      Sent s t (.readData 8 off (s.cfgWord off % 2 ^ 32)) ∧ KeepsBlock (fun _ => false) 0 s t) ∧
    (∀ v, v < 2 ^ 32 → Runs (.registerWrite 6 0x68 4 (v / 2 ^ 16 * 2 ^ 16 + v % 2 ^ 15)) s fun t =>
      t.cfg.maxPayload = v / 32 % 8 ∧ t.cfg.maxRead = v / 4096 % 8 ∧ RegsBut (fun _ => false) 0 s t) ∧
    (∀ bme mse, Runs (.busMasterEnableWrite bme mse) s fun t => t.bme = bme ∧ t.mse = mse ∧ t.get .LINK_BME = Num.b2n bme ∧
      ∀ v, (Tab.find? v s.msixPba).isSome = true → t.msixBlocked v = false → Tab.find? v t.msixPba = none) ∧
    (∀ enable fmask, Runs (.msixUnblock none enable fmask) s fun t => t.msixEnable = enable ∧ t.funcMask = fmask ∧
      ∀ v, (Tab.find? v s.msixPba).isSome = true → t.msixBlocked v = false → Tab.find? v t.msixPba = none) ∧
    (∀ v enable fmask, v < Config.vectors → s.barsOpen = true → Runs (.msixUnblock (some v) enable fmask) s fun t =>
      (t.msixEntry v).masked = false ∧ (t.msixEntry v).addr = (s.msixEntry v).addr ∧
      ((Tab.find? v s.msixPba).isSome = true → t.msixBlocked v = false →
        Sent s t (.msix v (s.msixEntry v).addr (s.msixEntry v).data))) ∧
    (s.d3hot = false → Runs .pmcsrD3hot s fun t => t.d3hot = true ∧ t.get .LINK_LTSSM = 6 ∧
      (s.isReady = true → s.thermal = none → s.mayDoze = true → s.power < 2 → s.waking = none →
        t.get .PWR_D3_DENIED = 0 ∧ t.powerReq.isSome = true ∧
        (s.powerReq = none → t.powerReq = some (2 + s.get .PWR_D3HOT_MAP, none))) ∧
      (s.mayDoze = false → t.get .PWR_D3_DENIED = 1)) ∧
    (s.d3hot = true → s.power < 2 → Runs .pmcsrD0Write s fun t => t.d3hot = false ∧ t.get .LINK_LTSSM = 3 ∧
      KeepsBlock (· == .LINK_LTSSM) 0 { s with d3hot := false } t)

/-! ## The Wren link (R351 to R379) -/

/-- The training goes from state to state, sends TRAIN_CFG on reaching CONFIG, and reaches DATA at the width committed that the
lanes allow (R355, R358); the end of the width window commits the leader's choice and leaves the follower waiting (R358). -/
def Obligations.WrenTrainingAdvances : Prop :=
  ∀ (s : State) (r : Training), s.w.train = some r → s.wrenOn = true →
    (∀ lanes, r.phase < 5 → Runs (.wrenTrainAdvance lanes) s fun t =>
      (∃ u, t.w.train = some u ∧ u.phase = r.phase + 1 ∧ u.full = r.full) ∧
      (r.full = true → t.get .WRN_LSTATE = r.phase + 1) ∧ (r.phase = 4 → ∃ q ws, Sent s t (.wren 1 q ws)) ∧
      KeepsWren (fun f => f == .WRN_LSTATE || f == .WRN_TX_FRAMES) s t) ∧
    (∀ lanes w x, r.phase = 5 → r.set = some w → reached w lanes = some x →
      (∀ l, s.w.leftData = some l → s.now < l + 2000) → Runs (.wrenTrainAdvance lanes) s fun t =>
        t.get .WRN_WIDTH = x.1 ∧ t.get .WRN_LANE = x.2 ∧
        (s.w.again = false → s.w.held = none → t.get .WRN_LSTATE = 6 ∧ t.w.train = none ∧ t.get .WRN_PAYLOAD_MBPS = 2750 * x.1) ∧
        (s.w.again = true ∨ s.w.held ≠ none → t.get .WRN_LSTATE = 7)) ∧
    (∀ x, r.window = some x → r.set = none → x + 64 ≤ s.now →
      (s.get .WRN_LEADER = 0 → Runs .widthWindowEnd s (KeepsBlock (fun _ => false) 0 s)) ∧
      (s.get .WRN_LEADER ≠ 0 → Runs .widthWindowEnd s fun t =>
        (∃ u, t.w.train = some u ∧ u.set = some (s.w.held.getD (r.partner.getD (s.baseWidth r)))) ∧ t.w.held = none ∧
        (∃ q ws, Sent s t (.wren 1 q ws)) ∧ KeepsWren (· == .WRN_TX_FRAMES) s t))

/-- What asks for a training: lane errors up to the limit with AUTO_WIDTH, the loss of a lane's lock, and the host's RETRAIN and
WIDTH_REQ; a host request tells the partner (R357, R358, R378). A WIDTH_REQ of 3 is discarded. -/
def Obligations.RetrainRequestsComplete : Prop :=
  ∀ s : State,
    (∀ lane errs, s.inData = true → s.laneUsed lane = true → 1 ≤ errs →
      (Runs (.wrenAutoPropose lane errs) s fun t => t.get .WRN_LANE_ERR lane = Num.satAdd 16 (s.get .WRN_LANE_ERR lane) errs ∧
        (s.get .WRN_AUTO_WIDTH = 1 → s.get .WRN_LANE_ERR_LIMIT ≤ errs → t.w.held = some (1, 1 - lane) ∧
          (s.w.train = none → t.get .WRN_LSTATE = 7)) ∧
        (s.get .WRN_AUTO_WIDTH ≠ 1 ∨ errs < s.get .WRN_LANE_ERR_LIMIT → KeepsBlock (· == .WRN_LANE_ERR) lane s t)) ∧
      (s.w.train = none → Runs (.laneLockLoss lane) s fun t => t.get .WRN_LSTATE = 7 ∧ t.get .WRN_PAYLOAD_MBPS = 0 ∧
        (∃ u, t.w.train = some u ∧ u.full = false ∧ u.phase = 2) ∧
        KeepsWren (fun f => f == .WRN_LSTATE || f == .WRN_PAYLOAD_MBPS) s t)) ∧
    (∀ v, s.HostOpen → s.writable 0x80004 = true → v < 2 ^ 32 →
      (v / 2 % 4 = 0 → v.testBit 16 = true → s.inData = true → s.w.train = none → Runs (.wrenRetrainWrite v) s fun t =>
        t.get .WRN_LSTATE = 7 ∧ t.get .WRN_AUTO_WIDTH = v % 2 ∧ t.get .WRN_LANE_ERR_LIMIT = v / 256 % 256 ∧
        ∃ q, Sent s t (.wren 7 q [0])) ∧
      (v / 2 % 4 = 1 ∨ v / 2 % 4 = 2 → Runs (.wrenWidthReq v) s fun t =>
        t.w.held = some (v / 2 % 4, if v / 2 % 4 = 1 then v / 8 % 2 else 0) ∧ t.get .WRN_AUTO_WIDTH = v % 2 ∧
        t.get .WRN_LANE_ERR_LIMIT = v / 256 % 256) ∧
      (v / 2 % 4 = 3 → Runs (.wrenWidthReq v) s (KeepsBlock (fun _ => false) 0 s)))

/-- What takes the link down, each with its reason: a training that fails, silence of 256 ticks, the partner's unbind, reset or
FAULT, 16 bad tags in a row, a rekey without the TRNG (R354, R360, R362, R364, R377, R435). -/
def Obligations.WrenLinkGoesDown : Prop :=
  ∀ s : State, s.wrenOn = true →
    (s.wdgResetNow = false → ∀ reason, reason = 1 ∨ reason = 2 → s.linkUp = true →
      (∃ l, s.w.leftData = some l ∧ l + 2000 ≤ s.now) → Runs (.wrenLinkDown reason) s fun t => WrenDown s t reason) ∧
    (s.inData = true →
      (s.wdgResetNow = false → ∀ reason, reason = 6 ∨ reason = 7 → Runs (.wrenLinkDown reason) s fun t => WrenDown s t reason) ∧
      (s.w.lastRx + 256 ≤ s.now → Runs .wrenKeepaliveExpire s fun t => WrenDown s t 3) ∧
      (∀ code ch, code < 256 → ch < 16 → Runs (.faultFrameRx code ch) s fun t => WrenDown s t 5 ∧
        t.get .WRN_PF_CODE = code ∧ t.get .WRN_PF_CHANNEL = ch) ∧
      (s.session = 2 → s.w.rekey = false → 2 ^ 32 - 2 ^ 24 ≤ s.w.txSeq →
        (s.get .KEY_TRNG_FAIL = 1 → Runs .rekeyStart s fun t => WrenDown s t 4) ∧
        (s.get .KEY_TRNG_FAIL ≠ 1 → Runs .rekeyStart s fun t => t.w.rekey = true ∧ t.w.ctrlQ = s.w.ctrlQ ++ [(5, [])] ∧
          KeepsWren (fun _ => false) s t)) ∧
      (Runs (.wrenFrameReject false) s fun t => t.w.nak = true ∧ t.w.badTags = 0 ∧ KeepsWren (fun _ => false) s t) ∧
      (s.w.badTags + 1 < 16 → Runs (.wrenFrameReject true) s fun t => t.w.nak = true ∧ t.w.badTags = s.w.badTags + 1 ∧
        t.get .WRN_AUTH_FAILS = Num.satAdd 32 (s.get .WRN_AUTH_FAILS) 1 ∧ KeepsWren (· == .WRN_AUTH_FAILS) s t) ∧
      (16 ≤ s.w.badTags + 1 → Runs (.wrenFrameReject true) s fun t => WrenDown s t 4 ∧
        t.get .WRN_AUTH_FAILS = Num.satAdd 32 (s.get .WRN_AUTH_FAILS) 1))

/-- The transmitter: CTRL first, then MIRROR and EPOCH under their credits, each under the next SEQ, an MAU in frames of 256 bytes, the
last of which ends its job (R282, R354, R366, R383); CREDIT and the leader's tick word (R354, R374). With the gate closed what waits is
refused and nothing of it is sent; the granules of an MAU not yet sent are counted (R46, R363). That one refusal takes all that waits of
an MAU, and counts each of its sooted granules, is the model's choice (log entry 36). -/
def Obligations.WrenSends : Prop :=
  ∀ s : State,
    (s.canSend 0 = true →
      (∀ ty b rest, s.w.ctrlQ = (ty, b) :: rest → Runs .wrenFrameTx s fun t =>
        Sent s t (.wren ty s.w.txSeq (0 :: b)) ∧ t.w.ctrlQ = rest ∧ t.w.txSeq = s.w.txSeq + 1 ∧
        KeepsWren (· == .WRN_TX_FRAMES) s t) ∧
      (Runs .wrenCreditSend s fun t => Sent s t (.wren 2 s.w.txSeq (0 :: s.creditWords)) ∧ t.w.nak = false ∧
        t.w.lastCredit = s.now ∧ KeepsWren (· == .WRN_TX_FRAMES) s t) ∧
      (∀ cycle, s.session = 2 → s.get .WRN_LEADER = 1 → s.now % 1024 = 0 → cycle < 25 → Runs (.wrenTickSend cycle) s fun t =>
        Sent s t (.wren 3 s.w.txSeq (0 :: (words64 s.now ++ [cycle]))) ∧ KeepsWren (· == .WRN_TX_FRAMES) s t)) ∧
    (s.w.ctrlQ = [] → s.gateOpen = true →
      (∀ k m, s.nextMau = some (k, m) → s.w.epochQ = [] ∨ s.w.mirrorRun < 15 → s.canSend 1 = true →
        let last := m.sent + 1 = m.size / 256
        Runs .wrenFrameTx s fun t =>
          Sent s t (.wren 0x10 s.w.txSeq ((k + 256 * Num.b2n (m.sent == 0) + 512 * Num.b2n (decide last)) :: m.frameWords)) ∧
          t.w.mirrorRun = s.w.mirrorRun + 1 ∧ t.w.epochQ = s.w.epochQ ∧
          (last → t.get .MS_MAUS k = Num.wrap32 (s.get .MS_MAUS k + 1) ∧ (∀ j ∈ t.jobs, j.kind = .wren → j.id ≠ m.job) ∧
            ∀ q ∈ t.w.maus, q ≠ (k, m)) ∧
          (¬last → t.jobs = s.jobs ∧ (k, { m with sent := m.sent + 1 }) ∈ t.w.maus)) ∧
      (∀ b rest, s.w.epochQ = b :: rest → s.nextMau = none ∨ 15 ≤ s.w.mirrorRun → s.canSend 2 = true →
        Runs .wrenFrameTx s fun t => Sent s t (.wren 0x11 s.w.txSeq (s.w.epoch :: bodyWordsN 64 b)) ∧ t.w.epochQ = rest ∧
          t.w.mirrorRun = 0 ∧ t.w.maus = s.w.maus)) ∧
    (s.w.ctrlQ = [] → s.gateOpen = false → s.inData = true → s.w.maus ≠ [] ∨ s.w.epochQ ≠ [] → Runs .wrenFrameTx s fun t =>
      t.w.txSeq = s.w.txSeq ∧ t.w.maus = [] ∧ t.w.epochQ = [] ∧ (∀ j ∈ t.jobs, j.kind ≠ .wren) ∧
      (∀ k m, s.w.maus = [(k, m)] → s.w.epochQ = [] →
        let rs := s.sootIn (m.addr + 256 * m.sent) (m.addr + m.size)
        t.w.gateDrops = s.w.gateDrops + (m.size / 256 - m.sent) ∧
        (rs ≠ [] → t.get .SEC_BREACH_TOTAL = (s.get .SEC_BREACH_TOTAL + (rs.map fun r => r.2 - r.1).sum) % 2 ^ 64)) ∧
      ∃ l, t.egress = s.egress ++ l ∧ ∀ x ∈ l, ∀ ty q ws, x ≠ .wren ty q ws)

/-- What a received control frame does; each counts in WRN_RX_FRAMES. TRAIN_CFG names the peer and the leader, and a follower
takes the width and speed committed (R355, R356, R358); CREDIT sets the limits, gives the partner's role and, with NAK, has
the sender resend from the SEQ it names (R354, R366, R369); the leader's tick gives the follower its offset (R374, R375); a
PING is echoed and an echo measured (R374); PAIR and KEY frames go on with the handshake and the rekey (R361, R362);
RETRAIN_REQ starts a training (R357). -/
def Obligations.WrenControlFramesReceived : Prop :=
  ∀ s : State,
    let count := fun t : State => t.get .WRN_RX_FRAMES = (s.get .WRN_RX_FRAMES + 1) % 2 ^ 64
    (∀ r serial b8, s.w.train = some r → s.wrenOn = true → r.phase = 5 → serial < 2 ^ 64 → b8 < 128 → b8 % 4 ≠ 3 →
      (b8.testBit 3 = true → b8 / 16 % 4 = 1 ∨ b8 / 16 % 4 = 2) → Runs (.trainCfgRx serial b8) s fun t => count t ∧
        t.w.peer = some serial ∧ (serial = s.fuses.serial → t.get .WRN_REASON = 8) ∧
        (serial ≠ s.fuses.serial → t.get .WRN_LEADER = Num.b2n (decide (serial < s.fuses.serial))) ∧
        (s.fuses.serial < serial → b8.testBit 3 = true → r.set = none →
          (∃ u, t.w.train = some u ∧ u.set = some (b8 / 16 % 4, b8 / 64 % 2)) ∧ t.w.held = none)) ∧
    (s.inData = true →
      (∀ ack lm le w3, w3 < 2 ^ 20 → Runs (.creditRx ack lm le w3) s fun t => count t ∧
        t.w.lim = [(0, w3 % 65536), (1, Num.wrap32 lm), (2, Num.wrap32 le)] ∧ t.get .WRN_PARTNER_ROLE = w3 / 2 ^ 17 % 8 ∧
        (w3.testBit 16 = true → ∀ e ∈ acked (Num.wrap32 ack) s.w.txSeq s.w.replay,
          Sent s t (.wren e.2.1 e.1 (e.2.2.1 :: e.2.2.2)))) ∧
      (∀ tick cycle own, cycle < 25 → own < 25 → tick < 2 ^ 64 → Runs (.tickRx tick cycle own) s fun t => count t ∧
        (s.session = 2 → s.get .WRN_LEADER ≠ 1 →
          let o : Int := (25 * tick + cycle + s.get .WRN_LINK_DELAY : Nat) - (25 * s.now + own : Nat)
          t.get .WRN_TIME_OFFSET = Num.ofSigned 32 o ∧ t.get .EVU_ALIGNED = Num.b2n (decide (-25 ≤ o) && decide (o ≤ 25)) ∧
          (t.w.slewReq = some false ↔ 25 < o) ∧ (t.w.slewReq = some true ↔ o < -25)) ∧
        KeepsWren (fun f => f == .WRN_RX_FRAMES || f == .WRN_TIME_OFFSET || f == .EVU_ALIGNED) s t) ∧
      (∀ count' echo own, (echo = true → count' ≤ own) → Runs (.pingRx count' echo own) s fun t => count t ∧
        (echo = false → t.w.ctrlQ = s.w.ctrlQ ++ [(8, words64 count' ++ [1])]) ∧
        (echo = true → s.w.pings.length < 7 → t.w.pings = s.w.pings ++ [own - count']) ∧
        (echo = true → 7 ≤ s.w.pings.length → t.w.pings = []) ∧
        KeepsWren (fun f => f == .WRN_RX_FRAMES || f == .WRN_LINK_DELAY) s t) ∧
      (Runs .pairFrameRx s fun t => count t ∧ KeepsWren (· == .WRN_RX_FRAMES) s t ∧
        ∀ ps b, s.w.pair = some (ps, b) → t.w.pair = some (ps, true) ∧ t.w.ctrlQ = s.w.ctrlQ ++ [(4, [])]) ∧
      (∀ last, Runs (.keyFrameRx last) s fun t => count t ∧ KeepsWren (· == .WRN_RX_FRAMES) s t ∧
        (s.session = 2 → s.w.rekey = true → last = true → t.w.rekey = false ∧ t.w.txSeq = 1) ∧
        (s.session = 2 → s.w.rekey = false → t.w.ctrlQ = s.w.ctrlQ ++ [(5, [])] ∧ (last = true → t.w.rxSeq = 1))) ∧
      (s.w.train = none → Runs .retrainReqRx s fun t => count t ∧ t.get .WRN_LSTATE = 7))

/-- MIRROR and EPOCH frames land in their rings, sooted (R42, R363). A unit that is not STANDBY discards and counts them; a frame of a
stream not mirrored here is ignored; an epoch that does not follow the last one applied is discarded (R369, R373, R398, R405).
EPOCH_START numbers the next epoch and abandons one still open; at SNAPSHOT_DEADLINE no stream is waited for (R370, R372). Where the
rings stand is the model's choice (log entry 81). -/
def Obligations.MirrorAndEpochFramesComplete : Prop :=
  ∀ s : State,
    (∀ ctx body, s.inData = true → bodyOk body = true →
      let landed := fun (cls : Nat) (t : State) => ∀ a, s.landing cls (Tab.getD 0 cls s.w.got) ≤ a →
        a < s.landing cls (Tab.getD 0 cls s.w.got) + 288 → t.sooted a = true
      (ctx < 1024 → ctx.testBit 7 = false → Runs (.mirrorFrameRx ctx body) s fun t =>
        t.get .WRN_RX_FRAMES = (s.get .WRN_RX_FRAMES + 1) % 2 ^ 64 ∧ (s.session = 2 → landed 1 t) ∧
        (s.session ≠ 2 → KeepsWren (· == .WRN_RX_FRAMES) s t) ∧
        (s.session = 2 → s.role ≠ 1 → t.get .WRN_RX_DISCARDS = Num.wrap32 (s.get .WRN_RX_DISCARDS + 1) ∧
          KeepsWren (fun f => f == .WRN_RX_FRAMES || f == .WRN_RX_DISCARDS) { s with soot := t.soot } t) ∧
        (s.session = 2 → s.role = 1 → s.mirroredHere (ctx % 128) = false →
          t.get .GCTL_PAIR_IGNORED = Num.wrap32 (s.get .GCTL_PAIR_IGNORED + 1) ∧
          KeepsWren (fun f => f == .WRN_RX_FRAMES || f == .GCTL_PAIR_IGNORED) { s with soot := t.soot } t)) ∧
      (ctx < 2 ^ 32 → Runs (.epochFrameRx ctx body) s fun t =>
        t.get .WRN_RX_FRAMES = (s.get .WRN_RX_FRAMES + 1) % 2 ^ 64 ∧ (s.session = 2 → landed 2 t) ∧
        (s.session = 2 → s.role ≠ 1 → t.get .WRN_RX_DISCARDS = Num.wrap32 (s.get .WRN_RX_DISCARDS + 1) ∧
          KeepsWren (fun f => f == .WRN_RX_FRAMES || f == .WRN_RX_DISCARDS) { s with soot := t.soot } t) ∧
        (s.session = 2 → s.role = 1 → s.w.eRx = none → s.w.rxSkip ≠ some ctx →
          (Num.u8 body 0 ≠ 1 ∨ ctx ≠ s.w.applied + 1 → t.w.rxSkip = some ctx ∧
            t.get .WRN_EPOCH_DISCARDED = Num.wrap32 (s.get .WRN_EPOCH_DISCARDED + 1)) ∧
          (body.length = 64 → Num.u8 body 0 = 1 → Num.u32 body 4 = ctx → ctx = s.w.applied + 1 →
            t.w.eRx = some ⟨ctx, [], 0, 64, []⟩)))) ∧
    (∀ e len, s.w.e = some (e, len) → s.isReady = true →
      (s.sendsMirror = true → e + len ≤ s.now → Runs .epochStart s fun t =>
        t.w.epoch = Num.wrap32 (s.w.epoch + 1) ∧ t.w.e = some (e + len, s.epochMs * 1000) ∧
        t.w.snapWait = s.mirroredStreams ∧
        (s.w.epochOpen = true → t.get .WRN_EPOCH_ABANDONED = Num.wrap32 (s.get .WRN_EPOCH_ABANDONED + 1)) ∧
        KeepsWren (· == .WRN_EPOCH_ABANDONED) { s with soot := t.soot } t) ∧
      (s.w.epochOpen = true → s.w.snapWait ≠ [] → e + s.epochMs * 500 ≤ s.now → Runs .snapshotDeadline s fun t =>
        t.w.snapWait = [] ∧ RegsBut (fun _ => false) 0 s t))

/-! ## The host link, resets and the boot (R99, R119 to R132, R147 to R157, R527, R530) -/

/-- The link passes Polling and Configuration and comes up, goes down, returns, passes Recovery and changes width: the registers of
LINK_STATUS, the event of its loss, what waited on host reads ends, and the return starts a function-level reset (R122, R151 to R157).
When DOWN is cleared, and that width and speed keep their values while the link is down, is the model's reading (log entry 50); so is
the half of its width that the device offers (log entry 55). -/
def Obligations.HostLinkCompletes : Prop :=
  ∀ s : State, s.linkOn = true →
    (∀ speed width, linkOk speed width = true → s.get .LINK_DL_UP = 0 →
      let up := fun t : State => t.get .LINK_DL_UP = 1 ∧ t.get .LINK_LTSSM = 3 ∧ t.get .LINK_SPEED = speed ∧ t.get .LINK_WIDTH = width
      (s.get .LINK_DOWN = 0 → Runs (.hostLinkUp 3 speed width) s up) ∧
      (s.get .LINK_DOWN = 1 → Runs (.dlUpReturn speed width) s fun t => up t ∧ t.flr = some true ∧ t.get .LINK_DOWN = 1 ∧
        (s.isReady = true → t.dev = 6))) ∧
    (∀ l speed width, l = 1 ∨ l = 2 → s.get .LINK_DL_UP = 0 → Runs (.hostLinkUp l speed width) s fun t =>
      t.get .LINK_LTSSM = l ∧ KeepsBlock (· == .LINK_LTSSM) 0 s t) ∧
    (∀ code, code = 0 ∨ code = 8 ∨ code = 9 → s.get .LINK_DL_UP = 1 → Runs (.hostLinkDown code) s fun t =>
      t.get .LINK_DOWN = 1 ∧ t.get .LINK_DL_UP = 0 ∧ t.get .LINK_LTSSM = code ∧
      t.get .GCTL_LINK_DOWNS = Num.satAdd 16 (s.get .GCTL_LINK_DOWNS) 1 ∧ Raised s t 8 0 code 0 0 ∧
      ((s.inRank 8 0).treatment 8 = .apply → t.retry = [] ∧
        ∀ r p, s.reads = [r] → r.issued ≠ 0 → s.pkt? r.pkt = some p → t.pkt? r.pkt = none)) ∧
    (s.linkRuns = true →
      (∀ lane errs kind, lane < 8 → s.held = false → Runs (.linkRecovery (.enter lane errs kind)) s fun t => t.get .LINK_LTSSM = 4 ∧
        (kind = none → KeepsBlock (· == .LINK_LTSSM) 0 s t) ∧
        ∀ k, kind = some k → t.get .GCTL_LANE_ERR lane = Num.satAdd 16 (s.get .GCTL_LANE_ERR lane) errs ∧
          t.cfg.corStatus = s.cfg.corStatus ||| 2 ^ LinkError.bit k) ∧
      (s.get .LINK_LTSSM = 4 → Runs (.linkRecovery .speed) s fun t => t.get .LINK_LTSSM = 5 ∧ KeepsBlock (· == .LINK_LTSSM) 0 s t) ∧
      (∀ speed width, linkOk speed width = true → s.held = true → Runs (.linkRecovery (.toL0 speed width)) s fun t =>
        t.get .LINK_LTSSM = 3 ∧ t.get .LINK_SPEED = speed ∧ t.staged = [] ∧ t.crossing = [] ∧ t.offer = none ∧
        (s.offer = none → t.get .LINK_WIDTH = width ∧ t.get .GCTL_LINK_ERR = s.get .GCTL_LINK_ERR) ∧
        ∀ w, s.offer = some w → t.get .LINK_WIDTH = min width w ∧ t.get .GCTL_LINK_ERR = s.get .GCTL_LINK_ERR ||| 8) ∧
      (∀ lane errs, lane < 8 → s.get .LINK_AUTO_WIDTH = 1 → s.cfg.widthDisable = false → s.get .LINK_LANE_ERR_LIMIT ≤ errs →
        1 < s.get .LINK_WIDTH → Runs (.linkWidthReduce lane errs) s fun t => t.offer = some (s.get .LINK_WIDTH / 2) ∧ t.held = true ∧
          t.get .GCTL_LANE_ERR lane = Num.satAdd 16 (s.get .GCTL_LANE_ERR lane) errs ∧
          (s.held = false → t.get .LINK_LTSSM = 4) ∧ t.get .LINK_WIDTH = s.get .LINK_WIDTH))

/-- A function-level reset disables every client, ends every stream, packet, fence and job without a completion or a record, and
clears the configuration space; a GCTL_RESET write of the same cycle that starts a warm reset wins over it (R132); its end makes the
unit READY again and, after the link's return, clears DOWN (R129, R153). -/
def Obligations.FunctionLevelResetCompletes : Prop :=
  (∀ (s : State) (g : Option Nat), s.get .LINK_DL_UP = 1 → s.get .LINK_DOWN = 0 → s.held = false → s.pwrok = true → s.perstN = true →
    s.bayrstN = true →
    let warm := ∃ v, g = some v ∧ v / 65536 % 65536 = 0xC0DE ∧ v.testBit 0 = true ∧ s.mse = true ∧ s.d3hot = false
    (warm → Runs (.functionLevelReset g) s fun t => t.boot = .sramZero ∧ t.get .RC_CAUSE = 16 ∧ t.flr = none ∧ t.packets = [] ∧
      t.streams = []) ∧
    (¬warm → Runs (.functionLevelReset g) s fun t =>
      t.flr.isSome = true ∧ (s.isReady = true → t.dev = 6) ∧ (s.isReady = false → t.dev = s.dev) ∧
      (∀ c, t.get .CL_ENABLE c = 0) ∧ t.get .EVU_RING_EN = 0 ∧ t.streams = [] ∧ t.packets = [] ∧ t.fences = [] ∧ t.jobs = [] ∧
      ((∀ e ∈ s.objects, e.2.handle % 65536 = e.1) → t.objects = []) ∧ t.bme = false ∧ t.mse = false ∧ t.d3hot = false ∧
      t.msixTable = [] ∧ t.dram = s.dram ∧ NoRecord s t ∧ ∃ l, t.egress = s.egress ++ l ∧ ∀ x ∈ l, ∀ c n a ws, x ≠ .reply c n a ws)) ∧
  (∀ (s : State) (up : Bool), s.flr = some up → Runs .flrComplete s fun t => t.flr = none ∧
    (s.dev = 6 → t.dev = 5) ∧ (s.dev ≠ 6 → t.dev = s.dev) ∧
    (up = true → s.get .LINK_DL_UP = 1 → t.get .LINK_DOWN = 0) ∧ (up = false → t.get .LINK_DOWN = s.get .LINK_DOWN))

/-- The resets that run the boot ROM: what holds the unit in reset, its cause, what survives (fuses, SPI NOR, and but for
power-on the tick and DRAM), and the zeroing that starts the boot (R119, R120, R127, R128, R131, R525, R527, R530). A tamper response
that waited for a core restart is made good first (R112, R449); in which tick an event out of its rank is captured is the model's
reading (log entry 6). -/
def Obligations.BootResetsComplete : Prop :=
  ∀ s : State,
    let kept := fun t : State => t.dev = 1 ∧
      t.packets = [] ∧ t.streams = [] ∧ t.get .RC_WAS_FAULT = Num.b2n s.isFault ∧ t.role = (if t.partner.isSome then 2 else 3) ∧
      (s.tamperWait = [] → t.dram = s.dram ∧ t.partner = s.partner ∧ t.fuses = s.fuses) ∧ (s.tamperWait ≠ [] → t.partner = none)
    let here := fun t : State => s.outOfRank 8 0 = false → s.tamperWait = [] → t.now = s.now
    (∀ lost, s.pwrok = true ∨ (lost = true ∧ s.aonValid = true) → Runs (.powerOnReset lost) s fun t =>
      t.pwrok = false ∧ t.boot = .inReset ∧ t.now = 0 ∧ t.get .RC_CAUSE = 1 ∧ t.dev = 1 ∧ t.fuses = s.fuses ∧ t.nor = s.nor ∧
      t.dram = [] ∧ t.packets = [] ∧ t.streams = [] ∧ t.aonValid = (s.aonValid && !lost) ∧
      t.role = (if s.partner.isSome then 2 else 3)) ∧
    (s.aonValid = false → Runs .aonValid s fun t => t.aonValid = true ∧ KeepsBlock (fun _ => false) 0 { s with aonValid := true } t) ∧
    (∀ strap, strap < 4 → s.pwrok = false → s.aonValid = true → Runs (.pwrokRise strap) s fun t =>
      t.pwrok = true ∧ t.strapAddr = strap ∧ KeepsBlock (fun _ => false) 0 { s with pwrok := true, strapAddr := strap } t) ∧
    (s.pwrok = true → s.aonValid = true → s.boot = .inReset → s.pwrdnReq = false → Runs .resetRelease s fun t =>
      t.boot = .sramZero ∧ t.perstN = true ∧ t.bayrstN = true ∧ t.dev = s.dev ∧ t.get .EVU_TICK_STOPPED = 0) ∧
    (∀ bay, (if bay then s.bayrstN else s.perstN) = true → Runs (.coldReset bay) s fun t =>
      t.boot = .inReset ∧ (if bay then t.bayrstN else t.perstN) = false ∧
      (s.boot ≠ .inReset → kept t ∧ here t ∧ t.get .RC_CAUSE = (if bay then 4 else 2) ∧ t.get .LINK_DL_UP = 0 ∧ t.bme = false ∧
        (s.get .LINK_DL_UP = 1 → (t.get .EVU_PENDING).testBit 8 = true))) ∧
    (s.pwrok = true → s.perstN = true → s.bayrstN = true → s.pwrdnReq = false → s.boot ≠ .inReset → Runs .hotReset s fun t =>
      t.boot = .sramZero ∧ kept t ∧ here t ∧ t.get .RC_CAUSE = 8 ∧ t.get .DS_WARM = 1 ∧ t.get .LINK_DL_UP = 0 ∧ t.get .LINK_LTSSM = 0x0A ∧
      t.bme = false ∧ (s.get .LINK_DL_UP = 1 → (t.get .EVU_PENDING).testBit 8 = true)) ∧
    (∀ v, s.HostOpen → v < 2 ^ 32 →
      (v / 65536 = 0xC0DE → v.testBit 0 = true → Runs (.warmResetWrite v) s fun t =>
        t.boot = .sramZero ∧ kept t ∧ (s.tamperWait = [] → t.now = s.now) ∧ t.get .RC_CAUSE = 16 ∧ t.get .DS_WARM = 1 ∧
        t.get .LINK_DL_UP = 1 ∧ t.bme = s.bme) ∧
      (v / 65536 ≠ 0xC0DE ∨ v.testBit 0 = false → Runs (.warmResetWrite v) s (KeepsBlock (fun _ => false) 0 s))) ∧
    (∀ t0, s.thermal = some t0 → t0 + 16 ≤ s.now ∨ s.get .EVU_TICK_STOPPED = 1 → s.pwrdnReq = false → Runs .pwrdnReq s fun t =>
      t.boot = .inReset ∧ t.pwrdnReq = true ∧ t.thermal = some t0 ∧ kept t ∧ here t ∧ t.get .RC_CAUSE = s.get .RC_CAUSE)

/-- The boot ROM's steps in their order, each with what it sets and the FAULT_CODE of its failure (R120, R131, R433, R453, R460,
R467); READY has the watchdogs running, the soot lock set and the latched doorbells applied (R126, R485). -/
def Obligations.BootStepsComplete : Prop :=
  ∀ s : State, s.booting = true →
    let fault := fun (code : Nat) (t : State) => t.dev = 7 ∧ t.get .DS_FAULT_CODE = code
    (s.boot = .sramZero → Runs .sramZeroDone s fun t => t.boot = .step 1 ∧ t.get .SOOT_SRAM_READY = 1 ∧
      RegsBut (· == .SOOT_SRAM_READY) 0 s t) ∧
    ∀ o, (s.boot = .step 1 → Runs (.bootStepDone o) s fun t => t.boot = .step 2 ∧ t.certSensed = true ∧
        t.get .GCTL_SERIAL = s.fuses.serial ∧ (s.fuses.rootFault = true → fault 1 t) ∧ (s.fuses.rootFault = false → t.dev = s.dev)) ∧
      (s.boot = .step 2 → Runs (.bootStepDone o) s fun t => (o.pufOk = true → t.boot = .step 3 ∧ t.dev = s.dev) ∧
        (o.pufOk = false → fault 2 t)) ∧
      (s.boot = .step 3 → Runs (.bootStepDone o) s fun t =>
        let pick := ((s.fuseCompletion o.fuseOk).chooseImage fun k => if k == 0 then o.slotAOk else o.slotBOk).2
        (pick = none → fault 3 t) ∧
        ∀ k trial, pick = some (k, trial) → t.boot = .step 4 ∧ t.dev = 2 ∧ t.fw.slot = k ∧ t.fw.trial = trial) ∧
      (s.boot = .step 4 → o.rates.length = 16 → o.rates.all rateOk = true → Runs (.bootStepDone o) s fun t =>
        (∀ c, c < 16 → t.get .CH_RATE c = o.rates.getD c 0) ∧ (firstFailing o.rates = none → t.boot = .step 5 ∧ t.dev = 3) ∧
        ∀ c, firstFailing o.rates = some c → fault 4 t ∧ t.get .DS_CHANNEL = c) ∧
      (s.boot = .step 5 → Runs (.bootStepDone o) s fun t => t.boot = .step 6 ∧ t.dev = 4 ∧ t.dram = [] ∧ t.soot = [] ∧
        t.get .SOOT_TAGSTORE_READY = 1 ∧ ∀ c, c < 16 → t.get .CH_IN_SERVICE c = 1) ∧
      (s.boot = .step 6 → Runs (.bootStepDone o) s fun t => (o.selftestOk = false → fault 7 t) ∧
        (o.selftestOk = true → t.dev = 5 ∧ t.boot = .done ∧ t.get .SOOT_LOCK = 1 ∧ t.get .WDG_RUNNING 0 = 1 ∧
          t.get .WDG_RUNNING 1 = 1 ∧ t.get .DS_SLOT = s.fw.slot ∧ (s.power < 2 → t.dbLatch = [])))

/-! ## SMBus and JTAG (R438, R439, R522, R524) -/

/-- The SMBus answers only its own address, and acknowledges nothing wrong (R522). JTAG gives its IDCODE always and other access
only as the debug state grants it; sooted granules and lines, tag granules and working storage read 0, each refusal is a breach, and a
write never changes a tag (R41, R46, R438, R439). -/
def Obligations.BoardPortsComplete : Prop :=
  (∀ (s : State) (addr cmd len off : Nat) (pecOk : Bool), Runs (.smbusRead addr cmd len off pecOk) s fun t =>
    KeepsBlock (fun _ => false) 0 s t ∧
    (addr = 0x60 + s.strapAddr → s.boot = .inReset ∨ s.boot = .sramZero ∨ cmd ≠ 1 ∨ len ≠ 4 ∨ pecOk = false → Sent s t .nack) ∧
    (addr = 0x60 + s.strapAddr → s.boot ≠ .inReset → s.boot ≠ .sramZero → cmd = 1 → len = 4 → pecOk = true →
      Sent s t (.readData 5 off (s.smbusWord off)))) ∧
  ∀ s : State, s.aonValid = true →
    (Runs .tapReset s (KeepsBlock (fun _ => false) 0 s)) ∧
    (Runs (.jtagAccess .idcode) s fun t => Sent s t (.readData 6 0 0x109607AB) ∧ KeepsBlock (fun _ => false) 0 s t) ∧
    (∀ req, req ≠ .idcode →
      s.boot = .inReset ∨ (req ≠ .boundaryScan ∧ (∀ off, req ≠ .regRead off) ∧ ∀ b, s.jtagGrants b = false) →
      Runs (.jtagAccess req) s (KeepsBlock (fun _ => false) 0 s)) ∧
    (s.boot ≠ .inReset → s.jtagGrants 2 = true →
      (∀ a n, a + n ≤ s.dramBytes → Runs (.jtagAccess (.memRead a n)) s fun t => t.dram = s.dram ∧ t.soot = s.soot ∧
        ∃ bs : Bytes, Sent s t (.readBytes 6 a bs) ∧ bs.length = n ∧ ∀ i, i < n →
          s.granuleCause ((a + i) / 64 * 64) ≠ 0 ∨ (Tab.find? ((a + i) / 64 * 64) s.poison).isSome = true → bs.getD i 0#8 = 0#8) ∧
      (∀ a b, a + b.length ≤ s.dramBytes → Runs (.jtagAccess (.memWrite a b)) s fun t =>
        t.soot = s.soot ∧ t.dram = memWrite s.dram a (b.take (s.tagBase - a))) ∧
      (∀ off v, off % 4 = 0 → s.writable off = false → Runs (.jtagAccess (.regWrite off v)) s (KeepsBlock (fun _ => false) 0 s)) ∧
      (∀ req, req = .workingRead ∨
          (∃ staging n, req = .lineRead staging n ∧ n < (if staging then Config.pageSlots * slotLines else 16 * sliceLines) ∧
            (if staging then s.stagingLine n else s.tileLine n) = true) →
        Runs (.jtagAccess req) s fun t => Sent s t (.readData 6 0 0) ∧
          t.get .SEC_BREACH_TOTAL = (s.get .SEC_BREACH_TOTAL + 1) % 2 ^ 64 ∧ t.dram = s.dram ∧ t.soot = s.soot)) ∧
    (∀ off, s.boot ≠ .inReset → off % 4 = 0 → s.jtagGrants 2 = true ∨ off = 0x30000 →
      Runs (.jtagAccess (.regRead off)) s fun t => Sent s t (.readData 6 off (s.readWord off))) ∧
    (s.boot ≠ .inReset → s.jtagGrants 0 = true →
      (s.get .DBG_CORES_HALTED = 0 → Runs (.jtagAccess .haltCores) s fun t => t.get .DBG_CORES_HALTED = 1 ∧
        t.get .WDG_RUNNING 1 = 0 ∧ RegsBut (fun f => f == .DBG_CORES_HALTED || f == .WDG_RUNNING) 1 (s.set .DBG_CORES_HALTED 0 1) t) ∧
      Runs (.jtagAccess .resumeCores) s fun t => t.get .DBG_CORES_HALTED = 0)

/-! ## Faults of the board and the die (R95 to R99, R103, R111, R435, R449, R450) -/

/-- A lost clock is recorded and raised, and has its consequence: HCLK takes the link down, TCLK stops the tick, any but HCLK
and WCLK puts the unit into FAULT with code 5 (R97 to R99). A trip and a tamper assertion are raised; tamper ends the session,
fences the flues and erases the partner, and in READY zeroes every soot buffer, but waits for a core restart of its tick (R111, R112,
R449, R450). A TRNG failure is latched (R435).
When tamper's steps run, and what a lost clock raises beside CLOCK_FAULT, is the model's reading (log entries 45 and 54); so is the tick
of an event that comes out of its rank (log entry 6). -/
def Obligations.HardwareFaultsComplete : Prop :=
  ∀ s : State,
    (∀ id, id ≤ 22 → s.clockArmed id = true → s.clockIsLost id = false → (id = 21 → s.staleWritten = false) →
      Runs (.clockLoss id) s fun t => t.clockIsLost id = true ∧ Raised s t 1 id (if id = 0 ∨ id = 20 then 0 else 1) 0 0 ∧
        (id = 21 → t.get .EVU_TICK_STOPPED = 1) ∧
        (id = 0 → s.isFault = false → (s.inRank 1 id).treatment 8 = .apply → t.get .LINK_DOWN = 1 ∧ t.retry = []) ∧
        (id ≠ 0 → id ≠ 20 → s.isFault = false → (s.inRank 1 id).treatment 1 = .apply → t.dev = 7 ∧ t.get .DS_FAULT_CODE = 5) ∧
        (s.isFault = true → t.dev = s.dev ∧ t.get .DS_FAULT_CODE = s.get .DS_FAULT_CODE)) ∧
    (∀ sensor temp, 920 ≤ temp → s.pwrok = true → s.aonValid = true → Runs (.thermalTrip sensor temp) s fun t =>
      let u := s.inRank 2 sensor
      Raised s t 2 sensor (Num.ofSigned 32 temp) 0 0 ∧ (u.treatment 2 = .apply → s.thermal = none → t.thermal = some u.now) ∧
      RegsBut (· == .EVU_PENDING) 0 u t) ∧
    (∀ src, src < 4 → s.aonValid = true → 2 ≤ src ∨ (s.get .SEC_TAMPER_EN).testBit src = true → Runs (.tamper src) s fun t =>
      let treat := (s.inRank 3 src).treatment 3
      Raised s t 3 src (min (s.tamperN + 1) 255) 0 0 ∧ (t.get .TAMPER_LATCHED).testBit src = true ∧
      t.get .SEC_TAMPER_COUNT = Num.satAdd 32 (s.get .SEC_TAMPER_COUNT) 1 ∧
      (treat = .defer → t.tamperWait = s.tamperWait ++ [src]) ∧
      (treat ≠ .defer → t.tamperFence = true ∧ t.fenced = true ∧ t.get .DBG_SESSION = 0 ∧ t.get .WRN_SESSION = 0 ∧
        t.partner = none) ∧
      (treat = .apply → s.isReady = true → s.power < 2 → s.powerReq = none → t.role = 3 ∧ t.tileSoot = [] ∧
        (∀ a, s.cleanEnd ≤ a → a < s.tagBase → memByte t.dram a = 0#8) ∧
        ∀ c, c < Config.clients → s.get .CL_ENABLE c = 1 → t.get .CL_FETCH_STOPPED c = 1)) ∧
    (s.boot ≠ .inReset → Runs .trngHealthFail s fun t => t.get .KEY_TRNG_FAIL = 1 ∧ KeepsBlock (· == .KEY_TRNG_FAIL) 0 s t)

/-! ## Supplies, the governor, the equaliser and ageing (R486 to R494) -/

/-- A rail or the AVSBus enters warning, which holds ACLK at 400 until no rail has been in warning for 1,000,000 ticks (R489,
R490), except in the tick of a reset by WDG_SYS (R112); the voltage loop, the reports and the governor (R486, R488, R492). The
equaliser moves each parameter by its step, the eye is measured, each at most once in its interval (R491); an ageing sample shows its
ten values and EOL_DAYS no longer than any indicator's DAYS (R493, R494). -/
def Obligations.SupplyAndAgeingComplete : Prop :=
  (∀ s : State,
     (∀ rail mv avs, rail < 5 → s.avsOn = true → s.wdgResetNow = false ∨ s.isReady = true →
       (avs = true → rail = 0 ∧ s.get .HLT_AVS_FAULT = 0) →
       (avs = false → (s.get .HLT_WARN_RAILS).testBit rail = false ∧ s.outOfBand rail mv = true) →
       Runs (.supplyWarn rail mv avs) s fun t =>
         (avs = true → t.get .HLT_AVS_FAULT = 1) ∧ (avs = false → (t.get .HLT_WARN_RAILS).testBit rail = true) ∧
         t.get .HLT_SUPPLY_WARNS = Num.satAdd 32 (s.get .HLT_SUPPLY_WARNS) 1 ∧ Raised s t 6 rail (if avs then 0 else mv) 0 0 ∧
         ((s.inRank 6 rail).treatment 6 = .apply → t.warned = true ∧ t.hlt.warnSince = none ∧
           (s.warned = false → t.get .HLT_ACLK_MHZ = 400 ∧ t.get .SCH_ACLK_MHZ = 400 ∧ (t.get .HLT_IRQ).testBit 1 = true))) ∧
     (∀ rail, rail < 5 → (s.get .HLT_WARN_RAILS).testBit rail = true ∨ (rail = 0 ∧ s.get .HLT_AVS_FAULT = 1) →
       Runs (.supplyRailClear rail) s fun t => (t.get .HLT_WARN_RAILS).testBit rail = false ∧ (rail = 0 → t.get .HLT_AVS_FAULT = 0) ∧
         (t.get .HLT_WARN_RAILS = 0 → t.get .HLT_AVS_FAULT = 0 → t.hlt.warnSince = some s.now)) ∧
     (∀ t0, s.hlt.warnSince = some t0 → s.warned = true → t0 + 1000000 ≤ s.now → Runs .warningStateClear s fun t =>
       t.warned = false ∧ t.get .SCH_ACLK_MHZ = 1250 ∧ t.hlt.warnSince = none ∧ (t.get .HLT_IRQ).testBit 1 = true) ∧
     (∀ margin, s.avsOn = true → s.warned = false → margin < 4 → s.hlt.avsLast + 10 ≤ s.now →
       Num.toSigned 8 (s.get .HLT_OFFSET) < 10 → Runs (.avsOffsetRaise margin) s fun t =>
         Num.toSigned 8 (t.get .HLT_OFFSET) = Num.toSigned 8 (s.get .HLT_OFFSET) + 1 ∧ t.hlt.avsLast = s.now ∧
         RegsBut (· == .HLT_OFFSET) 0 s t) ∧
     (∀ margin die dram, s.boot = .done → s.hlt.start + 1048576 ≤ s.now → margin < 256 → s8 die = true → s8 dram = true →
       Runs (.hltIntervalEnd margin die dram) s fun t => t.get .HLT_VCORE_MV = s.hlt.vMax ∧ t.get .HLT_CPM_MARGIN = margin ∧
         Num.toSigned 8 (t.get .HLT_DIE_TEMP) = die ∧ Num.toSigned 8 (t.get .HLT_DRAM_TEMP) = dram ∧ t.hlt.start = s.now ∧
         (margin ≤ 12 ∨ s.warned = true → t.get .HLT_OFFSET = s.get .HLT_OFFSET) ∧
         (12 < margin → s.warned = false → -10 < Num.toSigned 8 (s.get .HLT_OFFSET) →
           Num.toSigned 8 (t.get .HLT_OFFSET) = Num.toSigned 8 (s.get .HLT_OFFSET) - 1)) ∧
     (s.enginesRun = true → Runs .governorRecompute s fun t => 400 ≤ t.get .HLT_GOV_TARGET ∧ t.get .HLT_GOV_TARGET ≤ 1250 ∧
       t.get .HLT_GOV_TARGET % 25 = 0 ∧ t.get .HLT_ACLK_MHZ = (if s.warned then 400 else if s.get .HLT_GOV_MODE = 1 then 1250
         else t.get .HLT_GOV_TARGET) ∧ RegsBut (fun f => f == .HLT_GOV_TARGET || f == .HLT_ACLK_MHZ) 0 s t)) ∧
  (∀ s : State,
     (∀ lane (steps : List Int), s.inData = true → s.laneUsed lane = true → Tab.getD 0 lane s.hlt.eqNext ≤ s.now → steps.length = 6 → (∀ d ∈ steps, -1 ≤ d ∧ d ≤ 1) →
       0 ≤ (s.get .WEQ_CTLE lane : Int) + steps.getD 0 0 → (s.get .WEQ_CTLE lane : Int) + steps.getD 0 0 ≤ 15 →
       (∀ n, n < 5 → -31 ≤ s.tap lane n + steps.getD (n + 1) 0 ∧ s.tap lane n + steps.getD (n + 1) 0 ≤ 31) →
       Runs (.wrenEqAdapt lane steps) s fun t => (t.get .WEQ_CTLE lane : Int) = s.get .WEQ_CTLE lane + steps.getD 0 0 ∧
         (∀ n, n < 5 → t.tap lane n = s.tap lane n + steps.getD (n + 1) 0) ∧
         Tab.getD 0 lane t.hlt.eqNext = s.now + 1024 ∧
         KeepsBlock (fun f => f == .WEQ_CTLE || f == .WEQ_TAPS || f == .WEQ_TAP5) lane { s with hlt := t.hlt } t) ∧
     (∀ lane h w, s.inData = true → s.laneUsed lane = true → Tab.getD 0 lane s.hlt.eyeNext ≤ s.now → h < 256 → w < 256 → Runs (.wrenEyeMeasure lane h w) s fun t =>
       t.get .WEQ_EYE_H lane = h ∧ t.get .WEQ_EYE_W lane = w ∧ Tab.getD 0 lane t.hlt.eyeNext = s.now + 65536 ∧ RegsBut (fun f => f == .WEQ_EYE_H || f == .WEQ_EYE_W) lane s t) ∧
     (∀ osc ce, s.isReady = true → s.power < 2 → s.thermal = none → osc.length = 6 → s.hlt.ageNext ≤ s.now →
       Runs (.ageingSample osc ce) s fun t => t.hlt.ageNext = s.hlt.ageNext + ageTicks ∧ t.hlt.ageing.length ≤ 720 ∧
         ∀ i, i < 10 → t.get .IND_VALUE i = (s.sampleValues osc ce).getD i 0 ∧ t.get .IND_LIMIT i = indLimit i ∧
           t.get .HLT_EOL_DAYS ≤ t.get .IND_DAYS i))


/-! ## Watchdogs (R475 to R485) -/

/-- A WDG_CHECKIN write is accepted only with its key, its zero bits, and a slot that is enabled and the writer's; any other is
discarded and counted in BAD_CHECKINS; a repeated check-in in the same period has no further effect (R478). -/
def Obligations.WatchdogCheckinRule : Prop :=
  ∀ (s : State) (w v : Nat) (byHost : Bool), w < 2 → v < 2 ^ 32 →
    (byHost = true → s.HostOpen ∧ s.writable (0x5000C + 256 * w) = true) →
    (byHost = false → s.coresRun = true ∧ s.clockIsLost (blockClock (0x50000 + 256 * w)) = false) →
    let ok := v / 65536 = 0 ∧ v / 256 % 256 = 0xA5 ∧ v / 16 % 16 = 0 ∧ (s.get .WDG_ENABLE w).testBit (v % 16) = true ∧
      slotOwned w (v % 16) byHost = true
    (ok → Runs (.wdgCheckin w v byHost) s fun t => t.get .WDG_CHECKED w = s.get .WDG_CHECKED w ||| 2 ^ (v % 16) ∧
      KeepsBlock (fun f => f == .WDG_CHECKED || f == .WDG_OPEN) w s t ∧
      (s.get .WDG_ENABLE w &&& t.get .WDG_CHECKED w = s.get .WDG_ENABLE w → s.get .WDG_RUNNING w = 1 → t.get .WDG_OPEN w = 1) ∧
      ((s.get .WDG_CHECKED w).testBit (v % 16) = true →
        s.get .WDG_OPEN w = 1 ∨ s.get .WDG_ENABLE w &&& s.get .WDG_CHECKED w ≠ s.get .WDG_ENABLE w → KeepsBlock (fun _ => false) w s t)) ∧
    (¬ok → Runs (.wdgCheckin w v byHost) s fun t =>
      t.get .WDG_BAD_CHECKINS w = Num.satAdd 16 (s.get .WDG_BAD_CHECKINS w) 1 ∧ KeepsBlock (· == .WDG_BAD_CHECKINS) w s t)

/-- Writes to PERIOD and ENABLE count for the next period, while the window is open and from their owner, and are else counted
(R477, R479); the end of a period starts the next, and with a slot missing expires: WDG_SYS resets the unit, WDG_FW restarts the
cores (R480 to R482); a pre-warning is raised (R480).
In which tick an event out of its rank is captured is the model's reading (log entry 6). -/
def Obligations.WatchdogsComplete : Prop :=
  ∀ (s : State) (w v : Nat), w < 2 →
    (s.coresRun = true → s.clockIsLost (blockClock (0x50000 + 256 * w)) = false →
      (s.get .WDG_OPEN w ≠ 0 → w ≠ 0 → v % 65536 ≠ 0 → Runs (.wdgPeriodWrite w v false) s fun t =>
        (Tab.find? w t.wdg.next).map Prod.fst = some (v % 65536) ∧ RegsBut (fun _ => false) w s t) ∧
      (s.get .WDG_OPEN w ≠ 0 → Runs (.wdgEnableWrite w v false) s fun t =>
        (∃ e, Tab.find? w t.wdg.next = some e ∧ ∀ i, i < 15 → e.2.testBit i = v.testBit i) ∧ RegsBut (fun _ => false) w s t) ∧
      (s.get .WDG_OPEN w = 0 ∨ w = 0 → Runs (.wdgPeriodWrite w v false) s fun t =>
        t.get .WDG_IGNORED_WRITES w = Num.satAdd 16 (s.get .WDG_IGNORED_WRITES w) 1 ∧ KeepsBlock (· == .WDG_IGNORED_WRITES) w s t) ∧
      (s.get .WDG_OPEN w = 0 → Runs (.wdgEnableWrite w v false) s fun t =>
        t.get .WDG_IGNORED_WRITES w = Num.satAdd 16 (s.get .WDG_IGNORED_WRITES w) 1 ∧ KeepsBlock (· == .WDG_IGNORED_WRITES) w s t)) ∧
    (s.HostOpen → v < 2 ^ 32 → s.writable (0x50004 + 256 * w) = true → w = 0 → s.get .WDG_OPEN w ≠ 0 → v % 65536 ≠ 0 →
      Runs (.wdgPeriodWrite w v true) s fun t => (Tab.find? w t.wdg.next).map Prod.fst = some (v % 65536)) ∧
    (s.HostOpen → v < 2 ^ 32 → s.writable (0x50008 + 256 * w) = true → w = 0 → s.get .WDG_OPEN w ≠ 0 →
      Runs (.wdgEnableWrite w v true) s fun t => ∃ e, Tab.find? w t.wdg.next = some e ∧ e.2.testBit 15 = v.testBit 15) ∧
    (∀ t0, s.wdgRuns w = some t0 → s.wdgCounts w = true →
      (t0 + s.get .WDG_PERIOD w * (if w = 0 then 999 else 1000) ≤ s.now ∨ (w = 0 ∧ s.get .EVU_TICK_STOPPED = 1) → Runs (.wdgPeriodEnd w) s fun t =>
        let u := s.inRank 5 w
        let missing := Num.clearBits (s.wdgAsked w) (s.get .WDG_CHECKED w)
        (missing = 0 → t.get .WDG_RUNNING w = 1 ∧ t.get .WDG_CHECKED w = 0 ∧ Tab.find? w t.wdg.start = some s.now ∧
          t.get .WDG_PERIOD w = (s.wdgNow w).1 ∧ t.get .WDG_ENABLE w = (s.wdgNow w).2) ∧
        (missing ≠ 0 → t.get .WDG_EXPIRIES w = Num.satAdd 32 (s.get .WDG_EXPIRIES w) 1 ∧ Raised s t 5 w missing 0 0 ∧
          (u.treatment 5 = .apply → w = 0 → t.boot = .sramZero ∧ t.get .RC_CAUSE = 32) ∧
          (u.treatment 5 = .apply → w = 1 → s.wdg.restarted = none → t.get .WDG_RESTARTING 1 = 1 ∧ t.wdg.restart = some u.now ∧
            t.get .WDG_MISSED 1 = missing) ∧
          (u.treatment 5 = .apply → w = 1 → (∃ r, s.wdg.restarted = some r ∧ u.now ≤ r + 10000000) →
            t.boot = .sramZero ∧ t.get .RC_CAUSE = 32))) ∧
      (s.get .WDG_PREWARN w ≠ 0 → s.get .WDG_OPEN w = 0 → s.get .WDG_PREWARNED w = 0 →
        t0 + (s.get .WDG_PERIOD w - s.get .WDG_PREWARN w) * (if w = 0 then 999 else 1000) ≤ s.now →
        Runs (.wdgPrewarn w) s fun t => t.get .WDG_PREWARNED w = 1 ∧ (t.get .WDG_IRQ w).testBit 0 = true ∧
          Keeps (fun f => settleFields f || f == .WDG_PREWARNED || f == .WDG_IRQ) s t)) ∧
    (∀ t0, s.wdg.restart = some t0 → t0 + 20000 ≤ s.now → Runs .fwRestartDone s fun t =>
      t.get .WDG_RESTARTING 1 = 0 ∧ t.wdg.restart = none ∧ t.wdg.restarted = some s.now ∧ ∀ p ∈ t.packets, p.started = false ∨ t.isStaged p.id = true)


/-! ## Debug sessions, the trial and LAB (R442 to R444, R465, R466) -/

/-- A session ends at its expiry or by the host's key, with a log record of the cause; two arming writes in a session with SCOPE
[2] enter LAB, which zeroes every soot buffer, forgets the partner and resets (R443, R444); a trial not confirmed in time is
reverted (R465). -/
def Obligations.SessionsAndTrialEnd : Prop :=
  ∀ s : State,
    let ended := fun (cause : Nat) (t : State) => t.get .DBG_SESSION = 0 ∧ t.get .DBG_PORT_OPEN = 0 ∧ t.get .DBG_SCOPE = 0 ∧
      t.get .DBG_STATE = 0 ∧ t.labArm = none ∧ ∃ r ∈ t.nor.log, r.type = 4 ∧ r.tick = s.now ∧ r.payload = [cause]
    (s.get .DBG_SESSION = 1 → s.get .SEC_DBG_EXPIRY ≤ s.now → Runs .debugSessionExpire s (ended 1)) ∧
    (∀ v, s.HostOpen → s.writable 0x30038 = true → v < 2 ^ 32 →
      (v / 65536 = 0xC105 → v.testBit 0 = true → s.get .DBG_SESSION = 1 → Runs (.debugEndWrite v) s (ended 2)) ∧
      (v / 65536 ≠ 0xC105 ∨ v.testBit 0 = false → Runs (.debugEndWrite v) s (KeepsBlock (fun _ => false) 0 s))) ∧
    (∀ v, s.HostOpen → s.writable 0x3004C = true → v < 2 ^ 32 →
      let granted := s.get .DBG_SESSION = 1 ∧ s.get .DBG_PORT_OPEN = 1 ∧ (s.get .DBG_SCOPE).testBit 2 = true
      (granted → s.labArm = none → v = 0x1AB0 → Runs (.labArmWrite v) s fun t => t.labArm = some s.now) ∧
      (∀ t0, granted → s.labArm = some t0 → v = 0xC0DE1AB0 → s.now ≤ t0 + 1000000 → Runs (.labArmWrite v) s fun t =>
        t.fuses.lab = true ∧ t.get .DBG_STATE = 2 ∧ t.boot = .sramZero ∧ t.partner = none ∧
        ∀ a, s.cleanEnd ≤ a → a < s.tagBase → memByte t.dram a = 0#8) ∧
      (¬granted ∨ (s.labArm = none ∧ v ≠ 0x1AB0) → Runs (.labArmWrite v) s fun t =>
        KeepsBlock (fun _ => false) 0 { s with labArm := none } t)) ∧
    (∀ t0 l r, s.fw.trialEnd = some t0 → s.winner = some (l, r) → s.coresRun = true → t0 < s.now →
      Runs .trialConfirmTimeout s fun t => t.boot = .sramZero ∧ t.get .RC_CAUSE = 16 ∧
        t.winner.map (fun e => (e.2.slot, e.2.state)) = some (r.prev, 2))


/-! ## The partner bay (R417 to R420, R426) -/

/-- The bay: a debounced level is taken, the first of an input raises nothing, an insertion and a press are counted (R418,
R424, R426); a slot whose power good does not rise or fall in time faults; PERST is released, PWREN drops and the slot is OFF
after their times (R420); a reset pulse ends; the lamp blinks (R417). -/
def Obligations.BayEventsComplete : Prop :=
  ∀ s : State, s.aonValid = true →
    let faulted := fun t : State => t.get .BAY_POWER_FAULTS = Num.satAdd 8 (s.get .BAY_POWER_FAULTS) 1 ∧
      (t.get .BAY_EVENTS).testBit 2 = true ∧ (t.get .EVU_PENDING).testBit 9 = (decide ((s.inRank 9 0).sameTick 9 = false) || (s.get .EVU_PENDING).testBit 9) ∧
      ((s.inRank 9 0).treatment 9 = .apply → t.get .BAY_SLOT_STATE = 5 ∧ (s.get .BAY_DRIVEN = 1 → t.get .BAY_PWREN = 0 ∧ t.get .BAY_PERST = 1))
    (∀ input level, input < 3 → s.bay.settled.contains input = false ∨ s.bayLevel input ≠ Num.b2n level →
      Runs (.bayInputDebounced input level) s fun t => t.bayLevel input = Num.b2n level ∧ t.bay.settled.contains input = true ∧
        (s.bay.settled.contains input = false → t.get .BAY_EVENTS = s.get .BAY_EVENTS ∧ t.get .EVU_PENDING = s.get .EVU_PENDING) ∧
        (s.bay.settled.contains input = true → input = 0 → (t.get .BAY_EVENTS).testBit 1 = true ∧
          (level = true → t.get .BAY_INSERTIONS = Num.satAdd 8 (s.get .BAY_INSERTIONS) 1)) ∧
        (s.bay.settled.contains input = true → input = 2 → level = true → (t.get .BAY_EVENTS).testBit 0 = true ∧
          t.get .BAY_PRESSES = Num.satAdd 8 (s.get .BAY_PRESSES) 1)) ∧
    (∀ t0, s.bay.settled.contains 1 = true → s.get .BAY_PGOOD = 0 → s.slot = 2 → s.bay.wait = some (1, t0) →
      Runs (.bayInputDebounced 1 true) s fun t => t.get .BAY_PGOOD = 1 ∧ t.slot = 2 ∧ t.bay.wait = some (2, s.now)) ∧
    (∀ t0, s.bay.wait = some (1, t0) → t0 + s.pgoodTicks ≤ s.now → Runs .bayPowerTimeout s faulted) ∧
    (∀ t0, s.bay.wait = some (2, t0) → t0 + 100000 ≤ s.now →
      (s.get .BAY_PGOOD = 1 → Runs .bayPerstRelease s fun t => t.get .BAY_PERST = 0 ∧ t.get .BAY_SLOT_STATE = 3 ∧ t.bay.wait = none) ∧
      (s.get .BAY_PGOOD = 0 → Runs .bayPerstRelease s faulted)) ∧
    (∀ t0, s.bay.wait = some (3, t0) → t0 + 1000 ≤ s.now → Runs .bayPwrenDrop s fun t => t.get .BAY_PWREN = 0 ∧
      (s.get .BAY_PGOOD = 0 → t.get .BAY_SLOT_STATE = 1 ∧ t.bay.wait = none) ∧
      (s.get .BAY_PGOOD ≠ 0 → t.bay.wait = some (4, s.now))) ∧
    (∀ t0, s.bay.wait = some (4, t0) → t0 + s.pgoodTicks ≤ s.now →
      (s.get .BAY_PGOOD = 1 → Runs .bayPoweroffEnd s faulted) ∧
      (s.get .BAY_PGOOD ≠ 1 → Runs .bayPoweroffEnd s fun t => t.get .BAY_SLOT_STATE = 1 ∧ t.bay.wait = none ∧ t.get .BAY_LED = 0)) ∧
    (∀ t0, s.bay.pulse = some t0 → t0 + 10000 ≤ s.now → Runs .bayPerstPulseEnd s fun t => t.bay.pulse = none ∧
      (s.slot = 3 → t.get .BAY_PERST = 0) ∧ (s.slot ≠ 3 → RegsBut (fun _ => false) 0 s t)) ∧
    (s.get .BAY_LED = 2 → s.bay.ledTick + 500000 ≤ s.now → Runs .bayLedToggle s fun t => t.bay.lamp = !s.bay.lamp ∧
      RegsBut (fun _ => false) 0 s t)


/-! ## The tick, event groups, the breach log (R50, R100, R104 to R109) -/

/-- A tick adds 1 to TICK_NOW and to the counter of every busy unit with a clock (R100, R116). A group of the oldest captured
tick takes the next sequence number; it is written to the ring with one signal where the ring is on, reachable and has room, and
else counted lost (R104 to R109). The breach log's oldest entry is copied to the SPI NOR (R50).
What becomes of a tick with completions alone, and what LOST of a HEAD counts that only the history takes, is the model's reading
(log entries 69 and 84). -/
def Obligations.TickAndEventGroupComplete : Prop :=
  (∀ s : State, s.aonValid = true → s.get .EVU_TICK_STOPPED = 0 → s.clockIsLost 21 = false →
     Runs .tick s fun t => t.now = (s.now + 1) % 2 ^ 64 ∧
       (∀ b ∈ busyCounters, s.clockIsLost b.2.2.2 = false → ∀ i, i < b.2.2.1 →
         t.get b.2.1 i = if s.get b.1 i = 1 then (s.get b.2.1 i + 1) % 2 ^ 64 else s.get b.2.1 i) ∧
       t.packets = s.packets ∧ t.streams = s.streams ∧ t.dram = s.dram) ∧
  ((∀ (s : State) (t0 : Nat), s.groupStamp = some t0 → t0 < s.now ∨ s.get .EVU_TICK_STOPPED = 1 →
     let es := s.captured.filter fun e => e.tick == t0
     let n := ((List.range 13).filterMap fun c => detailWords es (c + 1) (Num.wrap32 (s.get .EVU_SEQ + 1)) t0).length + 1
     let shut := s.get .EVU_RING_EN ≠ 1 ∨ s.sinceReady t0 = false
     let m := s.get .EVU_RING_LOG2
     let i := s.get .EVU_RING_HEAD
     let a := s.get .EVU_RING_BASE + i % 2 ^ m * 32
     let head := withPhase m i (headWords es (s.staleTick == some t0 && !s.staleWritten) (n - 1) (Num.wrap32 (s.get .EVU_SEQ + 1)) t0
       s.lostSinceHead)
     Runs .eventGroup s fun t => t.get .EVU_SEQ = Num.wrap32 (s.get .EVU_SEQ + 1) ∧
       t.captured = s.captured.filter (fun e => decide (t0 < e.tick)) ∧
       (¬shut → s.groupPath = true → n ≤ s.evuFree → t.get .EVU_RING_HEAD = Num.wrap32 (s.get .EVU_RING_HEAD + n) ∧
         t.get .EVU_RING_FULL = 0 ∧ Sent s t (.event i (a + 4) (head.drop 1)) ∧ Sent s t (.eventHead i a (head.getD 0 0)) ∧
         t.lostSinceHead = 0 ∧
         (s.get .EVU_IRQ_EN = 1 → Signalled s t 0)) ∧
       (¬shut → s.groupPath = false ∨ s.evuFree < n → t.get .EVU_LOST = Num.satAdd 32 (s.get .EVU_LOST) n ∧
         t.get .EVU_RING_FULL = 1 ∧ t.get .EVU_RING_HEAD = s.get .EVU_RING_HEAD ∧
         t.lostSinceHead = s.lostSinceHead + n) ∧
       (shut → ∀ f i, settleFields f = false → f ≠ .EVU_SEQ → f ≠ .EVU_HISTORY → t.get f i = s.get f i)) ∧
   (∀ (s : State) (e : List Nat) (es : List (List Nat)), s.breachQueue = e :: es → s.coresRun = true →
     Runs .breachLogAppend s fun t => t.breachQueue = es ∧ RegsBut (fun _ => false) 0 s t ∧
       ∃ r ∈ t.nor.log, r.type = 1 ∧ r.tick = s.now ∧ r.payload = e))

/-! ## Decode (R218 to R230) -/

/-- DECODE_START gives the lowest free engine the context that is first in order, at the settings in force from this frame on;
DECODE_DONE frees it and applies the verdict on the access unit; an overrun abandons the frame with error 0x0109 and taints (R33, R218,
R220, R221, R224 to R228, R343). -/
def Obligations.DecodeCompletes : Prop :=
  ∀ (s : State) (e k : Nat) (st : Stream) (f : Frame), s.enginesRun = true → s.stream? k = some st →
    (s.nextEngine = some e → s.nextDecode = some k → st.nextAu = some f →
      Runs (.decodeStart e) s fun t => t.get .DEC_BUSY e = 1 ∧ t.get .DEC_STREAM e = k ∧ t.get .CTX_DECODING k = 1 ∧
        t.get .CTX_ENGINE k = e ∧
        t.HasFrame k f.fseq (fun g => g.phase = .decoding e ∧ g.inHold = st.hold ∧ g.fps = st.settled.fps ∧ g.c2 = st.settled.c2) ∧
        (∃ x, t.stream? k = some x ∧ (x.fbAt f.fseq).isSome = true) ∧
        ∃ j ∈ t.jobs, j.kind = .decode ∧ j.unit = some (.dec e) ∧ j.stream = k ∧ j.fseq = f.fseq ∧ j.since = s.now) ∧
    (s.inDecode e = some (k, st, f) →
      (∀ out : DecodeOutcome, s.get .DEC_IN_SERVICE e = 1 → out.au.fits st.codec = true → Runs (.decodeDone e out) s fun t =>
        let u := st.asTaken f
        let v := (verdict u (s.get .CTX_TAINTED k == 1) out).poisoned (s.poisonIn [(f.auAddr, f.auBytes)]) (s.poisonIn st.refBufs)
        t.get .DEC_FRAMES e = Num.wrap32 (s.get .DEC_FRAMES e + 1) ∧ t.get .DEC_BUSY e = 0 ∧ t.get .CTX_DECODING k = 0 ∧
        t.get .CTX_TAINTED k = Num.b2n v.taint ∧
        (∃ x, t.stream? k = some x ∧ x.hold = st.holdAfter f v) ∧
        (v.decoded = true → t.get .CTX_DEC_FSEQ k = f.fseq ∧
          t.get .CTX_FRAMES_DECODED k = Num.wrap32 (s.get .CTX_FRAMES_DECODED k + 1) ∧
          t.get .CTX_HDR_CHANGES k = if u.changes out.au = true then Num.wrap32 (s.get .CTX_HDR_CHANGES k + 1)
            else s.get .CTX_HDR_CHANGES k) ∧
        (v.decoded = false → t.get .CTX_FRAMES_DECODED k = s.get .CTX_FRAMES_DECODED k) ∧
        (∀ c, v.errs = [c] → v.shown = none → t.get .CTX_LAST_ERROR k = c ∧ t.get .CTX_LAST_ERROR_TICK k = s.now ∧
          t.get .CTX_ERR_COUNT k = Num.wrap32 (s.get .CTX_ERR_COUNT k + 1)) ∧
        (∀ c, v.shown = some c → t.get .CTX_LAST_ERROR k = c ∧ t.get .CTX_ERR_COUNT k = s.get .CTX_ERR_COUNT k) ∧
        (∀ h, out.au.header = some h → u.shows out.au = true → t.get .CTX_WIDTH k = h.facts.width ∧
          t.get .CTX_HEIGHT k = h.facts.height) ∧
        (v.deliver = false → t.get .CTX_FRAMES_DROPPED k = Num.wrap32 (s.get .CTX_FRAMES_DROPPED k + 1) ∧
          (st.frame? f.fseq = some f → t.HasFrame k f.fseq (fun g => g.phase = .dropped))) ∧
        (v.deliver = true → ∀ h p, u.active out.au = some h → st.pipe = some p →
          (∀ c ∈ p.crops, c.valid h.facts.outW h.facts.outH = true) →
          t.get .CTX_FRAMES_DROPPED k = s.get .CTX_FRAMES_DROPPED k ∧
          (st.frame? f.fseq = some f → f.isDrop = false → st.decimated = false →
            t.HasFrame k f.fseq (fun g => g.phase = .decoded ∧ g.delivered = true)))) ∧
      (∀ au : AuFacts, au.fits st.codec = true → (st.asTaken f).takes au = true →
        (∃ j ∈ s.jobs, j.unit = some (.dec e) ∧ j.since + 4 * Num.cdiv (codedBound st.codec st.maxW st.maxH) 500 ≤ s.now) →
        Runs (.decodeOverrun e au) s fun t => t.get .DEC_BUSY e = 0 ∧ t.get .CTX_LAST_ERROR k = 0x0109 ∧ t.get .CTX_TAINTED k = 1 ∧
          t.get .CTX_ERR_COUNT k = Num.wrap32 (s.get .CTX_ERR_COUNT k + 1) ∧ t.get .CTX_DEC_FSEQ k = f.fseq ∧
          t.get .CTX_FRAMES_DROPPED k = Num.wrap32 (s.get .CTX_FRAMES_DROPPED k + 1)))

/-! ## The pre-processor, jobs and pages (R246 to R254, R276, R283 to R285, R296 to R298) -/

/-- The pre-processor builds the frame that is first in order, writes its tensors and its mirror picture and enters its batch, or
abandons it on a fault (R245 to R247, R249, R251, R253, R254); a frame read from a poisoned buffer is dropped and taints (R343); a frame
whose deadline has passed is dropped for analysis and counted (R285). -/
def Obligations.PreprocessorCompletes : Prop :=
  ∀ (s : State) (k : Nat) (st : Stream) (f : Frame), s.enginesRun = true → s.stream? k = some st →
    (s.nextBuild = some k → s.readyFrame k st = some f → s.ppFree = true → Runs .preprocessStart s fun t =>
      t.get .PP_BUILD_FSEQ k = f.fseq ∧ t.HasFrame k f.fseq (fun g => g.phase = .building) ∧
      ∃ j ∈ t.jobs, j.kind = .preproc ∧ j.stream = k ∧ j.fseq = f.fseq ∧ j.soot = true) ∧
    (∀ p, s.inBuild = some (k, st, f) → st.frame? f.fseq = some f → st.pipe = some p →
      let batch := (s.jobs.find? fun j => j.stream == k && j.fseq == f.fseq && j.kind == .preproc).bind Job.batch
      (Runs .batchEnqueue s fun t =>
        t.dram = (s.writeBatch p f (batch.bind fun i => p.bufs[i]?) (st.mirrorPic f)).dram ∧
        (s.poisonIn (st.sourceOf f) = false → f.isDrop = false →
          t.get .PP_FRAMES k = Num.wrap32 (s.get .PP_FRAMES k + 1) ∧ t.HasFrame k f.fseq (fun g => g.phase = .queued)) ∧
        (s.poisonIn (st.sourceOf f) = false → f.isDrop = true →
          t.get .PP_LAST_DROP_FSEQ k = f.fseq ∧ t.HasFrame k f.fseq (fun g => g.phase = .dropped)) ∧
        (s.poisonIn (st.sourceOf f) = true → t.HasFrame k f.fseq (fun g => g.phase = .dropped) ∧
          (f.rolled = false → t.get .CTX_TAINTED k = 1))) ∧
      (Runs .preprocessFault s fun t => t.get .PP_FAULTS k = Num.wrap32 (s.get .PP_FAULTS k + 1) ∧
        t.get .PP_ABANDONED k = Num.wrap32 (s.get .PP_ABANDONED k + 1) ∧ t.get .PP_LAST_DROP_FSEQ k = f.fseq ∧
        t.HasFrame k f.fseq (fun g => g.phase = .dropped))) ∧
    (st.frame? f.fseq = some f → s.lateMirror k f.fseq = [] → f.isDrop = false → f.da < s.now →
      f.phase = .held ∨ f.phase = .decoded ∨ f.phase = .building ∨ f.phase.isDecoding = true ∨
        (f.phase = .queued ∧ ∃ j ∈ s.jobs, j.stream = k ∧ j.fseq = f.fseq ∧ j.unit = none ∧ j.ofMirror = false) ∨
        (f.phase = .tracked ∧ ∀ p, st.pass = some p → p.fseq ≠ f.fseq) →
      Runs (.frameDeadline k f.fseq) s fun t =>
        t.get .SCH_DEADLINE_DROPS = Num.wrap32 (s.get .SCH_DEADLINE_DROPS + 1) ∧
        t.get .SS_DROPS k = Num.wrap32 (s.get .SS_DROPS k + 1) ∧
        (f.phase = .queued → t.get .PP_LAST_DROP_FSEQ k = f.fseq) ∧
        t.HasFrame k f.fseq (fun g => g.isDrop = true ∧ g.reasons.testBit 3 = true)) ∧
    (∀ fseq, s.lateMirror k fseq ≠ [] → Runs (.frameDeadline k fseq) s fun t =>
      ∀ j ∈ s.lateMirror k fseq, ∀ i ∈ t.jobs, i.id = j.id → s.nextJob ≤ i.id)

/-- A job waits for an entry, has its pages staged, is issued to a free unit with its outputs tagged, and ends (R43, R283, R284, R297);
errors of the staging store and the tile store leave a line that reads sooted and start the jobs that read it again (R40, R276,
R298). -/
def Obligations.JobsComplete : Prop :=
  (∀ (s : State) (j : Job), s.isReady = true → s.nextGrant = some j → Runs .jobEntryGrant s fun t =>
    ∀ i ∈ t.jobs, i.id = j.id → i.entry = true) ∧
  ∀ s : State, s.enginesRun = true →
    let tagged := fun (j : Job) (t : State) => ∀ b ∈ j.writes, ∀ a, b.1 ≤ a → a < b.1 + b.2 → t.sooted a = true
    (∀ j u, s.nextStage = some j → s.staging = none →
      s.evict (j.pages.map (pageKey j.obj)) (s.missing j).length s.pageSlots.length = some u → Runs .pageStageStart s fun t =>
        t.staging = some j.id ∧ t.pageSlots = u.pageSlots ∧
        t.get .PGR_FETCHES = Num.wrap32 (s.get .PGR_FETCHES + (s.missing j).length)) ∧
    (∀ j o, s.staging = some j.id → s.job? j.id = some j → s.obj? j.obj = some o → Runs .pageStageDone s fun t => t.staging = none ∧
      ∀ p ∈ j.pages, (Tab.find? (pageKey j.obj p) t.pageSlots).isSome = true) ∧
    (∀ slot line, slot < Config.pageSlots → line < slotLines → Runs (.stagingStoreUe slot line) s fun t =>
      t.stagingLine (slot * slotLines + line) = true ∧
      ∀ key x, s.pageSlots.find? (fun e => e.2.1 == slot) = some (key, x) →
        t.get .PGR_RESTAGED = Num.wrap32 (s.get .PGR_RESTAGED + 1) ∧ Tab.find? key t.pageSlots = none ∧
        ∀ j ∈ t.jobs, j.unit.isSome = true → ∀ p ∈ j.pages, pageKey j.obj p ≠ key) ∧
    (∀ unit j, s.nextIssue unit = some j → s.unitFree unit = true → Runs (.jobIssue unit) s fun t =>
      (∃ i ∈ t.jobs, i.id = j.id ∧ i.unit = some unit ∧ i.since = s.now) ∧
      ((s.jobIssued unit j).soot = true → tagged (s.jobIssued unit j) t) ∧ (∀ n, unit = .array n → t.get .AR_BUSY n = 1) ∧
      (∀ n, unit = .cluster n → t.get .CL_BUSY n = 1) ∧ (∀ n, unit = .menc n → t.get .MENC_BUSY n = 1)) ∧
    (∀ unit out j, s.jobOn unit = some j → j.kind ≠ .decode → j.ofMirror = false → Runs (.jobComplete unit out) s fun t =>
      (∀ i ∈ t.jobs, i.id = j.id → s.nextJob ≤ i.id) ∧ (s.sootRead j = true → tagged j t) ∧
      (∀ n, unit = .array n → t.get .AR_BUSY n = 0 ∧ t.get .AR_JOBS n = Num.wrap32 (s.get .AR_JOBS n + 1)) ∧
      (∀ n, unit = .cluster n → t.get .CL_BUSY n = 0 ∧ t.get .CL_JOBS n = Num.wrap32 (s.get .CL_JOBS n + 1))) ∧
    (∀ a j i line, s.jobOn (.array a) = some j → j.slice = some i → line < Num.cdiv j.work 64 → Runs (.tileStoreUe a line) s fun t =>
      t.get .AR_BUSY a = 0 ∧ t.tileLine (i * sliceLines + line) = true ∧ ∀ q ∈ t.jobs, q.id = j.id → q.unit = none)

/-- A unit that faults leaves service with its cause and raises ENGINE_FAULT with the jobs to be issued again (R107, R230, R277, R321,
R397); a passed self-test returns it to service, a failed one leaves CAUSE 3 (R230, R278, R321). That the second failure of one job
raises no further ENGINE_FAULT is the model's reading (log entry 82). -/
def Obligations.UnitFaultsComplete : Prop :=
  ∀ s : State, s.isReady = true →
    let open' := fun j : Job => !((s.stream? j.stream).any fun st => st.closingPkt.isSome)
    (∀ e cause au, e < 8 → s.get .DEC_IN_SERVICE e = 1 → cause = 1 ∨ (cause = 2 ∧ s.decHung e = true) →
      (∀ x, s.inDecode e = some x → au.fits x.2.1.codec = true) → Runs (.decodeEngineFault e cause au) s fun t =>
      t.get .DEC_IN_SERVICE e = 0 ∧ t.get .DEC_FAULTED e = 1 ∧ t.get .DEC_CAUSE e = cause ∧
      ((∀ x, s.inDecode e = some x → x.2.2.hungBefore cause = none) → Raised s t 11 (0x100 + e) (Num.b2n (s.inDecode e).isSome) 0 0) ∧
      (∀ k st f e0, s.inDecode e = some (k, st, f) → f.hungBefore cause = some e0 → t.get .DEC_SELFTEST e = 1 ∧
        t.get .DEC_SELFTEST e0 = 1 ∧ t.get .CTX_LAST_ERROR k = 0x010A ∧ t.get .CTX_TAINTED k = 1)) ∧
    (∀ u cause, s.computeUnit u = true → cause = 1 ∨ cause = 2 ∨ cause = 4 → Runs (.computeUnitFault u cause) s fun t =>
      (∀ r, unitRegs u = some r → t.get r.1.1 r.2.1 = 0 ∧ t.get r.1.2.1 r.2.1 = 1 ∧ t.get r.1.2.2.2 r.2.1 = cause) ∧
      (u = .fft → t.get .FFT_FALLBACK = 1) ∧
      ((∀ j ∈ s.jobs, j.unit = some u → j.failedOn = none) →
        Raised s t 11 (computeSource u) (s.jobs.countP fun j => j.unit == some u && open' j) 0 0)) ∧
    (∀ lane cause, lane < 16 → (s.get .TRE_LANE_OUT).testBit lane = false → cause = 1 ∨ cause = 2 ∨ cause = 4 →
      Runs (.treeLaneFault lane cause) s fun t => (t.get .TRE_LANE_OUT).testBit lane = true ∧ t.get .TRE_CAUSE = cause ∧
        t.get .TRE_LANES = 16 - Num.popcount 16 (t.get .TRE_LANE_OUT) ∧
        ((∀ j ∈ s.jobs, j.kind = .tree → j.unit.isSome = true → j.failedOn = none) →
          Raised s t 11 0x500 (s.jobs.countP fun j => j.kind == .tree && j.unit.isSome && open' j) 0 0)) ∧
    (∀ m cause, m < 2 → s.get .MENC_IN_SERVICE m = 1 → cause = 1 ∨ cause = 2 → Runs (.mirrorEncoderFault m cause) s fun t =>
      t.get .MENC_IN_SERVICE m = 0 ∧ t.get .MENC_FAULTED m = 1 ∧ t.get .MENC_CAUSE m = cause ∧
      ((∀ j, s.jobOn (.menc m) = some j → j.failedOn = none) → Raised s t 11 (0x600 + m)
        (Num.b2n ((s.jobOn (.menc m)).any fun j => s.get .MENC_IN_SERVICE (1 - m) == 1 && open' j)) 0 0)) ∧
    (∀ u r, s.inSelftest u = true → unitRegs u = some r →
      (Runs (.selftestDone u true) s fun t => t.get r.1.1 r.2.1 = 1 ∧ t.get r.1.2.1 r.2.1 = 0 ∧ t.get r.1.2.2.1 r.2.1 = 0 ∧
        t.get r.1.2.2.2 r.2.1 = r.2.2) ∧
      (Runs (.selftestDone u false) s fun t => t.get r.1.2.2.1 r.2.1 = 0 ∧ t.get r.1.2.2.2 r.2.1 = 3)) ∧
    (∀ n ok, s.inSelftest (.lane n) = true → Runs (.selftestDone (.lane n) ok) s fun t =>
      t.get .TRE_CAUSE = (if ok then 5 else 3) ∧ (ok = true → (t.get .TRE_LANE_OUT).testBit n = false) ∧ n ∉ t.laneTests)

/-! ## Flue passes (R18, R35, R68, R79, R90, R94) -/

/-- A flue pass, begun and carried on write by write, takes the first frame of its stream off the path (R68, R82); of `n` candidates
against a budget of `k` records at most `k` leave, a GAP among them that counts the rest (R79). With the flues fenced, a flue pass, the
end of a close and a write to META_TAIL write no record, in the middle of a pass either (R35, R90, R94). -/
def Obligations.FluePassAndFenceComplete : Prop :=
  ((∀ (s : State) (k : Nat) (st : Stream) (f : Frame) (rest : List Frame), s.enginesRun = true → s.stream? k = some st →
     st.frames = f :: rest → s.halfRecord st.owner = false ∨ (st.pass.any FluePass.headDue) = true →
     s.passDue k st f = true ∨ (∃ p, st.pass = some p ∧ p.fseq = f.fseq) →
     (∀ n bad, Runs (.fluePass k n bad) s fun t =>
       (s.fenced = true → NoRecord s t) ∧ (s.fenced = false → st.pass = none → t.get .LAST_ACTIVE = 1) ∧
       ∃ x, t.stream? k = some x ∧ ((x.pass = none ∧ x.frames = st.frames.filter (fun g => g.fseq != f.fseq)) ∨
         (x.frames = st.frames ∧ ∃ p, x.pass = some p ∧ p.fseq = f.fseq))) ∧
     ∀ bad, ∃ m, ∀ n, m ≤ n → Runs (.fluePass k n bad) s fun t => ∃ x, t.stream? k = some x ∧ x.pass = none) ∧
   ∀ (k : Nat) (cs : List Cand), 1 ≤ k →
     (budgetCut k cs).1.length + Num.b2n (budgetCut k cs).2.isSome ≤ k ∧
     (budgetCut k cs).1 = cs.take (budgetCut k cs).1.length ∧
     ((budgetCut k cs).2 = none → (budgetCut k cs).1 = cs) ∧
     ∀ n, (budgetCut k cs).2 = some n → (budgetCut k cs).1.length + n = cs.length) ∧
  (∀ (s t : State), s.fenced = true →
     (∀ k n bad, exec (.fluePass k n bad) s = .next t → NoRecord s t) ∧
     (∀ k, exec (.streamCloseComplete k) s = .next t → NoRecord s t) ∧
     (∀ c v, exec (.metaTailWrite c v) s = .next t → NoRecord s t))

/-! ## DRAM channels, memory errors and admission (R59, R331, R335 to R344, R501, R506) -/

/-- What a channel in service does: it counts promotions and corrected errors (R331, R340), reads on with the patrol and counts
its passes (R341), shows its margins and retrains after two low passes (R338, R339); a retrain ends at a rate no higher, or
the channel is lost with the event and the FAULT of R344. -/
def Obligations.DramChannelsComplete : Prop :=
  ∀ (s : State) (c : Nat), s.channelUp c = true →
    (Runs (.dramAgePromotion c) s fun t => t.get .CH_PROMOTIONS c = Num.wrap32 (s.get .CH_PROMOTIONS c + 1) ∧
      KeepsBlock (· == .CH_PROMOTIONS) c s t) ∧
    (∀ a, a < s.dramBytes → channelOf a = c → Runs (.dramCe a) s fun t =>
      t.get .CH_CE_COUNT c = Num.satAdd 32 (s.get .CH_CE_COUNT c) 1 ∧ KeepsBlock (· == .CH_CE_COUNT) c s t) ∧
    (s.power = 0 ∨ s.power = 1 → Runs (.patrolRead c) s fun t =>
      let n := Tab.getD 0 c s.ch.patrol + 1
      (n < s.dramBytes / 16 / 64 → Tab.getD 0 c t.ch.patrol = n ∧ RegsBut (fun _ => false) c s t) ∧
      (s.dramBytes / 16 / 64 ≤ n → Tab.getD 0 c t.ch.patrol = 0 ∧
        t.get .CH_PATROL_PASSES c = Num.wrap32 (s.get .CH_PATROL_PASSES c + 1))) ∧
    (∀ rd wr, s.now % 65536 = c * 4096 → s.get .CH_RETRAINING c = 0 → rd < 256 → wr < 256 → s.power = 0 ∨ s.power = 1 →
      Runs (.trackingPass c rd wr) s fun t => t.get .CH_RD_MARGIN c = rd ∧ t.get .CH_WR_MARGIN c = wr ∧
        (s.get .CH_RETRAIN_AT c ≤ min rd wr → t.get .CH_RETRAINING c = 0 ∧ Tab.find? c t.ch.lowMargin = none) ∧
        (min rd wr < s.get .CH_RETRAIN_AT c → Tab.find? c s.ch.lowMargin = none →
          t.get .CH_RETRAINING c = 0 ∧ (Tab.find? c t.ch.lowMargin).isSome = true) ∧
        (min rd wr < s.get .CH_RETRAIN_AT c → (Tab.find? c s.ch.lowMargin).isSome = true →
          t.get .CH_RETRAINING c = 1 ∧ Tab.find? c t.ch.retrains = some s.now)) ∧
    (∀ t0, s.get .CH_RETRAINING c = 1 → Tab.find? c s.ch.retrains = some t0 → t0 + 400 ≤ s.now →
      (∀ r, r = 8533 ∨ r = 7500 ∨ r = 6400 → r ≤ s.get .CH_RATE c → Runs (.runtimeRetrainDone c (some r)) s fun t =>
        t.get .CH_RETRAINING c = 0 ∧ t.get .CH_RATE c = r ∧ t.get .CH_RETRAINS c = Num.satAdd 16 (s.get .CH_RETRAINS c) 1) ∧
      (Runs (.runtimeRetrainDone c none) s fun t => t.get .CH_RETRAINING c = 0 ∧ t.get .CH_LOST c = 1 ∧
        Raised s t 10 c 0xFFFFFFFF 0xFFFFFFFF 1 ∧
        ((s.inRank 10 c).treatment 10 = .apply → t.dev = 7 ∧ (s.isFault = false → t.get .DS_FAULT_CODE = 9 ∧ t.get .DS_CHANNEL = c))))

/-- A reading of channel `c` at or above 115 °C raises THERMAL_TRIP with SOURCE 16 + c, and a lower one raises none (R336). -/
def Obligations.DramTemperatureTrips : Prop :=
  ∀ (s : State) (c : Nat) (temp : Int), s.channelUp c = true → -128 ≤ temp → temp ≤ 127 →
    Runs (.dramTempRead c temp) s fun t => t.get .CH_TEMP c = Num.ofSigned 8 temp ∧
      (115 ≤ temp → Raised s t 2 (16 + c) (Num.ofSigned 32 (8 * temp)) 0 0) ∧
      (temp < 115 → t.thermal = s.thermal ∧ ∀ e ∈ t.captured, e.code = 2 → e ∈ s.captured)

/-- An uncorrectable error poisons its granule, is counted and shown, and raises DRAM_UE, fatal ones with FAULT code 0x09 (R342,
R344); one of a tag word soots its 512 granules (R59). -/
def Obligations.MemoryErrorsComplete : Prop :=
  ∀ (s : State) (c : Nat), s.channelUp c = true → s.wdgResetNow = false ∨ s.isReady = true →
    let recorded := fun (a : Nat) (t : State) => t.get .CH_UE_COUNT c = Num.satAdd 32 (s.get .CH_UE_COUNT c) 1 ∧
      t.get .CH_LAST_UE_ADDR c = a ∧ t.get .CH_LAST_UE_TICK c = s.now ∧ (t.get .EVU_PENDING).testBit 10 = true
    (∀ addr, addr < s.tagBase → channelOf (addr / 64 * 64) = c → channelOf addr = c → Runs (.dramUe addr) s fun t =>
      recorded (addr / 64 * 64) t ∧
      (addr / 64 * 64 < coreData → Raised s t 10 c (addr / 64 * 64 % 2 ^ 32) (addr / 64 * 64 / 2 ^ 32) 1 ∧
        t.get .CH_LOST c = 1 ∧ ((s.inRank 10 c).treatment 10 = .apply → t.dev = 7))) ∧
    (∀ w, w < (s.dramBytes / 16 - s.dramBytes / 16 / 512) / 32768 → Runs (.tagWordUe c w) s fun t =>
      recorded (deviceAddr c (s.dramBytes / 16 - s.dramBytes / 16 / 512 + 64 * w)) t ∧
      t.get .SEC_TAG_UE_COUNT = Num.satAdd 32 (s.get .SEC_TAG_UE_COUNT) 1 ∧ (t.get .SEC_SOOT_IRQ).testBit 2 = true ∧
      ∀ i b, i < 8 → b < 4096 → ISet.mem (deviceAddr c (w * 32768 + i * 4096 + b) / 64) t.soot = true)

/-- The admission unit recomputes every 1,024 ticks: nothing is reduced while every sum fits and every stream has its units, and
step 1 comes first where one does not fit (R501, R502); the newest reduction is lifted after its candidate has passed for
1,000,000 ticks, and its stream returns in HOLD (R506). -/
def Obligations.AdmissionCompletes : Prop :=
  ∀ s : State, s.isReady = true → s.thermal = none →
    (s.lastAdmission + 1024 ≤ s.now → Runs .admissionRecompute s fun t => t.lastAdmission = s.now ∧
      (s.treatment 12 = .apply → s.exceeded s.sums = none →
        (∀ e ∈ s.streams, s.noUnit e.2 = false ∨ e.2.shed.isSome = true) → t.degrade = s.degrade) ∧
      (∀ c, s.treatment 12 = .apply → s.exceeded s.sums = some c → s.stepIn 1 = false →
        t.stepIn 1 = true ∧ t.get .SCH_CAUSE = c)) ∧
    (∀ t0 step k, s.undoSince = some t0 → s.undoPasses = true → t0 + 1000000 ≤ s.now → s.degrade.getLast? = some (step, k) →
      Runs .degradeUndo s fun t => t.degrade = s.degrade.dropLast ∧
        t.get .SCH_STEP = t.degrade.foldl (fun m d => max m d.1) 0 ∧
        (step = 4 → ∀ st, s.stream? k = some st → ∃ x, t.stream? k = some x ∧ x.shed = none ∧ x.hold = true))

/-! ## The arithmetic of the frame path (R241 to R243, R263, R264, R269) -/

/-- What the arithmetic of the frame path keeps: with coefficients that sum to 128 in every phase a flat picture scales to
itself (R241, R242); a rotation is undone by the opposite one (R243); an int32 accumulator does not depend on the order of its
products (R263); a requantised output lies within its bounds (R264); the input region of a fused tile is S × T_out + H (R269). -/
def Obligations.FramePathArithmetic : Prop :=
  (∀ (ch cv : Nat → Nat → Int) (x0 y0 wp hp outW outH x y : Nat) (v : Int), 0 ≤ v → v ≤ 255 →
    (∀ ph, ph < 32 → ((List.range 8).map (ch ph)).sum = 128 ∧ ((List.range 8).map (cv ph)).sum = 128) →
    scaled ch cv x0 y0 wp hp outW outH (fun _ _ => v) x y = v) ∧
  (∀ (w h : Int) (p : Plane), rotated 3 h w (rotated 1 w h p) = p ∧ rotated 2 w h (rotated 2 w h p) = p) ∧
  (∀ ps qs : List Int, ps.Perm qs → acc32 ps = acc32 qs) ∧
  (∀ (acc bias mul zp lo hi : Int) (shift : Nat), lo ≤ hi →
    lo ≤ requant acc bias mul shift zp lo hi ∧ requant acc bias mul shift zp lo hi ≤ hi) ∧
  ∀ (ls : List Layer) (tw th : Nat), 1 ≤ tw → 1 ≤ th → (∀ l ∈ ls, 1 ≤ l.kw ∧ 1 ≤ l.kh ∧ 1 ≤ l.sw ∧ 1 ≤ l.sh) →
    ∃ (w h : Nat) (rest : List (Nat × Nat)), tileSizes ls.reverse tw th = (w, h) :: rest ∧
      (w : Int) = tileStride (axisX ls) * tw + tileHalo (axisX ls) ∧
      (h : Int) = tileStride (axisY ls) * th + tileHalo (axisY ls)
end

