-- ==== Sys2Proof/Laws/Map.lean ====
section
/-! SUPPORT. Sys2Proof/Laws/Map.lean: reading a table after an update, and the canonical form of tables under updates. -/

namespace Sys2Proof.Tab

variable {α : Type}

@[simp] theorem find?_nil (k : Nat) : find? k ([] : List (Nat × α)) = none := rfl

theorem find?_put (k j : Nat) (v : α) (m : List (Nat × α)) :
    find? j (put k v m) = if j = k then some v else find? j m := by
  induction m with
  | nil => by_cases h : j = k <;> simp [put, find?, h]; exact fun e => h e.symm
  | cons e t ih =>
    obtain ⟨i, w⟩ := e
    simp only [put]
    by_cases h : j = k <;> split <;> (try split) <;> simp_all [find?] <;> grind

@[simp] theorem find?_put_self (k : Nat) (v : α) (m : List (Nat × α)) : find? k (put k v m) = some v := by simp [find?_put]

theorem find?_put_ne {k j : Nat} (v : α) (m : List (Nat × α)) (h : j ≠ k) : find? j (put k v m) = find? j m := by
  simp [find?_put, h]

theorem find?_del (k j : Nat) (m : List (Nat × α)) : find? j (del k m) = if j = k then none else find? j m := by
  induction m with
  | nil => simp [del]
  | cons e t ih =>
    obtain ⟨i, w⟩ := e
    simp only [del]
    by_cases h : j = k <;> split <;> simp_all [find?] <;> grind

@[simp] theorem find?_del_self (k : Nat) (m : List (Nat × α)) : find? k (del k m) = none := by simp [find?_del]

theorem getD_putD [DecidableEq α] (d : α) (k j : Nat) (v : α) (m : List (Nat × α)) :
    getD d j (putD d k v m) = if j = k then v else getD d j m := by
  unfold getD putD
  by_cases hv : v = d <;> by_cases h : j = k <;> simp [hv, h, find?_put, find?_del]

theorem getD_putD_ne [DecidableEq α] (d e : α) {k j : Nat} (v : α) (m : List (Nat × α)) (h : j ≠ k) :
    getD e j (putD d k v m) = getD e j m := by
  unfold getD putD
  split <;> simp [h, find?_put, find?_del]

/-! ## The canonical form -/

theorem sortedFrom_mono {lo lo' : Nat} (m : List (Nat × α)) (h : lo' ≤ lo) (hm : sortedFrom lo m = true) :
    sortedFrom lo' m = true := by
  cases m with
  | nil => rfl
  | cons e t => simp_all [sortedFrom]; omega

theorem sortedFrom_put (k : Nat) (v : α) (m : List (Nat × α)) (lo : Nat) (hk : lo ≤ k) (hm : sortedFrom lo m = true) :
    sortedFrom lo (put k v m) = true := by
  induction m generalizing lo with
  | nil => simp [put, sortedFrom, hk]
  | cons e t ih =>
    obtain ⟨j, w⟩ := e
    simp only [sortedFrom, Bool.and_eq_true, decide_eq_true_eq] at hm
    simp only [put]
    split
    · simp [sortedFrom, hk, hm.2]; omega
    · split
      · subst k; simp [sortedFrom, hm]
      · simp [sortedFrom, hm.1]; exact ih (j + 1) (by omega) hm.2

theorem sortedFrom_del (k : Nat) (m : List (Nat × α)) (lo : Nat) (hm : sortedFrom lo m = true) :
    sortedFrom lo (del k m) = true := by
  induction m generalizing lo with
  | nil => rfl
  | cons e t ih =>
    obtain ⟨j, w⟩ := e
    simp only [sortedFrom, Bool.and_eq_true, decide_eq_true_eq] at hm
    simp only [del]
    split
    · exact ih lo (sortedFrom_mono t (by omega) hm.2)
    · simp [sortedFrom, hm.1]; exact ih (j + 1) hm.2

/-- Every update keeps the canonical form. -/
theorem sorted_put (k : Nat) (v : α) (m : List (Nat × α)) (hm : sorted m = true) : sorted (put k v m) = true :=
  sortedFrom_put k v m 0 (by omega) hm

theorem sorted_del (k : Nat) (m : List (Nat × α)) (hm : sorted m = true) : sorted (del k m) = true :=
  sortedFrom_del k m 0 hm

theorem sorted_putD [DecidableEq α] (d : α) (k : Nat) (v : α) (m : List (Nat × α)) (hm : sorted m = true) :
    sorted (putD d k v m) = true := by
  unfold putD; split
  · exact sorted_del k m hm
  · exact sorted_put k v m hm

end Sys2Proof.Tab
end

