-- ==== Sys2Proof/Laws/Mem.lean ====
section
/-! SUPPORT. Sys2Proof/Laws/Mem.lean: every operation on memory keeps its canonical form, and reset's memory has it. -/

namespace Sys2Proof.Machine

theorem memWf_iff (m : Mem) : memWf m = true ↔ Tab.sorted m = true ∧ ∀ c ∈ m, c.2 ≠ 0#8 := by
  simp [memWf]

theorem sortedFrom_filter {α : Type} (p : Nat × α → Bool) (m : List (Nat × α)) (lo : Nat) (h : Tab.sortedFrom lo m = true) :
    Tab.sortedFrom lo (m.filter p) = true := by
  induction m generalizing lo with
  | nil => rfl
  | cons e t ih =>
    obtain ⟨j, w⟩ := e
    simp only [Tab.sortedFrom, Bool.and_eq_true, decide_eq_true_eq] at h
    by_cases hp : p (j, w) = true
    · simp [hp, Tab.sortedFrom, h.1, ih (j + 1) h.2]
    · simpa [hp] using ih lo (Tab.sortedFrom_mono t (by omega) h.2)

/-- A rising table whose keys lie below `mid`, followed by one that rises from `mid`, rises. -/
theorem sortedFrom_append {α : Type} (m n : List (Nat × α)) (lo mid : Nat) (hm : Tab.sortedFrom lo m = true)
    (hk : ∀ e ∈ m, e.1 < mid) (hl : lo ≤ mid) (hn : Tab.sortedFrom mid n = true) : Tab.sortedFrom lo (m ++ n) = true := by
  induction m generalizing lo with
  | nil => exact Tab.sortedFrom_mono n hl hn
  | cons e t ih =>
    obtain ⟨j, w⟩ := e
    simp only [Tab.sortedFrom, Bool.and_eq_true, decide_eq_true_eq] at hm
    have hj : j < mid := hk (j, w) (by simp)
    simp only [List.cons_append, Tab.sortedFrom, Bool.and_eq_true, decide_eq_true_eq]
    exact ⟨hm.1, ih (j + 1) hm.2 (fun e he => hk e (by simp [he])) hj⟩

/-- Keys of a rising table that are at least `mid` rise from `mid`. -/
theorem sortedFrom_above {α : Type} (m : List (Nat × α)) (lo mid : Nat) (h : Tab.sortedFrom lo m = true) :
    Tab.sortedFrom mid (m.filter fun c => decide (mid ≤ c.1)) = true := by
  induction m generalizing lo with
  | nil => rfl
  | cons e t ih =>
    obtain ⟨j, w⟩ := e
    simp only [Tab.sortedFrom, Bool.and_eq_true, decide_eq_true_eq] at h
    by_cases hj : mid ≤ j
    · simp [hj, Tab.sortedFrom, sortedFrom_filter _ t (j + 1) h.2]
    · simpa [hj] using ih (j + 1) h.2

theorem memCells_sorted (a : Nat) (bs : Bytes) :
    Tab.sortedFrom a (memCells a bs) = true ∧ ∀ c ∈ memCells a bs, c.1 < a + bs.length ∧ c.2 ≠ 0#8 := by
  induction bs generalizing a with
  | nil => simp [memCells, Tab.sortedFrom]
  | cons b t ih =>
    obtain ⟨h1, h2⟩ := ih (a + 1)
    simp only [memCells, List.length_cons]
    split
    · exact ⟨Tab.sortedFrom_mono _ (by omega) h1, fun c hc => ⟨by have := (h2 c hc).1; omega, (h2 c hc).2⟩⟩
    · rename_i hb
      refine ⟨by simp [Tab.sortedFrom, h1], fun c hc => ?_⟩
      rcases List.mem_cons.mp hc with rfl | hc
      · exact ⟨by simp, hb⟩
      · exact ⟨by have := (h2 c hc).1; omega, (h2 c hc).2⟩

theorem memWrite_wf (m : Mem) (a : Nat) (bs : Bytes) (h : memWf m = true) : memWf (memWrite m a bs) = true := by
  rw [memWf_iff] at h ⊢
  obtain ⟨h1, h2⟩ := memCells_sorted a bs
  refine ⟨?_, fun c hc => ?_⟩
  · unfold memWrite Tab.sorted
    rw [List.append_assoc]
    refine sortedFrom_append _ _ 0 a (sortedFrom_filter _ _ _ h.1) (fun e he => by simpa using (List.mem_filter.mp he).2)
      (by omega) ?_
    exact sortedFrom_append _ _ a (a + bs.length) h1 (fun e he => (h2 e he).1) (by omega) (sortedFrom_above _ 0 _ h.1)
  · simp only [memWrite, List.mem_append, List.mem_filter] at hc
    rcases hc with (hc | hc) | hc
    · exact h.2 c hc.1
    · exact (h2 c hc).2
    · exact h.2 c hc.1

theorem memZero_wf (m : Mem) (lo hi : Nat) (h : memWf m = true) : memWf (memZero m lo hi) = true := by
  rw [memWf_iff] at h ⊢
  exact ⟨sortedFrom_filter _ _ _ h.1, fun c hc => h.2 c (List.mem_filter.mp hc).1⟩

theorem memWf_nil : memWf [] = true := rfl

theorem reset_memWf : memWf State.reset.dram = true := rfl

/-! ## The operations of the state on memory -/

theorem zeroise_memWf (s : State) (lo hi : Nat) (h : memWf s.dram = true) : memWf (s.zeroise lo hi).dram = true :=
  memZero_wf s.dram lo hi h

/-! ## Allocation succeeds where memory is left -/

/-- Every range of `l` ends at or below `top` or starts at or above `w`. -/
def Clear (top w : Nat) (l : List (Nat × Nat)) : Prop := ∀ e ∈ l, e.2 ≤ top ∨ w ≤ e.1

theorem gapFrom_some {need hi top w : Nat} (occ : List (Nat × Nat)) (lo : Nat) (ho : Clear top w occ) (hl : lo ≤ top)
    (hh : top + need ≤ w) (hw : w ≤ hi) : ∃ a, gapFrom need lo hi occ = some a ∧ a ≤ top := by
  induction occ generalizing lo with
  | nil => exact ⟨lo, by simp [gapFrom]; omega, hl⟩
  | cons e t ih =>
    obtain ⟨x, y⟩ := e
    simp only [gapFrom]
    split
    · exact ⟨lo, rfl, hl⟩
    · have hy : y ≤ top ∨ w ≤ x := ho (x, y) (by simp)
      exact ih (max lo y) (fun e he => ho e (by simp [he])) (by omega)

theorem place_clear {top w : Nat} (hw : top < w) (l : List (Nat × Nat)) (lo hi : Nat) (hl : Clear top w l) (hh : hi ≤ top) :
    Clear top w (ISet.place lo hi l) := by
  induction l generalizing lo hi with
  | nil => intro e he; simp only [ISet.place, List.mem_singleton] at he; subst he; exact .inl hh
  | cons x t ih =>
    obtain ⟨a, b⟩ := x
    have hb : b ≤ top ∨ w ≤ a := hl (a, b) (by simp)
    have ht : Clear top w t := fun e he => hl e (by simp [he])
    simp only [ISet.place]
    split
    · intro e he
      rcases List.mem_cons.mp he with rfl | he
      · exact .inl hh
      · exact hl e he
    · split
      · intro e he
        rcases List.mem_cons.mp he with rfl | he
        · exact hb
        · exact ih lo hi ht hh e he
      · exact ih (min a lo) (max b hi) ht (by omega)

theorem add_clear {top w : Nat} (hw : top < w) (l : List (Nat × Nat)) (lo hi : Nat) (hl : Clear top w l) (hh : hi ≤ top) :
    Clear top w (ISet.add lo hi l) := by
  unfold ISet.add; split
  · exact place_clear hw l lo hi hl hh
  · exact hl

/-- No buffer ends above `top`, no SCRUB runs, Choararok's data and the clean class end below it, and the receiver's buffers lie above
it. -/
def State.roomFrom (s : State) (top : Nat) : Prop :=
  coreData ≤ top ∧ s.cleanEnd ≤ top ∧ s.scrub = none ∧ top < s.wrenBase ∧ ∀ a ∈ s.allocs, a.addr + a.bytes ≤ top

theorem occupied_clear {s : State} {top : Nat} (h : s.roomFrom top) : Clear top s.wrenBase s.occupied := by
  obtain ⟨h0, -, h1, hw, h2⟩ := h
  simp only [State.occupied, h1]
  have : ∀ (l : List Alloc) (o : List (Nat × Nat)), (∀ a ∈ l, a.addr + a.bytes ≤ top) → Clear top s.wrenBase o →
      Clear top s.wrenBase (l.foldl (fun o a => ISet.add a.addr (a.addr + a.bytes) o) o) := by
    intro l
    induction l with
    | nil => intro o _ ho; exact ho
    | cons a t ih =>
      intro o hl ho
      exact ih _ (fun x hx => hl x (by simp [hx])) (add_clear hw o _ _ ho (hl a (by simp)))
  refine this s.allocs _ h2 fun e he => ?_
  rcases List.mem_cons.mp he with rfl | he
  · exact .inl h0
  · rw [List.mem_singleton] at he; subst he; exact .inr (Nat.le_refl _)

theorem mem_insertAlloc (a x : Alloc) (l : List Alloc) (h : x ∈ insertAlloc a l) : x = a ∨ x ∈ l := by
  induction l with
  | nil => simpa [insertAlloc] using h
  | cons b t ih =>
    simp only [insertAlloc] at h
    split at h
    · simpa using h
    · rcases List.mem_cons.mp h with rfl | h
      · simp
      · rcases ih h with h | h <;> simp [h]

/-- A soot-class buffer is found where the class has room above `top`. -/
theorem alloc_some {s : State} {top n : Nat} (k : Option Nat) (h : s.roomFrom top) (hn : top + bufBytes n < s.wrenBase) :
    ∃ a v, s.alloc true n k = some (a, v) ∧ v.roomFrom (top + bufBytes n) ∧ v.wrenBase = s.wrenBase := by
  obtain ⟨a, ha, hle⟩ := gapFrom_some (need := bufBytes n) (hi := s.tagBase) s.occupied s.cleanEnd (occupied_clear h) h.2.1
    (by omega) (by unfold State.wrenBase; omega)
  obtain ⟨h0, h1, h2, h4, h3⟩ := h
  refine ⟨a, { s with allocs := insertAlloc ⟨a, bufBytes n, true, k⟩ s.allocs, marks := cutMarks a (a + bufBytes n) s.marks },
    by simp [State.alloc, ha], ⟨by omega, ?_, h2, ?_, fun x hx => ?_⟩, rfl⟩
  · exact Nat.le_add_right_of_le h1
  · exact hn
  · rcases mem_insertAlloc _ _ _ hx with rfl | hx
    · simp; omega
    · have := h3 x hx; omega

theorem allocAll_some {s : State} {top : Nat} (k : Option Nat) (ns : List Nat) (h : s.roomFrom top)
    (hn : top + (ns.map bufBytes).sum < s.wrenBase) : ∃ bufs v, s.allocAll true k ns = some (bufs, v) := by
  induction ns generalizing s top with
  | nil => exact ⟨[], s, rfl⟩
  | cons n t ih =>
    simp only [List.map_cons, List.sum_cons] at hn
    obtain ⟨a, v, ha, hv, ht⟩ := alloc_some (n := n) k h (by omega)
    obtain ⟨bs, u, hu⟩ := ih hv (by rw [ht]; omega)
    exact ⟨(a, bufBytes n) :: bs, u, by simp [State.allocAll, ha, hu]⟩

end Sys2Proof.Machine
end

