-- ==== Sys2Proof/Laws/State.lean ====
section
/-! SUPPORT. Sys2Proof/Laws/State.lean: reading a register field after an update of the state, and what an update of a register
field leaves alone. -/

namespace Sys2Proof.Machine

/-! ## Keys -/

theorem Field.ctorIdx_lt (f : Field) : f.ctorIdx < 512 := by cases f <;> decide

theorem Field.eq_of_ctorIdx {f g : Field} (h : f.ctorIdx = g.ctorIdx) : f = g := by
  have key : ∀ f : Field, Field.ofNat f.ctorIdx = f := by intro f; cases f <;> rfl
  rw [← key f, ← key g, h]

/-- A key names one field of one block. -/
@[simp] theorem Field.key_inj {f g : Field} {i j : Nat} : f.key i = g.key j ↔ f = g ∧ i = j := by
  constructor
  · intro h
    simp only [Field.key] at h
    have hf := f.ctorIdx_lt
    have hg := g.ctorIdx_lt
    have hi : i = j := by omega
    exact ⟨Field.eq_of_ctorIdx (by omega), hi⟩
  · rintro ⟨rfl, rfl⟩; rfl

/-! ## Registers -/

/-- A field read after a field is written. -/
theorem State.get_set (s : State) (f g : Field) (i j v : Nat) :
    (s.set f i v).get g j = if g = f ∧ j = i then v else s.get g j := by
  simp only [State.get, State.set]
  split
  · next h => obtain ⟨rfl, rfl⟩ := h; simp [Tab.getD_putD]
  · next h => rw [Tab.getD_putD_ne]; simpa using h

@[simp] theorem State.get_set_self (s : State) (f : Field) (i v : Nat) : (s.set f i v).get f i = v := by simp [State.get_set]

theorem State.get_set_ne (s : State) {f g : Field} (i j v : Nat) (h : g ≠ f) : (s.set f i v).get g j = s.get g j := by
  simp [State.get_set, h]

theorem State.get_set_ne' (s : State) (f : Field) {i j : Nat} (v : Nat) (h : j ≠ i) : (s.set f i v).get f j = s.get f j := by
  simp [State.get_set, h]

/-- The register file decides what a field reads. -/
theorem State.get_congr {s t : State} (h : s.fields = t.fields) (f : Field) (i : Nat) : s.get f i = t.get f i := by
  simp [State.get, h]

/-! ## What a register write leaves alone -/

@[simp] theorem State.set_pending (s : State) (f : Field) (i v : Nat) : (s.set f i v).pending = s.pending := rfl
@[simp] theorem State.set_pwrok (s : State) (f : Field) (i v : Nat) : (s.set f i v).pwrok = s.pwrok := rfl
@[simp] theorem State.set_perstN (s : State) (f : Field) (i v : Nat) : (s.set f i v).perstN = s.perstN := rfl
@[simp] theorem State.set_bayrstN (s : State) (f : Field) (i v : Nat) : (s.set f i v).bayrstN = s.bayrstN := rfl
@[simp] theorem State.set_aonValid (s : State) (f : Field) (i v : Nat) : (s.set f i v).aonValid = s.aonValid := rfl
@[simp] theorem State.set_pwrdnReq (s : State) (f : Field) (i v : Nat) : (s.set f i v).pwrdnReq = s.pwrdnReq := rfl
@[simp] theorem State.set_strapAddr (s : State) (f : Field) (i v : Nat) : (s.set f i v).strapAddr = s.strapAddr := rfl
@[simp] theorem State.set_boot (s : State) (f : Field) (i v : Nat) : (s.set f i v).boot = s.boot := rfl
@[simp] theorem State.set_bme (s : State) (f : Field) (i v : Nat) : (s.set f i v).bme = s.bme := rfl
@[simp] theorem State.set_mse (s : State) (f : Field) (i v : Nat) : (s.set f i v).mse = s.mse := rfl
@[simp] theorem State.set_msixEnable (s : State) (f : Field) (i v : Nat) : (s.set f i v).msixEnable = s.msixEnable := rfl
@[simp] theorem State.set_funcMask (s : State) (f : Field) (i v : Nat) : (s.set f i v).funcMask = s.funcMask := rfl
@[simp] theorem State.set_d3hot (s : State) (f : Field) (i v : Nat) : (s.set f i v).d3hot = s.d3hot := rfl
@[simp] theorem State.set_cfg (s : State) (f : Field) (i v : Nat) : (s.set f i v).cfg = s.cfg := rfl
@[simp] theorem State.set_msixTable (s : State) (f : Field) (i v : Nat) : (s.set f i v).msixTable = s.msixTable := rfl
@[simp] theorem State.set_msixPba (s : State) (f : Field) (i v : Nat) : (s.set f i v).msixPba = s.msixPba := rfl
@[simp] theorem State.set_shadowOwner (s : State) (f : Field) (i v : Nat) : (s.set f i v).shadowOwner = s.shadowOwner := rfl
@[simp] theorem State.set_shadowWord (s : State) (f : Field) (i v : Nat) : (s.set f i v).shadowWord = s.shadowWord := rfl
@[simp] theorem State.set_offer (s : State) (f : Field) (i v : Nat) : (s.set f i v).offer = s.offer := rfl
@[simp] theorem State.set_staged (s : State) (f : Field) (i v : Nat) : (s.set f i v).staged = s.staged := rfl
@[simp] theorem State.set_crossing (s : State) (f : Field) (i v : Nat) : (s.set f i v).crossing = s.crossing := rfl
@[simp] theorem State.set_reads (s : State) (f : Field) (i v : Nat) : (s.set f i v).reads = s.reads := rfl
@[simp] theorem State.set_lastFetch (s : State) (f : Field) (i v : Nat) : (s.set f i v).lastFetch = s.lastFetch := rfl
@[simp] theorem State.set_looked (s : State) (f : Field) (i v : Nat) : (s.set f i v).looked = s.looked := rfl
@[simp] theorem State.set_dbLatch (s : State) (f : Field) (i v : Nat) : (s.set f i v).dbLatch = s.dbLatch := rfl
@[simp] theorem State.set_packets (s : State) (f : Field) (i v : Nat) : (s.set f i v).packets = s.packets := rfl
@[simp] theorem State.set_nextPkt (s : State) (f : Field) (i v : Nat) : (s.set f i v).nextPkt = s.nextPkt := rfl
@[simp] theorem State.set_flushes (s : State) (f : Field) (i v : Nat) : (s.set f i v).flushes = s.flushes := rfl
@[simp] theorem State.set_retry (s : State) (f : Field) (i v : Nat) : (s.set f i v).retry = s.retry := rfl
@[simp] theorem State.set_resetting (s : State) (f : Field) (i v : Nat) : (s.set f i v).resetting = s.resetting := rfl
@[simp] theorem State.set_fences (s : State) (f : Field) (i v : Nat) : (s.set f i v).fences = s.fences := rfl
@[simp] theorem State.set_captured (s : State) (f : Field) (i v : Nat) : (s.set f i v).captured = s.captured := rfl
@[simp] theorem State.set_staleTick (s : State) (f : Field) (i v : Nat) : (s.set f i v).staleTick = s.staleTick := rfl
@[simp] theorem State.set_staleWritten (s : State) (f : Field) (i v : Nat) : (s.set f i v).staleWritten = s.staleWritten := rfl
@[simp] theorem State.set_readyAt (s : State) (f : Field) (i v : Nat) : (s.set f i v).readyAt = s.readyAt := rfl
@[simp] theorem State.set_lostSinceHead (s : State) (f : Field) (i v : Nat) : (s.set f i v).lostSinceHead = s.lostSinceHead := rfl
@[simp] theorem State.set_deferredPairDown (s : State) (f : Field) (i v : Nat) : (s.set f i v).deferredPairDown = s.deferredPairDown := rfl
@[simp] theorem State.set_tamperWait (s : State) (f : Field) (i v : Nat) : (s.set f i v).tamperWait = s.tamperWait := rfl
@[simp] theorem State.set_thermal (s : State) (f : Field) (i v : Nat) : (s.set f i v).thermal = s.thermal := rfl
@[simp] theorem State.set_tamperFence (s : State) (f : Field) (i v : Nat) : (s.set f i v).tamperFence = s.tamperFence := rfl
@[simp] theorem State.set_clockLost (s : State) (f : Field) (i v : Nat) : (s.set f i v).clockLost = s.clockLost := rfl
@[simp] theorem State.set_streams (s : State) (f : Field) (i v : Nat) : (s.set f i v).streams = s.streams := rfl
@[simp] theorem State.set_objects (s : State) (f : Field) (i v : Nat) : (s.set f i v).objects = s.objects := rfl
@[simp] theorem State.set_loads (s : State) (f : Field) (i v : Nat) : (s.set f i v).loads = s.loads := rfl
@[simp] theorem State.set_jobs (s : State) (f : Field) (i v : Nat) : (s.set f i v).jobs = s.jobs := rfl
@[simp] theorem State.set_nextJob (s : State) (f : Field) (i v : Nat) : (s.set f i v).nextJob = s.nextJob := rfl
@[simp] theorem State.set_pageSlots (s : State) (f : Field) (i v : Nat) : (s.set f i v).pageSlots = s.pageSlots := rfl
@[simp] theorem State.set_staging (s : State) (f : Field) (i v : Nat) : (s.set f i v).staging = s.staging := rfl
@[simp] theorem State.set_degrade (s : State) (f : Field) (i v : Nat) : (s.set f i v).degrade = s.degrade := rfl
@[simp] theorem State.set_degradeQueue (s : State) (f : Field) (i v : Nat) : (s.set f i v).degradeQueue = s.degradeQueue := rfl
@[simp] theorem State.set_lastAdmission (s : State) (f : Field) (i v : Nat) : (s.set f i v).lastAdmission = s.lastAdmission := rfl
@[simp] theorem State.set_undoSince (s : State) (f : Field) (i v : Nat) : (s.set f i v).undoSince = s.undoSince := rfl
@[simp] theorem State.set_allocs (s : State) (f : Field) (i v : Nat) : (s.set f i v).allocs = s.allocs := rfl
@[simp] theorem State.set_marks (s : State) (f : Field) (i v : Nat) : (s.set f i v).marks = s.marks := rfl
@[simp] theorem State.set_dram (s : State) (f : Field) (i v : Nat) : (s.set f i v).dram = s.dram := rfl
@[simp] theorem State.set_soot (s : State) (f : Field) (i v : Nat) : (s.set f i v).soot = s.soot := rfl
@[simp] theorem State.set_tileSoot (s : State) (f : Field) (i v : Nat) : (s.set f i v).tileSoot = s.tileSoot := rfl
@[simp] theorem State.set_tileBad (s : State) (f : Field) (i v : Nat) : (s.set f i v).tileBad = s.tileBad := rfl
@[simp] theorem State.set_stagingSoot (s : State) (f : Field) (i v : Nat) : (s.set f i v).stagingSoot = s.stagingSoot := rfl
@[simp] theorem State.set_stagingBad (s : State) (f : Field) (i v : Nat) : (s.set f i v).stagingBad = s.stagingBad := rfl
@[simp] theorem State.set_workSoot (s : State) (f : Field) (i v : Nat) : (s.set f i v).workSoot = s.workSoot := rfl
@[simp] theorem State.set_poison (s : State) (f : Field) (i v : Nat) : (s.set f i v).poison = s.poison := rfl
@[simp] theorem State.set_ueTicks (s : State) (f : Field) (i v : Nat) : (s.set f i v).ueTicks = s.ueTicks := rfl
@[simp] theorem State.set_scrub (s : State) (f : Field) (i v : Nat) : (s.set f i v).scrub = s.scrub := rfl
@[simp] theorem State.set_fuses (s : State) (f : Field) (i v : Nat) : (s.set f i v).fuses = s.fuses := rfl
@[simp] theorem State.set_rootSecret (s : State) (f : Field) (i v : Nat) : (s.set f i v).rootSecret = s.rootSecret := rfl
@[simp] theorem State.set_labArm (s : State) (f : Field) (i v : Nat) : (s.set f i v).labArm = s.labArm := rfl
@[simp] theorem State.set_power (s : State) (f : Field) (i v : Nat) : (s.set f i v).power = s.power := rfl
@[simp] theorem State.set_powerReq (s : State) (f : Field) (i v : Nat) : (s.set f i v).powerReq = s.powerReq := rfl
@[simp] theorem State.set_partner (s : State) (f : Field) (i v : Nat) : (s.set f i v).partner = s.partner := rfl
@[simp] theorem State.set_storedGen (s : State) (f : Field) (i v : Nat) : (s.set f i v).storedGen = s.storedGen := rfl
@[simp] theorem State.set_certSensed (s : State) (f : Field) (i v : Nat) : (s.set f i v).certSensed = s.certSensed := rfl
@[simp] theorem State.set_fwCertified (s : State) (f : Field) (i v : Nat) : (s.set f i v).fwCertified = s.fwCertified := rfl
@[simp] theorem State.set_loadBufs (s : State) (f : Field) (i v : Nat) : (s.set f i v).loadBufs = s.loadBufs := rfl
@[simp] theorem State.set_covers (s : State) (f : Field) (i v : Nat) : (s.set f i v).covers = s.covers := rfl
@[simp] theorem State.set_breachQueue (s : State) (f : Field) (i v : Nat) : (s.set f i v).breachQueue = s.breachQueue := rfl
@[simp] theorem State.set_leaseLapsed (s : State) (f : Field) (i v : Nat) : (s.set f i v).leaseLapsed = s.leaseLapsed := rfl
@[simp] theorem State.set_laneTests (s : State) (f : Field) (i v : Nat) : (s.set f i v).laneTests = s.laneTests := rfl
@[simp] theorem State.set_keptDecs (s : State) (f : Field) (i v : Nat) : (s.set f i v).keptDecs = s.keptDecs := rfl
@[simp] theorem State.set_slewTicks (s : State) (f : Field) (i v : Nat) : (s.set f i v).slewTicks = s.slewTicks := rfl
@[simp] theorem State.set_flr (s : State) (f : Field) (i v : Nat) : (s.set f i v).flr = s.flr := rfl
@[simp] theorem State.set_tamperN (s : State) (f : Field) (i v : Nat) : (s.set f i v).tamperN = s.tamperN := rfl
@[simp] theorem State.set_tamperRest (s : State) (f : Field) (i v : Nat) : (s.set f i v).tamperRest = s.tamperRest := rfl
@[simp] theorem State.set_waking (s : State) (f : Field) (i v : Nat) : (s.set f i v).waking = s.waking := rfl
@[simp] theorem State.set_w (s : State) (f : Field) (i v : Nat) : (s.set f i v).w = s.w := rfl
@[simp] theorem State.set_bay (s : State) (f : Field) (i v : Nat) : (s.set f i v).bay = s.bay := rfl
@[simp] theorem State.set_nor (s : State) (f : Field) (i v : Nat) : (s.set f i v).nor = s.nor := rfl
@[simp] theorem State.set_fw (s : State) (f : Field) (i v : Nat) : (s.set f i v).fw = s.fw := rfl
@[simp] theorem State.set_wdg (s : State) (f : Field) (i v : Nat) : (s.set f i v).wdg = s.wdg := rfl
@[simp] theorem State.set_hlt (s : State) (f : Field) (i v : Nat) : (s.set f i v).hlt = s.hlt := rfl
@[simp] theorem State.set_ch (s : State) (f : Field) (i v : Nat) : (s.set f i v).ch = s.ch := rfl
@[simp] theorem State.set_egress (s : State) (f : Field) (i v : Nat) : (s.set f i v).egress = s.egress := rfl
@[simp] theorem State.set_freeCtr (s : State) (f : Field) (i v : Nat) : (s.set f i v).freeCtr = s.freeCtr := rfl

/-! ## What an update of other parts leaves alone -/

/-- A state built with the register file of `s` reads its fields as `s` does. -/
@[simp] theorem State.get_mk (s : State) (a0) (a2) (a3) (a4) (a5) (a6) (a7) (a8) (a9) (a10) (a11) (a12) (a13)
    (a14) (a15) (a16) (a17) (a18) (a19) (a20) (a21) (a22) (a23) (a24) (a25) (a26) (a27) (a28) (a29) (a30)
    (a31) (a32) (a33) (a34) (a35) (a36) (a37) (a38) (a39) (a40) (a41) (a42) (a43) (a44) (a45) (a46) (a47)
    (a48) (a49) (a50) (a51) (a52) (a53) (a54) (a55) (a56) (a57) (a58) (a59) (a60) (a61) (a62) (a63) (a64)
    (a65) (a66) (a67) (a68) (a69) (a70) (a71) (a72) (a73) (a74) (a75) (a76) (a77) (a78) (a79) (a80) (a81)
    (a82) (a83) (a84) (a85) (a86) (a87) (a88) (a89) (a90) (a91) (a92) (a93) (f : Field) (i : Nat) :
    State.get (State.mk a0 s.fields a2 a3 a4 a5 a6 a7 a8 a9 a10 a11 a12 a13 a14 a15 a16 a17 a18 a19 a20 a21
    a22 a23 a24 a25 a26 a27 a28 a29 a30 a31 a32 a33 a34 a35 a36 a37 a38 a39 a40 a41 a42 a43 a44 a45 a46 a47
    a48 a49 a50 a51 a52 a53 a54 a55 a56 a57 a58 a59 a60 a61 a62 a63 a64 a65 a66 a67 a68 a69 a70 a71 a72 a73
    a74 a75 a76 a77 a78 a79 a80 a81 a82 a83 a84 a85 a86 a87 a88 a89 a90 a91 a92 a93) f i = s.get f i := rfl

end Sys2Proof.Machine
end

