-- ==== Sys2Proof/Laws/Shared.lean ====
section
/-! SUPPORT. Sys2Proof/Laws/Shared.lean: what each shared operation can do: messages, replies, starts, and the ending of every
command. -/

namespace Sys2Proof.Machine

/-! ## Frames -/

theorem Keeps.refl (F : Field → Bool) (s : State) : Keeps F s s := ⟨fun _ _ _ => rfl, rfl, [], by simp⟩

theorem Keeps.trans {F : Field → Bool} {s t u : State} (h : Keeps F s t) (k : Keeps F t u) : Keeps F s u := by
  obtain ⟨h1, h2, l, h3⟩ := h
  obtain ⟨k1, k2, m, k3⟩ := k
  exact ⟨fun f i hf => (k1 f i hf).trans (h1 f i hf), k2.trans h2, l ++ m, by rw [k3, h3, List.append_assoc]⟩

theorem Keeps.mono {F G : Field → Bool} {s t : State} (h : Keeps F s t) (hg : ∀ f, G f = false → F f = false) : Keeps G s t :=
  ⟨fun f i hf => h.1 f i (hg f hf), h.2⟩

/-- A register of `F` is written. -/
theorem Keeps.set {F : Field → Bool} {s t : State} (h : Keeps F s t) (f : Field) (i v : Nat) (hf : F f = true) :
    Keeps F s (t.set f i v) := by
  refine h.trans ⟨fun g j hg => State.get_set_ne _ _ _ _ ?_, rfl, [], by simp⟩
  rintro rfl; simp_all

theorem Keeps.foldl {α : Type} {F : Field → Bool} (g : State → α → State) (hg : ∀ s a, Keeps F s (g s a)) (l : List α)
    (s : State) : Keeps F s (l.foldl g s) := by
  induction l generalizing s with
  | nil => exact Keeps.refl F s
  | cons a l ih => exact (hg s a).trans (ih _)

/-- Parts that `quiet` keeps are equal under a frame. -/
theorem Keeps.part {F : Field → Bool} {s t : State} {α : Sort _} (h : Keeps F s t) (p : State → α) (hp : ∀ s, p s.quiet = p s) :
    p t = p s := by rw [← hp t, ← hp s, h.2.1]

theorem Keeps.pending {F : Field → Bool} {s t : State} (h : Keeps F s t) : t.pending = s.pending := h.part State.pending fun _ => rfl
theorem Keeps.pwrok {F : Field → Bool} {s t : State} (h : Keeps F s t) : t.pwrok = s.pwrok := h.part State.pwrok fun _ => rfl
theorem Keeps.perstN {F : Field → Bool} {s t : State} (h : Keeps F s t) : t.perstN = s.perstN := h.part State.perstN fun _ => rfl
theorem Keeps.bayrstN {F : Field → Bool} {s t : State} (h : Keeps F s t) : t.bayrstN = s.bayrstN := h.part State.bayrstN fun _ => rfl
theorem Keeps.aonValid {F : Field → Bool} {s t : State} (h : Keeps F s t) : t.aonValid = s.aonValid := h.part State.aonValid fun _ => rfl
theorem Keeps.pwrdnReq {F : Field → Bool} {s t : State} (h : Keeps F s t) : t.pwrdnReq = s.pwrdnReq := h.part State.pwrdnReq fun _ => rfl
theorem Keeps.strapAddr {F : Field → Bool} {s t : State} (h : Keeps F s t) : t.strapAddr = s.strapAddr := h.part State.strapAddr fun _ => rfl
theorem Keeps.boot {F : Field → Bool} {s t : State} (h : Keeps F s t) : t.boot = s.boot := h.part State.boot fun _ => rfl
theorem Keeps.bme {F : Field → Bool} {s t : State} (h : Keeps F s t) : t.bme = s.bme := h.part State.bme fun _ => rfl
theorem Keeps.mse {F : Field → Bool} {s t : State} (h : Keeps F s t) : t.mse = s.mse := h.part State.mse fun _ => rfl
theorem Keeps.msixEnable {F : Field → Bool} {s t : State} (h : Keeps F s t) : t.msixEnable = s.msixEnable := h.part State.msixEnable fun _ => rfl
theorem Keeps.funcMask {F : Field → Bool} {s t : State} (h : Keeps F s t) : t.funcMask = s.funcMask := h.part State.funcMask fun _ => rfl
theorem Keeps.d3hot {F : Field → Bool} {s t : State} (h : Keeps F s t) : t.d3hot = s.d3hot := h.part State.d3hot fun _ => rfl
theorem Keeps.cfg {F : Field → Bool} {s t : State} (h : Keeps F s t) : t.cfg = s.cfg := h.part State.cfg fun _ => rfl
theorem Keeps.msixTable {F : Field → Bool} {s t : State} (h : Keeps F s t) : t.msixTable = s.msixTable := h.part State.msixTable fun _ => rfl
theorem Keeps.shadowOwner {F : Field → Bool} {s t : State} (h : Keeps F s t) : t.shadowOwner = s.shadowOwner := h.part State.shadowOwner fun _ => rfl
theorem Keeps.shadowWord {F : Field → Bool} {s t : State} (h : Keeps F s t) : t.shadowWord = s.shadowWord := h.part State.shadowWord fun _ => rfl
theorem Keeps.offer {F : Field → Bool} {s t : State} (h : Keeps F s t) : t.offer = s.offer := h.part State.offer fun _ => rfl
theorem Keeps.lastFetch {F : Field → Bool} {s t : State} (h : Keeps F s t) : t.lastFetch = s.lastFetch := h.part State.lastFetch fun _ => rfl
theorem Keeps.looked {F : Field → Bool} {s t : State} (h : Keeps F s t) : t.looked = s.looked := h.part State.looked fun _ => rfl
theorem Keeps.dbLatch {F : Field → Bool} {s t : State} (h : Keeps F s t) : t.dbLatch = s.dbLatch := h.part State.dbLatch fun _ => rfl
theorem Keeps.nextPkt {F : Field → Bool} {s t : State} (h : Keeps F s t) : t.nextPkt = s.nextPkt := h.part State.nextPkt fun _ => rfl
theorem Keeps.flushes {F : Field → Bool} {s t : State} (h : Keeps F s t) : t.flushes = s.flushes := h.part State.flushes fun _ => rfl
theorem Keeps.retry {F : Field → Bool} {s t : State} (h : Keeps F s t) : t.retry = s.retry := h.part State.retry fun _ => rfl
theorem Keeps.resetting {F : Field → Bool} {s t : State} (h : Keeps F s t) : t.resetting = s.resetting := h.part State.resetting fun _ => rfl
theorem Keeps.staleTick {F : Field → Bool} {s t : State} (h : Keeps F s t) : t.staleTick = s.staleTick := h.part State.staleTick fun _ => rfl
theorem Keeps.staleWritten {F : Field → Bool} {s t : State} (h : Keeps F s t) : t.staleWritten = s.staleWritten := h.part State.staleWritten fun _ => rfl
theorem Keeps.readyAt {F : Field → Bool} {s t : State} (h : Keeps F s t) : t.readyAt = s.readyAt := h.part State.readyAt fun _ => rfl
theorem Keeps.lostSinceHead {F : Field → Bool} {s t : State} (h : Keeps F s t) : t.lostSinceHead = s.lostSinceHead := h.part State.lostSinceHead fun _ => rfl
theorem Keeps.deferredPairDown {F : Field → Bool} {s t : State} (h : Keeps F s t) : t.deferredPairDown = s.deferredPairDown := h.part State.deferredPairDown fun _ => rfl
theorem Keeps.tamperWait {F : Field → Bool} {s t : State} (h : Keeps F s t) : t.tamperWait = s.tamperWait := h.part State.tamperWait fun _ => rfl
theorem Keeps.thermal {F : Field → Bool} {s t : State} (h : Keeps F s t) : t.thermal = s.thermal := h.part State.thermal fun _ => rfl
theorem Keeps.tamperFence {F : Field → Bool} {s t : State} (h : Keeps F s t) : t.tamperFence = s.tamperFence := h.part State.tamperFence fun _ => rfl
theorem Keeps.clockLost {F : Field → Bool} {s t : State} (h : Keeps F s t) : t.clockLost = s.clockLost := h.part State.clockLost fun _ => rfl
theorem Keeps.streams {F : Field → Bool} {s t : State} (h : Keeps F s t) : t.streams = s.streams := h.part State.streams fun _ => rfl
theorem Keeps.objects {F : Field → Bool} {s t : State} (h : Keeps F s t) : t.objects = s.objects := h.part State.objects fun _ => rfl
theorem Keeps.loads {F : Field → Bool} {s t : State} (h : Keeps F s t) : t.loads = s.loads := h.part State.loads fun _ => rfl
theorem Keeps.nextJob {F : Field → Bool} {s t : State} (h : Keeps F s t) : t.nextJob = s.nextJob := h.part State.nextJob fun _ => rfl
theorem Keeps.pageSlots {F : Field → Bool} {s t : State} (h : Keeps F s t) : t.pageSlots = s.pageSlots := h.part State.pageSlots fun _ => rfl
theorem Keeps.staging {F : Field → Bool} {s t : State} (h : Keeps F s t) : t.staging = s.staging := h.part State.staging fun _ => rfl
theorem Keeps.degrade {F : Field → Bool} {s t : State} (h : Keeps F s t) : t.degrade = s.degrade := h.part State.degrade fun _ => rfl
theorem Keeps.degradeQueue {F : Field → Bool} {s t : State} (h : Keeps F s t) : t.degradeQueue = s.degradeQueue := h.part State.degradeQueue fun _ => rfl
theorem Keeps.lastAdmission {F : Field → Bool} {s t : State} (h : Keeps F s t) : t.lastAdmission = s.lastAdmission := h.part State.lastAdmission fun _ => rfl
theorem Keeps.undoSince {F : Field → Bool} {s t : State} (h : Keeps F s t) : t.undoSince = s.undoSince := h.part State.undoSince fun _ => rfl
theorem Keeps.allocs {F : Field → Bool} {s t : State} (h : Keeps F s t) : t.allocs = s.allocs := h.part State.allocs fun _ => rfl
theorem Keeps.marks {F : Field → Bool} {s t : State} (h : Keeps F s t) : t.marks = s.marks := h.part State.marks fun _ => rfl
theorem Keeps.dram {F : Field → Bool} {s t : State} (h : Keeps F s t) : t.dram = s.dram := h.part State.dram fun _ => rfl
theorem Keeps.soot {F : Field → Bool} {s t : State} (h : Keeps F s t) : t.soot = s.soot := h.part State.soot fun _ => rfl
theorem Keeps.tileSoot {F : Field → Bool} {s t : State} (h : Keeps F s t) : t.tileSoot = s.tileSoot := h.part State.tileSoot fun _ => rfl
theorem Keeps.tileBad {F : Field → Bool} {s t : State} (h : Keeps F s t) : t.tileBad = s.tileBad := h.part State.tileBad fun _ => rfl
theorem Keeps.stagingSoot {F : Field → Bool} {s t : State} (h : Keeps F s t) : t.stagingSoot = s.stagingSoot := h.part State.stagingSoot fun _ => rfl
theorem Keeps.stagingBad {F : Field → Bool} {s t : State} (h : Keeps F s t) : t.stagingBad = s.stagingBad := h.part State.stagingBad fun _ => rfl
theorem Keeps.workSoot {F : Field → Bool} {s t : State} (h : Keeps F s t) : t.workSoot = s.workSoot := h.part State.workSoot fun _ => rfl
theorem Keeps.poison {F : Field → Bool} {s t : State} (h : Keeps F s t) : t.poison = s.poison := h.part State.poison fun _ => rfl
theorem Keeps.ueTicks {F : Field → Bool} {s t : State} (h : Keeps F s t) : t.ueTicks = s.ueTicks := h.part State.ueTicks fun _ => rfl
theorem Keeps.scrub {F : Field → Bool} {s t : State} (h : Keeps F s t) : t.scrub = s.scrub := h.part State.scrub fun _ => rfl
theorem Keeps.fuses {F : Field → Bool} {s t : State} (h : Keeps F s t) : t.fuses = s.fuses := h.part State.fuses fun _ => rfl
theorem Keeps.rootSecret {F : Field → Bool} {s t : State} (h : Keeps F s t) : t.rootSecret = s.rootSecret := h.part State.rootSecret fun _ => rfl
theorem Keeps.labArm {F : Field → Bool} {s t : State} (h : Keeps F s t) : t.labArm = s.labArm := h.part State.labArm fun _ => rfl
theorem Keeps.power {F : Field → Bool} {s t : State} (h : Keeps F s t) : t.power = s.power := h.part State.power fun _ => rfl
theorem Keeps.powerReq {F : Field → Bool} {s t : State} (h : Keeps F s t) : t.powerReq = s.powerReq := h.part State.powerReq fun _ => rfl
theorem Keeps.partner {F : Field → Bool} {s t : State} (h : Keeps F s t) : t.partner = s.partner := h.part State.partner fun _ => rfl
theorem Keeps.storedGen {F : Field → Bool} {s t : State} (h : Keeps F s t) : t.storedGen = s.storedGen := h.part State.storedGen fun _ => rfl
theorem Keeps.certSensed {F : Field → Bool} {s t : State} (h : Keeps F s t) : t.certSensed = s.certSensed := h.part State.certSensed fun _ => rfl
theorem Keeps.fwCertified {F : Field → Bool} {s t : State} (h : Keeps F s t) : t.fwCertified = s.fwCertified := h.part State.fwCertified fun _ => rfl
theorem Keeps.loadBufs {F : Field → Bool} {s t : State} (h : Keeps F s t) : t.loadBufs = s.loadBufs := h.part State.loadBufs fun _ => rfl
theorem Keeps.covers {F : Field → Bool} {s t : State} (h : Keeps F s t) : t.covers = s.covers := h.part State.covers fun _ => rfl
theorem Keeps.breachQueue {F : Field → Bool} {s t : State} (h : Keeps F s t) : t.breachQueue = s.breachQueue := h.part State.breachQueue fun _ => rfl
theorem Keeps.leaseLapsed {F : Field → Bool} {s t : State} (h : Keeps F s t) : t.leaseLapsed = s.leaseLapsed := h.part State.leaseLapsed fun _ => rfl
theorem Keeps.laneTests {F : Field → Bool} {s t : State} (h : Keeps F s t) : t.laneTests = s.laneTests := h.part State.laneTests fun _ => rfl
theorem Keeps.keptDecs {F : Field → Bool} {s t : State} (h : Keeps F s t) : t.keptDecs = s.keptDecs := h.part State.keptDecs fun _ => rfl
theorem Keeps.slewTicks {F : Field → Bool} {s t : State} (h : Keeps F s t) : t.slewTicks = s.slewTicks := h.part State.slewTicks fun _ => rfl
theorem Keeps.flr {F : Field → Bool} {s t : State} (h : Keeps F s t) : t.flr = s.flr := h.part State.flr fun _ => rfl
theorem Keeps.tamperN {F : Field → Bool} {s t : State} (h : Keeps F s t) : t.tamperN = s.tamperN := h.part State.tamperN fun _ => rfl
theorem Keeps.tamperRest {F : Field → Bool} {s t : State} (h : Keeps F s t) : t.tamperRest = s.tamperRest := h.part State.tamperRest fun _ => rfl
theorem Keeps.waking {F : Field → Bool} {s t : State} (h : Keeps F s t) : t.waking = s.waking := h.part State.waking fun _ => rfl
theorem Keeps.w {F : Field → Bool} {s t : State} (h : Keeps F s t) : t.w = s.w := h.part State.w fun _ => rfl
theorem Keeps.bay {F : Field → Bool} {s t : State} (h : Keeps F s t) : t.bay = s.bay := h.part State.bay fun _ => rfl
theorem Keeps.nor {F : Field → Bool} {s t : State} (h : Keeps F s t) : t.nor = s.nor := h.part State.nor fun _ => rfl
theorem Keeps.fw {F : Field → Bool} {s t : State} (h : Keeps F s t) : t.fw = s.fw := h.part State.fw fun _ => rfl
theorem Keeps.wdg {F : Field → Bool} {s t : State} (h : Keeps F s t) : t.wdg = s.wdg := h.part State.wdg fun _ => rfl
theorem Keeps.hlt {F : Field → Bool} {s t : State} (h : Keeps F s t) : t.hlt = s.hlt := h.part State.hlt fun _ => rfl
theorem Keeps.ch {F : Field → Bool} {s t : State} (h : Keeps F s t) : t.ch = s.ch := h.part State.ch fun _ => rfl
theorem Keeps.freeCtr {F : Field → Bool} {s t : State} (h : Keeps F s t) : t.freeCtr = s.freeCtr := h.part State.freeCtr fun _ => rfl

theorem Keeps.now {F : Field → Bool} {s t : State} (h : Keeps F s t) (hF : F .EVU_TICK_NOW = false) : t.now = s.now :=
  h.1 _ _ hF

theorem Keeps.mem_egress {F : Field → Bool} {s t : State} (h : Keeps F s t) {x : Egress} (hx : x ∈ s.egress) : x ∈ t.egress := by
  obtain ⟨_, _, l, e⟩ := h; rw [e]; exact List.mem_append_left _ hx

/-! ## Messages -/

theorem emit_frame (F : Field → Bool) (s : State) (x : Egress) : Keeps F s (s.emit x) := ⟨fun _ _ _ => rfl, rfl, [x], rfl⟩

theorem sat_frame {F : Field → Bool} (s : State) (b : Nat) (f : Field) (i n : Nat) (hf : F f = true) :
    Keeps F s (s.sat b f i n) := (Keeps.refl F s).set f i _ hf

theorem discard_frame {F : Field → Bool} (s : State) (h1 : F .GCTL_LINK_DISCARDS = true) (h2 : F .HLT_XING_DISCARDS = true) :
    Keeps F s s.discard := by
  unfold State.discard
  refine Keeps.trans ?_ (sat_frame _ _ _ _ _ h1)
  split
  · exact sat_frame _ _ _ _ _ h2
  · exact Keeps.refl F s

theorem linkCounts_of {F : Field → Bool} (h : ∀ f, linkCounts f = true → F f = true) :
    F .GCTL_LINK_DISCARDS = true ∧ F .HLT_XING_DISCARDS = true := ⟨h _ rfl, h _ rfl⟩

theorem post_frame (F : Field → Bool) (s : State) (x : Egress) : Keeps F s (s.post x) := by
  unfold State.post
  split
  · exact ⟨fun _ _ _ => rfl, rfl, [], by simp⟩
  · exact emit_frame F s x

/-- A signal pends, is discarded, or sends one message. -/
theorem signal_frame {F : Field → Bool} (s : State) (v : Nat) (h : ∀ f, linkCounts f = true → F f = true) :
    Keeps F s (s.signal v) := by
  unfold State.signal
  split
  · exact ⟨fun _ _ _ => rfl, rfl, [], by simp⟩
  · split
    · exact discard_frame s (linkCounts_of h).1 (linkCounts_of h).2
    · exact post_frame F s _

theorem irq_frame {F : Field → Bool} (s : State) (r e : Field) (i b v : Nat) (h : ∀ f, linkCounts f = true → F f = true)
    (hr : F r = true) : Keeps F s (s.irq r e i b v) := by
  unfold State.irq
  have k := (Keeps.refl F s).set r i (s.get r i ||| 2 ^ b) hr
  dsimp only
  split
  · exact k.trans (signal_frame _ _ h)
  · exact k

/-- A capture touches EVU_PENDING and the captured events alone. -/
theorem capture_frame {F : Field → Bool} (s : State) (c src d0 d1 d2 : Nat) (h : c = 14 ∨ F .EVU_PENDING = true) :
    Keeps F s (s.capture c src d0 d1 d2) := by
  have hp : ∀ s : State, Keeps F s (if c == 14 then s else s.set .EVU_PENDING 0 (s.get .EVU_PENDING ||| 2 ^ c)) := by
    intro s
    by_cases hc : c = 14
    · simp only [hc, beq_self_eq_true, if_true]; exact Keeps.refl F s
    · simp only [beq_iff_eq, hc, if_false]; exact (Keeps.refl F s).set _ _ _ (h.resolve_left hc)
  have hc : ∀ s : State, Keeps F s (if (s.get .EVU_TICK_STOPPED == 1 && s.staleWritten) = true then s
      else { s with captured := s.captured ++ [⟨s.now, c, src, d0, d1, d2⟩] }) := by
    intro s
    split
    · exact Keeps.refl F s
    · exact ⟨fun _ _ _ => rfl, rfl, [], by simp⟩
  exact (hp s).trans (hc _)

/-! ## The ending of every command -/

theorem certSync_frame (s : State) : Keeps settleFields s s.certSync := by
  unfold State.certSync
  have k := (((Keeps.refl settleFields s).set .CERT_REASON 0 s.certReason rfl).set .CERT_LIFETIME_OUT 0
    (Num.b2n (s.certReason % 4 != 0)) rfl).set .CERT_CERTIFIED 0 (Num.b2n (s.certReason == 0)) rfl
  dsimp only
  split
  · exact k
  · refine k.trans (irq_frame _ _ _ _ _ _ (fun f hf => ?_) rfl)
    cases f <;> first | rfl | exact hf

theorem countSync_frame (s : State) : Keeps settleFields s s.countSync := by
  unfold State.countSync
  exact (((((((Keeps.refl settleFields s).set _ _ _ rfl).set _ _ _ rfl).set _ _ _ rfl).set _ _ _ rfl).set _ _ _ rfl).set _ _ _
    rfl).set _ _ _ rfl

/-- What every command ends with changes the registers of `settleFields` alone. -/
theorem settle_frame (s : State) : Keeps settleFields s (settle s) := (countSync_frame s).trans (certSync_frame _)

@[simp] theorem settle_get (s : State) (f : Field) (i : Nat) (h : settleFields f = false) : (settle s).get f i = s.get f i :=
  (settle_frame s).1 f i h

@[simp] theorem settle_pending (s : State) : (settle s).pending = s.pending := (settle_frame s).pending
@[simp] theorem settle_pwrok (s : State) : (settle s).pwrok = s.pwrok := (settle_frame s).pwrok
@[simp] theorem settle_perstN (s : State) : (settle s).perstN = s.perstN := (settle_frame s).perstN
@[simp] theorem settle_bayrstN (s : State) : (settle s).bayrstN = s.bayrstN := (settle_frame s).bayrstN
@[simp] theorem settle_aonValid (s : State) : (settle s).aonValid = s.aonValid := (settle_frame s).aonValid
@[simp] theorem settle_pwrdnReq (s : State) : (settle s).pwrdnReq = s.pwrdnReq := (settle_frame s).pwrdnReq
@[simp] theorem settle_strapAddr (s : State) : (settle s).strapAddr = s.strapAddr := (settle_frame s).strapAddr
@[simp] theorem settle_boot (s : State) : (settle s).boot = s.boot := (settle_frame s).boot
@[simp] theorem settle_bme (s : State) : (settle s).bme = s.bme := (settle_frame s).bme
@[simp] theorem settle_mse (s : State) : (settle s).mse = s.mse := (settle_frame s).mse
@[simp] theorem settle_msixEnable (s : State) : (settle s).msixEnable = s.msixEnable := (settle_frame s).msixEnable
@[simp] theorem settle_funcMask (s : State) : (settle s).funcMask = s.funcMask := (settle_frame s).funcMask
@[simp] theorem settle_d3hot (s : State) : (settle s).d3hot = s.d3hot := (settle_frame s).d3hot
@[simp] theorem settle_cfg (s : State) : (settle s).cfg = s.cfg := (settle_frame s).cfg
@[simp] theorem settle_msixTable (s : State) : (settle s).msixTable = s.msixTable := (settle_frame s).msixTable
@[simp] theorem settle_shadowOwner (s : State) : (settle s).shadowOwner = s.shadowOwner := (settle_frame s).shadowOwner
@[simp] theorem settle_shadowWord (s : State) : (settle s).shadowWord = s.shadowWord := (settle_frame s).shadowWord
@[simp] theorem settle_offer (s : State) : (settle s).offer = s.offer := (settle_frame s).offer
@[simp] theorem settle_lastFetch (s : State) : (settle s).lastFetch = s.lastFetch := (settle_frame s).lastFetch
@[simp] theorem settle_looked (s : State) : (settle s).looked = s.looked := (settle_frame s).looked
@[simp] theorem settle_dbLatch (s : State) : (settle s).dbLatch = s.dbLatch := (settle_frame s).dbLatch
@[simp] theorem settle_nextPkt (s : State) : (settle s).nextPkt = s.nextPkt := (settle_frame s).nextPkt
@[simp] theorem settle_flushes (s : State) : (settle s).flushes = s.flushes := (settle_frame s).flushes
@[simp] theorem settle_retry (s : State) : (settle s).retry = s.retry := (settle_frame s).retry
@[simp] theorem settle_resetting (s : State) : (settle s).resetting = s.resetting := (settle_frame s).resetting
@[simp] theorem settle_staleTick (s : State) : (settle s).staleTick = s.staleTick := (settle_frame s).staleTick
@[simp] theorem settle_staleWritten (s : State) : (settle s).staleWritten = s.staleWritten := (settle_frame s).staleWritten
@[simp] theorem settle_readyAt (s : State) : (settle s).readyAt = s.readyAt := (settle_frame s).readyAt
@[simp] theorem settle_lostSinceHead (s : State) : (settle s).lostSinceHead = s.lostSinceHead := (settle_frame s).lostSinceHead
@[simp] theorem settle_deferredPairDown (s : State) : (settle s).deferredPairDown = s.deferredPairDown := (settle_frame s).deferredPairDown
@[simp] theorem settle_tamperWait (s : State) : (settle s).tamperWait = s.tamperWait := (settle_frame s).tamperWait
@[simp] theorem settle_thermal (s : State) : (settle s).thermal = s.thermal := (settle_frame s).thermal
@[simp] theorem settle_tamperFence (s : State) : (settle s).tamperFence = s.tamperFence := (settle_frame s).tamperFence
@[simp] theorem settle_clockLost (s : State) : (settle s).clockLost = s.clockLost := (settle_frame s).clockLost
@[simp] theorem settle_streams (s : State) : (settle s).streams = s.streams := (settle_frame s).streams
@[simp] theorem settle_objects (s : State) : (settle s).objects = s.objects := (settle_frame s).objects
@[simp] theorem settle_loads (s : State) : (settle s).loads = s.loads := (settle_frame s).loads
@[simp] theorem settle_nextJob (s : State) : (settle s).nextJob = s.nextJob := (settle_frame s).nextJob
@[simp] theorem settle_pageSlots (s : State) : (settle s).pageSlots = s.pageSlots := (settle_frame s).pageSlots
@[simp] theorem settle_staging (s : State) : (settle s).staging = s.staging := (settle_frame s).staging
@[simp] theorem settle_degrade (s : State) : (settle s).degrade = s.degrade := (settle_frame s).degrade
@[simp] theorem settle_degradeQueue (s : State) : (settle s).degradeQueue = s.degradeQueue := (settle_frame s).degradeQueue
@[simp] theorem settle_lastAdmission (s : State) : (settle s).lastAdmission = s.lastAdmission := (settle_frame s).lastAdmission
@[simp] theorem settle_undoSince (s : State) : (settle s).undoSince = s.undoSince := (settle_frame s).undoSince
@[simp] theorem settle_allocs (s : State) : (settle s).allocs = s.allocs := (settle_frame s).allocs
@[simp] theorem settle_marks (s : State) : (settle s).marks = s.marks := (settle_frame s).marks
@[simp] theorem settle_dram (s : State) : (settle s).dram = s.dram := (settle_frame s).dram
@[simp] theorem settle_soot (s : State) : (settle s).soot = s.soot := (settle_frame s).soot
@[simp] theorem settle_tileSoot (s : State) : (settle s).tileSoot = s.tileSoot := (settle_frame s).tileSoot
@[simp] theorem settle_tileBad (s : State) : (settle s).tileBad = s.tileBad := (settle_frame s).tileBad
@[simp] theorem settle_stagingSoot (s : State) : (settle s).stagingSoot = s.stagingSoot := (settle_frame s).stagingSoot
@[simp] theorem settle_stagingBad (s : State) : (settle s).stagingBad = s.stagingBad := (settle_frame s).stagingBad
@[simp] theorem settle_workSoot (s : State) : (settle s).workSoot = s.workSoot := (settle_frame s).workSoot
@[simp] theorem settle_poison (s : State) : (settle s).poison = s.poison := (settle_frame s).poison
@[simp] theorem settle_ueTicks (s : State) : (settle s).ueTicks = s.ueTicks := (settle_frame s).ueTicks
@[simp] theorem settle_scrub (s : State) : (settle s).scrub = s.scrub := (settle_frame s).scrub
@[simp] theorem settle_fuses (s : State) : (settle s).fuses = s.fuses := (settle_frame s).fuses
@[simp] theorem settle_rootSecret (s : State) : (settle s).rootSecret = s.rootSecret := (settle_frame s).rootSecret
@[simp] theorem settle_labArm (s : State) : (settle s).labArm = s.labArm := (settle_frame s).labArm
@[simp] theorem settle_power (s : State) : (settle s).power = s.power := (settle_frame s).power
@[simp] theorem settle_powerReq (s : State) : (settle s).powerReq = s.powerReq := (settle_frame s).powerReq
@[simp] theorem settle_partner (s : State) : (settle s).partner = s.partner := (settle_frame s).partner
@[simp] theorem settle_storedGen (s : State) : (settle s).storedGen = s.storedGen := (settle_frame s).storedGen
@[simp] theorem settle_certSensed (s : State) : (settle s).certSensed = s.certSensed := (settle_frame s).certSensed
@[simp] theorem settle_fwCertified (s : State) : (settle s).fwCertified = s.fwCertified := (settle_frame s).fwCertified
@[simp] theorem settle_loadBufs (s : State) : (settle s).loadBufs = s.loadBufs := (settle_frame s).loadBufs
@[simp] theorem settle_covers (s : State) : (settle s).covers = s.covers := (settle_frame s).covers
@[simp] theorem settle_breachQueue (s : State) : (settle s).breachQueue = s.breachQueue := (settle_frame s).breachQueue
@[simp] theorem settle_leaseLapsed (s : State) : (settle s).leaseLapsed = s.leaseLapsed := (settle_frame s).leaseLapsed
@[simp] theorem settle_laneTests (s : State) : (settle s).laneTests = s.laneTests := (settle_frame s).laneTests
@[simp] theorem settle_keptDecs (s : State) : (settle s).keptDecs = s.keptDecs := (settle_frame s).keptDecs
@[simp] theorem settle_slewTicks (s : State) : (settle s).slewTicks = s.slewTicks := (settle_frame s).slewTicks
@[simp] theorem settle_flr (s : State) : (settle s).flr = s.flr := (settle_frame s).flr
@[simp] theorem settle_tamperN (s : State) : (settle s).tamperN = s.tamperN := (settle_frame s).tamperN
@[simp] theorem settle_tamperRest (s : State) : (settle s).tamperRest = s.tamperRest := (settle_frame s).tamperRest
@[simp] theorem settle_waking (s : State) : (settle s).waking = s.waking := (settle_frame s).waking
@[simp] theorem settle_w (s : State) : (settle s).w = s.w := (settle_frame s).w
@[simp] theorem settle_bay (s : State) : (settle s).bay = s.bay := (settle_frame s).bay
@[simp] theorem settle_nor (s : State) : (settle s).nor = s.nor := (settle_frame s).nor
@[simp] theorem settle_fw (s : State) : (settle s).fw = s.fw := (settle_frame s).fw
@[simp] theorem settle_wdg (s : State) : (settle s).wdg = s.wdg := (settle_frame s).wdg
@[simp] theorem settle_hlt (s : State) : (settle s).hlt = s.hlt := (settle_frame s).hlt
@[simp] theorem settle_ch (s : State) : (settle s).ch = s.ch := (settle_frame s).ch
@[simp] theorem settle_freeCtr (s : State) : (settle s).freeCtr = s.freeCtr := (settle_frame s).freeCtr

@[simp] theorem settle_now (s : State) : (settle s).now = s.now := settle_get s _ _ rfl

theorem settle_mem_egress (s : State) {x : Egress} (h : x ∈ s.egress) : x ∈ (settle s).egress := (settle_frame s).mem_egress h

/-! The parts that a signal cannot reach. -/

/-- `t` differs from `s` in registers and in what signals touch at most. -/
def SignalOnly (s t : State) : Prop :=
  t.packets = s.packets ∧ t.captured = s.captured ∧ t.fences = s.fences ∧ t.jobs = s.jobs ∧ t.reads = s.reads ∧ t.staged = s.staged

theorem SignalOnly.refl (s : State) : SignalOnly s s := ⟨rfl, rfl, rfl, rfl, rfl, rfl⟩

theorem SignalOnly.trans {s t u : State} (h : SignalOnly s t) (k : SignalOnly t u) : SignalOnly s u :=
  ⟨k.1.trans h.1, k.2.1.trans h.2.1, k.2.2.1.trans h.2.2.1, k.2.2.2.1.trans h.2.2.2.1, k.2.2.2.2.1.trans h.2.2.2.2.1,
    k.2.2.2.2.2.trans h.2.2.2.2.2⟩

theorem discard_only (s : State) : SignalOnly s s.discard := by
  unfold State.discard State.sat; split <;> exact ⟨rfl, rfl, rfl, rfl, rfl, rfl⟩

theorem signal_only (s : State) (v : Nat) : SignalOnly s (s.signal v) := by
  unfold State.signal State.post State.emit
  split
  · exact ⟨rfl, rfl, rfl, rfl, rfl, rfl⟩
  · split
    · exact discard_only s
    · split <;> exact ⟨rfl, rfl, rfl, rfl, rfl, rfl⟩

theorem irq_only (s : State) (r e : Field) (i b v : Nat) : SignalOnly s (s.irq r e i b v) := by
  simp only [State.irq]
  split
  · exact SignalOnly.trans ⟨rfl, rfl, rfl, rfl, rfl, rfl⟩ (signal_only _ v)
  · exact ⟨rfl, rfl, rfl, rfl, rfl, rfl⟩

theorem SignalOnly.set {s t : State} (h : SignalOnly s t) (f : Field) (i v : Nat) : SignalOnly s (t.set f i v) := h

theorem certSync_only (s : State) : SignalOnly s s.certSync := by
  have k := (((SignalOnly.refl s).set .CERT_REASON 0 s.certReason).set .CERT_LIFETIME_OUT 0
    (Num.b2n (s.certReason % 4 != 0))).set .CERT_CERTIFIED 0 (Num.b2n (s.certReason == 0))
  unfold State.certSync
  dsimp only
  split
  · exact k
  · exact k.trans (irq_only _ _ _ _ _ _)

theorem countSync_only (s : State) : SignalOnly s s.countSync := by
  unfold State.countSync
  exact (((((((SignalOnly.refl s).set _ _ _).set _ _ _).set _ _ _).set _ _ _).set _ _ _).set _ _ _).set _ _ _

theorem settle_only (s : State) : SignalOnly s (settle s) := (countSync_only s).trans (certSync_only _)

@[simp] theorem settle_packets (s : State) : (settle s).packets = s.packets := (settle_only s).1
@[simp] theorem settle_captured (s : State) : (settle s).captured = s.captured := (settle_only s).2.1
@[simp] theorem settle_fences (s : State) : (settle s).fences = s.fences := (settle_only s).2.2.1
@[simp] theorem settle_jobs (s : State) : (settle s).jobs = s.jobs := (settle_only s).2.2.2.1
@[simp] theorem settle_reads (s : State) : (settle s).reads = s.reads := (settle_only s).2.2.2.2.1
@[simp] theorem settle_staged (s : State) : (settle s).staged = s.staged := (settle_only s).2.2.2.2.2

/-! ## Outcomes -/

@[simp] theorem done_eq (s : State) : done s = .next (settle s) := rfl

/-- An event of the device without occasion changes nothing. -/
@[simp] theorem doneIf_false (s0 s : State) : doneIf s0 false s = .next s0 := rfl

@[simp] theorem doneIf_true (s0 s : State) : doneIf s0 true s = .next (settle s) := rfl

/-- An event of the device always answers a next state: its effect where its condition holds, the same state elsewhere. -/
@[simp] theorem doneIf_next (s0 : State) (b : Bool) (s t : State) :
    doneIf s0 b s = .next t ↔ t = if b then settle s else s0 := by
  cases b <;> simp [doneIf, done, eq_comm]

/-- A packet command always answers a next state: its packet starts where it is the next one, and elsewhere nothing changes. -/
theorem startPkt_next (op : Nat) (body : State → Pkt → State) (s t : State) :
    startPkt op body s = .next t ↔
      (∃ p, s.nextStart = some p ∧ p.opcode = op ∧ t = settle ((body (s.markStarted p.id) p).drain p.client)) ∨
      ((∀ p, s.nextStart = some p → p.opcode ≠ op) ∧ t = s) := by
  unfold startPkt
  cases h : s.nextStart with
  | none => simp only [reduceCtorEq, false_and, exists_false, false_or, IsEmpty.forall_iff, implies_true, true_and,
      Host.Outcome.next.injEq]; exact eq_comm
  | some p =>
    simp only [Option.some.injEq, exists_eq_left', forall_eq', done]
    by_cases hp : p.opcode = op
    · simp only [hp, beq_self_eq_true, if_true, Host.Outcome.next.injEq, true_and, ne_eq, not_true_eq_false, false_and, or_false]
      exact eq_comm
    · simp only [beq_iff_eq, hp, if_false, Host.Outcome.next.injEq, false_and, false_or, ne_eq, not_false_eq_true, true_and]
      exact eq_comm

/-- What a packet command answers where its packet starts next. -/
theorem startPkt_of {op : Nat} {s : State} {p : Pkt} (body : State → Pkt → State) (h : s.nextStart = some p)
    (ho : p.opcode = op) : startPkt op body s = .next (settle ((body (s.markStarted p.id) p).drain p.client)) := by
  simp [startPkt, h, ho, done]

/-- What a command that waits for a copy answers where its packet starts next and no such copy may end: its effect at once, where it
has no copy, fails a check or its copy may end at once, and the start of the copy elsewhere. -/
theorem startRead_of {op : Nat} {s : State} {p : Pkt} (pre : State → Pkt → List (Bool × Reply)) (job : Pkt → Option Nat)
    (src : Pkt → Option (Nat × Nat)) (body : State → Pkt → State) (hr : s.reading op = none) (h : s.nextStart = some p)
    (ho : p.opcode = op) :
    startRead op pre job src body s = .next (settle (
      let s1 := s.markStarted p.id
      let s2 := s1.startCopy p (job p) (src p)
      (if (job p).isNone && (src p).isNone || (firstBad (pre s p)).isSome then body s1 p
        else if s2.readMayEnd p.id then body (s2.endRead p.id) p else s2).drain p.client)) := by
  unfold startRead
  simp only [hr, h, ho, bne_self_eq_false, Bool.false_eq_true, if_false]
  split <;> [skip; split] <;> rfl

/-- What such a command answers where a copy of its kind may end. -/
theorem startRead_end {op : Nat} {s : State} {p : Pkt} (pre : State → Pkt → List (Bool × Reply)) (job : Pkt → Option Nat)
    (src : Pkt → Option (Nat × Nat)) (body : State → Pkt → State) (hr : s.reading op = some p) :
    startRead op pre job src body s = .next (settle ((body (s.endRead p.id) p).drain p.client)) := by
  simp [startRead, hr, done]

end Sys2Proof.Machine
end

