-- ==== Sys2Proof/Laws/Replies.lean ====
section
/-! SUPPORT. Sys2Proof/Laws/Replies.lean: what completing a packet can do: the registers of `replyFields` change, messages are
added, packets leave, and nothing else. -/

namespace Sys2Proof.Machine

theorem linkCounts_reply : ∀ f, linkCounts f = true → replyFields f = true := by
  intro f h; simp [replyFields, h]

theorem discard_reply (s : State) : Keeps replyFields s s.discard :=
  discard_frame s (linkCounts_of linkCounts_reply).1 (linkCounts_of linkCounts_reply).2

theorem putReply_frame (s : State) (c tag tick : Nat) (r : Reply) : Keeps replyFields s (s.putReply c tag tick r) := by
  unfold State.putReply
  have k := (capture_frame (F := replyFields) s 14 c 0 0 0 (.inl rfl)).set .CL_CPL_HEAD c
    (Num.wrap32 (s.get .CL_CPL_HEAD c + 1)) rfl
  dsimp only
  split
  · exact k
  · split
    · exact k.trans (discard_reply _)
    · exact k.trans (post_frame _ _ _)

theorem writeback_frame (s : State) (c : Nat) : Keeps replyFields s (s.writeback c) := by
  unfold State.writeback
  split
  · exact Keeps.refl _ s
  · split
    · exact discard_reply s
    · exact post_frame _ _ _

theorem fenceBump_frame (F : Field → Bool) (s : State) (h : Nat) : Keeps F s (s.fenceBump h) := by
  unfold State.fenceBump
  split
  · exact Keeps.refl F s
  · exact ⟨fun _ _ _ => rfl, rfl, [], by simp⟩

theorem keeps_packets (F : Field → Bool) (s : State) (l : List Pkt) (m : List HostRead) :
    Keeps F s { s with packets := l, reads := m } := ⟨fun _ _ _ => rfl, rfl, [], by simp⟩

theorem answer_frame (s : State) (id tick : Nat) (p : Pkt) (r : Reply) : Keeps replyFields s (s.answer id tick p r) :=
  ((keeps_packets replyFields s _ _).set .CL_INFLIGHT p.client _ rfl).trans (putReply_frame _ _ _ _ _)

theorem replySignal_frame (s : State) (p : Pkt) (r : Reply) : Keeps replyFields s (s.replySignal p r) := by
  unfold State.replySignal
  split
  · exact signal_frame _ _ linkCounts_reply
  · exact Keeps.refl _ s

theorem completeN_after (n : Nat) (ih : ∀ s id t r, Keeps replyFields s (completeN n s id t r)) (s : State) (id tick : Nat)
    (r : Reply) (p : Pkt) (hp : s.pkt? id = some p) :
    Keeps replyFields (s.answer id tick p r) (completeN (n + 1) s id tick r) := by
  have rel : ∀ (u v : State) (l : List Nat) (m : Nat) (q : Reply), Keeps replyFields u v →
      Keeps replyFields u (l.foldl (fun u w => completeN n u w m q) v) := by
    intro u v l m q k
    exact k.trans (Keeps.foldl _ (fun t a => ih t a m q) l v)
  have k := writeback_frame (s.answer id tick p r) p.client
  simp only [completeN, hp]
  generalize (s.answer id tick p r).writeback p.client = v at k ⊢
  refine Keeps.trans ?_ (replySignal_frame _ p r)
  split
  · exact rel _ _ _ _ _ (k.trans (fenceBump_frame _ _ _))
  · exact k

theorem completeN_frame (n : Nat) (s : State) (id tick : Nat) (r : Reply) : Keeps replyFields s (completeN n s id tick r) := by
  induction n generalizing s id tick r with
  | zero => exact Keeps.refl _ s
  | succ n ih =>
    cases hp : s.pkt? id with
    | none => rw [completeN, hp]; exact Keeps.refl _ s
    | some p => exact (answer_frame s id tick p r).trans (completeN_after n ih s id tick r p hp)

/-- The copy job of a packet that ends takes nothing else with it. -/
theorem endJobOf_frame (F : Field → Bool) (s : State) (id : Nat) : Keeps F s (s.endJobOf id) := by
  refine ⟨fun _ _ _ => rfl, ?_, [], by simp [State.endJobOf]⟩
  simp only [State.quiet, State.endJobOf, List.filter_filter]
  congr 1
  apply List.filter_congr
  intro j _
  cases hj : j.pkt <;> simp

theorem stage_frame (F : Field → Bool) (s : State) (tick id : Nat) (r : Reply) : Keeps F s (s.stage tick id r) := by
  unfold State.stage
  split
  · exact Keeps.refl F s
  · exact ⟨fun _ _ _ => rfl, rfl, [], by simp⟩

theorem completeAt_frame (s : State) (tick id : Nat) (r : Reply) : Keeps replyFields s (s.completeAt tick id r) := by
  unfold State.completeAt
  dsimp only
  split
  · exact (endJobOf_frame _ s id).trans (stage_frame _ _ _ _ _)
  · exact (endJobOf_frame _ s id).trans (completeN_frame _ _ _ _ _)

theorem complete_frame (s : State) (id : Nat) (r : Reply) : Keeps replyFields s (s.complete id r) := completeAt_frame s _ id r

theorem release_frame (s : State) (h : Nat) : Keeps replyFields s (s.release h) :=
  Keeps.foldl _ (fun s w => complete_frame s w _) _ _

theorem drainN_frame (n : Nat) (s : State) (c : Nat) : Keeps replyFields s (drainN n s c) := by
  induction n generalizing s with
  | zero => exact Keeps.refl _ s
  | succ n ih =>
    unfold drainN
    split
    · exact Keeps.refl _ s
    · exact (complete_frame s _ _).trans (ih _)

theorem drain_frame (s : State) (c : Nat) : Keeps replyFields s (s.drain c) := by
  unfold State.drain
  split
  · exact drainN_frame _ s c
  · exact Keeps.refl _ s

theorem checked_frame {F : Field → Bool} (s : State) (p : Pkt) (cs : List (Bool × Reply)) (body : State → State)
    (hF : ∀ f, replyFields f = true → F f = true) (hb : Keeps F s (body s)) : Keeps F s (s.checked p cs body) := by
  unfold State.checked
  split
  · exact (complete_frame s p.id _).mono fun f hf => by by_contra h; simp_all
  · exact hb

/-! ## The reply itself -/

/-- The reply of packet `p` that `complete` writes while the link takes writes (R162, R168, R170). -/
def replyOf (s : State) (p : Pkt) (r : Reply) : Egress :=
  .reply p.client (s.get .CL_CPL_HEAD p.client) (s.replyAddr p.client (s.get .CL_CPL_HEAD p.client)) (replyWords (p.w 1) s.now r)

theorem linkClosed_keeps {F : Field → Bool} {s t : State} (k : Keeps F s t) (h : F .LINK_DOWN = false) :
    t.linkClosed = s.linkClosed := by
  simp only [State.linkClosed, State.linkDead, State.clockIsLost, k.bme, k.clockLost, k.1 _ _ h]

theorem held_keeps {F : Field → Bool} {s t : State} (k : Keeps F s t) (h : F .LINK_LTSSM = false) : t.held = s.held := by
  simp only [State.held, k.1 _ _ h]

theorem replyAddr_keeps {F : Field → Bool} {s t : State} (k : Keeps F s t) (h1 : F .CL_CPL_BASE = false)
    (h2 : F .CL_CPL_LOG2 = false) (c i : Nat) : t.replyAddr c i = s.replyAddr c i := by
  simp only [State.replyAddr, k.1 _ _ h1, k.1 _ _ h2]

theorem answer_egress (s : State) (id : Nat) (p : Pkt) (r : Reply) (hth : s.thermal = none) (hl : s.linkClosed = false)
    (hh : s.held = false) : (s.answer id s.now p r).egress = s.egress ++ [replyOf s p r] := by
  unfold State.answer
  generalize hv : ({ s with packets := s.packets.filter fun q => q.id != id, reads := s.reads.filter fun r => r.pkt != id }
    : State).set .CL_INFLIGHT p.client (s.get .CL_INFLIGHT p.client - 1) = v
  have hk : Keeps (fun f => f == .CL_INFLIGHT) s v := by
    subst hv; exact (keeps_packets _ s _ _).set .CL_INFLIGHT p.client _ rfl
  have he : v.egress = s.egress := by subst hv; rfl
  unfold State.putReply
  dsimp only
  generalize hw : State.capture v 14 p.client 0 0 0 = w
  have kw : Keeps (fun _ => false) v w := by subst hw; exact capture_frame _ _ _ _ _ _ (.inl rfl)
  have ew : w.egress = v.egress := by
    subst hw; unfold State.capture; simp only [beq_self_eq_true, if_true]; split <;> rfl
  have kx := (hk.trans (kw.mono (by intros; rfl))).mono (G := replyFields) (by
    intro f hf; cases f <;> first | rfl | exact hf)
  have ky := kx.set .CL_CPL_HEAD p.client (Num.wrap32 (v.get .CL_CPL_HEAD p.client + 1)) rfl
  rw [ky.thermal, hth, linkClosed_keeps ky rfl, hl, State.post, held_keeps ky rfl, hh, replyAddr_keeps ky rfl rfl]
  simp [State.emit, ew, he, replyOf, hk.1 .CL_CPL_HEAD p.client rfl]

/-- While replies are written, completing a packet in flight puts its reply on the wire, first. -/
theorem complete_sends (s : State) (id : Nat) (r : Reply) (p : Pkt) (hp : s.pkt? id = some p) (hth : s.thermal = none)
    (hl : s.linkClosed = false) (hh : s.held = false) :
    ∃ l, (s.complete id r).egress = s.egress ++ replyOf s p r :: l := by
  have kj := endJobOf_frame (fun _ => false) s id
  obtain ⟨-, -, l, h⟩ := completeN_after (s.endJobOf id).packets.length (completeN_frame _) (s.endJobOf id) id s.now r p hp
  refine ⟨l, ?_⟩
  have h1 : (s.endJobOf id).now = s.now := rfl
  have h2 := answer_egress (s.endJobOf id) id p r hth hl hh
  rw [State.complete, State.completeAt]
  rw [held_keeps kj rfl, hh, if_neg Bool.false_ne_true, h, ← h1, h2]
  simp [State.endJobOf, replyOf, State.now, State.replyAddr]

/-- While the crossing is full, the completion of a packet in flight waits in the staging store (R147). -/
theorem complete_stages (s : State) (id : Nat) (r : Reply) (p : Pkt) (hp : s.pkt? id = some p) (hs : s.isStaged id = false)
    (hh : s.held = true) : (s.complete id r).staged = s.staged ++ [⟨id, r, s.now⟩] := by
  have kj := endJobOf_frame (fun _ => false) s id
  rw [State.complete, State.completeAt]
  rw [held_keeps kj rfl, hh, if_pos rfl, State.stage]
  have h1 : (s.endJobOf id).isStaged id = false := hs
  have h2 : (s.endJobOf id).pkt? id = some p := hp
  rw [h1, h2]; rfl

end Sys2Proof.Machine
end

