-- ==== Sys2Proof/WellFormed.lean ====
section
/-! DEFINITION. Sys2Proof/WellFormed.lean: the commands that can be sent to this device: each names a unit, client, stream, lane or
register that exists, and carries values of its fields' widths. A command that is not well formed is still given an outcome by
the machine; this is what a sender keeps to. -/

namespace Sys2Proof

def isWord (v : Nat) : Bool := decide (v < 2 ^ 32)
def isWord64 (v : Nat) : Bool := decide (v < 2 ^ 64)
def isClient (c : Nat) : Bool := decide (c < Config.clients)
def isStream (k : Nat) : Bool := decide (k < Config.streams)

/-- A byte offset in BAR0 (R137). -/
def isOffset (off : Nat) : Bool := decide (off < 2 ^ 24)

/-- A BAR and a byte offset in it (R137); 6 stands for configuration space. -/
def isBar (bar off : Nat) : Bool :=
  (bar == 0 && isOffset off) || (bar == 2 && decide (off < 2 ^ 22)) || (bar == 4 && decide (off < 2 ^ 16)) ||
  (bar == 6 && decide (off < 2 ^ 12))

/-- The bytes of a full-width aligned read: 4 or 8 of a BAR, up to one word of configuration space. -/
def isWidth (bar off width : Nat) : Bool :=
  if bar == 6 then (width == 1 || width == 2 || width == 4) && decide (off % 4 + width ≤ 4)
  else (width == 4 || width == 8) && off % width == 0

/-- An enable register of R531. -/
def isEnable (off : Nat) : Bool :=
  off == 0x21C || off == 0x3040C || off == 0x50028 || off == 0x50128 || off == 0x60030 || off == 0x70008 || off == 0xB0024

/-- A speed and width a PCI Express link of this device trains to (R133). -/
def isLink (speed width : Nat) : Bool :=
  decide (1 ≤ speed) && decide (speed ≤ 5) && (width == 1 || width == 2 || width == 4 || width == 8)

/-- A replicated unit of R20. -/
def isUnit : UnitName → Bool
  | .dec n => decide (n < 8)
  | .array n => decide (n < 2)
  | .cluster n => decide (n < 8)
  | .fft => true
  | .lane n => decide (n < 16)
  | .menc n => decide (n < 2)

/-- The body of a MIRROR or EPOCH frame (R352): up to 256 bytes in units of 16. -/
def isBody (b : Bytes) : Bool := decide (16 ≤ b.length) && decide (b.length ≤ 256) && b.length % 16 == 0

/-- The headers of a picture whose syntax elements have the widths of their standards (R213). -/
def isHeader (h : Header) : Bool :=
  decide (h.width < 65536) && decide (h.height < 65536) && decide (h.outW ≤ h.width) && decide (h.outH ≤ h.height) &&
  decide (h.chroma < 4) && decide (h.depth < 16) &&
  match h.tools with
  | .h264 p _ _ _ l _ => decide (p < 256) && decide (l < 256)
  | .h265 p _ _ l _ => decide (p < 32) && decide (l < 256)
  | .jpeg n c x y => decide (n < 16) && decide (c < 256) && decide (1 ≤ x) && decide (x ≤ 4) && decide (1 ≤ y) && decide (y ≤ 4)

/-- The well-formed commands. -/
def Instr.wf : Instr → Bool
  | .nop => true
  | .fenceCreate h => decide (h < Config.fences)
  | .fenceDestroy => true
  | .fenceSignal => true
  | .fenceWait => true
  | .fenceWaitTimeout _ => true
  | .barrier => true
  | .barrierComplete _ => true
  | .streamOpen => true
  | .streamFeed => true
  | .feedCopyDone k q au => isStream k && isWord q && decide (au.length < 2 ^ 24)
  | .streamFlush => true
  | .streamClose => true
  | .streamCloseComplete k => isStream k
  | .streamReconfig => true
  | .modelLoad => true
  | .modelLoadCopyDone _ _ _ => true
  | .modelUnload => true
  | .pipelineBind _ => true
  | .pipelineUnbind => true
  | .pipelineUnbindDone k => isStream k
  | .treeLoad => true
  | .treeLoadCopyDone _ _ _ => true
  | .treeUnload => true
  | .flueConfig zones => zones.length % 32 == 0
  | .metadataRingSet => true
  | .scrub => true
  | .scrubDone => true
  | .pairBind => true
  | .pairHandshakeDone _ => true
  | .pairBindTimeout => true
  | .pairRole _ => true
  | .takeoverRollDone => true
  | .mirrorConfig => true
  | .bayControl => true
  | .powerSet => true
  | .powerTransitionStart => true
  | .powerWake src => decide (1 ≤ src) && decide (src ≤ 5)
  | .wakeComplete _ rates => rates.length == 16
  | .healthQuery => true
  | .updateBegin _ => true
  | .updateChunk _ _ => true
  | .updateVerify _ _ _ => true
  | .updateActivate _ => true
  | .updateConfirm _ copies => copies.all fun n => decide (n ≤ 192)
  | .debugToken token _ => decide (token.length ≤ 1024)
  | .attest nonce => nonce.length == 48
  | .clientReset => true
  | .clientResetDone c => isClient c && c != 0
  | .commandDoorbell c off _ v => isClient c && decide (off < 4096) && isWord64 v
  | .completionDoorbell c v => isClient c && isWord v
  | .packetFetch c _ => isClient c
  | .fetchRetry c _ => isClient c
  | .deviceReadFail _ (.packet _) => true
  | .deviceReadFail _ (.ring c) => isClient c
  | .deviceReadFail _ (.writeback c) => isClient c
  | .clientFlush c tag _ _ => isClient c && isWord tag
  | .clientEnableWrite c v => isClient c && isWord v
  | .cplFenceWrite c v => isClient c && isWord v
  | .metaTailWrite c v => isClient c && isWord v
  | .evuRingCtrlWrite v => isWord v
  | .evuRingTailWrite v => isWord v
  | .warmResetWrite v => isWord v
  | .debugEndWrite v => isWord v
  | .labArmWrite v => isWord v
  | .wdgCheckin w v _ => decide (w < 2) && isWord v
  | .wdgPeriodWrite w v _ => decide (w < 2) && isWord v
  | .wdgEnableWrite w v _ => decide (w < 2) && isWord v
  | .wrenRetrainWrite v => isWord v
  | .wrenWidthReq v => isWord v
  | .mirrorResyncWrite k v => isStream k && isWord v
  | .cleanEighthsWrite v => isWord v
  | .irqEnableWrite off v => isEnable off && isWord v
  | .registerWrite bar off width v => isBar bar off && isWord64 v && (bar != 6 || isWidth bar off width)
  | .registerReadClear bar off width => isBar bar off && isWidth bar off width
  | .shadowLowRead off => isOffset off && off % 4 == 0
  | .shadowHighRead off => isOffset off && off % 4 == 0
  | .badBarAccess bar _ off bytes _ _ => isBar bar off && bar != 6 && bytes != 0
  | .msixUnblock vec _ _ => vec.all fun v => decide (v < Config.vectors)
  | .pmcsrD3hot => true
  | .busMasterEnableWrite _ _ => true
  | .functionLevelReset v => v.all isWord
  | .flrComplete => true
  | .smbusRead a c _ _ _ => decide (a < 128) && decide (c < 256)
  | .jtagAccess _ => true
  | .tapReset => true
  | .powerOnReset _ => true
  | .aonValid => true
  | .coldReset _ => true
  | .resetRelease => true
  | .hotReset => true
  | .sramZeroDone => true
  | .bootStepDone out => out.rates.length == 16 || out.rates.isEmpty
  | .hostLinkDown l => decide (l < 256)
  | .dlUpReturn sp wd => isLink sp wd
  | .linkWidthReduce lane _ => decide (lane < 8)
  | .clockLoss id => decide (id ≤ 22)
  | .thermalTrip sensor _ => decide (sensor < 32)
  | .pwrdnReq => true
  | .supplyWarn rail _ _ => decide (rail < 5)
  | .supplyRailClear rail => decide (rail < 5)
  | .warningStateClear => true
  | .avsOffsetRaise _ => true
  | .hltIntervalEnd _ _ _ => true
  | .governorRecompute => true
  | .tamper src => decide (src < 4)
  | .bayInputDebounced i _ => decide (i < 3)
  | .bayPowerTimeout => true
  | .bayPerstRelease => true
  | .bayPwrenDrop => true
  | .bayPoweroffEnd => true
  | .bayPerstPulseEnd => true
  | .bayLedToggle => true
  | .tick => true
  | .eventGroup => true
  | .breachLogAppend => true
  | .wdgPeriodEnd w => decide (w < 2)
  | .wdgPrewarn w => decide (w < 2)
  | .fwRestartDone => true
  | .leaseExpire => true
  | .debugSessionExpire => true
  | .trialConfirmTimeout => true
  | .decodeStart e => decide (e < 8)
  | .decodeDone e out => decide (e < 8) && out.au.header.all isHeader && decide (out.concealed ≤ out.total)
  | .decodeOverrun e au => decide (e < 8) && au.header.all isHeader
  | .decodeEngineFault e _ au => decide (e < 8) && au.header.all isHeader
  | .selftestDone u _ => isUnit u
  | .preprocessStart => true
  | .batchEnqueue => true
  | .preprocessFault => true
  | .jobEntryGrant => true
  | .pageStageStart => true
  | .pageStageDone => true
  | .jobIssue u => isUnit u
  | .jobComplete u _ => isUnit u
  | .frameDeadline k q => isStream k && isWord q
  | .computeUnitFault u _ => isUnit u
  | .stagingStoreUe p line => decide (p < Config.pageSlots) && decide (line < 1024)
  | .treeLaneFault l _ => decide (l < 16)
  | .fluePass k _ _ => isStream k
  | .mirrorEncodeDone m _ => decide (m < 2)
  | .mirrorDecodeDone m _ => decide (m < 2)
  | .mirrorEncoderFault m _ => decide (m < 2)
  | .dramAgePromotion c => decide (c < 16)
  | .dramTempRead c _ => decide (c < 16)
  | .trackingPass c rd wr => decide (c < 16) && decide (rd < 256) && decide (wr < 256)
  | .runtimeRetrainDone c _ => decide (c < 16)
  | .patrolRead c => decide (c < 16)
  | .dramCe a => decide (a < 2 ^ 38)
  | .dramUe a => decide (a < 2 ^ 38)
  | .tagWordUe c _ => decide (c < 16)
  | .admissionRecompute => true
  | .degradeUndo => true
  | .wrenTrainAdvance l => decide (l < 4)
  | .widthWindowEnd => true
  | .wrenAutoPropose l _ => decide (l < 2)
  | .laneLockLoss l => decide (l < 2)
  | .wrenLinkDown r => decide (1 ≤ r) && decide (r ≤ 7)
  | .wrenKeepaliveExpire => true
  | .wrenFrameTx => true
  | .wrenCreditSend => true
  | .wrenTickSend cyc => decide (cyc < 25)
  | .rekeyStart => true
  | .trainCfgRx serial b8 => isWord64 serial && decide (b8 < 256)
  | .creditRx a m e w3 => isWord a && isWord m && isWord e && isWord w3
  | .tickRx t c o => isWord64 t && decide (c < 25) && decide (o < 25)
  | .pairFrameRx => true
  | .keyFrameRx _ => true
  | .faultFrameRx code ch => decide (code < 256) && decide (ch < 16)
  | .retrainReqRx => true
  | .pingRx n _ _ => isWord64 n
  | .mirrorFrameRx ctx body => decide (ctx < 1024) && !ctx.testBit 7 && isBody body
  | .epochFrameRx ctx body => isWord ctx && isBody body
  | .epochStart => true
  | .snapshotDeadline => true
  | .wrenEqAdapt l steps => decide (l < 2) && steps.length == 6 && steps.all fun d => decide (-1 ≤ d) && decide (d ≤ 1)
  | .wrenEyeMeasure l h w => decide (l < 2) && decide (h < 256) && decide (w < 256)
  | .ageingSample osc _ => osc.length == 6
  | .trngHealthFail => true
  | .tileStoreUe a line => decide (a < 2) && decide (line < 65536)
  | .hostLinkUp ltssm sp wd => decide (1 ≤ ltssm) && decide (ltssm ≤ 3) && (ltssm != 3 || isLink sp wd)
  | .linkRecovery (.enter lane _ _) => decide (lane < 8)
  | .linkRecovery .speed => true
  | .linkRecovery (.toL0 sp wd) => isLink sp wd
  | .wrenFrameReject _ => true
  | .pmcsrD0Write => true
  | .pwrokRise strap => decide (strap < 4)

end Sys2Proof
end

