-- ==== Sys2Proof/Tests/Slice0.lean ====
section
/-! SUPPORT. Sys2Proof/Tests/Slice0.lean: ill-formed commands that WellFormed refuses, for each statement with hypotheses a state and
operands that meet them, and results the spec itself works out. -/

namespace Sys2Proof.Machine.Tests

-- One theorem after the other: each `decide +kernel` waits for the kernel to have checked all before it, and run in
-- parallel they hold one thread with its own stack each.
set_option Elab.async false

/-! ## Commands that are not well formed -/

theorem test_wf_units : Instr.wf (.decodeStart 8) = false ∧ Instr.wf (.decodeDone 8 ⟨⟨true, true, false, none⟩, 0, 0, 0, false, true, false, []⟩) = false ∧
    Instr.wf (.jobIssue (.array 2)) = false ∧ Instr.wf (.jobComplete (.cluster 8) ⟨[]⟩) = false ∧
    Instr.wf (.selftestDone (.menc 2) true) = false ∧ Instr.wf (.computeUnitFault (.lane 16) 1) = false ∧
    Instr.wf (.treeLaneFault 16 1) = false ∧ Instr.wf (.mirrorEncodeDone 2 32) = false ∧ Instr.wf (.tileStoreUe 2 0) = false ∧
    Instr.wf (.stagingStoreUe Config.pageSlots 0) = false := by decide

theorem test_wf_names : Instr.wf (.fenceCreate Config.fences) = false ∧ Instr.wf (.streamCloseComplete 128) = false ∧
    Instr.wf (.feedCopyDone 0 (2 ^ 32) []) = false ∧ Instr.wf (.fluePass 128 0 []) = false ∧ Instr.wf (.clientResetDone 0) = false ∧
    Instr.wf (.packetFetch Config.clients []) = false ∧ Instr.wf (.commandDoorbell 0 4096 4 0) = false ∧
    Instr.wf (.deviceReadFail .timeout (.ring Config.clients)) = false ∧ Instr.wf (.clientFlush 0 (2 ^ 32) [] .timeout) = false ∧
    Instr.wf (.metaTailWrite 0 (2 ^ 32)) = false := by decide

theorem test_wf_registers : Instr.wf (.registerWrite 0 (2 ^ 24) 4 0) = false ∧ Instr.wf (.registerWrite 1 0 4 0) = false ∧
    Instr.wf (.registerWrite 2 (2 ^ 22) 4 0) = false ∧ Instr.wf (.registerWrite 0 0 8 (2 ^ 64)) = false ∧
    Instr.wf (.registerReadClear 0 2 4) = false ∧ Instr.wf (.registerReadClear 6 3 2) = false ∧ Instr.wf (.shadowLowRead 2) = false ∧ Instr.wf (.irqEnableWrite 0 1) = false ∧
    Instr.wf (.badBarAccess 0 true 0 0 0 none) = false ∧ Instr.wf (.wdgCheckin 2 0 true) = false ∧
    Instr.wf (.warmResetWrite (2 ^ 32)) = false ∧ Instr.wf (.msixUnblock (some Config.vectors) true false) = false := by decide

theorem test_wf_board : Instr.wf (.hostLinkUp 3 6 8) = false ∧ Instr.wf (.dlUpReturn 5 3) = false ∧ Instr.wf (.clockLoss 23) = false ∧
    Instr.wf (.thermalTrip 32 920) = false ∧ Instr.wf (.supplyWarn 5 0 false) = false ∧ Instr.wf (.tamper 4) = false ∧
    Instr.wf (.bayInputDebounced 3 true) = false ∧ Instr.wf (.pwrokRise 4) = false ∧ Instr.wf (.powerWake 0) = false ∧
    Instr.wf (.wakeComplete true [8533]) = false ∧ Instr.wf (.smbusRead 128 1 4 0 true) = false := by decide

theorem test_wf_links : Instr.wf (.wrenTrainAdvance 4) = false ∧ Instr.wf (.wrenLinkDown 0) = false ∧
    Instr.wf (.trainCfgRx (2 ^ 64) 0) = false ∧ Instr.wf (.tickRx 0 25 0) = false ∧ Instr.wf (.mirrorFrameRx 128 (List.replicate 16 0#8)) = false ∧
    Instr.wf (.epochFrameRx 0 []) = false ∧ Instr.wf (.wrenEqAdapt 0 [0]) = false ∧ Instr.wf (.dramUe (2 ^ 38)) = false ∧
    Instr.wf (.trackingPass 16 0 0) = false ∧ Instr.wf (.ageingSample [] 0) = false ∧ Instr.wf (.attest []) = false := by decide

/-! ## The states of the witnesses

Each witness gives a state and operands that meet the hypotheses of one statement, clause by clause. `base` is a unit in READY with
its link up and client 1 enabled. -/

/-- Registers set one after another: field, block, value. -/
def setAll (l : List (Field × Nat × Nat)) (s : State) : State :=
  { s with fields := l.foldl (fun fs e => Tab.putD (e.1.reset e.2.1) (e.1.key e.2.1) e.2.2 fs) s.fields }

/-- Field, number of blocks, value: set in blocks 0 up to it. -/
def perUnit (l : List (Field × Nat × Nat)) : List (Field × Nat × Nat) :=
  (List.range 16).reverse.flatMap fun i => l.filterMap fun e => if i < e.2.1 then some (e.1, i, e.2.2) else none

def base : State :=
  setAll (perUnit [(.CL_ENABLE, 2, 1), (.CL_CPL_LOG2, 2, 6), (.CL_CMD_LOG2, 2, 10), (.FFT_IN_SERVICE, 1, 1), (.AR_IN_SERVICE, 2, 1),
      (.CL_IN_SERVICE, 8, 1), (.DEC_IN_SERVICE, 8, 1), (.CH_RATE, 16, 8533), (.CH_IN_SERVICE, 16, 1), (.SCH_MEM_BUDGET, 1, 25599),
      (.TRE_LANES, 1, 16), (.TRE_IN_SERVICE, 1, 1), (.MENC_IN_SERVICE, 2, 1), (.SOOT_TAGSTORE_READY, 1, 1), (.SOOT_SRAM_READY, 1, 1),
      (.KEY_PAIRING_AVAILABLE, 1, 1), (.KEY_DEBUG_OK, 1, 1), (.KEY_MODEL_OK, 1, 1), (.KEY_IDENTITY_OK, 1, 1), (.EVU_TICK_NOW, 1, 1000),
      (.LINK_SPEED, 1, 5), (.LINK_WIDTH, 1, 8), (.LINK_DL_UP, 1, 1), (.LINK_BME, 1, 1), (.DS_STATE, 1, 5)])
  { State.reset with pwrok := true, perstN := true, bayrstN := true, aonValid := true, boot := .done, bme := true, mse := true,
                     msixEnable := true, certSensed := true }

/-- A packet in flight, number 0, with words 2 on `ws`. -/
def pk (c op : Nat) (ws : List Nat) : Pkt :=
  ⟨0, c, ((op * 2 ^ 24 + (ws.length + 2) * 2 ^ 16) :: 7 :: ws).map (BitVec.ofNat 32), false, 0, none, 0, false⟩

def begun (p : Pkt) : Pkt := { p with started := true }

def put (p : Pkt) (s : State) : State := { s.set .CL_INFLIGHT p.client 1 with packets := [p], nextPkt := 1 }

def at' (n : Nat) (s : State) : State := s.set .EVU_TICK_NOW 0 n

/-- Packet `p` starts and its copy may end at once: the second case of `CopyReady`. -/
def readyNow (s : State) (op : Nat) (pre : State → Pkt → List (Bool × Reply)) (job : Option Nat) (src : Option (Nat × Nat)) (p : Pkt) : Bool :=
  decide (s.packets.map Pkt.id).Nodup && (s.reading op).isNone && decide (s.nextStart = some p) && p.opcode == op &&
    (firstBad (pre s p)).isNone && ((job.isNone && src.isNone) || ((s.markStarted p.id).startCopy p job src).readMayEnd p.id)

/-- The state in which the effect of its copy command is then worked out. -/
def copied (s : State) (p : Pkt) (job : Option Nat) (src : Option (Nat × Nat)) : State :=
  if job.isNone && src.isNone then s.markStarted p.id else ((s.markStarted p.id).startCopy p job src).endRead p.id

theorem copyReady_of_readyNow {s : State} {op : Nat} {pre : State → Pkt → List (Bool × Reply)} {job : Option Nat}
    {src : Option (Nat × Nat)} {p : Pkt} (h : readyNow s op pre job src p = true) :
    s.CopyReady op pre job src p (copied s p job src) := by
  simp only [readyNow, Bool.and_eq_true, Bool.or_eq_true, decide_eq_true_eq, Option.isNone_iff_eq_none, beq_iff_eq] at h
  obtain ⟨⟨⟨⟨⟨h1, h2⟩, h3⟩, h4⟩, h5⟩, h6⟩ := h
  refine ⟨h1, .inr ⟨h2, h3, h4, h5, ?_⟩⟩
  by_cases hj : job = none ∧ src = none
  · simp [copied, hj]
  · have hj' : (job.isNone && src.isNone) = false := by
      rw [← Bool.not_eq_true]; simpa [Option.isNone_iff_eq_none] using hj
    simp only [copied, hj']
    exact ⟨h6.resolve_left hj, rfl⟩

/-- A packet `p` that starts, and whose copy waits: the second clause of `StartsCopy`. -/
def waits (s : State) (op : Nat) (pre : State → Pkt → List (Bool × Reply)) (job : Option Nat) (src : Option (Nat × Nat)) (p : Pkt) : Bool :=
  decide (s.nextStart = some p) && decide (s.packets.map Pkt.id).Nodup && (s.reading op).isNone && p.opcode == op &&
    (firstBad (pre s p)).isNone && (job.isSome || src.isSome) && !((s.markStarted p.id).startCopy p job src).readMayEnd p.id

/-- A packet `p` that starts and fails a check: the first clause of `StartsCopy`. -/
def refused (s : State) (op : Nat) (pre : State → Pkt → List (Bool × Reply)) (p : Pkt) : Bool :=
  decide (s.nextStart = some p) && decide (s.packets.map Pkt.id).Nodup && (s.reading op).isNone && p.opcode == op &&
    (firstBad (pre s p)).isSome && !s.linkClosed

/-- `p` was started, and its transfer of no more than its last requests may end: the first case of `CopyReady`. -/
def copying (p : Pkt) (s : State) : State := { put (begun p) s with reads := [⟨p.id, 1, 0x2000, 0⟩] }

def noBme (s : State) : State := { s with bme := false }

/-! ## Witnesses: fences and streams -/

def fenced5 (s : State) : State := { s with fences := [(5, ⟨1, 77, 12⟩)] }

theorem wit_FencesAndBarrierComplete_create :
    let n := pk 1 0x00 []
    let p := pk 1 0x03 [12, 0, 77]
    let d := pk 1 0x04 [5, 77]
    ((put n base).Starts n ∧ (put n base).linkClosed = false ∧ n.opcode = 0x00) ∧
    ((put p base).Starts p ∧ p.opcode = 0x03 ∧ (put p base).fences.length < Config.fences ∧ 5 < Config.fences ∧
      Tab.find? 5 (put p base).fences = none ∧ (put p base).bumps p.client = false) ∧
    (put d (fenced5 base)).Starts d ∧ d.opcode = 0x04 ∧ d.w 2 < 2 ^ 17 ∧
      (put d (fenced5 base)).fenceFor d.client (d.w 2) (d.w 3) = some ⟨1, 77, 12⟩ ∧ d.client = 1 := by
  unfold State.Starts; decide +kernel

theorem wit_FencesAndBarrierComplete_signal :
    let f : Fence := ⟨1, 77, 12⟩
    let p := pk 1 0x01 [5, 77, 16, 0]
    let q := pk 1 0x01 [5 + 2 ^ 31, 77, 2 ^ 32 - 13, 2 ^ 32 - 1]
    ((put p (fenced5 base)).Starts p ∧ p.opcode = 0x01 ∧ p.w 2 / 2 ^ 17 % 2 ^ 14 = 0 ∧
      (put p (fenced5 base)).fenceFor p.client (p.w 2 % 2 ^ 17) (p.w 3) = some f ∧ (p.w 2).testBit 31 = false ∧
      f.value ≤ p.w64 4 ∧ p.w64 4 < 2 ^ 64) ∧
    (put q (fenced5 base)).Starts q ∧ q.opcode = 0x01 ∧ q.w 2 / 2 ^ 17 % 2 ^ 14 = 0 ∧
      (put q (fenced5 base)).fenceFor q.client (q.w 2 % 2 ^ 17) (q.w 3) = some f ∧ (q.w 2).testBit 31 = true ∧
      f.value + q.w64 4 = 2 ^ 64 - 1 := by
  unfold State.Starts; decide +kernel

theorem wit_FencesAndBarrierComplete_wait :
    let w := fun (target timeout : Nat) => pk 1 0x02 [5, 77, target, 0, timeout]
    let ok := fun (p : Pkt) => (put p (fenced5 base)).Starts p ∧ p.opcode = 0x02 ∧ p.w 2 < 2 ^ 17 ∧
      (put p (fenced5 base)).fenceFor p.client (p.w 2) (p.w 3) = some ⟨1, 77, 12⟩
    (ok (w 12 50) ∧ (w 12 50).w64 4 ≤ 12) ∧ (ok (w 13 0) ∧ 12 < (w 13 0).w64 4 ∧ (w 13 0).w 6 = 0) ∧
    ok (w 13 50) ∧ 12 < (w 13 50).w64 4 ∧ (w 13 50).w 6 ≠ 0 ∧ (put (w 13 50) (fenced5 base)).bumps 1 = false := by
  unfold State.Starts; decide +kernel

theorem wit_FencesAndBarrierComplete_end :
    let p := begun (pk 1 0x02 [5, 77, 13, 0, 50])
    let b := pk 1 0x05 []
    let e := begun b
    ((put p (fenced5 base)).pkt? 0 = some p ∧ (put p base).coresRun = true ∧ (put p base).linkClosed = false ∧ p.opcode = 0x02 ∧
      p.started = true ∧ p.startTick + p.w 6 < (put p base).now ∧ (put p (fenced5 base)).isStaged 0 = false ∧
      ((Tab.find? (p.w 2 % 2 ^ 17) (put p (fenced5 base)).fences).map Fence.value).getD 0 = 12 ∧ 12 < p.w64 4) ∧
    ((put b base).Starts b ∧ b.opcode = 0x05) ∧
    (put e base).pkt? 0 = some e ∧ (put e base).isStaged 0 = false ∧ (put e base).coresRun = true ∧ e.opcode = 0x05 ∧ e.started = true ∧
      (∀ q ∈ (put e base).packets, q.client = e.client → e.id ≤ q.id) ∧ (put e base).workEnded e.client = true := by
  unfold State.Starts; decide +kernel

theorem wit_StreamOpenCompletes :
    let p := pk 1 0x10 [0, 64 + 64 * 65536, 3000, 16 + 4 * 65536]
    let s := put p (base.set .META_LOG2 1 10)
    let u := s.markStarted p.id
    s.Starts p ∧ s.linkClosed = false ∧ p.opcode = 0x10 ∧ firstBad (u.openChecks p) = none ∧
      u.admitCheck (openDemand 0 64 64 3000 16 (frameBufBytes 0 64 64)) = none ∧ u.freeContext = some 0 ∧
      (u.allocAll true (some 0) [16 * 1024 * 4, frameBufBytes 0 64 64 * frameBufCount 0 64 64]).map Prod.fst =
        some [(2 ^ 34, 65536), (2 ^ 34 + 65536, 196608)] := by
  unfold State.Starts; decide +kernel

/-- A stream of client 1 with a pipeline, and one frame. -/
def pipe0 : Pipe :=
  { model := 65537, ensemble := 0, crops := [⟨0, 0, 4096, 4096, 64, 64, 0, true, 0⟩], depth := 4, lowWater := 1, alarmIrq := false
    anyOrder := false, bufs := [(2 ^ 34 + 2 ^ 20, 65536)], desc := [] }

def frame0 (ph : Phase) : Frame := { emptyFrame with fseq := 100, phase := ph, slot := some 0, auBytes := 500, deadline := 5000, accepted := true, fps := 3000 }

def stream0 (fs : List Frame) : Stream :=
  { newStream 1 0 0 false 64 64 3000 16 4 (2 ^ 34, 65536) (2 ^ 34 + 65536, 196608) with
    pipe := some pipe0, frames := fs, hold := false, f := some 99 }

def withStream (st : Stream) (s : State) : State := setAll [(.META_LOG2, 1, 10), (.CTX_OWNER, 0, 1)] { s with streams := [(0, st)] }

theorem wit_StreamFeedCompletes_start :
    let p := pk 1 0x11 [256 * 500, 100, 0x4000, 0]
    let s := put p (withStream (stream0 []) base)
    let u := s.markStarted p.id
    s.Starts p ∧ p.opcode = 0x11 ∧ firstBad (u.feedChecks p) = none ∧ u.stream? p.stream = some (stream0 []) ∧
      firstBad (u.feedStreamChecks p (stream0 [])) = none ∧ (stream0 []).freeSlot = some 0 := by
  unfold State.Starts; decide +kernel

def ingestJob : Job := { emptyJob with kind := .ingest, stream := 0, fseq := 100, pkt := some 0, entry := true }

/-- An H.264 access unit of `n` bytes: one IDR slice with first_mb_in_slice 0. -/
def au0 (n : Nat) : Bytes := [0#8, 0#8, 1#8, 0x65#8, 0x88#8] ++ List.replicate (n - 5) 0x55#8

theorem wit_StreamFeedCompletes_end :
    let p := begun (pk 1 0x11 [256 * 500, 100, 0x4000, 0])
    let st := stream0 [frame0 (.copying 0)]
    let s := { put p (withStream st base) with jobs := [ingestJob], reads := [⟨0, 1, 0x4000, 0⟩] }
    let v := put { p with fenced := true } s
    s.stream? 0 = some st ∧ st.frame? 100 = some (frame0 (.copying 0)) ∧ s.pkt? 0 = some p ∧ s.isStaged 0 = false ∧
      s.coresRun = true ∧ s.linkClosed = false ∧ s.readMayEnd 0 = true ∧ (au0 500).length = (frame0 (.copying 0)).auBytes ∧
      (∃ j ∈ s.jobs, j.stream = 0 ∧ j.fseq = 100 ∧ j.kind = .ingest ∧ j.entry = true) ∧
      s.feedFenced 0 = false ∧ v.feedFenced 0 = true ∧ v.readMayEnd 0 = true ∧ ingestFault st.codec (au0 500) = none ∧
      (ingestFault st.codec (List.replicate 500 0#8)).isSome = true ∧ st.closingPkt = none ∧ st.shed = none ∧
      st.pipe.isSome = true ∧ st.unbindPkt = none := by decide +kernel

theorem wit_StreamFlushCloseReconfigComplete :
    let st := stream0 [frame0 .held]
    let f := pk 1 0x12 [0]
    let c := pk 1 0x13 [0]
    let r := pk 1 0x14 [0, 64 + 64 * 65536, 3000]
    let on := fun (p : Pkt) => put p (withStream st base)
    ((on f).Starts f ∧ f.opcode = 0x12 ∧ (on f).linkClosed = false ∧ firstBad (((on f).markStarted 0).flushChecks f) = none ∧
      ((on f).markStarted 0).stream? f.stream = some st) ∧
    ((on c).Starts c ∧ c.opcode = 0x13 ∧ firstBad (((on c).markStarted 0).flushChecks c) = none ∧
      ((on c).markStarted 0).stream? c.stream = some st) ∧
    (on r).Starts r ∧ r.opcode = 0x14 ∧ firstBad (((on r).markStarted 0).reconfigChecks r) = none ∧
      firstBad (st.reconfigChecks r) = none ∧ (on r).linkClosed = false ∧
      ((on r).markStarted 0).reconfigRefused st (st.withReconf r) = none := by
  unfold State.Starts; decide +kernel

theorem wit_StreamFlushCloseReconfigComplete_closed :
    let p := begun (pk 1 0x13 [0])
    let st := { stream0 [] with closingPkt := some 0 }
    let s := put p (withStream st base)
    s.stream? 0 = some st ∧ st.closingPkt = some 0 ∧ st.unbindPkt ≠ some 0 ∧ s.coresRun = true ∧ st.frames = [] ∧
      s.halfRecord st.owner = false ∧ (∀ j ∈ s.jobs, j.stream = 0 → j.ofMirror = true) ∧ s.linkClosed = false ∧
      s.pkt? 0 = some p ∧ s.isStaged 0 = false ∧ p.opcode = 0x13 ∧ (s.packets.map Pkt.id).Nodup := by decide +kernel

/-! ## Witnesses: objects, pipelines, flues, memory -/

def model0 : Obj :=
  { handle := 65537, loader := 1, isTree := false, failed := false, doomed := false, base := 2 ^ 28, bytes := 4096, fftThreshold := 9, layers := []
    pages := [], tracker := ⟨100, 30000, 10000, 100, 1, 3, 64⟩, inW := 64, inH := 64, inFormat := 2, depth := 0, nOut := 0, nTrees := 0
    nFeat := 0, sampleMode := 0, evalPeriod := 1, image := [] }

def withModel (s : State) : State := { s with objects := [(1, model0)] }

theorem wit_LoadsStartAndUnloadsComplete :
    let m := pk 1 0x20 [0x1000, 0, 4096, 0]
    let t := pk 1 0x28 [0x1000, 0, 65600, 0]
    let x := pk 1 0x21 [65537]
    ((put m base).Starts m ∧ m.opcode = 0x20 ∧ firstBad m.loadChecks = none ∧
      (((put m base).markStarted 0).alloc false (m.w 4) none).map Prod.fst = some (2 ^ 28)) ∧
    ((put t base).Starts t ∧ t.opcode = 0x28 ∧ firstBad t.loadChecks = none ∧
      (((put t base).markStarted 0).alloc false (t.w 4) none).map Prod.fst = some (2 ^ 28)) ∧
    (put x (withModel base)).Starts x ∧ (put x base).linkClosed = false ∧ x.opcode = 0x21 ∧
      ((put x (withModel base)).markStarted 0).named (x.w 2) false = some model0 ∧ model0.loader = x.client ∧
      ((put x (withModel base)).markStarted 0).bound model0.handle = false := by
  unfold State.Starts; decide +kernel

theorem wit_LoadsStartAndUnloadsComplete_tree :
    let o := { model0 with isTree := true }
    let x := pk 0 0x29 [65537]
    let s := put x { base with objects := [(1, o)] }
    s.Starts x ∧ x.opcode = 0x29 ∧ (s.markStarted 0).named (x.w 2) true = some o ∧ s.linkClosed = false ∧ x.client = 0 ∧
      (s.markStarted 0).bound o.handle = false := by
  unfold State.Starts; decide +kernel

theorem wit_LoadsEnd :
    let p := begun (pk 1 0x20 [0x1000, 0, 0, 0])
    let t := begun (pk 1 0x28 [0x1000, 0, 0, 0])
    let run := fun (p : Pkt) => { put p base with
      loadBufs := [(0, 2 ^ 28)], jobs := [{ emptyJob with kind := .copy, pkt := some 0, entry := true }], reads := [⟨0, 1, 0x1000, 0⟩] }
    ((run p).loadOf 0x20 0 = some (p, 2 ^ 28) ∧ (run p).coresRun = true ∧ (run p).linkClosed = false ∧ ([] : Bytes).length = p.w 4 ∧
      (run p).isStaged 0 = false ∧ (run p).readMayEnd 0 = true ∧
      (bundleCheck ((run p).coreLoad (2 ^ 28) []).1 (p.w 4) true).isSome = true) ∧
    (run t).loadOf 0x28 0 = some (t, 2 ^ 28) ∧ ([] : Bytes).length = t.w 4 ∧ (run t).readMayEnd 0 = true ∧
      (ensembleCheck ((run t).coreLoad (2 ^ 28) []).1 (t.w 4) true).isSome = true := by
  decide +kernel

def nums (l : List (Nat × Nat)) : Bytes := l.flatMap fun e => Num.leBytes e.1 e.2

def pad (n : Nat) (b : Bytes) : Bytes := b ++ List.replicate (n - b.length) 0#8

/-- A bundle of R293 with one layer, that passes every check. -/
def bundle0 : Bytes :=
  let layer := fun (type method k cin fp np : Nat) =>
    pad 64 (nums [(1, type), (1, method), (2, 0), (1, k), (1, k), (1, 0x11), (1, 0x11), (4, 0), (2, cin), (2, 1), (2, 1),
      (2, 64), (2, 64), (4, 0), (4, 0x7F8000), (2, 0), (4, fp), (4, np)])
  nums [(4, 0x0960BD01), (4, 1), (4, 4096), (2, 2), (2, 1), (4, 256), (4, 384), (4, 448), (4, 64),
    (2, 100), (2, 30000), (2, 10000), (2, 100), (1, 1), (1, 3), (2, 64), (4, 0), (2, 64), (2, 64), (4, 2), (100, 0), (100, 0)] ++
  layer 0 0 3 3 0 1 ++ layer 7 2 1 1 0 0 ++ nums [(4, 448), (56, 64), (4, 0), (4, 1), (3644, 3)]

/-- Where no granule is sooted the cores load what stands there. -/
theorem coreLoad_clean {s : State} (h : s.soot = []) (a : Nat) (b : Bytes) : (s.coreLoad a b).1 = b := by
  simp [State.coreLoad, State.sootIn, h]

theorem wit_LoadsEnd_seen :
    let p := begun (pk 1 0x20 [0x1000, 0, 4096, 0])
    ((put p base).coreLoad (2 ^ 28) bundle0).1 = bundle0 := coreLoad_clean rfl _ _

theorem wit_LoadsEnd_good :
    let p := begun (pk 1 0x20 [0x1000, 0, 4096, 0])
    let s := { put p base with loadBufs := [(0, 2 ^ 28)], jobs := [{ emptyJob with kind := .copy, pkt := some 0, entry := true }] }
    s.loadOf 0x20 0 = some (p, 2 ^ 28) ∧ bundle0.length = p.w 4 ∧ s.get .KEY_MODEL_OK = 1 ∧ bundleCheck bundle0 (p.w 4) true = none ∧ s.freeSlot = some 1 ∧ s.objCount false < Config.objectsPerKind ∧ p.id = 0 := by decide +kernel

/-- Coefficient phases of one tap of 128 and seven of 0. -/
def phases : Nat → Bytes
  | 0 => []
  | n + 1 => 0#8 :: 0#8 :: 0#8 :: 0#8 :: 0#8 :: 0#8 :: 128#8 :: 0#8 :: 0#8 :: 0#8 :: 0#8 :: 0#8 :: 0#8 :: 0#8 :: 0#8 :: 0#8 :: phases n

def descHead : Bytes :=
  nums [(2, 0x9D10), (1, 1), (1, 1), (1, 0x30), (1, 0x11), (58, 2), (4, 0), (4, 0x10001000), (4, 0x400040), (20, 4)]

/-- A descriptor of R236 with one crop of 64 by 64 and one coefficient set. -/
def desc0 : Bytes := descHead ++ phases 64

theorem phaseOk_phases (n i : Nat) (h : i < n) : phaseOk (phases n) (16 * i) = true := by
  induction n generalizing i with
  | zero => omega
  | succ n ih =>
    cases i with
    | zero => rfl
    | succ i =>
      have e : ∀ k, Num.u8 (phases (n + 1)) (16 * (i + 1) + k) = Num.u8 (phases n) (16 * i + k) := fun k => by
        rw [show 16 * (i + 1) + k = 16 * i + k + 16 by omega]; rfl
      have e1 : ∀ k, Num.u16 (phases (n + 1)) (16 * (i + 1) + k) = Num.u16 (phases n) (16 * i + k) := fun k => by
        simp only [Num.u16, Nat.add_assoc, e]
      rw [← ih i (by omega)]; simp only [phaseOk, e1]

theorem phaseOk_desc0 (i : Nat) (h : i < 64) : phaseOk desc0 (96 + 16 * i) = true := by
  have e : ∀ k, Num.u8 desc0 (96 + 16 * i + k) = Num.u8 (phases 64) (16 * i + k) := fun k => by
    have hl : descHead.length = 96 := by decide +kernel
    simp only [desc0, Num.u8]
    rw [List.getD_append_right _ _ _ _ (by omega), hl, Nat.add_assoc, Nat.add_sub_cancel_left]
  have e1 : ∀ k, Num.u16 desc0 (96 + 16 * i + k) = Num.u16 (phases 64) (16 * i + k) := fun k => by
    rw [Num.u16, Num.u16, e, Nat.add_assoc _ k, e, ← Nat.add_assoc]
  rw [← phaseOk_phases 64 i h]; simp only [phaseOk, e1]

theorem descCheck_desc0 : descCheck desc0 1120 64 64 = none := by
  have h : ((List.range (64 * descSets desc0)).all fun i => phaseOk desc0 (64 + 32 * Num.u8 desc0 3 + 16 * i)) = true := by
    have hs : descSets desc0 = 1 := by decide +kernel
    have hu : Num.u8 desc0 3 = 1 := by decide +kernel
    rw [List.all_eq_true, hs, hu]
    exact fun i hi => phaseOk_desc0 i (by simpa using hi)
  simp only [descCheck, h]
  decide +kernel

theorem wit_PipelineBindAndUnbindComplete_bind :
    let p := pk 1 0x22 [0, 65537, 0, 0x2000, 0, 1120]
    let st := { stream0 [] with pipe := none }
    let s := put p (withModel (withStream st base))
    let src := some (p.w64 5, p.w 7)
    let u := copied s p none src
    let bad := pk 1 0x22 [0, 65538, 0, 0x2000, 0, 1120]
    readyNow s 0x22 State.bindChecks none src p = true ∧ s.linkClosed = false ∧ firstBad (u.bindChecks p) = none ∧
      u.stream? p.stream = some st ∧ u.model? (p.w 3) = some model0 ∧ Num.slice (p.w 7) 15 0 = 1120 ∧ st.settled.maxW = 64 ∧
      st.settled.maxH = 64 ∧ desc0.take 1120 = desc0 ∧ descFits desc0 model0 = true ∧
      waits (noBme s) 0x22 State.bindChecks none src p = true ∧
      refused (put bad (withModel (withStream st base))) 0x22 State.bindChecks bad = true ∧
      (copying p (withModel (withStream st base))).reading 0x22 = some (begun p) := by decide +kernel

/-- Client 1 binds a pipeline to a stream of frame rate 0. -/
def unbound : Stream := { stream0 [] with pipe := none, fps := 0 }

def binding : State :=
  let p := pk 1 0x22 [0, 65537, 0, 0x2000, 0, 1120]
  copied (put p (withModel (withStream unbound base))) p none (some (0x2000, 1120))

theorem binding_room : binding.roomFrom (2 ^ 34) := by
  refine ⟨by decide, by decide +kernel, by decide +kernel, by decide +kernel⟩

theorem binding_wrenBase : 2 ^ 37 - 2 ^ 28 - 2 ^ 28 ≤ binding.wrenBase := by decide +kernel

theorem binding_buffers : pipeBuffers desc0 model0 false = List.replicate 4 16384 ++ [Config.activationSetBytes [],
    Config.activationSetBytes [], Config.trackStateBytes] := by
  simp only [pipeBuffers]
  rw [show Num.u8 desc0 4 / 16 + 1 = 4 by decide +kernel, show batchBytes (descCrops desc0) (model0.inFormat.testBit 0)
    (model0.inFormat.testBit 1) = 16384 by decide +kernel]
  simp [model0]

theorem bufBytes_le (n : Nat) (hn : n < 2 ^ 32) : bufBytes n ≤ 2 ^ 32 + 65536 := by
  simp only [bufBytes, Num.roundUp, Num.cdiv]; split <;> omega

theorem sum_bound (f : Nat → Nat) (l : List Nat) (a b m : Nat) (hl : (l.map f).sum ≤ m) (ha : f a ≤ m) (hb : f b ≤ m) :
    ((l ++ [a, a, b]).map f).sum ≤ 4 * m := by
  rewrite [List.map_append, List.sum_append]
  simp only [List.map_cons, List.map_nil, List.sum_cons, List.sum_nil]
  omega

theorem room_sum : (List.map bufBytes (pipeBuffers desc0 model0 false)).sum ≤ 4 * (2 ^ 32 + 65536) := by
  rewrite [binding_buffers]
  exact sum_bound bufBytes _ _ _ _ (by decide +kernel) (bufBytes_le _ (Config.activationSetSize []).isLt) (bufBytes_le _ Config.trackStateSize.isLt)

/-- The sizes that no rule states (log entry 9) are below 4 GiB, so the empty soot class holds the buffers. -/
theorem wit_PipelineBindAndUnbindComplete_room :
    ∃ bufs mirror v, ((binding.allocAll true (some 0) (pipeBuffers desc0 model0 false)).bind fun x =>
      (x.2.bindMirror 0 unbound (descPipe desc0 65537 0)).map fun y => (x.1, y)) = some (bufs, mirror, v) := by
  obtain ⟨bufs, v, h⟩ := allocAll_some (some 0) _ binding_room
    (lt_of_le_of_lt (Nat.add_le_add_left room_sum _) (lt_of_lt_of_le (by decide) binding_wrenBase))
  exact ⟨bufs, none, v, by rw [h]; rfl⟩

/-- At frame rate 0 the pipeline makes no demand that depends on those sizes. -/
theorem wit_PipelineBindAndUnbindComplete_admit :
    binding.admitCheck ((binding.pipeDemand unbound.settled (descPipe desc0 65537 0) 0).add {}) = none := by
  decide +kernel

theorem wit_PipelineBindAndUnbindComplete_unbind :
    let p := pk 1 0x23 [0]
    let st := stream0 [frame0 .held]
    let s := put p (withStream st base)
    let q := begun p
    let x := { stream0 [] with unbindPkt := some 0, hold := true }
    let v := put q (withStream x base)
    (s.Starts p ∧ p.opcode = 0x23 ∧ firstBad ((s.markStarted 0).unbindChecks p) = none) ∧
    v.stream? 0 = some x ∧ x.unbindPkt = some 0 ∧ v.coresRun = true ∧ x.frames = [] ∧
      (∀ j ∈ v.jobs, j.stream = 0 → j.ofMirror = true) ∧ v.linkClosed = false ∧ v.pkt? 0 = some q ∧ v.isStaged 0 = false := by
  unfold State.Starts; decide +kernel

theorem wit_FlueConfigAndRingSetComplete :
    let p := pk 1 0x30 [31 * 65536, 0x400 + 7 * 65536 + 2 ^ 24, 3 + 65536, 0x3000, 0]
    let bad := pk 1 0x30 [31 * 65536, 0, 3 + 65536, 0x3000, 0]
    let s := put p (withStream (stream0 []) base)
    let u := copied s p (some 2) p.zoneTable
    let r := pk 1 0x31 [0x10000, 0, 10 + 256, 0, 0]
    (readyNow s 0x30 State.flueChecks (some 2) p.zoneTable p = true ∧ p.readsZones = true ∧ s.linkClosed = false ∧
      firstBad (u.flueChecks p) = none ∧
      badZone 0 (chunks 32 1 (List.replicate 32 0#8)) = none ∧ (u.alloc false 32 none).isSome = true) ∧
    (waits (noBme s) 0x30 State.flueChecks (some 2) p.zoneTable p = true ∧
      refused (put bad (withStream (stream0 []) base)) 0x30 State.flueChecks bad = true ∧
      (copying p (withStream (stream0 []) base)).reading 0x30 = some (begun p)) ∧
    (put r base).Starts r ∧ (put r base).linkClosed = false ∧ r.opcode = 0x31 ∧
      firstBad (((put r base).markStarted 0).ringChecks r) = none := by
  unfold State.Starts; decide +kernel

theorem wit_ScrubCompletes :
    let p := pk 0 0x38 [1]
    let s := put p base
    let v := { put (begun p) base with scrub := some (0, 1, [(2 ^ 34, 2 ^ 34 + 64)]), jobs := [{ emptyJob with kind := .scrub, entry := true }] }
    (s.Starts p ∧ p.opcode = 0x38 ∧ firstBad ((s.markStarted 0).scrubChecks p) = none) ∧
    v.scrub = some (0, 1, [(2 ^ 34, 2 ^ 34 + 64)]) ∧ v.enginesRun = true ∧ (∃ j ∈ v.jobs, j.kind = .scrub ∧ j.entry = true) ∧
      v.linkClosed = false ∧ v.pkt? 0 = some (begun p) ∧ v.isStaged 0 = false := by
  unfold State.Starts; decide +kernel

theorem wit_HealthQueryCompletesAndHidesSoot :
    let d := pk 0 0x51 [2, 0x1000, 0, 128, 0x20000000, 0, 0]
    let u := pk 0 0x51 [0, 0x1000, 0, 64, 0, 0, 0]
    let x := pk 1 0x51 [1, 0x1000, 0, 64, 0, 0, 0]
    let bad := pk 0 0x51 [3, 0x1000, 0, 128, 0x20000000, 0, 0]
    let on := fun (p : Pkt) => put p { withStream (stream0 []) base with soot := [(0x20000000 / 64, 0x20000000 / 64 + 1)] }
    let ok := fun (p : Pkt) => readyNow (on p) 0x51 State.healthChecks (some 2) none p = true ∧ (on p).linkClosed = false ∧
      firstBad ((copied (on p) p (some 2) none).healthChecks p) = none
    let busy := { on d with jobs := List.replicate Config.jobEntries { emptyJob with entry := true } }
    (ok d ∧ Num.slice (d.w 2) 7 0 = 2 ∧ (on d).sooted 0x20000000 = true ∧ (on d).sooted 0x20000040 = false) ∧
    (ok u ∧ Num.slice (u.w 2) 7 0 = 0 ∧ u.w 5 < 256) ∧
    (ok x ∧ Num.slice (x.w 2) 7 0 = 1 ∧
      (copied (on x) x (some 2) none).stream? (Num.slice (x.w 2) 14 8) = some (stream0 [])) ∧
    waits busy 0x51 State.healthChecks (some 2) none d = true ∧ refused (on bad) 0x51 State.healthChecks bad = true := by
  decide +kernel

theorem wit_HealthQueryCompletesAndHidesSoot_clear :
    let d := pk 0 0x51 [2, 0x1000, 0, 64, 0x20000000, 0, 0]
    ∀ g ∈ granules (d.w64 6) (d.w 5), (put d base).granuleCause g = 0 ∧ Tab.find? g (put d base).poison = none := by decide +kernel

/-! ## Witnesses: pairing, roles, mirrors, the bay, power, update, debug, client reset -/

/-- `base` with the Wren link in DATA over both lanes. -/
def linked : State :=
  setAll [(.WRN_LSTATE, 0, 6), (.WRN_WIDTH, 0, 2)] { base with w.trained := 2, w.peer := some 9, w.lastRx := 700, w.leftData := some 0 }

/-- ... with a session under keys and partner 9, in role `role`. -/
def keyed (role : Nat) : State :=
  setAll [(.WRN_SESSION, 0, 2), (.ROLE, 0, role), (.WRN_PARTNER_ROLE, 0, 1)] { linked with partner := some (9, 0), w.e := some (990, 1000) }

theorem wit_PairBindAndHandshakeComplete_bind :
    let u := pk 0 0x40 [0, 0, 1]
    let b := pk 0 0x40 [9, 0, 0]
    let ok := fun (p : Pkt) (s : State) => (put p s).Starts p ∧ p.opcode = 0x40 ∧ (put p s).linkClosed = false ∧
      firstBad (((put p s).markStarted 0).pairChecks p) = none
    (ok u base ∧ (u.w 4).testBit 0 = true ∧ (∀ ids b, (put u base).w.pair = some (ids, b) → u.id ∉ ids)) ∧
    (ok b (keyed 2) ∧ (b.w 4).testBit 0 = false ∧ (put b (keyed 2)).session = 2) ∧
    ok b linked ∧ (put b linked).session ≠ 2 ∧ (put b linked).w.pair = none := by
  have h : ∀ ids b, (put (pk 0 0x40 [0, 0, 1]) base).w.pair = some (ids, b) → (pk 0 0x40 [0, 0, 1]).id ∉ ids :=
    fun ids b h => by rw [show (put (pk 0 0x40 [0, 0, 1]) base).w.pair = none by rfl] at h; cases h
  refine ⟨⟨?_, by decide, h⟩, ?_⟩ <;> unfold State.Starts <;> decide +kernel

theorem wit_PairBindAndHandshakeComplete_end :
    let p := begun (pk 0 0x40 [9, 0, 0])
    let wait := at' 10000001 { put p linked with w.pair := some ([0], false) }
    let heard := { put p linked with w.pair := some ([0], true) }
    (wait.w.pair = some ([0], false) ∧ wait.pkt? 0 = some p ∧ wait.isStaged 0 = false ∧ wait.coresRun = true ∧ p.startTick + 10000000 ≤ wait.now ∧
      wait.linkClosed = false) ∧
    heard.w.pair = some ([0], true) ∧ heard.isStaged 0 = false ∧ heard.inData = true ∧ heard.coresRun = true ∧ heard.w.peer = some 9 ∧ heard.partner = none ∧
      heard.role = 3 ∧ heard.pkt? 0 = some p ∧ p.w64 2 = 9 ∧ heard.linkClosed = false := by decide +kernel

theorem wit_PairRoleLeaseAndTakeoverComplete_role :
    let n := pk 0 0x41 [5, 0, 0, 5000]
    let r := pk 0 0x41 [0, 0, 0, 5000]
    let leased := setAll [(.LEASE_VALID, 0, 1), (.GCTL_LEASE_END, 0, 2000)] (keyed 0)
    ((put n (keyed 2)).Starts n ∧ (put n (keyed 2)).linkClosed = false ∧ n.opcode = 0x41 ∧ firstBad n.roleChecks = none ∧
      ((put n (keyed 2)).markStarted 0).leaseOver = false ∧ ((put n (keyed 2)).markStarted 0).storedGen < n.w64 2 ∧
      firstBad (((put n (keyed 2)).markStarted 0).newRoleChecks (Num.slice (n.w 4) 1 0) true) = none ∧ Num.slice (n.w 4) 1 0 = 0) ∧
    (put r leased).Starts r ∧ (put r leased).linkClosed = false ∧ r.opcode = 0x41 ∧ firstBad r.roleChecks = none ∧
      ((put r leased).markStarted 0).leaseOver = false ∧ r.w64 2 = ((put r leased).markStarted 0).storedGen ∧
      Num.slice (r.w 4) 1 0 = 0 ∧ ((put r leased).markStarted 0).role = 0 ∧
      ((put r leased).markStarted 0).get .LEASE_VALID = 1 ∧ (put r leased).now ≤ r.covered + r.leaseMs * 500 := by
  unfold State.Starts; decide +kernel

theorem wit_PairRoleLeaseAndTakeoverComplete_over :
    let s := setAll [(.LEASE_VALID, 0, 1), (.GCTL_LEASE_END, 0, 999)] (keyed 0)
    let r := setAll [(.TAKEOVER_BUSY, 0, 1)] (withStream (stream0 [frame0 .held]) (keyed 0))
    s.leaseOver = true ∧ r.get .TAKEOVER_BUSY = 1 ∧ r.rollDone = true := by decide +kernel

/-- A mirror of the 64 by 64 crop, with its buffers from 2^35 on. -/
def mirror0 : MirrorSt :=
  newMirror ⟨true, 65536, 100, 4, 50⟩ [(2 ^ 35, 65536), (2 ^ 35 + 65536, 65536), (2 ^ 35 + 131072, 65536), (2 ^ 35 + 196608, 2 ^ 20),
    (2 ^ 35 + 2 ^ 21, 2 ^ 20)]

theorem wit_MirrorConfigAndJobsComplete_config :
    let e := pk 1 0x42 [512 + 256, 16384, 1000, 200, 256]
    let d := pk 1 0x42 [0]
    let ok := fun (p : Pkt) => let s := put p (withStream (stream0 []) linked)
      s.Starts p ∧ s.linkClosed = false ∧ p.opcode = 0x42 ∧ firstBad ((s.markStarted 0).mirrorPktChecks p) = none ∧
      (s.markStarted 0).stream? p.stream = some (stream0 [])
    let u := (put e (withStream (stream0 []) linked)).markStarted 0
    (ok d ∧ (d.w 2).testBit 9 = false) ∧ ok e ∧ (e.w 2).testBit 9 = true ∧ (stream0 []).pipe = some pipe0 ∧
      pipe0.mirrorCrop = some ⟨0, 0, 4096, 4096, 64, 64, 0, true, 0⟩ ∧
      firstBad (e.mirrorWordChecks (stream0 []).settled.fps ⟨0, 0, 4096, 4096, 64, 64, 0, true, 0⟩) = none ∧
      u.admitCheck (Demand.raise {} (u.mirrorDemand pipe0 e.mirrorCfg 3000 (u.stepIn 1))) = none ∧ u.mirrorsFull e.stream = false ∧
      (u.placeMirror e.stream none (mirrorSizes e.mirrorCfg ⟨0, 0, 4096, 4096, 64, 64, 0, true, 0⟩ 3000)).isSome = true := by
  unfold State.Starts; decide +kernel

theorem wit_MirrorConfigAndJobsComplete_jobs :
    let on := fun (mode tile : Nat) =>
      { withStream { stream0 [] with mirror := some { mirror0 with needIdr := true } } base with
        jobs := [{ emptyJob with kind := .mirror, stream := 0, fseq := 101, unit := some (.menc 0), mode := mode, tile := tile }] }
    let j := fun (mode tile : Nat) => { emptyJob with kind := .mirror, stream := 0, fseq := 101, unit := some (.menc 0), mode := mode, tile := tile }
    (on 0 0).enginesRun = true ∧ (on 0 0).jobOn (.menc 0) = some (j 0 0) ∧ (j 0 0).encodes = true ∧
      (on 1 1).jobOn (.menc 0) = some (j 1 1) ∧ (j 1 1).decodes = true ∧ (on 1 0).jobOn (.menc 0) = some (j 1 0) ∧
      (j 1 0).decodes = true ∧ ((on 1 0).stream? 0).bind Stream.mirror = some { mirror0 with needIdr := true } ∧
      (on 1 1).poisonIn (j 1 1).reads = false := by decide +kernel

theorem wit_MirrorConfigAndJobsComplete_poison :
    let j := { emptyJob with kind := .mirror, stream := 0, fseq := 101, unit := some (.menc 0), mode := 1, ins := [.dram 0x20000000 64] }
    let s := { withStream { stream0 [] with mirror := some mirror0 } base with jobs := [j], poison := [(0x20000000, ())] }
    s.enginesRun = true ∧ s.jobOn (.menc 0) = some j ∧ j.decodes = true ∧ s.poisonIn j.reads = true := by decide +kernel

theorem wit_BayControlCompletes :
    let ok := fun (p : Pkt) (slot on : Nat) =>
      let s := put p (setAll [(.BAY_SLOT_STATE, 0, slot), (.BAY_PWREN, 0, on), (.WRN_PARTNER_ROLE, 0, 7)] base)
      s.Starts p ∧ s.linkClosed = false ∧ p.opcode = 0x48 ∧ firstBad ((s.markStarted 0).bayChecks p) = none
    ok (pk 0 0x48 [0x31]) 1 0 ∧ ok (pk 0 0x48 [0x20]) 3 1 ∧ ok (pk 0 0x48 [0x102]) 3 1 := by unfold State.Starts; decide +kernel

theorem wit_PowerEntryAndWakeComplete_entry :
    let ok := fun (p : Pkt) => let s := put p base
      s.Starts p ∧ p.opcode = 0x50 ∧ firstBad ((s.markStarted 0).powerChecks p) = none ∧ s.linkClosed = false
    let p := begun (pk 0 0x50 [3])
    let s := { put p base with powerReq := some (3, some 0) }
    let z := pk 0 0x50 [0]
    let i := put z { base with power := 1 }
    (ok (pk 0 0x50 [0x300]) ∧ ok (pk 0 0x50 [1]) ∧ ok (pk 0 0x50 [2]) ∧ ok z ∧ (put z base).power ≠ 1) ∧
    (i.Starts z ∧ firstBad ((i.markStarted 0).powerChecks z) = none ∧ i.power = 1) ∧
    s.powerReq = some (3, some 0) ∧ s.isReady = true ∧ s.thermal = none ∧ s.scrub = none ∧ s.ch.retrains = [] ∧ s.jobs = [] ∧
      (∀ q ∈ s.packets, q.opcode ≠ 0x61) ∧ s.pkt? 0 = some p ∧ s.isStaged 0 = false ∧ s.linkClosed = false := by unfold State.Starts; decide +kernel

theorem wit_PowerEntryAndWakeComplete_wake :
    let idle := { base with power := 1 }
    let doze := { base with power := 2 }
    let fromIdle := { base with power := 1, waking := some (1, 990) }
    let fromDoze := setAll [(.DS_STATE, 0, 8)] { base with power := 2, waking := some (2, 990) }
    let rates := List.replicate 16 8533
    let asked := put (begun (pk 0 0x50 [0])) { fromIdle with powerReq := some (0, some 0) }
    (asked.waking = some (1, 990) ∧ asked.powerReq = some (0, some 0) ∧ (asked.pkt? 0).isSome = true ∧ asked.isStaged 0 = false ∧
      asked.linkClosed = false) ∧
    (idle.isReady = true ∧ idle.thermal = none ∧ idle.waking = none ∧ (∃ src ∈ List.range 10, idle.wakes src = true)) ∧
    (doze.isReady = true ∧ doze.thermal = none ∧ doze.waking = none ∧ (∃ src ∈ List.range 10, doze.wakes src = true)) ∧
    (fromIdle.isFault = false ∧ fromIdle.thermal = none ∧ fromIdle.waking = some (1, 990) ∧ 990 + 10 ≤ fromIdle.now) ∧
    fromDoze.isFault = false ∧ fromDoze.waking = some (2, 990) ∧ rates.length = 16 ∧ rates.all rateOk = true ∧
      firstFailing rates = none := by decide +kernel

/-- `base` with an update in state `st` of one sector. -/
def updating (st : Nat) : State := { base with fw.upState := st, fw.upBytes := 4096, fw.upMap := [0] }

/-- ... with the whole image in the inactive slot. -/
def written : State := { updating 2 with nor.slots := base.nor.slots.reverse, fw.slot := 0 }

/-- The slot that boots after reset, and its header: 14 bytes, then zeros. -/
def slot0 : NorSlot := ⟨[(0, [0xA5#8, 0xF1#8, 0x60#8, 0x09#8, 0x01#8, 0x00#8, 0x00#8, 0x01#8, 0x00#8, 0x00#8, 0x00#8, 0x00#8, 0x00#8, 0x10#8])],
  some 4096, true, true, false⟩

def bytes0 : Bytes := [0xA5#8, 0xF1#8, 0x60#8, 0x09#8, 0x01#8, 0x00#8, 0x00#8, 0x01#8, 0x00#8, 0x00#8, 0x00#8, 0x00#8, 0x00#8, 0x10#8]

theorem slot0_hdr : slot0.hdr = bytes0 ++ List.replicate 3058 0#8 := by
  have h : slot0.sector 0 = (bytes0 ++ List.replicate 4082 0#8).take 4096 := rfl
  rw [NorSlot.hdr, h, List.take_take, List.take_append, List.take_of_length_le (by decide), List.take_replicate]; rfl

theorem slot0_byte (i : Nat) (h : 14 ≤ i) : Num.u8 slot0.hdr i = 0 := by
  rw [slot0_hdr, Num.u8, List.getD_append_right _ _ _ _ (by exact h), List.getD_eq_getElem?_getD, List.getElem?_replicate]
  split <;> rfl

theorem slot0_zero (lo hi : Nat) (h : 14 ≤ lo) : Num.zeroBytes slot0.hdr lo hi = true := by
  simp only [Num.zeroBytes, List.all_eq_true]
  intro i _
  rw [slot0_byte _ (by omega)]; rfl

theorem slot0_low (i : Nat) (h : i < 14) : Num.u8 slot0.hdr i = Num.u8 bytes0 i := by
  rw [slot0_hdr, Num.u8, List.getD_append _ _ _ _ (by exact h)]; rfl

theorem slot0_header : slot0.headerOk true = true := by
  simp only [NorSlot.headerOk, NorSlot.imageBytes, Num.u32, Num.u16, slot0_zero, slot0_low, Nat.reduceLeDiff, Nat.reduceLT, Nat.reduceAdd]
  decide

theorem wit_UpdateCompletes_verify :
    (written.slotOf written.inactive).headerOk true = true ∧ written.fuses.rollback ≤ (written.slotOf written.inactive).secVersion := by
  rw [show written.slotOf written.inactive = slot0 by decide +kernel, show written.fuses.rollback = 0 by decide +kernel]
  exact ⟨slot0_header, Nat.zero_le _⟩

theorem wit_UpdateCompletes :
    let ok := fun (p : Pkt) (s : State) => (put p s).Starts p ∧ (put p s).linkClosed = false
    let b := pk 0 0x60 [8192, 0]
    let v := pk 0 0x62 []
    let a := pk 0 0x63 []
    let k := pk 0 0x64 []
    (ok b base ∧ b.opcode = 0x60 ∧ firstBad (((put b base).markStarted 0).beginChecks b) = none) ∧
    (ok v written ∧ v.opcode = 0x62 ∧ written.fw.upState = 2) ∧
    (ok a (updating 3) ∧ a.opcode = 0x63) ∧
    ok k (updating 5) ∧ k.opcode = 0x64 ∧ (updating 5).winner.isSome = true := by unfold State.Starts; decide +kernel

theorem wit_UpdateCompletes_chunk :
    let c := pk 0 0x61 [4096, 4096, 0x2000, 0]
    let src := some (c.w64 4, c.w 3)
    let one := { base with fw.upState := 1, fw.upBytes := 8192 }
    let bad := pk 0 0x61 [4095, 4096, 0x2000, 0]
    readyNow (put c one) 0x61 State.chunkChecks (some 3) src c = true ∧ (put c one).linkClosed = false ∧
      firstBad ((copied (put c one) c (some 3) src).chunkChecks c) = none ∧ 0 < c.w 2 / 4096 ∧
      waits (noBme (put c one)) 0x61 State.chunkChecks (some 3) src c = true ∧
      refused (put bad one) 0x61 State.chunkChecks bad = true ∧ (copying c one).reading 0x61 = some (begun c) := by decide +kernel

/-- Where no granule is sooted the chunk is written, wherever its buffer stands; where all are, it is refused. -/
theorem wit_UpdateCompletes_soot :
    base.sootIn Config.chunkBuffer.val (Config.chunkBuffer.val + 4096) = [] ∧
    { base with soot := [(0, 2 ^ 38)] }.sootIn Config.chunkBuffer.val (Config.chunkBuffer.val + 4096) ≠ [] := by
  refine ⟨rfl, ?_⟩
  have h := Config.chunkBuffer.isLt
  simp only [State.sootIn, List.map_cons, List.map_nil, List.filter_cons, List.filter_nil]
  split
  · simp
  · rename_i hn
    simp only [decide_eq_true_eq] at hn
    omega

/-- A token of R440 for the serial and the challenge of `base`. -/
def token0 : Bytes :=
  nums [(4, 0x0960DB01), (2, 1), (1, 7), (1, 0), (8, 0)] ++ List.replicate 32 0#8 ++ nums [(4, 3600), (4, 1)] ++ List.replicate 136 0#8

theorem wit_DebugTokenAndAttestComplete :
    let d := pk 0 0x70 [0x1000, 0, 192]
    let src := some (d.w64 2, d.w 4)
    let bad := pk 0 0x70 [0x1000, 0, 191]
    let u := copied (put d base) d none src
    readyNow (put d base) 0x70 State.tokenChecks none src d = true ∧ (put d base).linkClosed = false ∧
      firstBad (u.tokenChecks d) = none ∧ u.tokenStep d (token0.take (d.w 4)) true = none ∧
      (u.tokenStep d (token0.take (d.w 4)) false).isSome = true ∧ base.get .DBG_SESSION ≠ 1 ∧
      waits (noBme (put d base)) 0x70 State.tokenChecks none src d = true ∧
      refused (put bad base) 0x70 State.tokenChecks bad = true ∧ (copying d base).reading 0x70 = some (begun d) := by decide +kernel

theorem wit_DebugTokenAndAttestComplete_attest :
    let a := fun (n : Nat) => pk 0 0x71 [0x1000, 0, 0x2000, 0, n, 0]
    let src := some (0x1000, 48)
    let bad := pk 0 0x71 [0x1000, 0, 0x2000, 0, 384, 1]
    (∀ n ∈ [320, 384, 1024], (a n).w 6 = n ∧ (a n).w64 2 = 0x1000 ∧ (put (a n) base).linkClosed = false ∧
      readyNow (put (a n) base) 0x71 State.attestChecks (some 2) src (a n) = true ∧
      firstBad ((copied (put (a n) base) (a n) (some 2) src).attestChecks (a n)) = none) ∧
    waits (noBme (put (a 384) base)) 0x71 State.attestChecks (some 2) src (a 384) = true ∧
      refused (put bad base) 0x71 State.attestChecks bad = true ∧ (copying (a 384) base).reading 0x71 = some (begun (a 384)) := by
  decide +kernel

theorem wit_ClientResetCompletes :
    let p := pk 0 0x7F [1]
    let q := begun p
    let s := { put q base with resetting := [(0, (1, 2, 1))] }
    ((put p base).Starts p ∧ p.opcode = 0x7F ∧ firstBad p.resetChecks = none) ∧
    let f := s.set .DS_STATE 0 7
    (s.coresRun = true ∧ (∃ r ∈ s.resetting, r.2.1 = 1) ∧ s.pkt? 0 = some q ∧ q.client ≠ 1 ∧ s.isStaged 0 = false ∧
      s.thermal = none ∧ s.linkClosed = false) ∧
    f.isFault = true ∧ (∃ r ∈ f.resetting, r.2.1 = 1) := by unfold State.Starts; decide +kernel

/-! ## Witnesses: doorbells, fetch, flush, registers, configuration -/

theorem wit_DoorbellsComplete :
    let s := setAll [(.CL_CPL_HEAD, 1, 3)] base
    let on := s.HostOpen ∧ s.get .CL_RESETTING 1 = 0 ∧ s.clockIsLost 19 = false ∧ s.dev = 5 ∧ s.power < 2 ∧ s.get .CL_ENABLE 1 = 1 ∧ Tab.find? 1 s.flushes = none
    (on ∧ Num.sub32 64 (s.get .CL_CMD_HEAD 1) ≤ 2 ^ s.get .CL_CMD_LOG2 1 ∧
      Num.sub32 64 (s.get .CL_CMD_TAIL 1) ≤ Num.sub32 64 (s.get .CL_CMD_HEAD 1) ∧
      ¬Num.sub32 1025 (s.get .CL_CMD_HEAD 1) ≤ 2 ^ s.get .CL_CMD_LOG2 1 ∧
      Num.sub32 3 (s.get .CL_CPL_TAIL 1) ≤ Num.sub32 (s.get .CL_CPL_HEAD 1) (s.get .CL_CPL_TAIL 1) ∧
      ¬Num.sub32 4 (s.get .CL_CPL_TAIL 1) ≤ Num.sub32 (s.get .CL_CPL_HEAD 1) (s.get .CL_CPL_TAIL 1)) ∧
    (∀ d ∈ [1, 4, 8], (base.set .DS_STATE 0 d).HostOpen ∧ (base.set .DS_STATE 0 d).dev = d) ∧
    { base with power := 2 }.HostOpen ∧ { base with power := 2 }.dev = 5 ∧ { base with power := 3 }.HostOpen ∧
    { base with clockLost := [(19, ())] }.HostOpen ∧ { base with clockLost := [(19, ())] }.clockIsLost 19 = true ∧
      { base with clockLost := [(19, ())] }.get .CL_RESETTING 1 = 0 := by
  unfold State.HostOpen; decide +kernel

/-- `base` with `n` words of client 1's ring covered by a doorbell. -/
def covered (n : Nat) : State := base.set .CL_CMD_TAIL 1 n

theorem wit_FetchAndReadFailureComplete_fetch :
    let ws : List Word := (pk 1 0x00 [0, 0]).words
    let one : List Word := [0x00010000#32, 0#32]
    let len := fun ws : List Word => Num.slice (ws.getD 0 0#32).toNat 23 16
    let ok := fun (s : State) (ws : List Word) => s.fetchTurn = some 1 ∧ fetchWordsOk s 1 ws = true
    let full := (covered 4).set .CL_CPL_RESERVED 1 64
    (ok (covered 4) ws ∧ 2 ≤ len ws ∧ len ws ≤ (covered 4).coveredWords 1 ∧ (covered 4).allowance 1 = true ∧ (covered 4).PktIds) ∧
    (ok (covered 3) ws ∧ 2 ≤ len ws ∧ (covered 3).coveredWords 1 < len ws) ∧
    (ok (covered 1) (ws.take 1) ∧ (covered 1).coveredWords 1 < 2) ∧
    (ok full ws ∧ 2 ≤ full.coveredWords 1 ∧ len ws ≤ full.coveredWords 1 ∧ full.allowance 1 = false) ∧
    ok (covered 4) one ∧ len one < 2 := by
  unfold State.PktIds; decide +kernel

theorem wit_FetchAndReadFailureComplete_fail :
    let ws : List Word := (pk 1 0x00 [0, 0]).words
    let s := { covered 4 with retry := [(1, 990)] }
    let u := { s with retry := Tab.del 1 s.retry }
    let p := pk 1 0x11 [256 * 500, 100, 0x4000, 0]
    let r : HostRead := ⟨0, 1, 0x4000, 0⟩
    let reads := { put (begun p) (withStream (stream0 [frame0 (.copying 0)]) base) with reads := [r] }
    let tok := pk 0 0x70 [0x1000, 0, 192]
    let wb := base.set .CL_WB_EN 1 1
    (Tab.find? 1 s.retry = some 990 ∧ 990 < s.now ∧ u.mayFetch 1 = true ∧ fetchWordsOk u 1 ws = true ∧ u.allowance 1 = true ∧
      Num.slice (ws.getD 0 0#32).toNat 23 16 ≤ u.coveredWords 1) ∧
    ((covered 4).fetchTurn = some 1 ∧ 2 ≤ (covered 4).coveredWords 1) ∧
    (reads.linkClosed = false ∧ reads.held = false ∧ reads.thermal = none ∧ reads.pkt? 0 = some (begun p) ∧ r ∈ reads.reads ∧
      r.issued ≠ 0) ∧
    ((put tok base).linkClosed = false ∧ (put tok base).held = false ∧ (put tok base).Starts tok ∧
      (put tok base).readsFirst tok = true ∧ (put tok base).reads = []) ∧
    wb.get .CL_WB_EN 1 = 1 ∧ wb.linkDead = false ∧ wb.held = false := by
  unfold State.Starts; decide +kernel

theorem wit_ClientFlushCompletes :
    let s := covered 100
    let full := s.set .CL_CPL_RESERVED 1 64
    s.HostOpen ∧ s.dev = 5 ∧ s.get .CL_FLUSHING 1 = 0 ∧ s.get .CL_FLUSH_PENDING 1 = 0 ∧ s.get .CL_ENABLE 1 = 1 ∧
      s.get .CL_RESETTING 1 = 0 ∧ s.slotFree 1 = true ∧ s.thermal = none ∧ s.linkClosed = false ∧ full.slotFree 1 = false ∧
      (flushWalk [] (s.coveredWords 1)).2.2 = true ∧
      (flushWalk [0x00640000#32] (s.coveredWords 1)).2.2 = false := by
  unfold State.HostOpen; decide +kernel

theorem wit_RingRegistersComplete :
    let off := base.set .CL_ENABLE 1 0
    let busy := base.set .CL_INFLIGHT 1 3
    let rings := fun s : State => s.get .CL_CMD_BASE 1 % 4096 = 0 ∧ s.get .CL_CPL_BASE 1 % 4096 = 0 ∧ 10 ≤ s.get .CL_CMD_LOG2 1 ∧
      s.get .CL_CMD_LOG2 1 ≤ 20 ∧ 6 ≤ s.get .CL_CPL_LOG2 1 ∧ s.get .CL_CPL_LOG2 1 ≤ 16
    let bad := off.set .CL_CMD_LOG2 1 9
    let ring := setAll [(.META_LOG2, 1, 10), (.META_HEAD, 1, 5)] base
    let evu := setAll [(.EVU_RING_LOG2, 0, 6), (.EVU_RING_HEAD, 0, 5)] base
    (off.HostOpen ∧ off.writable 0x80011C = true ∧ rings off ∧ off.get .CL_ENABLE 1 = 0 ∧ ¬rings bad ∧ bad.writable 0x80011C = true) ∧
    (base.writable 0x80011C = true ∧ base.get .CL_INFLIGHT 1 = 0 ∧ base.get .CL_FLUSHING 1 = 0 ∧ busy.get .CL_ENABLE 1 = 1 ∧
      busy.get .CL_INFLIGHT 1 ≠ 0) ∧
    (ring.HostOpen ∧ ring.writable 0x800194 = true ∧ Num.sub32 5 3 ≤ 2 ^ ring.get .META_LOG2 1 ∧ ¬Num.sub32 5 6 ≤ 2 ^ ring.get .META_LOG2 1 ∧ ring.fenced = false ∧ (ring.set .ROLE 0 1).fenced = true) ∧
    (base.HostOpen ∧ base.writable 0x10008 = true ∧ evu.get .EVU_RING_EN = 0 ∧ 6 ≤ evu.get .EVU_RING_LOG2 ∧
      evu.get .EVU_RING_LOG2 ≤ 12 ∧ evu.get .EVU_RING_BASE % 4096 = 0 ∧ ¬6 ≤ base.get .EVU_RING_LOG2) ∧
    let on := evu.set .EVU_RING_EN 0 1
    on.HostOpen ∧ on.writable 0x10020 = true ∧ on.get .EVU_RING_EN = 1 ∧ Num.sub32 (on.get .EVU_RING_HEAD) 2 ≤ 64 ∧
      ¬Num.sub32 (on.get .EVU_RING_HEAD) 6 ≤ 64 ∧ base.writable 0x10010 = true := by unfold State.HostOpen; decide +kernel

theorem wit_CompletionFenceRule :
    let s := fenced5 base
    let held := setAll [(.CL_CPL_FENCE, 1, 5), (.CL_CPL_FENCE_VALID, 1, 1)] s
    let p := begun (pk 1 0x00 [])
    (s.HostOpen ∧ s.writable 0x800148 = true ∧ Tab.find? 5 s.fences = some ⟨1, 77, 12⟩ ∧ Tab.find? 6 s.fences = none) ∧
    (Tab.find? 5 held.fences = some ⟨1, 77, 12⟩ ∧ held.get .CL_CPL_FENCE 1 = 5) ∧
    (put p s).pkt? 0 = some p ∧ (put p s).get .CL_CPL_FENCE_VALID 1 = 0 := by unfold State.HostOpen; decide +kernel

theorem wit_RegisterWritesComplete :
    let m := setAll [(.MS_SIDE, 0, 1)] (withStream { stream0 [] with mirror := some mirror0 } base)
    (base.HostOpen ∧ ∀ e ∈ enables, base.writable e.1 = true) ∧
    (base.barsReached = true ∧ { base with mse := false }.barsReached = true ∧ { base with mse := false }.barsOpen = false ∧
      base.barsOpen = true ∧ (base.set .DS_STATE 0 1).writable 0x40000 = false ∧ (base.set .DS_STATE 0 1).barsOpen = true) ∧
    (base.writable 0x30400 = true ∧ base.writable 0x104 = true ∧ base.writable 0x110 = true) ∧
    (m.HostOpen ∧ m.writable 0x91000 = true ∧ m.get .MS_SIDE 0 = 1 ∧ (m.stream? 0).bind Stream.mirror = some mirror0) ∧
    base.writable 0xC0000 = true ∧ base.objects = [] ∧ base.loads = [] ∧ base.streams = [] ∧ base.get .SOOT_SCRUB_BUSY = 0 ∧
      1 ≤ base.get .CLEAN_EIGHTHS := by unfold State.HostOpen; decide +kernel

theorem wit_RegisterReadsComplete :
    let held := { base with shadowOwner := some 0x10000, shadowWord := some 7 }
    (base.HostOpen ∧ isHigh 0x10000 = false ∧ isLow 0x10000 = true ∧ isHigh 0x10004 = true ∧ held.HostOpen ∧
      held.shadowOwner = some (0x10004 - 4) ∧ base.shadowWord = none) ∧
    ({ base with mse := false }.barsReached = true ∧ { base with mse := false }.barsOpen = false ∧
      ∃ r ∈ rowsAt 0x10024, r.1.acc = .rc) ∧
    ({ base with cfg.ecrcCheck := true }.barsReached = true ∧ { base with cfg.ecrcCheck := true }.cfg.ecrcCheck = true) := by
  unfold State.HostOpen; decide +kernel

theorem wit_ConfigurationWritesComplete :
    let p := { base with msixPba := [(3, ())] }
    let down := { base with d3hot := true }
    (base.cfgReached = true ∧ base.barsOpen = true ∧ p.cfgReached = true ∧ (Tab.find? 3 p.msixPba).isSome = true ∧ base.d3hot = false ∧
      base.isReady = true ∧ base.thermal = none ∧ base.mayDoze = true ∧ base.power < 2 ∧ base.waking = none ∧ base.powerReq = none) ∧
    down.cfgReached = true ∧ down.d3hot = true ∧ down.power < 2 ∧ (setAll [(.ROLE, 0, 0)] base).mayDoze = false := by decide +kernel

/-! ## Witnesses: the Wren link -/

/-- `base` in a full training, in state `ph` of it. -/
def training (ph : Nat) (win : Option Nat) (set : Option (Nat × Nat)) : State :=
  { base.set .WRN_LSTATE 0 ph with w.train := some ⟨true, ph, 0, none, win, none, set⟩ }

theorem wit_WrenTrainingAdvances :
    let w := training 5 (some 900) none
    let d := training 5 (some 900) (some (2, 0))
    let again := { d with w.again := true }
    ((training 3 none none).w.train = some ⟨true, 3, 0, none, none, none, none⟩ ∧ (training 3 none none).wrenOn = true) ∧
    ((training 4 none none).w.train = some ⟨true, 4, 0, none, none, none, none⟩ ∧ (training 4 none none).wrenOn = true) ∧
    (d.wrenOn = true ∧ d.w.train = some ⟨true, 5, 0, none, some 900, none, some (2, 0)⟩ ∧ reached (2, 0) 3 = some (2, 0) ∧
      d.w.leftData = none ∧ d.w.again = false ∧ d.w.held = none ∧ again.w.again = true ∧ again.w.train = d.w.train) ∧
    w.w.train = some ⟨true, 5, 0, none, some 900, none, none⟩ ∧ w.wrenOn = true ∧ 900 + 64 ≤ w.now ∧ w.get .WRN_LEADER = 0 ∧
      (w.set .WRN_LEADER 0 1).get .WRN_LEADER ≠ 0 := by decide +kernel

theorem wit_RetrainRequestsComplete :
    let auto := linked.set .WRN_AUTO_WIDTH 0 1
    (linked.inData = true ∧ linked.laneUsed 1 = true ∧ linked.get .WRN_AUTO_WIDTH ≠ 1 ∧ linked.w.train = none) ∧
    (auto.inData = true ∧ auto.laneUsed 1 = true ∧ auto.get .WRN_AUTO_WIDTH = 1 ∧ auto.get .WRN_LANE_ERR_LIMIT ≤ 64) ∧
    linked.HostOpen ∧ linked.writable 0x80004 = true ∧ 0x14000 / 2 % 4 = 0 ∧ (0x14000 : Nat).testBit 16 = true ∧
      0x4002 / 2 % 4 = 1 ∧ 0x4004 / 2 % 4 = 2 ∧ 0x4006 / 2 % 4 = 3 := by unfold State.HostOpen; decide +kernel

theorem wit_WrenLinkGoesDown :
    let retrain := at' 3000 (linked.set .WRN_LSTATE 0 7)
    let last := { keyed 0 with w.txSeq := 2 ^ 32 - 2 ^ 24 }
    let bad := { linked with w.badTags := 15 }
    (retrain.wrenOn = true ∧ retrain.wdgResetNow = false ∧ retrain.linkUp = true ∧ retrain.w.leftData = some 0 ∧ 0 + 2000 ≤ retrain.now) ∧
    (linked.wrenOn = true ∧ linked.wdgResetNow = false ∧ linked.inData = true ∧ linked.w.lastRx + 256 ≤ linked.now) ∧
    (last.wrenOn = true ∧ last.inData = true ∧ last.session = 2 ∧ last.w.rekey = false ∧ 2 ^ 32 - 2 ^ 24 ≤ last.w.txSeq ∧
      last.get .KEY_TRNG_FAIL ≠ 1 ∧ (last.set .KEY_TRNG_FAIL 0 1).get .KEY_TRNG_FAIL = 1) ∧
    linked.w.badTags + 1 < 16 ∧ bad.inData = true ∧ 16 ≤ bad.w.badTags + 1 := by decide +kernel

/-- An access unit of 512 bytes that waits, of which `sent` frames are sent, and its job. -/
def mau (sent : Nat) : Mau := { fseq := 101, no := 1, firstItem := 0, flags := 0, size := 512, sent := sent, addr := 2 ^ 35, job := 7 }

/-- A session that sends mirrors and epochs: an access unit and an epoch body wait. -/
def sending (run sent : Nat) : State :=
  { keyed 0 with
    w.maus := [(0, mau sent)], w.epochQ := [List.replicate 64 1#8], w.mirrorRun := run, jobs := [{ emptyJob with kind := .wren, id := 7, entry := true }] }

theorem wit_WrenSends :
    let c := { keyed 0 with w.ctrlQ := [(5, [])] }
    let t := at' 2048 ((keyed 0).set .WRN_LEADER 0 1)
    (c.canSend 0 = true ∧ c.w.ctrlQ = [(5, [])]) ∧
    (t.canSend 0 = true ∧ t.session = 2 ∧ t.get .WRN_LEADER = 1 ∧ t.now % 1024 = 0) ∧
    (∀ n ∈ [0, 1], (sending 0 n).w.ctrlQ = [] ∧ (sending 0 n).gateOpen = true ∧ (sending 0 n).nextMau = some (0, mau n) ∧
      (sending 0 n).w.mirrorRun < 15 ∧ (sending 0 n).canSend 1 = true ∧ (n + 1 = (mau n).size / 256 ↔ n = 1)) ∧
    ((sending 15 0).w.ctrlQ = [] ∧ (sending 15 0).gateOpen = true ∧ (sending 15 0).w.epochQ = [List.replicate 64 1#8] ∧
      15 ≤ (sending 15 0).w.mirrorRun ∧ (sending 15 0).canSend 2 = true) := by decide +kernel

/-- The gate closed over a waiting access unit that is sooted, and over an epoch body. -/
theorem wit_WrenSends_refused :
    let shut := { sending 0 0 with partner := none, w.epochQ := [], soot := [(2 ^ 35 / 64, 2 ^ 35 / 64 + 8)] }
    let epoch := { sending 0 0 with partner := none, w.maus := [] }
    (shut.w.ctrlQ = [] ∧ shut.gateOpen = false ∧ shut.inData = true ∧ shut.w.maus = [(0, mau 0)] ∧ shut.w.epochQ = [] ∧
      shut.sootIn ((mau 0).addr + 256 * 0) ((mau 0).addr + (mau 0).size) ≠ []) ∧
    epoch.gateOpen = false ∧ epoch.inData = true ∧ epoch.w.epochQ ≠ [] := by decide +kernel

theorem wit_WrenControlFramesReceived :
    let t := training 5 (some 900) none
    let sent := { keyed 0 with w.replay := [(5, 16, 3, [1])], w.txSeq := 6 }
    let pings := { linked with w.pings := [1, 2, 3, 4, 5, 6, 7] }
    let pairing := { linked with w.pair := some ([], false) }
    let rekeying := { keyed 0 with w.rekey := true }
    (t.wrenOn = true ∧ t.w.train = some ⟨true, 5, 0, none, some 900, none, none⟩ ∧ t.fuses.serial < 7 ∧
      (0x18 : Nat).testBit 3 = true ∧ 0x18 / 16 % 4 = 1 ∧ 0x18 % 4 ≠ 3 ∧ (0 : Nat) = t.fuses.serial) ∧
    (sent.inData = true ∧ (0x10800 : Nat).testBit 16 = true ∧ (acked 4 sent.w.txSeq sent.w.replay).length = 1) ∧
    ((keyed 0).inData = true ∧ (keyed 0).session = 2 ∧ (keyed 0).get .WRN_LEADER ≠ 1) ∧
    (linked.inData = true ∧ linked.w.pings.length < 7 ∧ pings.inData = true ∧ 7 ≤ pings.w.pings.length) ∧
    (pairing.inData = true ∧ pairing.w.pair = some ([], false)) ∧
    (rekeying.inData = true ∧ rekeying.session = 2 ∧ rekeying.w.rekey = true ∧ (keyed 0).w.rekey = false) ∧
    linked.w.train = none := by decide +kernel

theorem wit_MirrorAndEpochFramesComplete :
    let b : Bytes := [1#8, 0#8, 0#8, 0#8, 1#8] ++ List.replicate 59 0#8
    let standby := keyed 1
    let send := at' 200990 { withStream { stream0 [] with mirror := some mirror0 } (keyed 0) with w.epochOpen := true, w.snapWait := [0] }
    (standby.inData = true ∧ bodyOk b = true ∧ b.length = 64 ∧ standby.session = 2 ∧ standby.role = 1 ∧
      standby.mirroredHere 0 = false ∧ standby.w.eRx = none ∧ standby.w.rxSkip = none ∧ Num.u8 b 0 = 1 ∧ Num.u32 b 4 = 1 ∧
      1 = standby.w.applied + 1 ∧ 2 ≠ standby.w.applied + 1) ∧
    ((keyed 2).inData = true ∧ (keyed 2).session = 2 ∧ (keyed 2).role ≠ 1) ∧
    send.w.e = some (990, 1000) ∧ send.isReady = true ∧ send.sendsMirror = true ∧ 990 + 1000 ≤ send.now ∧
      send.w.epochOpen = true ∧ send.w.snapWait ≠ [] ∧ 990 + send.epochMs * 500 ≤ send.now := by decide +kernel

/-! ## Witnesses: the host link, resets, the boot, the board ports -/

theorem wit_HostLinkCompletes :
    let off := setAll [(.LINK_DL_UP, 0, 0)] base
    let lost := setAll [(.LINK_DOWN, 0, 1)] off
    let reading := copying (pk 0 0x70 [0x1000, 0, 192]) base
    (off.linkOn = true ∧ linkOk 5 8 = true ∧ off.get .LINK_DL_UP = 0 ∧ off.get .LINK_DOWN = 0 ∧ lost.linkOn = true ∧
      lost.get .LINK_DL_UP = 0 ∧ lost.get .LINK_DOWN = 1 ∧ lost.isReady = true) ∧
    base.linkOn = true ∧ base.get .LINK_DL_UP = 1 ∧ (base.inRank 8 0).treatment 8 = .apply ∧
      reading.linkOn = true ∧ reading.get .LINK_DL_UP = 1 ∧ (reading.inRank 8 0).treatment 8 = .apply ∧
      reading.reads = [⟨0, 1, 0x2000, 0⟩] ∧ (reading.pkt? 0).isSome = true := by decide +kernel

theorem wit_HostLinkCompletes_recovery :
    let auto := { setAll [(.LINK_AUTO_WIDTH, 0, 1)] base with cfg.widthDisable := false }
    let held := { setAll [(.LINK_LTSSM, 0, 4)] base with crossing := [.msix 3 0 0] }
    let offered := { held with offer := some 4 }
    (base.linkOn = true ∧ base.linkRuns = true ∧ base.held = false) ∧
    (held.linkOn = true ∧ held.linkRuns = true ∧ held.get .LINK_LTSSM = 4 ∧ held.held = true ∧ held.offer = none ∧
      offered.linkRuns = true ∧ offered.held = true ∧ offered.offer = some 4 ∧ linkOk 5 8 = true) ∧
    auto.linkOn = true ∧ auto.linkRuns = true ∧ auto.get .LINK_AUTO_WIDTH = 1 ∧ auto.cfg.widthDisable = false ∧
      auto.get .LINK_LANE_ERR_LIMIT ≤ 16 ∧ 1 < auto.get .LINK_WIDTH := by decide +kernel

theorem wit_FunctionLevelResetCompletes :
    let s := withStream (stream0 [frame0 .held]) (withModel base)
    let starting := base.set .DS_STATE 0 3
    let e := (base.set .DS_STATE 0 6)
    (s.get .LINK_DL_UP = 1 ∧ s.get .LINK_DOWN = 0 ∧ s.held = false ∧ s.pwrok = true ∧ s.perstN = true ∧ s.bayrstN = true ∧
      s.isReady = true ∧ s.mse = true ∧ s.d3hot = false ∧ 0xC0DE0001 / 65536 % 65536 = 0xC0DE ∧ (0xC0DE0001 : Nat).testBit 0 = true ∧
      ∀ o ∈ s.objects, o.2.handle % 65536 = o.1) ∧
    (starting.isReady = false ∧ starting.get .LINK_DL_UP = 1 ∧ starting.held = false) ∧
    { e with flr := some true }.flr = some true ∧ e.dev = 6 ∧ e.get .LINK_DL_UP = 1 ∧ { base with flr := some false }.dev ≠ 6 := by
  decide +kernel

theorem wit_BootResetsComplete :
    let off := { base with pwrok := false, boot := .inReset }
    let held := { base with boot := .inReset }
    let trip := { base with thermal := some 900 }
    let frozen := (at' 901 trip).set .EVU_TICK_STOPPED 0 1
    (base.outOfRank 8 0 = false ∧ base.tamperWait = [] ∧ { base with tamperWait := [1] }.tamperWait ≠ [] ∧ base.get .LINK_DL_UP = 1 ∧
      frozen.thermal = some 900 ∧ frozen.get .EVU_TICK_STOPPED = 1 ∧ frozen.pwrdnReq = false) ∧
    (base.pwrok = true ∧ State.reset.aonValid = true ∧ { off with aonValid := false }.aonValid = false ∧ off.pwrok = false ∧
      off.aonValid = true) ∧
    (held.pwrok = true ∧ held.aonValid = true ∧ held.boot = .inReset ∧ held.pwrdnReq = false) ∧
    (base.bayrstN = true ∧ base.perstN = true ∧ base.boot ≠ .inReset ∧ base.pwrdnReq = false) ∧
    (base.HostOpen ∧ 0xC0DE0001 / 65536 = 0xC0DE ∧ (0xC0DE0001 : Nat).testBit 0 = true ∧ (0 : Nat) / 65536 ≠ 0xC0DE) ∧
    trip.thermal = some 900 ∧ 900 + 16 ≤ trip.now ∧ trip.pwrdnReq = false := by unfold State.HostOpen; decide +kernel

/-- `base` while the boot ROM is at `b`, and what a good step finds. -/
def booting (b : Boot) : State := { base.set .DS_STATE 0 2 with boot := b }

def goodStep : BootOutcome := ⟨true, true, true, true, true, List.replicate 16 8533, true, []⟩

theorem wit_BootStepsComplete :
    let bad := { booting (.step 1) with fuses.rootFault := true }
    (∀ b ∈ [Boot.sramZero, .step 1, .step 2, .step 4, .step 5, .step 6], (booting b).booting = true ∧ (booting b).boot = b) ∧
    (bad.booting = true ∧ bad.fuses.rootFault = true ∧ (booting (.step 1)).fuses.rootFault = false) ∧
    ((booting (.step 3)).booting = true ∧
      (((booting (.step 3)).fuseCompletion true).chooseImage fun k => if k == 0 then true else true).2 = some (0, false) ∧
      (((booting (.step 3)).fuseCompletion true).chooseImage fun _ => false).2 = none) ∧
    goodStep.rates.length = 16 ∧ goodStep.rates.all rateOk = true ∧ firstFailing goodStep.rates = none ∧
      firstFailing (0 :: List.replicate 15 8533) = some 0 := by decide +kernel

theorem wit_BoardPortsComplete_lines :
    let lab := { base.set .DBG_STATE 0 2 with tileSoot := [(5, 6)], stagingSoot := [(9, 10)] }
    lab.aonValid = true ∧ lab.boot ≠ .inReset ∧ lab.jtagGrants 2 = true ∧ lab.tileLine 5 = true ∧ 5 < 16 * sliceLines ∧
      lab.stagingLine 9 = true ∧ 9 < Config.pageSlots * slotLines := by decide +kernel

theorem wit_BoardPortsComplete :
    let lab := base.set .DBG_STATE 0 2
    (base.strapAddr = 0 ∧ base.boot ≠ .inReset ∧ base.boot ≠ .sramZero ∧ State.reset.boot = .inReset) ∧
    (base.aonValid = true ∧ ∀ b ∈ List.range 8, base.jtagGrants b = false) ∧
    lab.aonValid = true ∧ lab.boot ≠ .inReset ∧ lab.jtagGrants 0 = true ∧ lab.jtagGrants 2 = true ∧ 0x10000 + 64 ≤ lab.dramBytes ∧
      (lab.set .DS_STATE 0 3).writable 0x40000 = false ∧ lab.get .DBG_CORES_HALTED = 0 := by decide +kernel

/-! ## Witnesses: faults, supplies, watchdogs, sessions, the bay, the tick -/

theorem wit_HardwareFaultsComplete :
    let fault := base.set .DS_STATE 0 7
    let armed := base.set .SEC_TAMPER_EN 0 1
    (∀ id ∈ List.range 23, base.clockArmed id = true ∧ base.clockIsLost id = false) ∧
    (base.staleWritten = false ∧ base.isFault = false ∧ (base.inRank 1 0).treatment 8 = .apply ∧ (base.inRank 1 5).treatment 1 = .apply ∧
      fault.isFault = true ∧ fault.clockArmed 5 = true) ∧
    (base.pwrok = true ∧ base.aonValid = true ∧ (base.inRank 2 0).treatment 2 = .apply ∧ base.thermal = none) ∧
    (let expired := { armed with captured := [⟨1000, 5, 1, 3, 0, 0⟩] }
     expired.aonValid = true ∧ (expired.inRank 3 0).treatment 3 = .defer) ∧
    armed.aonValid = true ∧ (armed.get .SEC_TAMPER_EN).testBit 0 = true ∧ (armed.inRank 3 0).treatment 3 = .apply ∧ armed.isReady = true ∧
      armed.power < 2 ∧ armed.powerReq = none ∧ armed.get .CL_ENABLE 1 = 1 ∧ base.boot ≠ .inReset := by decide +kernel

theorem wit_SupplyAndAgeingComplete_supply :
    let warned := setAll [(.HLT_GOV_HELD, 0, 1), (.HLT_WARN_RAILS, 0, 4)] base
    let clear := at' 1000900 { setAll [(.HLT_GOV_HELD, 0, 1)] base with hlt.warnSince := some 900 }
    let late := at' 1048576 base
    (base.avsOn = true ∧ base.get .HLT_AVS_FAULT = 0 ∧ (base.get .HLT_WARN_RAILS).testBit 1 = false ∧ base.outOfBand 1 600 = true ∧
      base.wdgResetNow = false ∧ (base.inRank 6 1).treatment 6 = .apply ∧ base.warned = false) ∧
    (warned.warned = true ∧ (warned.get .HLT_WARN_RAILS).testBit 2 = true) ∧
    (clear.hlt.warnSince = some 900 ∧ clear.warned = true ∧ 900 + 1000000 ≤ clear.now) ∧
    (base.hlt.avsLast + 10 ≤ base.now ∧ Num.toSigned 8 (base.get .HLT_OFFSET) < 10 ∧ -10 < Num.toSigned 8 (base.get .HLT_OFFSET) ∧
      late.get .HLT_OFFSET = base.get .HLT_OFFSET) ∧
    late.boot = .done ∧ late.hlt.start + 1048576 ≤ late.now ∧ s8 40 = true ∧ late.warned = false ∧ base.enginesRun = true := by
  decide +kernel

theorem wit_SupplyAndAgeingComplete_ageing :
    let steps : List Int := [1, -1, 0, 0, 1, -1]
    (linked.inData = true ∧ linked.laneUsed 0 = true ∧ Tab.getD 0 0 linked.hlt.eqNext ≤ linked.now ∧
      Tab.getD 0 0 linked.hlt.eyeNext ≤ linked.now ∧ steps.length = 6 ∧ (∀ d ∈ steps, -1 ≤ d ∧ d ≤ 1) ∧
      0 ≤ (linked.get .WEQ_CTLE 0 : Int) + steps.getD 0 0 ∧ (linked.get .WEQ_CTLE 0 : Int) + steps.getD 0 0 ≤ 15 ∧
      ∀ n, n < 5 → -31 ≤ linked.tap 0 n + steps.getD (n + 1) 0 ∧ linked.tap 0 n + steps.getD (n + 1) 0 ≤ 31) ∧
    base.isReady = true ∧ base.power < 2 ∧ base.thermal = none ∧ [0, 1, 2, 3, 4, 5].length = 6 ∧ base.hlt.ageNext ≤ base.now := by
  decide +kernel

theorem wit_WatchdogCheckinRule :
    let s := setAll [(.WDG_ENABLE, 0, 2 ^ 15 + 1), (.WDG_RUNNING, 0, 1)] base
    let again := setAll [(.WDG_CHECKED, 0, 2 ^ 15 + 1), (.WDG_OPEN, 0, 1)] s
    let part := setAll [(.WDG_CHECKED, 0, 2 ^ 15)] s
    (s.HostOpen ∧ s.writable 0x5000C = true ∧ s.coresRun = true ∧ s.clockIsLost (blockClock 0x50000) = false) ∧
    (0xA50F / 65536 = 0 ∧ 0xA50F / 256 % 256 = 0xA5 ∧ 0xA50F / 16 % 16 = 0 ∧ (s.get .WDG_ENABLE 0).testBit (0xA50F % 16) = true ∧
      slotOwned 0 (0xA50F % 16) true = true ∧ slotOwned 0 0 false = true) ∧
    (again.get .WDG_CHECKED 0).testBit 15 = true ∧ again.get .WDG_OPEN 0 = 1 ∧ again.HostOpen ∧ slotOwned 0 0 true = false ∧
    (part.get .WDG_CHECKED 0).testBit 15 = true ∧ part.get .WDG_ENABLE 0 &&& part.get .WDG_CHECKED 0 ≠ part.get .WDG_ENABLE 0 ∧
    part.HostOpen ∧ part.writable 0x5000C = true := by
  unfold State.HostOpen; decide +kernel

theorem wit_WatchdogsComplete :
    let run := fun (w checked : Nat) => at' 9000000 { setAll [(.WDG_RUNNING, w, 1), (.WDG_PERIOD, w, 5), (.WDG_PREWARN, w, 2),
      (.WDG_ENABLE, w, 3), (.WDG_CHECKED, w, checked)] base with wdg.start := [(w, 8000000)] }
    let soon := { run 1 0 with wdg.restarted := some 8000000 }
    let back := at' 9000000 { setAll [(.WDG_RESTARTING, 1, 1)] base with wdg.restart := some 8000000 }
    (base.coresRun = true ∧ base.clockIsLost (blockClock 0x50100) = false ∧ (base.set .WDG_OPEN 1 1).get .WDG_OPEN 1 ≠ 0 ∧
      (base.set .WDG_OPEN 1 1).coresRun = true ∧ base.get .WDG_OPEN 1 = 0) ∧
    ((base.set .WDG_OPEN 0 1).HostOpen ∧ (base.set .WDG_OPEN 0 1).writable 0x50004 = true ∧
      (base.set .WDG_OPEN 0 1).writable 0x50008 = true ∧ (base.set .WDG_OPEN 0 1).get .WDG_OPEN 0 ≠ 0) ∧
    (∀ w ∈ [0, 1], ∀ c ∈ [0, 3], (run w c).wdgRuns w = some 8000000 ∧ (run w c).wdgCounts w = true ∧
      8000000 + (run w c).get .WDG_PERIOD w * 1000 ≤ (run w c).now ∧
      (Num.clearBits ((run w c).wdgAsked w) ((run w c).get .WDG_CHECKED w) = 0 ↔ c = 3) ∧ ((run w c).inRank 5 w).treatment 5 = .apply ∧
      (run w c).get .WDG_PREWARN w ≠ 0 ∧ (run w c).get .WDG_OPEN w = 0 ∧ (run w c).get .WDG_PREWARNED w = 0 ∧
      (run w c).wdg.restarted = none) ∧
    (let stopped := (at' 8000001 (run 0 0)).set .EVU_TICK_STOPPED 0 1
     stopped.wdgRuns 0 = some 8000000 ∧ stopped.wdgCounts 0 = true ∧ stopped.get .EVU_TICK_STOPPED = 1) ∧
    (soon.wdgRuns 1 = some 8000000 ∧ soon.wdgCounts 1 = true ∧ (soon.inRank 5 1).treatment 5 = .apply ∧
      soon.wdg.restarted = some 8000000 ∧ (soon.inRank 5 1).now ≤ 8000000 + 10000000) ∧
    back.wdg.restart = some 8000000 ∧ 8000000 + 20000 ≤ back.now := by unfold State.HostOpen; decide +kernel

theorem wit_SessionsAndTrialEnd :
    let s := setAll [(.DBG_SESSION, 0, 1), (.DBG_PORT_OPEN, 0, 1), (.DBG_SCOPE, 0, 7), (.DBG_STATE, 0, 1), (.SEC_DBG_EXPIRY, 0, 900)] base
    let armed := { s with labArm := some 990 }
    let trial := { base with fw.upState := 5, fw.trial := true, fw.trialEnd := some 900 }
    (s.get .DBG_SESSION = 1 ∧ s.get .SEC_DBG_EXPIRY ≤ s.now ∧ s.HostOpen ∧ s.writable 0x30038 = true ∧ s.writable 0x3004C = true ∧
      s.get .DBG_PORT_OPEN = 1 ∧ (s.get .DBG_SCOPE).testBit 2 = true ∧ s.labArm = none) ∧
    (0xC1050001 / 65536 = 0xC105 ∧ (0xC1050001 : Nat).testBit 0 = true ∧ 0xC1050001 < 2 ^ 32) ∧
    (armed.labArm = some 990 ∧ armed.HostOpen ∧ armed.writable 0x3004C = true ∧ armed.now ≤ 990 + 1000000) ∧
    (base.labArm = none ∧ base.get .DBG_SESSION ≠ 1) ∧
    trial.fw.trialEnd = some 900 ∧ trial.winner.isSome = true ∧ trial.coresRun = true ∧ 900 < trial.now := by
  unfold State.HostOpen; decide +kernel

theorem wit_BayEventsComplete :
    let on := { base with bay.settled := [0, 1, 2] }
    let waits := fun (kind pgood : Nat) => at' 5000000 { setAll [(.BAY_PGOOD, 0, pgood), (.BAY_DRIVEN, 0, 1)] base with bay.wait := some (kind, 1000) }
    let pulse := at' 20000 { base with bay.pulse := some 1000 }
    let blink := at' 600000 (base.set .BAY_LED 0 2)
    (base.aonValid = true ∧ base.bay.settled.contains 0 = false ∧ on.bay.settled.contains 0 = true ∧ on.bayLevel 0 ≠ Num.b2n true ∧
      on.bayLevel 2 ≠ Num.b2n true ∧ (on.inRank 9 0).treatment 9 = .apply ∧ (on.inRank 9 0).sameTick 9 = false) ∧
    (∀ k ∈ [1, 2, 3, 4], ∀ g ∈ [0, 1], (waits k g).bay.wait = some (k, 1000) ∧ 1000 + (waits k g).pgoodTicks ≤ (waits k g).now ∧
      1000 + 100000 ≤ (waits k g).now ∧ (waits k g).get .BAY_PGOOD = g) ∧
    (pulse.bay.pulse = some 1000 ∧ 1000 + 10000 ≤ pulse.now ∧ pulse.slot ≠ 3 ∧ (pulse.set .BAY_SLOT_STATE 0 3).slot = 3) ∧
    (let up := setAll [(.BAY_SLOT_STATE, 0, 2)] { base with bay.settled := [1], bay.wait := some (1, 900) }
     up.bay.settled.contains 1 = true ∧ up.get .BAY_PGOOD = 0 ∧ up.slot = 2 ∧ up.bay.wait = some (1, 900) ∧ up.aonValid = true) ∧
    blink.get .BAY_LED = 2 ∧ blink.bay.ledTick + 500000 ≤ blink.now := by decide +kernel

theorem wit_TickAndEventGroupComplete :
    let ev : Ev := ⟨900, 6, 1, 600, 0, 0⟩
    let ring := fun (h : Nat) => { setAll [(.EVU_RING_EN, 0, 1), (.EVU_RING_LOG2, 0, 6), (.EVU_RING_HEAD, 0, h), (.EVU_IRQ_EN, 0, 1)]
      base with captured := [ev], readyAt := some 800 }
    let n := fun (s : State) => ((List.range 13).filterMap fun c =>
      detailWords (s.captured.filter fun e => e.tick == 900) (c + 1) (Num.wrap32 (s.get .EVU_SEQ + 1)) 900).length + 1
    let q := { base with breachQueue := [[1, 2, 3, 4, 5, 6, 7, 8]] }
    (base.aonValid = true ∧ base.get .EVU_TICK_STOPPED = 0 ∧ base.clockIsLost 21 = false) ∧
    ((ring 0).groupStamp = some 900 ∧ 900 < (ring 0).now ∧ (ring 0).get .EVU_RING_EN = 1 ∧ (ring 0).sinceReady 900 = true ∧
      (ring 0).groupPath = true ∧ n (ring 0) ≤ (ring 0).evuFree ∧ (ring 0).get .EVU_IRQ_EN = 1) ∧
    ((ring 63).groupStamp = some 900 ∧ (ring 63).evuFree < n (ring 63)) ∧
    ({ base with captured := [ev] }.groupStamp = some 900 ∧ base.get .EVU_RING_EN ≠ 1 ∧
      { ring 0 with readyAt := some 950 }.groupStamp = some 900 ∧ { ring 0 with readyAt := some 950 }.sinceReady 900 = false) ∧
    q.breachQueue = [[1, 2, 3, 4, 5, 6, 7, 8]] ∧ q.coresRun = true := by decide +kernel

/-! ## Witnesses: the frame path, jobs, units, DRAM, admission -/

def jobOf (kind : JobKind) (unit : Option UnitName) : Job :=
  { emptyJob with kind := kind, cls := 0, stream := 0, fseq := 100, deadline := some 5000, entry := true, unit := unit, obj := 65537 }

def onPath (ph : Phase) (js : List Job) : State := { withStream (stream0 [frame0 ph]) base with jobs := js }

/-- The headers of a 64 by 64 H.264 picture, and the outcome of a decode that finds nothing wrong with it. -/
def goodHeader : Header := ⟨64, 64, 1, 8, 64, 64, 1, .h264 100 false false false 40 true⟩

def goodPicture : DecodeOutcome := ⟨⟨true, true, false, some goodHeader⟩, 0, 0, 16, false, true, false, [100]⟩

def badSets : DecodeOutcome := { goodPicture with au := { goodPicture.au with paramSetErr := true } }

/-- A decode by engine 0, and its frame as the engine took it. -/
def taken0 : Frame := frame0 (.decoding 0)

def decoding0 : State := at' 9000 (setAll [(.DEC_BUSY, 0, 1)] { withStream (stream0 [taken0]) base with jobs := [jobOf .decode (some (.dec 0))] })

theorem wit_DecodeCompletes_start :
    let s := onPath .held []
    s.enginesRun = true ∧ s.stream? 0 = some (stream0 [frame0 .held]) ∧ s.nextEngine = some 0 ∧ s.nextDecode = some 0 ∧
      (stream0 [frame0 .held]).nextAu = some (frame0 .held) := by decide +kernel

theorem wit_DecodeCompletes :
    let d := decoding0
    let st := stream0 [taken0]
    let u := st.asTaken taken0
    (d.enginesRun = true ∧ d.stream? 0 = some st ∧ d.inDecode 0 = some (0, st, taken0) ∧ d.get .DEC_IN_SERVICE 0 = 1 ∧
      st.frame? 100 = some taken0 ∧ taken0.isDrop = false ∧ st.decimated = false) ∧
    (goodPicture.au.fits st.codec = true ∧ (verdict u false goodPicture).decoded = true ∧ (verdict u false goodPicture).deliver = true ∧
      u.changes goodPicture.au = false ∧ { u with hdrSeen := true }.changes goodPicture.au = true ∧ u.shows goodPicture.au = true ∧ u.active goodPicture.au = some goodHeader ∧
      (∀ c ∈ pipe0.crops, c.valid 64 64 = true)) ∧
    (badSets.au.fits st.codec = true ∧ (verdict u false badSets).errs = [0x0105] ∧ (verdict u false badSets).shown = none ∧
      (verdict u false badSets).deliver = false ∧ (verdict u false badSets).decoded = false) ∧
    u.takes goodPicture.au = true ∧
    ∃ j ∈ d.jobs, j.unit = some (.dec 0) ∧ j.since + 4 * Num.cdiv (codedBound st.codec st.maxW st.maxH) 500 ≤ d.now := by
  decide +kernel

/-- A refused access unit of which a code is shown and not counted (R225). -/
theorem wit_DecodeCompletes_shown :
    let u := { stream0 [] with hold := true }.asTaken { taken0 with inHold := true }
    let out := { goodPicture with au := { goodPicture.au with header := some { goodHeader with depth := 9 } } }
    out.au.fits 0 = true ∧ (verdict u false out).shown.isSome = true := by decide +kernel

/-- A frame that the pre-processor builds into the batch buffer 0. -/
def buildJob : Job := { jobOf .preproc none with batch := some 0, soot := true }

theorem wit_PreprocessorCompletes :
    let s := onPath .decoded []
    let b := onPath .building [buildJob]
    let dropped := { withStream (stream0 [{ frame0 .building with isDrop := true }]) base with jobs := [buildJob] }
    let poisoned := { withStream { stream0 [frame0 .building] with fbOf := [(100, 0)] } base with
      jobs := [buildJob], poison := [(2 ^ 34 + 65536, ())] }
    let mir := at' 9000000 { s with jobs := [{ jobOf .mirror none with stream := 0, fseq := 100, mode := 0, deadline := some 10 }] }
    (s.enginesRun = true ∧ s.nextBuild = some 0 ∧ s.readyFrame 0 (stream0 [frame0 .decoded]) = some (frame0 .decoded) ∧ s.ppFree = true) ∧
    (b.inBuild = some (0, stream0 [frame0 .building], frame0 .building) ∧
      (stream0 [frame0 .building]).frame? 100 = some (frame0 .building) ∧ (frame0 .building).isDrop = false ∧
      (stream0 [frame0 .building]).pipe = some pipe0 ∧ dropped.inBuild.isSome = true ∧
      b.poisonIn ((stream0 [frame0 .building]).sourceOf (frame0 .building)) = false) ∧
    (poisoned.inBuild.isSome = true ∧
      poisoned.poisonIn ({ stream0 [frame0 .building] with fbOf := [(100, 0)] }.sourceOf (frame0 .building)) = true ∧
      (frame0 .building).rolled = false) ∧
    mir.enginesRun = true ∧ mir.lateMirror 0 100 ≠ [] := by decide +kernel

/-- Deadlines that pass before the decode, before the build, in it, in the queue and before the pass. -/
theorem wit_PreprocessorCompletes_late :
    ∀ ph ∈ [Phase.held, .decoded, .building, .decoding 0, .queued, .tracked],
      let late := at' 9000000 (onPath ph [jobOf .array none])
      late.enginesRun = true ∧ late.lateMirror 0 100 = [] ∧ (frame0 ph).da < late.now ∧ (frame0 ph).isDrop = false ∧
        (stream0 [frame0 ph]).frame? 100 = some (frame0 ph) ∧ (stream0 [frame0 ph]).pass = none ∧
        ∃ j ∈ late.jobs, j.stream = 0 ∧ j.fseq = 100 ∧ j.unit = none ∧ j.ofMirror = false := by decide +kernel

/-- The frame of a queued batch with an activation set, and a state with `js`. -/
def queued0 (js : List Job) : State :=
  { withModel (withStream (stream0 [{ frame0 .queued with actSet := some 0 }]) base) with jobs := js }

theorem wit_JobsComplete :
    let paged := { jobOf .array none with pages := [0, 1] }
    let waiting := { base with jobs := [{ jobOf .array none with entry := false }] }
    let stage := queued0 [paged]
    let staging := { stage with staging := some 0 }
    let slots := { base with
      pageSlots := [(65536, (3, 1))], jobs := [{ paged with pages := [0], unit := some (.array 0), slice := some 0, work := 4096 }] }
    (waiting.isReady = true ∧ waiting.nextGrant = some { jobOf .array none with entry := false }) ∧
    (stage.enginesRun = true ∧ stage.nextStage = some paged ∧ stage.staging = none ∧
      (stage.evict (paged.pages.map (pageKey paged.obj)) (stage.missing paged).length stage.pageSlots.length).isSome = true) ∧
    (staging.staging = some 0 ∧ staging.job? 0 = some paged ∧ staging.obj? paged.obj = some model0) ∧
    (slots.enginesRun = true ∧ slots.pageSlots.find? (fun e => e.2.1 == 3) = some (65536, (3, 1)) ∧ 3 < Config.pageSlots) ∧
    (∃ j, slots.jobOn (.array 0) = some j ∧ j.slice = some 0 ∧ 63 < Num.cdiv j.work 64) := by
  refine ⟨by decide +kernel, by decide +kernel, by decide +kernel, by decide +kernel, _, rfl, rfl, by decide +kernel⟩

theorem wit_JobsComplete_units :
    let run := queued0 [jobOf .array none]
    let busy := queued0 [jobOf .array (some (.array 0))]
    let cl := queued0 [jobOf .cluster (some (.cluster 0))]
    let enc := { queued0 [{ jobOf .mirror none with stream := 0, outs := [.dram (2 ^ 35) 64] }] with soot := [] }
    let sooted := { queued0 [{ jobOf .array (some (.array 0)) with ins := [.dram (2 ^ 35) 64], outs := [.dram (2 ^ 36) 64] }] with
      soot := [(2 ^ 35 / 64, 2 ^ 35 / 64 + 1)] }
    (run.enginesRun = true ∧ run.nextIssue (.array 0) = some (jobOf .array none) ∧ run.unitFree (.array 0) = true) ∧
    (run.nextIssue (.array 0)).isSome = true ∧ (enc.nextIssue (.menc 0)).isSome = true ∧ enc.unitFree (.menc 0) = true ∧
    ((queued0 [jobOf .cluster none]).nextIssue (.cluster 0)).isSome = true ∧ (queued0 [jobOf .cluster none]).unitFree (.cluster 0) = true ∧
    (busy.jobOn (.array 0) = some (jobOf .array (some (.array 0))) ∧ (jobOf .array none).ofMirror = false) ∧
    (cl.jobOn (.cluster 0)).isSome = true ∧
    (∃ j, sooted.jobOn (.array 0) = some j ∧ sooted.sootRead j = true ∧ j.writes ≠ []) := by
  refine ⟨by decide +kernel, by decide +kernel, by decide +kernel, by decide +kernel, by decide +kernel, by decide +kernel,
    by decide +kernel, by decide +kernel, _, rfl, by decide +kernel⟩

theorem wit_UnitFaultsComplete :
    let test := { setAll [(.DEC_SELFTEST, 3, 1)] base with laneTests := [2] }
    let hung := { decoding0 with jobs := [{ jobOf .decode (some (.dec 0)) with since := 1000 }] }
    let twice := { at' 9000 (withStream (stream0 [{ taken0 with hung := some 1 }]) base) with
      jobs := [{ jobOf .decode (some (.dec 0)) with since := 1000 }] }
    (base.isReady = true ∧ base.get .DEC_IN_SERVICE 7 = 1 ∧ base.inDecode 7 = none ∧ base.computeUnit (.array 1) = true ∧
      base.computeUnit (.cluster 7) = true ∧ base.computeUnit .fft = true ∧ (base.get .TRE_LANE_OUT).testBit 15 = false ∧
      base.get .MENC_IN_SERVICE 1 = 1 ∧ base.jobs = [] ∧ base.jobOn (.menc 1) = none) ∧
    (hung.isReady = true ∧ hung.decHung 0 = true ∧ hung.get .DEC_IN_SERVICE 0 = 1 ∧
      hung.inDecode 0 = some (0, stream0 [taken0], taken0) ∧ taken0.hungBefore 2 = none ∧ goodPicture.au.fits (stream0 []).codec = true) ∧
    (twice.isReady = true ∧ twice.decHung 0 = true ∧ twice.inDecode 0 = some (0, stream0 [{ taken0 with hung := some 1 }],
      { taken0 with hung := some 1 }) ∧ { taken0 with hung := some 1 }.hungBefore 2 = some 1) ∧
    test.isReady = true ∧ test.inSelftest (.dec 3) = true ∧ (unitRegs (.dec 3)).isSome = true ∧ test.inSelftest (.lane 2) = true := by
  decide +kernel

def flueJob : Job := jobOf .flue none

theorem wit_FluePassAndFenceComplete :
    let s := onPath .tracked [flueJob]
    let f := setAll [(.ROLE, 0, 1)] s
    let going := { withStream { stream0 [frame0 .tracked] with pass := some ⟨100, [(true, [1, 2, 3, 4, 5, 6, 7, 8])], true, false⟩ } base with
      jobs := [flueJob] }
    (s.enginesRun = true ∧ s.stream? 0 = some (stream0 [frame0 .tracked]) ∧ s.halfRecord 1 = false ∧
      s.passDue 0 (stream0 [frame0 .tracked]) (frame0 .tracked) = true ∧ s.fenced = false) ∧
    (going.enginesRun = true ∧ going.fenced = false ∧ going.halfRecord 1 = true ∧ (going.stream? 0).isSome = true) ∧
    f.enginesRun = true ∧ f.fenced = true ∧ (budgetCut 1 [(1, 2, 3, 4), (2, 3, 4, 5)]).2 = some 2 := by decide +kernel

theorem wit_DramChannelsComplete :
    let track := at' (65536 + 5 * 4096) (base.set .CH_RETRAIN_AT 5 40)
    let low := { track with ch.lowMargin := [(5, ())] }
    let fin := { setAll [(.CH_RETRAINING, 5, 1)] base with ch.retrains := [(5, 500)] }
    let last := { base with ch.patrol := [(5, base.dramBytes / 16 / 64 - 1)] }
    (base.channelUp 5 = true ∧ channelOf 0x5000 = 5 ∧ 0x5000 < base.dramBytes ∧ base.power = 0 ∧
      Tab.getD 0 5 base.ch.patrol + 1 < base.dramBytes / 16 / 64 ∧ last.dramBytes / 16 / 64 ≤ Tab.getD 0 5 last.ch.patrol + 1) ∧
    (track.channelUp 5 = true ∧ track.now % 65536 = 5 * 4096 ∧ track.get .CH_RETRAINING 5 = 0 ∧ track.get .CH_RETRAIN_AT 5 ≤ min 40 50 ∧
      min 39 50 < track.get .CH_RETRAIN_AT 5 ∧ Tab.find? 5 track.ch.lowMargin = none ∧ (Tab.find? 5 low.ch.lowMargin).isSome = true) ∧
    fin.channelUp 5 = true ∧ fin.get .CH_RETRAINING 5 = 1 ∧ Tab.find? 5 fin.ch.retrains = some 500 ∧ 500 + 400 ≤ fin.now ∧
      7500 ≤ fin.get .CH_RATE 5 ∧ (fin.inRank 10 5).treatment 10 = .apply ∧ fin.isFault = false := by decide +kernel

theorem wit_DramTemperatureTrips : base.channelUp 15 = true ∧ (-128 : Int) ≤ 115 ∧ (115 : Int) ≤ 127 := by decide +kernel

theorem wit_MemoryErrorsComplete :
    (base.channelUp 5 = true ∧ 0x10005000 < base.tagBase ∧ channelOf (0x10005000 / 64 * 64) = 5 ∧ channelOf 0x10005000 = 5 ∧
      ¬0x10005000 / 64 * 64 < coreData ∧ 0x5000 / 64 * 64 < coreData ∧ channelOf 0x5000 = 5 ∧ base.wdgResetNow = false ∧ (base.inRank 10 5).treatment 10 = .apply) ∧
    0 < (base.dramBytes / 16 - base.dramBytes / 16 / 512) / 32768 := by decide +kernel

theorem wit_AdmissionCompletes :
    let s := at' 5000 (onPath .held [])
    let more := setAll (perUnit [(.DEC_IN_SERVICE, 8, 0)]) s
    let shed := at' 1000900 { withStream { stream0 [] with shed := some 4 } base with degrade := [(4, 0)], undoSince := some 900 }
    (s.isReady = true ∧ s.thermal = none ∧ s.lastAdmission + 1024 ≤ s.now ∧ s.treatment 12 = .apply ∧ s.exceeded s.sums = none ∧
      ∀ e ∈ s.streams, s.noUnit e.2 = false ∨ e.2.shed.isSome = true) ∧
    (more.isReady = true ∧ (more.exceeded more.sums).isSome = true ∧ more.stepIn 1 = false ∧ more.treatment 12 = .apply) ∧
    shed.isReady = true ∧ shed.undoSince = some 900 ∧ shed.undoPasses = true ∧ 900 + 1000000 ≤ shed.now ∧
      shed.degrade.getLast? = some (4, 0) := by decide +kernel

theorem wit_FramePathArithmetic :
    let c : Nat → Nat → Int := fun _ i => if i == 3 then 128 else 0
    let l := parseLayer (pad 64 (nums [(1, 0), (1, 0), (2, 0), (1, 3), (1, 3), (1, 0x11), (1, 0x11)]))
    (∀ ph, ph < 32 → ((List.range 8).map (c ph)).sum = 128) ∧ [1, 2, (3 : Int)].Perm [3, 2, 1] ∧ (-128 : Int) ≤ 127 ∧
      1 ≤ l.kw ∧ 1 ≤ l.kh ∧ 1 ≤ l.sw ∧ 1 ≤ l.sh := by decide +kernel

theorem wit_StepKeepsSettled : State.reset.Settled ∧ step State.reset = .next State.reset :=
  ⟨by unfold State.Settled; decide +kernel, rfl⟩

theorem wit_StepRunsFront : State.reset.pending = [] := rfl

theorem wit_StreamWorkLeavesTheBoard :
    streamWork .nop = true ∧ ∃ t, exec .nop (put (pk 1 0x00 []) base) = .next t := ⟨rfl, _, rfl⟩

theorem wit_BoardWorkLeavesTheStreams : boardWork .tick = true ∧ ∃ t, exec .tick base = .next t := ⟨rfl, _, rfl⟩

/-! ## Results the spec works out -/

/-- "Reading the conventions off real values", 3 to 5: the low half of TICK_NOW keeps its high half for one read (R15). -/
theorem test_tick_now_halves :
    let s := base.set .EVU_TICK_NOW 0 0x1FFFFFFFE
    let read := fun (i : Instr) (s : State) => match exec i s with
      | .next t => t
      | _ => s
    let low := read (.shadowLowRead 0x10000) s
    let high := read (.shadowHighRead 0x10004) (low.set .EVU_TICK_NOW 0 0x200000000)
    low.egress = [.readData 0 0x10000 0xFFFFFFFE] ∧ (high.egress.drop 1) = [.readData 0 0x10004 1] ∧
      (read (.shadowHighRead 0x10004) high).egress.drop 2 = [.readData 0 0x10004 2] := by decide +kernel

/-- 00_scope.md: one write of 0x8000_0001 to SEC_SOOT_CTRL leaves PRECLEAR at 1 and LOCK at 1 (R10). -/
theorem test_lock_applies_last :
    (match exec (.registerWrite 0 0x30400 4 0x80000001) (base.set .SOOT_PRECLEAR 0 0) with
      | .next t => (t.get .SOOT_PRECLEAR, t.get .SOOT_LOCK)
      | _ => (9, 9)) = (1, 1) := by decide +kernel

/-- "A crowded frame", 2: 46 candidates against 8 records leave 7 and a GAP of 39 (R79). -/
theorem test_crowded_budget :
    (budgetCut 8 (List.replicate 46 (1, 0, 0, 0))).1.length = 7 ∧ (budgetCut 8 (List.replicate 46 (1, 0, 0, 0))).2 = some 39 := by
  decide +kernel

/-- "A crowded frame", 3: the first TRACK record's words 5 to 7 (R73, R74). -/
theorem test_crowded_track :
    let t : Track := ⟨0x4A7, 2, 412, 180, 517, 458, 0, 0, 0, 0, 0xF3A0, 1, 0, 0, 0, 90, 1⟩
    trackWords (t.out 1280 720 false) = (0x020004A7, 0x7C605414, 0x00005A01) := by decide +kernel

/-- "A crowded frame", 4: PHASE of the counts either side of the wrap (R81). -/
theorem test_crowded_phase : ringPhase 10 74750 = 1 ∧ ringPhase 10 74752 = 0 ∧ 74750 % 2 ^ 10 = 1022 ∧ 74752 % 2 ^ 10 = 0 := by
  decide +kernel

/-- "Thermal trip, pair link loss and a flue drop in one tick": the HEAD and the THERMAL_TRIP detail with PHASE 1 (R104 to R108). -/
theorem test_group_words :
    let t := 0x27A310C40
    let es : List Ev := ⟨t, 2, 3, 922, 0, 0⟩ :: ⟨t, 7, 0, 3, 0, 0⟩ :: ⟨t, 13, 5, 17, 0, 0⟩ :: List.replicate 12 ⟨t, 14, 5, 0, 0, 0⟩
    withPhase 8 0xAFE (headWords es false 3 0x1C4 t 0) = [0x341, 0x1C4, 0x7A310C40, 2, 0x2084, 12, 0, 0] ∧
      (detailWords es 2 0x1C4 t).map (withPhase 8 0xAFF) = some [0x10242, 0x1C4, 0x7A310C40, 2, 3, 0x39A, 0, 0] ∧
      ((detailWords es 7 0x1C4 t).map (withPhase 8 0xB00)).map (List.headD · 0) = some 0x10702 := by decide +kernel

/-- "A 2560 × 1440 fisheye", 2 and 6: the crops, their tensors and their cost (R239, R245, R248). -/
theorem test_fisheye_geometry :
    let c0 : Crop := ⟨0, 0, 2048, 4096, 640, 720, 1, true, 0⟩
    let c1 : Crop := ⟨2048, 0, 2048, 4096, 640, 720, 3, false, 0⟩
    c0.geom 2560 1440 = (0, 0, 1280, 1440) ∧ c1.geom 2560 1440 = (1280, 0, 1280, 1440) ∧ c0.geom 1920 1080 = (0, 0, 960, 1080) ∧
      c0.tensorBytes false true = 1843200 ∧ batchBytes [c0, c1] false true = 3600 * 1024 ∧ preprocTicks [c0, c1] 2560 1440 = 784 := by
  decide +kernel

/-- "A 2560 × 1440 fisheye", 5: one pixel (R244). -/
theorem test_fisheye_pixel :
    let d := nums [(8, 0), (2, 4769), (2, 0), (2, 7344), (2, 4769), (2, 65536 - 873), (2, 65536 - 2183), (2, 4769), (2, 8652), (2, 0),
      (1, 16), (1, 128), (1, 128), (3, 0)] ++ (List.replicate 3 (nums [(2, 32768), (2, 1), (1, 8), (1, 0)])).flatten
    let x : Nat → Int := fun k => [120, 110, 140].getD k 0
    (List.range 3).map (colour d x) = [143, 119, 83] ∧ (List.range 3).map (fun j => quantised d (colour d x j) j) = [15, -9, -45] := by
  decide +kernel

/-- The layers of "halo and tile count for a four-layer fused group": kernel, stride, padding, Cin, Cout. -/
def fusedLayer (k st p cin cout : Nat) : Layer :=
  { parseLayer (pad 64 (nums [(1, 0), (1, 0), (2, 0), (1, k), (1, k), (1, st + 16 * st), (1, 0x11)])) with
    kh := k, kw := k, sh := st, sw := st, dh := 1, dw := 1, pt := p, pl := p, cin := cin, cout := cout, prec := 0, g := 1 }

def fused : List Layer := [fusedLayer 3 2 1 3 32, fusedLayer 3 1 1 32 32, fusedLayer 1 1 0 32 64, fusedLayer 3 2 1 64 64]

/-- The same case, 1 to 5 (R262, R269, R270). -/
theorem test_fused_group :
    tileStride (axisX fused) = 4 ∧ tileHalo (axisX fused) = 7 ∧ tileLead (axisX fused) = 5 ∧
      tileSizes fused.reverse 64 36 = [(263, 151), (131, 75), (129, 73), (129, 73), (64, 36)] ∧
      tileOrigin (axisX fused) 4 64 = 1019 ∧ tileOrigin (axisY fused) 4 36 = 571 ∧ tileWorkingSet true fused 64 36 = 1524864 ∧
      tileCycles fused 64 36 = 7637 := by decide +kernel

/-- "Admitting the 65th 1080p30 stream", 1, 3 and 5 (R222, R286 to R288). -/
theorem test_admission_65th :
    frameBufBytes 1 1920 1080 = 4050944 ∧ (openDemand 1 1920 1080 3000 1024 4050944).dram = 27 ∧
      (openDemand 1 1920 1080 3000 1024 4050944).dec = 124440 ∧ (openDemand 1 1920 1080 800 1024 4050944).dram = 8 ∧
      (openDemand 1 1920 1080 800 1024 4050944).dec = 33184 ∧ (openDemand 1 1920 1080 800 1024 4050944).host = 9 ∧
      base.channelBudget 0 = 25599 ∧ base.engineBudget 3 = 8000000 := by decide +kernel

/-- "A hot enclosure", 1 and 2: the budgets under refresh ×2 and ×4 (R286). -/
theorem test_refresh_budgets :
    (base.set .CH_REFRESH_MULT 5 1).channelBudget 5 = 24575 ∧ (base.set .CH_REFRESH_MULT 5 2).channelBudget 5 = 23551 := by decide +kernel

/-- "A 4,096-tree depth-10 occupancy ensemble", 2, 4 and 5 (R318, R319). -/
theorem test_occupancy_ensemble :
    let o : Obj := { model0 with isTree := true, depth := 10, nOut := 1, nTrees := 4096, nFeat := 48, sampleMode := 2, evalPeriod := 3 }
    rawCycles o = 1072 ∧ evalCycles o 16 = 525619 ∧ evalCycles o 15 = 525619 ∧ (treeDemand o 16 1250 3000).1 = 4230 ∧
      (treeDemand { o with evalPeriod := 1 } 16 1250 3000).1 = 12630 := by decide +kernel

/-- "Sizing a buffer model for 96 mirror streams", 1 to 5 (R383, R391, R393). -/
theorem test_mirror_sizes :
    let good : MirrorCfg := ⟨false, 0x1D000, 1000, 1000, 512⟩
    let fails := fun m : MirrorCfg => ((mirrorChecks m 1500 368).find? fun x => !x.2).map Prod.fst
    mauBytes 1000 1500 = 8192 ∧ mauBytes 512 1500 = 4096 ∧ rowBytes 4096 368 = 320 ∧ rowBytes 8192 368 = 656 ∧ fails good = none ∧
      fails { good with bufBytes := 0x1E000 } = some 5 ∧
      (base.mirrorDemand { pipe0 with crops := [⟨0, 0, 4096, 4096, 640, 368, 0, true, 0⟩] } good 1500 false).menc = 11790 ∧
      (base.mirrorDemand { pipe0 with crops := [⟨0, 0, 4096, 4096, 640, 368, 0, true, 0⟩] } good 1500 false).dram = 3 := by decide +kernel

/-- "Two clients sharing a fence", 1: FENCE_CREATE's reply (R174). -/
theorem test_fence_create :
    let p : Pkt := ⟨0, 5, [0x03050000, 0x51, 0, 0, 0x5A17C3E9].map (BitVec.ofNat 32), false, 0, none, 0, false⟩
    (match exec (.fenceCreate 0x1A2C) (put p base) with
      | .next t => (t.egress.filterMap fun x => match x with
          | .reply c n _ ws => some (c, n, [ws.getD 0 9, ws.getD 1 9, ws.getD 4 9])
          | _ => none, Tab.find? 0x1A2C t.fences)
      | _ => ([], none)) = ([(5, 0, [0x51, 0, 0x1A2C])], some ⟨5, 0x5A17C3E9, 0⟩) := by decide +kernel

/-- The same case, 5: MODE ADD of 1 takes the counter from 0 to 1 (R175). -/
theorem test_fence_add :
    let p : Pkt := ⟨0, 5, [0x01060100, 0x52, 0x80001A2C, 0x5A17C3E9, 1, 0].map (BitVec.ofNat 32), false, 0, none, 0, false⟩
    (match exec .fenceSignal (put p { base with fences := [(0x1A2C, ⟨5, 0x5A17C3E9, 0⟩)] }) with
      | .next t => (Tab.find? 0x1A2C t.fences).map Fence.value
      | _ => none) = some 1 := by decide +kernel

end Sys2Proof.Machine.Tests
end

section
/-! Registers as the host reaches them, and the state at reset (R7, R9, R10, R14, R15, R83, R114, R125, R138, R148, R160, R303,
R390, R531). First what every such access shares: frames of one block, what the ending of a command adds to the wire, and an access
that meets open or closed BARs; then the register a write finds at its offset; then the statements. -/

namespace Sys2Proof.Machine

/-! ## Frames of one block -/

section Frames

variable {F : Field → Bool} {i : Nat} {s t : State}

theorem RegsBut.refl (F : Field → Bool) (i : Nat) (s : State) : RegsBut F i s s := fun _ _ _ _ => rfl

/-- A register of `F` in block `i` is written. -/
theorem RegsBut.set (h : RegsBut F i s t) (f : Field) (v : Nat) (hf : F f = true) : RegsBut F i s (t.set f i v) := by
  intro g j hg hF
  have hne : ¬(g = f ∧ j = i) := by
    rintro ⟨rfl, rfl⟩
    simp [hf] at hF
  rw [State.get_set, if_neg hne]
  exact h g j hg hF

/-- What every command ends with stays within the frame. -/
theorem RegsBut.settle (h : RegsBut F i s t) : RegsBut F i s (settle t) := fun f j hs hF =>
  (settle_get t f j hs).trans (h f j hs hF)

theorem KeepsBlock.refl (F : Field → Bool) (i : Nat) (s : State) : KeepsBlock F i s s :=
  ⟨RegsBut.refl F i s, rfl, rfl, rfl, rfl, rfl, rfl, [], by simp⟩

theorem KeepsBlock.set (h : KeepsBlock F i s t) (f : Field) (v : Nat) (hf : F f = true) : KeepsBlock F i s (t.set f i v) := by
  obtain ⟨hr, hrest⟩ := h
  exact ⟨hr.set f v hf, hrest⟩

theorem KeepsBlock.emit (h : KeepsBlock F i s t) (x : Egress) : KeepsBlock F i s (t.emit x) := by
  obtain ⟨hr, hq, hp, hj, hd, hst, hf, l, he⟩ := h
  exact ⟨hr, hq, hp, hj, hd, hst, hf, l ++ [x], by simp [State.emit, he]⟩

theorem KeepsBlock.settle (h : KeepsBlock F i s t) : KeepsBlock F i s (settle t) := by
  obtain ⟨hr, hq, hp, hj, hd, hst, hf, l, he⟩ := h
  obtain ⟨-, hqs, m, hm⟩ := settle_frame t
  exact ⟨hr.settle, hqs.trans hq, by simp [hp], by simp [hj], by simp [hd], by simp [hst], by simp [hf], l ++ m, by
    rw [hm, he, List.append_assoc]⟩

/-- What is put on the wire is not taken back. -/
theorem Sent.keeps {u : State} {x : Egress} (h : Sent s t x) (k : Keeps F t u) : Sent s u x := by
  obtain ⟨l, he, hx⟩ := h
  obtain ⟨-, -, m, hm⟩ := k
  exact ⟨l ++ m, by rw [hm, he, List.append_assoc], List.mem_append_left m hx⟩

theorem Sent.settle {x : Egress} (h : Sent s t x) : Sent s (settle t) x := h.keeps (settle_frame t)

theorem Keeps.sent_emit (k : Keeps F s t) (x : Egress) : Sent s (t.emit x) x := by
  obtain ⟨-, -, l, he⟩ := k
  exact ⟨l ++ [x], by simp [State.emit, he], by simp⟩

end Frames

theorem emit_get (s : State) (x : Egress) (f : Field) (i : Nat) : (s.emit x).get f i = s.get f i := rfl
theorem emit_linkDead (s : State) (x : Egress) : (s.emit x).linkDead = s.linkDead := rfl
theorem emit_shadowOwner (s : State) (x : Egress) : (s.emit x).shadowOwner = s.shadowOwner := rfl
theorem emit_shadowWord (s : State) (x : Egress) : (s.emit x).shadowWord = s.shadowWord := rfl

/-! ## What the ending of a command adds -/

/-- Between `s` and `t` interrupt messages alone are put on the wire. -/
def AddsMessages (s t : State) : Prop := ∃ l, t.egress = s.egress ++ l ∧ ∀ x ∈ l, ∃ v a d, x = .msix v a d

theorem AddsMessages.of_egress {s t : State} (h : t.egress = s.egress) : AddsMessages s t := ⟨[], by simp [h], by simp⟩

theorem AddsMessages.trans {s t u : State} (h : AddsMessages s t) (k : AddsMessages t u) : AddsMessages s u := by
  obtain ⟨l, he, hl⟩ := h
  obtain ⟨m, hm, hk⟩ := k
  refine ⟨l ++ m, by rw [hm, he, List.append_assoc], fun x hx => ?_⟩
  rcases List.mem_append.mp hx with hx | hx
  · exact hl x hx
  · exact hk x hx

theorem AddsMessages.set {s t : State} (h : AddsMessages s t) (f : Field) (i v : Nat) : AddsMessages s (t.set f i v) := h

theorem discard_egress (s : State) : s.discard.egress = s.egress := by
  unfold State.discard State.sat
  split <;> rfl

theorem signal_addsMessages (s : State) (v : Nat) : AddsMessages s (s.signal v) := by
  unfold State.signal
  split
  · exact .of_egress rfl
  · split
    · exact .of_egress (discard_egress s)
    · unfold State.post
      split
      · exact .of_egress rfl
      · exact ⟨[_], rfl, fun x hx => ⟨_, _, _, List.mem_singleton.mp hx⟩⟩

theorem irq_addsMessages (s : State) (r e : Field) (i b v : Nat) : AddsMessages s (s.irq r e i b v) := by
  unfold State.irq
  dsimp only
  split
  · exact (AddsMessages.of_egress rfl).trans (signal_addsMessages _ v)
  · exact .of_egress rfl

theorem countSync_egress (s : State) : s.countSync.egress = s.egress := by
  unfold State.countSync
  simp only [State.set_egress]

theorem countSync_msixPba (s : State) : s.countSync.msixPba = s.msixPba := by
  unfold State.countSync
  simp only [State.set_msixPba]

theorem certSync_addsMessages (s : State) : AddsMessages s s.certSync := by
  have k := (((AddsMessages.of_egress (s := s) rfl).set .CERT_REASON 0 s.certReason).set .CERT_LIFETIME_OUT 0
    (Num.b2n (s.certReason % 4 != 0))).set .CERT_CERTIFIED 0 (Num.b2n (s.certReason == 0))
  unfold State.certSync
  dsimp only
  split
  · exact k
  · exact k.trans (irq_addsMessages _ _ _ _ _ _)

/-- What every command ends with puts nothing on the wire but interrupt messages. -/
theorem settle_addsMessages (s : State) : AddsMessages s (settle s) :=
  (AddsMessages.of_egress (countSync_egress s)).trans (certSync_addsMessages _)

theorem AddsMessages.noRecord {s t : State} (h : AddsMessages s t) : NoRecord s t := by
  obtain ⟨l, he, hl⟩ := h
  refine ⟨l, he, fun x hx c n a => ?_⟩
  obtain ⟨v, b, d, rfl⟩ := hl x hx
  simp

/-! A vector that pends stays pending. -/

theorem signal_keepsPending (s : State) (v w : Nat) (h : (Tab.find? v s.msixPba).isSome = true) :
    (Tab.find? v (s.signal w).msixPba).isSome = true := by
  have hd : s.discard.msixPba = s.msixPba := by
    unfold State.discard State.sat
    split <;> rfl
  have hp : ∀ x, (s.post x).msixPba = s.msixPba := by
    intro x
    unfold State.post State.emit
    split <;> rfl
  unfold State.signal
  split
  · simp only [Tab.find?_put]
    split
    · rfl
    · exact h
  · split
    · rwa [hd]
    · rwa [hp]

theorem settle_keepsPending (s : State) (v : Nat) (h : (Tab.find? v s.msixPba).isSome = true) :
    (Tab.find? v (settle s).msixPba).isSome = true := by
  have hc : (Tab.find? v s.countSync.msixPba).isSome = true := by rwa [countSync_msixPba]
  unfold settle
  generalize s.countSync = u at hc ⊢
  unfold State.certSync
  dsimp only
  split
  · exact hc
  · unfold State.irq
    dsimp only
    split
    · exact signal_keepsPending _ v 1 hc
    · exact hc

/-! While the link is up nothing is discarded, so the counters of discards stand still. -/

/-- The registers that follow the state, and SEC_SOOT_IRQ: `settleFields` less the counters of discards. -/
def followFields (f : Field) : Bool := settleFields f && !linkCounts f

theorem linkDead_keeps {F : Field → Bool} {s t : State} (k : Keeps F s t) (h : F .LINK_DOWN = false) : t.linkDead = s.linkDead := by
  simp only [State.linkDead, State.clockIsLost, k.clockLost, k.1 _ _ h]

theorem signal_frame_linkUp {F : Field → Bool} (s : State) (v : Nat) (h : s.linkDead = false) : Keeps F s (s.signal v) := by
  unfold State.signal
  split
  · exact ⟨fun _ _ _ => rfl, rfl, [], by simp⟩
  · rw [h, if_neg Bool.false_ne_true]
    exact post_frame F s _

theorem irq_frame_linkUp {F : Field → Bool} (s : State) (r e : Field) (i b v : Nat) (h : s.linkDead = false) (hr : F r = true)
    (hd : F .LINK_DOWN = false) : Keeps F s (s.irq r e i b v) := by
  have k := (Keeps.refl F s).set r i (s.get r i ||| 2 ^ b) hr
  unfold State.irq
  dsimp only
  split
  · exact k.trans (signal_frame_linkUp _ v ((linkDead_keeps k hd).trans h))
  · exact k

theorem countSync_frame_follow (s : State) : Keeps followFields s s.countSync := by
  unfold State.countSync
  exact (((((((Keeps.refl followFields s).set _ _ _ rfl).set _ _ _ rfl).set _ _ _ rfl).set _ _ _ rfl).set _ _ _ rfl).set _ _ _
    rfl).set _ _ _ rfl

theorem certSync_frame_linkUp (s : State) (h : s.linkDead = false) : Keeps followFields s s.certSync := by
  have k := (((Keeps.refl followFields s).set .CERT_REASON 0 s.certReason rfl).set .CERT_LIFETIME_OUT 0
    (Num.b2n (s.certReason % 4 != 0)) rfl).set .CERT_CERTIFIED 0 (Num.b2n (s.certReason == 0)) rfl
  unfold State.certSync
  dsimp only
  split
  · exact k
  · exact k.trans (irq_frame_linkUp _ _ _ _ _ _ ((linkDead_keeps k rfl).trans h) rfl rfl)

/-- While the link is up, what every command ends with counts no discard. -/
theorem settle_frame_linkUp (s : State) (h : s.linkDead = false) : Keeps followFields s (settle s) :=
  have k := countSync_frame_follow s
  k.trans (certSync_frame_linkUp _ ((linkDead_keeps k rfl).trans h))

/-! ## A vector that is signalled -/

theorem signal_signalled (s : State) (v : Nat) : Signalled s (s.signal v) v := by
  unfold Signalled State.signal
  cases hb : s.msixBlocked v
  · simp only [Bool.false_or, Bool.false_eq_true, if_false]
    intro hp hl
    simp only [hp, hl, Bool.false_eq_true, if_false, Posted, State.post]
    split
    · simp
    · exact (Keeps.refl (fun _ => false) s).sent_emit _
  · simp

theorem Signalled.settle {s t : State} {v : Nat} (h : Signalled s t v) (hh : s.held = false) : Signalled s (settle t) v := by
  unfold Signalled Posted at *
  simp only [hh, Bool.false_eq_true, if_false] at h ⊢
  split
  · next hb =>
    rw [if_pos hb] at h
    exact settle_keepsPending t v h
  · next hb =>
    rw [if_neg hb] at h
    exact fun hp hl => (h hp hl).settle

/-- The state in which a signal is judged may differ in a register that is not the link's. -/
theorem Signalled.of_set {s t : State} {f : Field} {i x v : Nat} (h : Signalled (s.set f i x) t v) (hl : f ≠ .LINK_LTSSM)
    (hd : f ≠ .LINK_DOWN) : Signalled s t v := by
  have hheld : (s.set f i x).held = s.held := by
    simp only [State.held, State.get_set_ne s i 0 x (Ne.symm hl)]
  have hdead : (s.set f i x).linkDead = s.linkDead := by
    simp only [State.linkDead, State.clockIsLost, State.set_clockLost, State.get_set_ne s i 0 x (Ne.symm hd)]
  unfold Signalled Posted at h
  rw [hheld, hdead] at h
  exact h

/-! ## Accesses of the host -/

theorem held_of_barsReached {s : State} (h : s.barsReached = true) : s.held = false := by
  simp only [State.barsReached, Bool.and_eq_true, Bool.not_eq_true'] at h
  obtain ⟨⟨⟨⟨⟨-, hh⟩, -⟩, -⟩, -⟩, -⟩ := h
  exact hh

theorem linkDead_of_barsReached {s : State} (h : s.barsReached = true) : s.linkDead = false := by
  simp only [State.barsReached, Bool.and_eq_true, Bool.not_eq_true', beq_iff_eq] at h
  obtain ⟨⟨⟨⟨⟨⟨-, hd⟩, -⟩, hc⟩, -⟩, -⟩, -⟩ := h
  simp [State.linkDead, hd, hc]

theorem hostAct_open {s : State} (h : s.HostOpen) (f : State → State) : hostAct s f = .next (settle (f s)) := by
  simp [hostAct, h.1, h.2]

theorem hostAct_closed {s : State} (hr : s.barsReached = true) (ho : s.barsOpen = false) (f : State → State) :
    hostAct s f = .next (settle s.unsupported) := by
  simp [hostAct, hr, ho]

theorem hostAsk_open {s : State} (h : s.HostOpen) (off : Nat) (f : State → State) : hostAsk off s f = .next (settle (f s)) := by
  simp [hostAsk, h.1, h.2]

theorem hostAsk_closed {s : State} (hr : s.barsReached = true) (ho : s.barsOpen = false) (off : Nat) (f : State → State) :
    hostAsk off s f = .next (settle (s.unsupported.emit (.unsupported off))) := by
  simp [hostAsk, hr, ho]

theorem write32_of_writable {s : State} {off : Nat} (h : s.writable off = true) (v : Nat) :
    s.write32 off v = s.regWrite off (Num.wrap32 v) false := by simp [State.write32, h]

/-- A write that the host may make reaches the register at its offset. -/
theorem hostReg_open {s : State} {off : Nat} (h : s.HostOpen) (hw : s.writable off = true) (v : Nat) :
    hostReg off v s = .next (settle (s.regWrite off (Num.wrap32 v) false)) := by
  rw [hostReg, hostAct_open h, write32_of_writable hw]

theorem wrap32_of_lt {v : Nat} (h : v < 2 ^ 32) : Num.wrap32 v = v := Nat.mod_eq_of_lt h

end Sys2Proof.Machine
end

section
namespace Sys2Proof.Machine

/-! ## The state at reset -/

theorem reset_get (f : Field) (i : Nat) : State.reset.get f i = f.reset i := rfl

theorem reset_certReason : State.reset.certReason = 0x70 := rfl

theorem reset_settled : State.reset.Settled := by
  unfold State.Settled
  rw [reset_certReason]
  exact ⟨rfl, rfl, rfl, rfl, rfl, rfl, rfl, rfl, rfl, rfl⟩

theorem reset_masked (v : Nat) : (State.reset.msixEntry v).masked = true := rfl

/-- Settles O2: the register file of reset is empty, so that every field reads the value its table gives. -/
theorem resetHoldsSpecValues : Obligations.ResetHoldsSpecValues := by
  unfold Obligations.ResetHoldsSpecValues
  simp only [reset_get]
  exact ⟨reset_settled, rfl, rfl, rfl, rfl, rfl, rfl, rfl, rfl, rfl, rfl, rfl, rfl, rfl, rfl, rfl, rfl, rfl, rfl, rfl, rfl, rfl,
    fun _ => ⟨rfl, rfl⟩, reset_masked, fun _ => ⟨rfl, rfl⟩⟩

/-! ## The register a write finds at its offset -/

theorem enables_below_clients : ∀ e ∈ enables, e.1 < 0x800000 := by decide

/-- A write in the control block of client `c`. -/
theorem regWrite_client (s : State) {c r : Nat} (hc : c < Config.clients) (hr : r < 256) (v : Nat) (u : Bool) :
    s.regWrite (0x800000 + 256 * c + r) v u = s.clientWrite c (0x800000 + 256 * c + r) r v := by
  have hc' : c < 1024 := hc
  have hfind : enables.find? (fun e => e.1 == 0x800000 + 256 * c + r) = none := by
    refine List.find?_eq_none.mpr fun e he => ?_
    have := enables_below_clients e he
    simp only [beq_iff_eq]
    omega
  have hne : ∀ k, k < 0x800000 → (0x800000 + 256 * c + r == k) = false := fun k hk => beq_false_of_ne (by omega)
  have hlt : ∀ k, k ≤ 0x800000 → decide (0x800000 + 256 * c + r < k) = false := fun k hk => decide_eq_false (by omega)
  have hblock : clientBlock (0x800000 + 256 * c + r) = true := by simp [clientBlock]; omega
  have hclient : (0x800000 + 256 * c + r - 0x800000) / 256 = c := by omega
  have hoff : (0x800000 + 256 * c + r) % 256 = r := by omega
  unfold State.regWrite
  simp [hfind, hne, hlt, hblock, hclient, hoff]

/-- A write of a client's register that the host may make. -/
theorem clientReg_open {s : State} {c r v : Nat} (h : s.HostOpen) (hc : c < Config.clients) (hr : r < 256)
    (hw : s.writable (0x800000 + 256 * c + r) = true) (hv : v < 2 ^ 32) :
    clientReg r c v s = .next (settle (s.clientWrite c (0x800000 + 256 * c + r) r v)) := by
  rw [clientReg, if_neg (by omega), hostReg_open h hw, wrap32_of_lt hv, regWrite_client s hc hr]

/-! ## Client control (R160) -/

/-- The rings of client `c` are valid (R160). -/
abbrev State.ringsValid (s : State) (c : Nat) : Prop :=
  s.get .CL_CMD_BASE c % 4096 = 0 ∧ s.get .CL_CPL_BASE c % 4096 = 0 ∧ 10 ≤ s.get .CL_CMD_LOG2 c ∧ s.get .CL_CMD_LOG2 c ≤ 20 ∧
    6 ≤ s.get .CL_CPL_LOG2 c ∧ s.get .CL_CPL_LOG2 c ≤ 16

/-- The four fields of CL_CTRL as `v` writes them. -/
def State.setCtrl (s : State) (c v : Nat) : State :=
  (((s.set .CL_ENABLE c (v % 2)).set .CL_IRQ_EN c (Num.slice v 1 1)).set .CL_FENCE_EN c (Num.slice v 2 2)).set .CL_WB_EN c
    (Num.slice v 3 3)

/-- ENABLE has risen: the five counts are zero and no look at the ring is remembered. -/
def State.zeroCounts (s : State) (c : Nat) : State :=
  ((((({ s with looked := Tab.del c s.looked } : State).set .CL_CMD_HEAD c 0).set .CL_CMD_TAIL c 0).set .CL_CPL_HEAD c 0).set
    .CL_CPL_TAIL c 0).set .CL_CPL_RESERVED c 0

/-- What a write to CL_CTRL does: it is discarded, it writes the four fields, or ENABLE rises besides. -/
theorem clientCtrl_eq (s : State) (c v : Nat) : s.clientCtrl c v =
    if (v % 2 = 1 ∧ ¬s.ringsValid c) ∨ (v % 2 = 0 ∧ s.get .CL_ENABLE c = 1 ∧ (s.get .CL_INFLIGHT c ≠ 0 ∨ s.get .CL_FLUSHING c = 1))
    then s else if v % 2 = 1 ∧ s.get .CL_ENABLE c = 0 then (s.setCtrl c v).zeroCounts c else s.setCtrl c v := by
  have hok : (s.get .CL_CMD_BASE c % 4096 == 0 && s.get .CL_CPL_BASE c % 4096 == 0 && decide (10 ≤ s.get .CL_CMD_LOG2 c) &&
      decide (s.get .CL_CMD_LOG2 c ≤ 20) && decide (6 ≤ s.get .CL_CPL_LOG2 c) && decide (s.get .CL_CPL_LOG2 c ≤ 16)) =
      decide (s.ringsValid c) := by
    rw [Bool.eq_iff_iff]; simp [and_assoc]
  unfold State.clientCtrl
  dsimp only
  rw [hok]
  simp only [Bool.and_eq_true, Bool.or_eq_true, beq_iff_eq, bne_iff_ne, Bool.not_eq_true', decide_eq_false_iff_not, and_assoc]
  by_cases h1 : v % 2 = 1 ∧ ¬s.ringsValid c
  · rw [if_pos h1, if_pos (.inl h1)]
  · simp only [h1, false_or, if_false]
    rfl

theorem setCtrl_get (s : State) (c v : Nat) : (s.setCtrl c v).get .CL_ENABLE c = v % 2 ∧ (s.setCtrl c v).get .CL_IRQ_EN c = v / 2 % 2 ∧
    (s.setCtrl c v).get .CL_FENCE_EN c = v / 4 % 2 ∧ (s.setCtrl c v).get .CL_WB_EN c = v / 8 % 2 := by
  simp [State.setCtrl, State.get_set, Num.slice]

theorem zeroCounts_get (s : State) (c i : Nat) (f : Field) (h : f ∉ [Field.CL_CMD_HEAD, .CL_CMD_TAIL, .CL_CPL_HEAD, .CL_CPL_TAIL,
    .CL_CPL_RESERVED]) : (s.zeroCounts c).get f i = s.get f i := by
  simp only [List.mem_cons, List.not_mem_nil, or_false, not_or] at h
  obtain ⟨h1, h2, h3, h4, h5⟩ := h
  simp only [State.zeroCounts, State.get_set_ne _ _ _ _ h1, State.get_set_ne _ _ _ _ h2, State.get_set_ne _ _ _ _ h3,
    State.get_set_ne _ _ _ _ h4, State.get_set_ne _ _ _ _ h5, State.get_mk]

theorem zeroCounts_zero (s : State) (c : Nat) : (s.zeroCounts c).get .CL_CMD_HEAD c = 0 ∧ (s.zeroCounts c).get .CL_CMD_TAIL c = 0 ∧
    (s.zeroCounts c).get .CL_CPL_HEAD c = 0 ∧ (s.zeroCounts c).get .CL_CPL_TAIL c = 0 ∧
    (s.zeroCounts c).get .CL_CPL_RESERVED c = 0 := by
  simp [State.zeroCounts, State.get_set]

/-- What CLIENT_ENABLE_WRITE answers where the host may write. -/
theorem clientEnableWrite_open {s : State} {c v : Nat} (h : s.HostOpen) (hc : c < Config.clients)
    (hw : s.writable (0x80001C + 256 * c) = true) (hv : v < 2 ^ 32) :
    exec (.clientEnableWrite c v) s = .next (settle (s.clientCtrl c v)) :=
  clientReg_open h hc (by decide) (by rwa [show 0x800000 + 256 * c + 0x1C = 0x80001C + 256 * c by omega]) hv

/-! ## The metadata ring (R83, R84) -/

/-- Writing pending GAPs moves the ring's head and counts records, and no other register. -/
theorem flushGapsN_get (n : Nat) (s : State) (c i : Nat) (f : Field) (h1 : f ≠ .META_HEAD) (h2 : f ≠ .FLU_RECORDS) :
    (flushGapsN n s c).get f i = s.get f i := by
  have hw : ∀ (s : State) k ws, (s.writeRecord c k ws).get f i = s.get f i := by
    intro s k ws
    simp only [State.writeRecord, State.writeHead, State.inc, State.get_set_ne _ _ _ _ h2, State.get_set_ne _ _ _ _ h1]
    rfl
  have hm : ∀ (s : State) k g, (s.modStream k g).get f i = s.get f i := by
    intro s k g
    unfold State.modStream
    split <;> rfl
  induction n generalizing s with
  | zero => rfl
  | succ n ih =>
    unfold flushGapsN
    split
    · rfl
    · split
      · rfl
      · split
        · rfl
        · rw [ih, hm, hw]

theorem flushGaps_get (s : State) (c i : Nat) (f : Field) (h1 : f ≠ .META_HEAD) (h2 : f ≠ .FLU_RECORDS) (h3 : f ≠ .META_DROPPING) :
    (s.flushGaps c).get f i = s.get f i := by
  rw [State.flushGaps, State.dropSync, State.get_set_ne _ _ _ _ h3, flushGapsN_get _ _ _ _ _ h1 h2]

/-- The gates of a fenced unit write no pending GAP. -/
theorem flushGapsN_fenced (n : Nat) {s : State} (c : Nat) (h : s.fenced = true) : flushGapsN n s c = s := by
  cases n with
  | zero => rfl
  | succ n => simp [flushGapsN, h]

theorem flushGaps_fenced_egress {s : State} (c : Nat) (h : s.fenced = true) : (s.flushGaps c).egress = s.egress := by
  rw [State.flushGaps, flushGapsN_fenced _ _ h, State.dropSync, State.set_egress]

/-- What META_TAIL_WRITE answers where the host may write. -/
theorem metaTailWrite_open {s : State} {c v : Nat} (h : s.HostOpen) (hc : c < Config.clients)
    (hw : s.writable (0x800094 + 256 * c) = true) (hv : v < 2 ^ 32) :
    exec (.metaTailWrite c v) s = .next (settle (s.metaTail c v)) :=
  clientReg_open h hc (by decide) (by rwa [show 0x800000 + 256 * c + 0x94 = 0x800094 + 256 * c by omega]) hv

/-- What a write to META_TAIL does (R83). -/
theorem metaTail_eq {s : State} {c v : Nat} (hv : v < 2 ^ 32) : s.metaTail c v =
    if s.get .META_LOG2 c ≠ 0 ∧ Num.sub32 (s.get .META_HEAD c) v ≤ 2 ^ s.get .META_LOG2 c ∧
      Num.sub32 v (s.get .META_TAIL c) ≤ 2 ^ s.get .META_LOG2 c
    then (s.set .META_TAIL c v).flushGaps c else s := by
  simp [State.metaTail, wrap32_of_lt hv, and_assoc]

theorem fenced_set_metaTail (s : State) (c v : Nat) : (s.set .META_TAIL c v).fenced = s.fenced := by
  simp [State.fenced, State.fencedReg, State.role, State.isFault, State.dev, State.get_set]

/-! ## The event ring (R114) -/

/-- The place and size of the event ring are valid. -/
abbrev State.eventRingValid (s : State) : Prop :=
  6 ≤ s.get .EVU_RING_LOG2 ∧ s.get .EVU_RING_LOG2 ≤ 12 ∧ s.get .EVU_RING_BASE % 4096 = 0

/-- What a write to EVU_CTRL does. -/
theorem evuCtrl_eq (s : State) (v : Nat) : s.evuCtrl v =
    let u := s.set .EVU_IRQ_EN 0 (v / 2 % 2)
    if v % 2 = 0 then u.set .EVU_RING_EN 0 0
    else if s.get .EVU_RING_EN = 1 ∨ ¬s.eventRingValid then u
    else ((u.set .EVU_RING_EN 0 1).set .EVU_RING_HEAD 0 0).set .EVU_RING_TAIL 0 0 := by
  have hok : (decide (6 ≤ s.get .EVU_RING_LOG2) && decide (s.get .EVU_RING_LOG2 ≤ 12) && s.get .EVU_RING_BASE % 4096 == 0) =
      decide (s.eventRingValid) := by
    rw [Bool.eq_iff_iff]; simp [and_assoc]
  unfold State.evuCtrl
  dsimp only
  rw [hok]
  by_cases h0 : v % 2 = 0
  · simp [h0, Num.slice]
  · by_cases h1 : s.get .EVU_RING_EN = 1
    · simp [h0, h1, Num.slice]
    · by_cases h2 : s.eventRingValid <;> simp [h0, h1, h2, Num.slice]

theorem evuRingCtrlWrite_open {s : State} {v : Nat} (h : s.HostOpen) (hw : s.writable 0x10008 = true) (hv : v < 2 ^ 32) :
    exec (.evuRingCtrlWrite v) s = .next (settle (s.evuCtrl v)) := by
  have := hostReg_open h hw v
  rwa [wrap32_of_lt hv] at this

theorem evuTail_eq {s : State} {v : Nat} (hv : v < 2 ^ 32) : s.evuTail v =
    if s.get .EVU_RING_EN = 1 ∧ Num.sub32 (s.get .EVU_RING_HEAD) v ≤ 2 ^ s.get .EVU_RING_LOG2 ∧
      Num.sub32 v (s.get .EVU_RING_TAIL) ≤ 2 ^ s.get .EVU_RING_LOG2
    then s.set .EVU_RING_TAIL 0 v else s := by
  simp [State.evuTail, wrap32_of_lt hv, and_assoc]

theorem evuRingTailWrite_open {s : State} {v : Nat} (h : s.HostOpen) (hw : s.writable 0x10020 = true) (hv : v < 2 ^ 32) :
    exec (.evuRingTailWrite v) s = .next (settle (s.evuTail v)) := by
  have := hostReg_open h hw v
  rwa [wrap32_of_lt hv] at this

/-- What REGISTER_WRITE of a BAR answers where the host may write. -/
theorem registerWrite_open {s : State} {bar off : Nat} (h : s.HostOpen) (hbar : bar ≠ 6) (hoff : off < barSize bar) (width v : Nat) :
    exec (.registerWrite bar off width v) s = .next (settle (s.barWrite bar off width v)) := by
  change execRegisterWrite bar off width v s = _
  rw [execRegisterWrite, if_neg (by omega), if_neg (by simpa using hbar), hostAct_open h]

/-- One write of all of EVU_RING_BASE. -/
theorem barWrite_evuBase {s : State} {b : Nat} (hw : s.writable 0x10010 = true) (hb : b < 2 ^ 64) :
    s.barWrite 0 0x10010 8 b =
      if s.get .EVU_RING_EN = 0 ∧ b % 4096 = 0 then s.set .EVU_RING_BASE 0 b else s := by
  have hmod : b % 2 ^ 64 = b := Nat.mod_eq_of_lt hb
  simp [State.barWrite, State.write0, hw, State.evuBase, hmod, -Nat.reducePow]


/-! ## The statement (R7, R83, R114, R160) -/

/-- CLIENT_ENABLE_WRITE as R160 gives it. -/
theorem clientEnableWrite_completes {s : State} {c v : Nat} (h : s.HostOpen) (hc : c < Config.clients) (hv : v < 2 ^ 32)
    (hw : s.writable (0x80001C + 256 * c) = true) :
    let ctrl := fun t : State => t.get .CL_ENABLE c = v % 2 ∧ t.get .CL_IRQ_EN c = v / 2 % 2 ∧ t.get .CL_FENCE_EN c = v / 4 % 2 ∧
      t.get .CL_WB_EN c = v / 8 % 2
    (v % 2 = 1 → s.ringsValid c → s.get .CL_ENABLE c = 0 → Runs (.clientEnableWrite c v) s fun t => ctrl t ∧
      t.get .CL_CMD_HEAD c = 0 ∧ t.get .CL_CMD_TAIL c = 0 ∧ t.get .CL_CPL_HEAD c = 0 ∧ t.get .CL_CPL_TAIL c = 0 ∧
      t.get .CL_CPL_RESERVED c = 0) ∧
    (v % 2 = 0 → s.get .CL_INFLIGHT c = 0 → s.get .CL_FLUSHING c = 0 → Runs (.clientEnableWrite c v) s fun t => ctrl t ∧
      KeepsBlock (fun f => f == .CL_ENABLE || f == .CL_IRQ_EN || f == .CL_FENCE_EN || f == .CL_WB_EN) c s t) ∧
    ((v % 2 = 1 ∧ ¬s.ringsValid c) ∨ (v % 2 = 0 ∧ s.get .CL_ENABLE c = 1 ∧ (s.get .CL_INFLIGHT c ≠ 0 ∨ s.get .CL_FLUSHING c = 1)) →
      Runs (.clientEnableWrite c v) s (KeepsBlock (fun _ => false) c s)) := by
  have hrun := clientEnableWrite_open h hc hw hv
  rw [clientCtrl_eq] at hrun
  obtain ⟨he, hi, hf, hb⟩ := setCtrl_get s c v
  refine ⟨fun hodd hrings hoff => ⟨_, hrun, ?_⟩, fun heven hin hfl => ⟨_, hrun, ?_⟩, fun hbad => ⟨_, hrun, ?_⟩⟩
  · rw [if_neg (by rintro (hx | hx) <;> [exact hx.2 hrings; omega]), if_pos ⟨hodd, hoff⟩]
    obtain ⟨z1, z2, z3, z4, z5⟩ := zeroCounts_zero (s.setCtrl c v) c
    simp (disch := decide) [zeroCounts_get, he, hi, hf, hb, z1, z2, z3, z4, z5]
  · rw [if_neg (by omega), if_neg (by omega)]
    refine ⟨by simp (disch := decide) [he, hi, hf, hb], KeepsBlock.settle ?_⟩
    exact ((((KeepsBlock.refl _ c s).set _ _ rfl).set _ _ rfl).set _ _ rfl).set _ _ rfl
  · rw [if_pos hbad]
    exact (KeepsBlock.refl _ c s).settle

/-- META_TAIL_WRITE as R83 gives it. -/
theorem metaTailWrite_completes {s : State} {c v : Nat} (h : s.HostOpen) (hc : c < Config.clients) (hv : v < 2 ^ 32)
    (hw : s.writable (0x800094 + 256 * c) = true) :
    let n := 2 ^ s.get .META_LOG2 c
    let ok := s.get .META_LOG2 c ≠ 0 ∧ Num.sub32 (s.get .META_HEAD c) v ≤ n ∧ Num.sub32 v (s.get .META_TAIL c) ≤ n
    (ok → Runs (.metaTailWrite c v) s fun t => t.get .META_TAIL c = v ∧ (s.fenced = true → NoRecord s t)) ∧
    (¬ok → Runs (.metaTailWrite c v) s (KeepsBlock (fun _ => false) c s)) := by
  have hrun := metaTailWrite_open h hc hw hv
  rw [metaTail_eq hv] at hrun
  refine ⟨fun hok => ⟨_, hrun, ?_⟩, fun hbad => ⟨_, hrun, ?_⟩⟩
  · rw [if_pos hok]
    refine ⟨?_, fun hfen => AddsMessages.noRecord (AddsMessages.trans (.of_egress ?_) (settle_addsMessages _))⟩
    · rw [settle_get _ _ _ rfl, flushGaps_get _ _ _ _ (by decide) (by decide) (by decide), State.get_set_self]
    · rw [flushGaps_fenced_egress c ((fenced_set_metaTail s c v).trans hfen), State.set_egress]
  · rw [if_neg hbad]
    exact (KeepsBlock.refl _ c s).settle

/-- EVU_RING_CTRL_WRITE as R114 gives it. -/
theorem evuRingCtrlWrite_completes {s : State} {v : Nat} (h : s.HostOpen) (hv : v < 2 ^ 32) (hw : s.writable 0x10008 = true) :
    Runs (.evuRingCtrlWrite v) s fun t => t.get .EVU_IRQ_EN = v / 2 % 2 ∧ t.quiet = s.quiet ∧
      (v % 2 = 0 → t.get .EVU_RING_EN = 0 ∧ RegsBut (fun f => f == .EVU_RING_EN || f == .EVU_IRQ_EN) 0 s t) ∧
      (v % 2 = 1 → s.get .EVU_RING_EN = 0 → s.eventRingValid →
        t.get .EVU_RING_EN = 1 ∧ t.get .EVU_RING_HEAD = 0 ∧ t.get .EVU_RING_TAIL = 0 ∧
        RegsBut (fun f => f == .EVU_RING_EN || f == .EVU_IRQ_EN || f == .EVU_RING_HEAD || f == .EVU_RING_TAIL) 0 s t) ∧
      (v % 2 = 1 → s.get .EVU_RING_EN = 1 ∨ ¬s.eventRingValid → RegsBut (· == .EVU_IRQ_EN) 0 s t) := by
  refine ⟨_, evuRingCtrlWrite_open h hw hv, ?_, ?_, fun heven => ?_, fun hodd hoff hok => ?_, fun hodd hstay => ?_⟩
  · rw [evuCtrl_eq]
    split <;> [skip; split] <;> simp (disch := decide) [State.get_set]
  · rw [(settle_frame _).2.1, evuCtrl_eq]
    split <;> [skip; split] <;> rfl
  · rw [evuCtrl_eq, if_pos heven]
    exact ⟨by simp (disch := decide), (((RegsBut.refl _ 0 s).set _ _ rfl).set _ _ rfl).settle⟩
  · rw [evuCtrl_eq, if_neg (by omega), if_neg (by rintro (hx | hx) <;> [omega; exact hx hok])]
    exact ⟨by simp (disch := decide) [State.get_set], by simp (disch := decide) [State.get_set],
      by simp (disch := decide),
      (((((RegsBut.refl _ 0 s).set _ _ rfl).set _ _ rfl).set _ _ rfl).set _ _ rfl).settle⟩
  · rw [evuCtrl_eq, if_neg (by omega), if_pos hstay]
    exact ((RegsBut.refl _ 0 s).set _ _ rfl).settle

/-- EVU_RING_TAIL_WRITE as R114 gives it. -/
theorem evuRingTailWrite_completes {s : State} {v : Nat} (h : s.HostOpen) (hv : v < 2 ^ 32) (hw : s.writable 0x10020 = true) :
    let n := 2 ^ s.get .EVU_RING_LOG2
    let ok := s.get .EVU_RING_EN = 1 ∧ Num.sub32 (s.get .EVU_RING_HEAD) v ≤ n ∧ Num.sub32 v (s.get .EVU_RING_TAIL) ≤ n
    (ok → Runs (.evuRingTailWrite v) s fun t => t.get .EVU_RING_TAIL = v ∧ KeepsBlock (· == .EVU_RING_TAIL) 0 s t) ∧
    (¬ok → Runs (.evuRingTailWrite v) s (KeepsBlock (fun _ => false) 0 s)) := by
  have hrun := evuRingTailWrite_open h hw hv
  rw [evuTail_eq hv] at hrun
  refine ⟨fun hok => ⟨_, hrun, ?_⟩, fun hbad => ⟨_, hrun, ?_⟩⟩
  · rw [if_pos hok]
    exact ⟨by simp (disch := decide), ((KeepsBlock.refl _ 0 s).set _ _ rfl).settle⟩
  · rw [if_neg hbad]
    exact (KeepsBlock.refl _ 0 s).settle

/-- A 64-bit write of EVU_RING_BASE is taken whole or not at all (R7, R114). -/
theorem evuBaseWrite_completes {s : State} {b : Nat} (h : s.HostOpen) (hb : b < 2 ^ 64) (hw : s.writable 0x10010 = true) :
    Runs (.registerWrite 0 0x10010 8 b) s fun t =>
      t.get .EVU_RING_BASE = (if s.get .EVU_RING_EN = 0 ∧ b % 4096 = 0 then b else s.get .EVU_RING_BASE) ∧
      KeepsBlock (· == .EVU_RING_BASE) 0 s t := by
  refine ⟨_, registerWrite_open h (by decide) (by decide) 8 b, ?_⟩
  rw [barWrite_evuBase hw hb]
  split
  · exact ⟨by simp (disch := decide), ((KeepsBlock.refl _ 0 s).set _ _ rfl).settle⟩
  · exact ⟨by simp (disch := decide), (KeepsBlock.refl _ 0 s).settle⟩

/-- Settles O28, register by register. -/
theorem ringRegistersComplete : Obligations.RingRegistersComplete := by
  unfold Obligations.RingRegistersComplete
  exact ⟨fun s c v h hc hv => ⟨clientEnableWrite_completes h hc hv, metaTailWrite_completes h hc hv⟩,
    fun s v h hv => ⟨evuRingCtrlWrite_completes h hv, evuRingTailWrite_completes h hv, fun b hb => evuBaseWrite_completes h hb⟩⟩

end Sys2Proof.Machine
end

section
namespace Sys2Proof.Machine

/-! ## Errors of the link (R148) -/

theorem aer_uncStatus (s : State) (b : Nat) : (s.aer b).cfg.uncStatus = s.cfg.uncStatus ||| 2 ^ b := rfl

/-- An error that is reported in AER touches no register. -/
theorem RegsBut.aer (F : Field → Bool) (i : Nat) (s : State) (b : Nat) : RegsBut F i s (s.aer b) := RegsBut.refl F i s

theorem registerWrite_closed {s : State} {bar off : Nat} (hr : s.barsReached = true) (ho : s.barsOpen = false) (hbar : bar ≠ 6)
    (hoff : off < barSize bar) (width v : Nat) : exec (.registerWrite bar off width v) s = .next (settle s.unsupported) := by
  change execRegisterWrite bar off width v s = _
  rw [execRegisterWrite, if_neg (by omega), if_neg (by simpa using hbar), hostAct_closed hr ho]

/-- BAD_ACCESS is the one thing a bad write leaves (R138). -/
theorem badAccess_frame (s : State) : (settle s.badAccess).get .GCTL_LINK_ERR = s.get .GCTL_LINK_ERR ||| 16 ∧
    KeepsBlock (· == .GCTL_LINK_ERR) 0 s (settle s.badAccess) :=
  ⟨by simp (disch := decide) [State.badAccess], ((KeepsBlock.refl _ 0 s).set _ _ rfl).settle⟩

/-! ## Words of BAR0 that the host writes -/

/-- A write of a word of BAR0 that R125 and the block's clock let through. -/
theorem barWrite_word {s : State} {off v : Nat} (hw : s.writable off = true) (h4 : off % 4 = 0) (hv : v < 2 ^ 32) :
    s.barWrite 0 off 4 v = s.regWrite off v false := by
  simp [State.barWrite, State.write0, h4, write32_of_writable hw, wrap32_of_lt hv]

/-- One that they keep out. -/
theorem barWrite_word_discarded {s : State} {off : Nat} (hw : s.writable off = false) (h4 : off % 4 = 0) (v : Nat) :
    s.barWrite 0 off 4 v = s := by
  simp [State.barWrite, State.write0, State.write32, h4, hw]

theorem barWrite_bad {s : State} (bar off width v : Nat) (h : (width ≠ 4 ∧ width ≠ 8) ∨ off % width ≠ 0) :
    s.barWrite bar off width v = s.badAccess := by
  simp [State.barWrite, h]

/-! ## Interrupt enables (R531) -/

theorem enables_find : ∀ e ∈ enables, enables.find? (fun x => x.1 == e.1) = some e := by decide

theorem enables_fields : ∀ e ∈ enables, e.2.2.2.2.1 ≤ 32 ∧ settleFields e.2.2.1 = false ∧ e.2.2.1 ≠ .LINK_LTSSM ∧ e.2.2.1 ≠ .LINK_DOWN := by
  decide

theorem regWrite_enable (s : State) {off i bits vec : Nat} {reg en : Field} (he : (off, reg, en, i, bits, vec) ∈ enables) (v : Nat)
    (u : Bool) : s.regWrite off v u = s.enableWrite reg en i bits vec v := by
  have hfind : enables.find? (fun x => x.1 == off) = some (off, reg, en, i, bits, vec) := enables_find _ he
  simp [State.regWrite, hfind]

theorem irqEnableWrite_open {s : State} {off i bits vec : Nat} {reg en : Field} (he : (off, reg, en, i, bits, vec) ∈ enables)
    (h : s.HostOpen) (hw : s.writable off = true) (v : Nat) :
    exec (.irqEnableWrite off v) s = .next (settle (s.enableWrite reg en i bits vec (Num.wrap32 v))) := by
  have hany : (enables.any fun e => e.1 == off) = true := List.any_eq_true.mpr ⟨_, he, by simp⟩
  change execIrqEnableWrite off v s = _
  rw [execIrqEnableWrite, if_pos hany, hostReg_open h hw, regWrite_enable s he]

theorem linkCounts_settle : ∀ f, linkCounts f = true → settleFields f = true := by
  intro f h
  cases f <;> simp [linkCounts] at h <;> rfl

/-- The enable holds what was written, and the vector is signalled where a bit rises over a set one. -/
theorem enableWrite_completes (s : State) {reg en : Field} {i bits vec v : Nat} (hb : bits ≤ 32) (hs : settleFields en = false)
    (hl : en ≠ .LINK_LTSSM) (hd : en ≠ .LINK_DOWN) (hh : s.held = false) :
    let t := settle (s.enableWrite reg en i bits vec (Num.wrap32 v))
    t.get en i = v % 2 ^ bits ∧
      (Num.clearBits (v % 2 ^ bits) (s.get en i) &&& s.get reg i ≠ 0 → Signalled s t vec) := by
  have hmod : Num.wrap32 v % 2 ^ bits = v % 2 ^ bits := Nat.mod_mod_of_dvd v (Nat.pow_dvd_pow 2 hb)
  dsimp only
  unfold State.enableWrite
  rw [hmod]
  dsimp only
  refine ⟨?_, fun hrise => ?_⟩
  · split
    · rw [settle_get _ _ _ hs, State.get_set_self]
    · rw [settle_get _ _ _ hs, (signal_frame _ vec linkCounts_settle).1 en i hs, State.get_set_self]
  · rw [if_neg (by simpa using hrise)]
    exact ((signal_signalled _ vec).of_set hl hd).settle hh

/-! ## The other registers of the statement (R9, R10, R303, R390) -/

theorem regWrite_sootCtrl (s : State) (v : Nat) (u : Bool) : s.regWrite 0x30400 v u = s.sootCtrl v u := rfl

/-- LOCK holds PRECLEAR, and no write clears it (R10). -/
theorem sootCtrl_get (s : State) (v : Nat) :
    (s.sootCtrl v false).get .SOOT_PRECLEAR = (if s.get .SOOT_LOCK = 0 then v % 2 else s.get .SOOT_PRECLEAR) ∧
      (s.sootCtrl v false).get .SOOT_LOCK = (if v.testBit 31 then 1 else s.get .SOOT_LOCK) := by
  unfold State.sootCtrl
  by_cases hl : s.get .SOOT_LOCK = 0 <;> cases hb : v.testBit 31 <;> simp [hl, State.get_set]

/-- The rows a word shows are among the first `n` where no later one stands there. -/
theorem rowsAt_eq_take {off : Nat} (n : Nat) (h : ∀ r ∈ regRows.drop n, r.hit off = none) :
    rowsAt off = (regRows.take n).filterMap fun r => (r.hit off).map fun x => (r, x) := by
  have hdrop : ((regRows.drop n).filterMap fun r => (r.hit off).map fun x => (r, x)) = [] :=
    List.filterMap_eq_nil_iff.mpr fun r hr => by rw [h r hr]; rfl
  rw [rowsAt, ← List.take_append_drop n regRows, List.filterMap_append, hdrop, List.append_nil, List.take_append_drop]

theorem rowsAt_linkCtrl : rowsAt 0x104 = [(⟨.LINK_LANE_ERR_LIMIT, 0x104, 0, 1, 15, 8, .rw⟩, 0, 0),
    (⟨.LINK_AUTO_WIDTH, 0x104, 0, 1, 0, 0, .rw⟩, 0, 0)] := by
  rw [rowsAt_eq_take 27 (by decide +kernel)]
  rfl

theorem rowsAt_linkErr : rowsAt 0x110 = [(⟨.GCTL_LINK_ERR, 0x110, 0, 1, 4, 0, .rw1c⟩, 0, 0)] := by
  rw [rowsAt_eq_take 27 (by decide +kernel)]
  rfl

/-- RW fields take the value written (R9). -/
theorem regWrite_linkCtrl (s : State) (v : Nat) : s.regWrite 0x104 v false =
    (s.set .LINK_LANE_ERR_LIMIT 0 (v / 256 % 256)).set .LINK_AUTO_WIDTH 0 (v % 2) := by
  change s.writeFields 0x104 v false = _
  rw [State.writeFields, rowsAt_linkCtrl]
  simp [State.writeRow, Row.merge, Num.slice]

/-- RW1C bits that are written as 1 are cleared (R9). -/
theorem regWrite_linkErr (s : State) (v : Nat) : s.regWrite 0x110 v false =
    s.set .GCTL_LINK_ERR 0 (Num.clearBits (s.get .GCTL_LINK_ERR) (v % 32)) := by
  change s.writeFields 0x110 v false = _
  rw [State.writeFields, rowsAt_linkErr]
  simp [State.writeRow, Row.merge, Num.slice]

theorem enables_outside_mirror : ∀ e ∈ enables, e.1 < 0x91000 ∨ 0x91800 ≤ e.1 := by decide

theorem regWrite_resync (s : State) {k : Nat} (hk : k < Config.streams) (v : Nat) (u : Bool) :
    s.regWrite (0x91000 + 16 * k) v u = s.resyncWrite k v := by
  have hk' : k < 128 := hk
  have hfind : enables.find? (fun e => e.1 == 0x91000 + 16 * k) = none := by
    refine List.find?_eq_none.mpr fun e he => ?_
    have := enables_outside_mirror e he
    simp only [beq_iff_eq]
    omega
  have hne : ∀ n, n < 0x91000 → (0x91000 + 16 * k == n) = false := fun n hn => beq_false_of_ne (by omega)
  have hlt : 0x91000 + 16 * k < 0x91800 := by omega
  unfold State.regWrite
  simp [hfind, hne, hlt]

theorem mirrorSync_streams (s : State) (k : Nat) (st : Stream) : (s.mirrorSync k st).streams = s.streams := by
  unfold State.mirrorSync
  split <;> simp only [State.set_streams]

theorem mirrorShow_streams (s : State) (k : Nat) : (s.mirrorShow k).streams = s.streams := by
  unfold State.mirrorShow
  split
  · rfl
  · exact mirrorSync_streams s k _

/-- RESYNC leaves the stream's mirror with an empty backlog and a resynchronisation owed (R390). -/
theorem resync_stream {s : State} {k : Nat} {st : Stream} {m : MirrorSt} (hs : s.stream? k = some st) (hm : st.mirror = some m) :
    (s.resync k).stream? k = some { st with mirror := some { m.emptied with resync := true } } := by
  rw [State.resync, State.stream?, mirrorShow_streams, State.modMirror, State.modStream, hs]
  simp [State.setStream, hm]

theorem regWrite_cleanEighths (s : State) (v : Nat) (u : Bool) : s.regWrite 0xC0000 v u = s.cleanEighths v := rfl

/-- The unit is idle and the granules that would change class are clean (R303). -/
abbrev State.cleanMayMove (s : State) (n : Nat) : Prop :=
  1 ≤ n ∧ n ≤ 4 ∧ (s.objects = [] ∧ s.loads = [] ∧ s.streams = [] ∧ s.get .SOOT_SCRUB_BUSY = 0) ∧
    (ISet.meets (s.cleanEnd / 64) (n * s.eighth / 64) s.soot = false ∨ n ≤ s.get .CLEAN_EIGHTHS)

theorem cleanEighths_moves {s : State} {v : Nat} (h : s.cleanMayMove (v % 8)) :
    s.cleanEighths v = (s.set .CLEAN_EIGHTHS 0 (v % 8)).poolSync := by
  obtain ⟨h1, h4, ⟨ho, hl, hs, hb⟩, hc⟩ := h
  simp [State.cleanEighths, h1, h4, ho, hl, hs, hb, hc]

theorem cleanEighths_stays {s : State} {v : Nat} (h : ¬s.cleanMayMove (v % 8)) : s.cleanEighths v = s := by
  unfold State.cleanEighths
  refine if_neg fun hc => h ?_
  simpa [State.cleanMayMove, and_assoc] using hc

theorem poolSync_get_cleanEighths (s : State) : s.poolSync.get .CLEAN_EIGHTHS = s.get .CLEAN_EIGHTHS := by
  simp [State.poolSync, State.get_set]

/-! ## The statement -/

theorem irqEnableWrite_completes {s : State} (v : Nat) (h : s.HostOpen) : ∀ e ∈ enables, s.writable e.1 = true →
    Runs (.irqEnableWrite e.1 v) s fun t => t.get e.2.2.1 e.2.2.2.1 = v % 2 ^ e.2.2.2.2.1 ∧
      (Num.clearBits (v % 2 ^ e.2.2.2.2.1) (s.get e.2.2.1 e.2.2.2.1) &&& s.get e.2.1 e.2.2.2.1 ≠ 0 →
        Signalled s t e.2.2.2.2.2) := by
  rintro ⟨off, reg, en, i, bits, vec⟩ he hw
  obtain ⟨hb, hs, hl, hd⟩ := enables_fields _ he
  exact ⟨_, irqEnableWrite_open he h hw v, enableWrite_completes s hb hs hl hd (held_of_barsReached h.1)⟩

/-- The writes that change nothing, or an error register alone (R125, R138, R148). -/
theorem registerWrite_refused {s : State} {bar off width : Nat} (v : Nat) (hr : s.barsReached = true) (hbar : bar ≠ 6)
    (hoff : off < barSize bar) :
    (s.barsOpen = false → Runs (.registerWrite bar off width v) s fun t => t.cfg.uncStatus = s.cfg.uncStatus ||| 2 ^ 20 ∧
      RegsBut (fun _ => false) 0 s t ∧ t.dram = s.dram ∧ t.packets = s.packets ∧ t.msixTable = s.msixTable) ∧
    (s.barsOpen = true → bar = 0 → width = 4 → off % 4 = 0 → s.writable off = false →
      Runs (.registerWrite bar off width v) s (KeepsBlock (fun _ => false) 0 s)) ∧
    (s.barsOpen = true → (width ≠ 4 ∧ width ≠ 8) ∨ off % width ≠ 0 → Runs (.registerWrite bar off width v) s fun t =>
      t.get .GCTL_LINK_ERR = s.get .GCTL_LINK_ERR ||| 16 ∧ KeepsBlock (· == .GCTL_LINK_ERR) 0 s t) := by
  refine ⟨fun hc => ⟨_, registerWrite_closed hr hc hbar hoff width v, ?_⟩,
    fun ho h0 h4 hal hw => ⟨_, registerWrite_open ⟨hr, ho⟩ hbar hoff width v, ?_⟩,
    fun ho hbad => ⟨_, registerWrite_open ⟨hr, ho⟩ hbar hoff width v, ?_⟩⟩
  · refine ⟨?_, (RegsBut.aer _ _ _ _).settle, ?_, ?_, ?_⟩
    · rw [settle_cfg, State.unsupported, aer_uncStatus]
    · rw [settle_dram]; rfl
    · rw [settle_packets]; rfl
    · rw [settle_msixTable]; rfl
  · subst h0 h4
    rw [barWrite_word_discarded hw hal]
    exact (KeepsBlock.refl _ 0 s).settle
  · rw [barWrite_bad _ _ _ _ hbad]
    exact badAccess_frame s

/-- A full write of one word of BAR0 that is let through. -/
theorem registerWrite_word {s : State} {off v : Nat} (h : s.HostOpen) (hoff : off < barSize 0) (h4 : off % 4 = 0)
    (hw : s.writable off = true) (hv : v < 2 ^ 32) :
    exec (.registerWrite 0 off 4 v) s = .next (settle (s.regWrite off v false)) := by
  rw [registerWrite_open h (by decide) hoff, barWrite_word hw h4 hv]

theorem sootCtrlWrite_completes {s : State} {v : Nat} (h : s.HostOpen) (hv : v < 2 ^ 32) (hw : s.writable 0x30400 = true) :
    Runs (.registerWrite 0 0x30400 4 v) s fun t =>
      t.get .SOOT_PRECLEAR = (if s.get .SOOT_LOCK = 0 then v % 2 else s.get .SOOT_PRECLEAR) ∧
      t.get .SOOT_LOCK = (if v.testBit 31 then 1 else s.get .SOOT_LOCK) := by
  refine ⟨_, registerWrite_word h (by decide) rfl hw hv, ?_⟩
  dsimp only
  rw [regWrite_sootCtrl, settle_get _ _ _ rfl, settle_get _ _ _ rfl]
  exact sootCtrl_get s v

theorem linkCtrlWrite_completes {s : State} {v : Nat} (h : s.HostOpen) (hv : v < 2 ^ 32) (hw : s.writable 0x104 = true) :
    Runs (.registerWrite 0 0x104 4 v) s fun t => t.get .LINK_LANE_ERR_LIMIT = v / 256 % 256 ∧ t.get .LINK_AUTO_WIDTH = v % 2 ∧
      KeepsBlock (fun f => f == .LINK_LANE_ERR_LIMIT || f == .LINK_AUTO_WIDTH) 0 s t := by
  refine ⟨_, registerWrite_word h (by decide) rfl hw hv, ?_⟩
  rw [regWrite_linkCtrl]
  exact ⟨by simp (disch := decide) [State.get_set], by simp (disch := decide),
    (((KeepsBlock.refl _ 0 s).set _ _ rfl).set _ _ rfl).settle⟩

theorem linkErrWrite_completes {s : State} {v : Nat} (h : s.HostOpen) (hv : v < 2 ^ 32) (hw : s.writable 0x110 = true) :
    Runs (.registerWrite 0 0x110 4 v) s fun t =>
      t.get .GCTL_LINK_ERR = Num.clearBits (s.get .GCTL_LINK_ERR) (v % 32) ∧ KeepsBlock (· == .GCTL_LINK_ERR) 0 s t := by
  refine ⟨_, registerWrite_word h (by decide) rfl hw hv, ?_⟩
  rw [regWrite_linkErr]
  exact ⟨by simp (disch := decide), ((KeepsBlock.refl _ 0 s).set _ _ rfl).settle⟩

theorem mirrorResyncWrite_completes {s : State} {v k : Nat} {st : Stream} {m : MirrorSt} (h : s.HostOpen) (hv : v < 2 ^ 32)
    (hk : k < Config.streams) (hw : s.writable (0x91000 + 16 * k) = true) (hbit : v.testBit 31 = true)
    (hside : s.get .MS_SIDE k = 1) (hs : s.stream? k = some st) (hm : st.mirror = some m) :
    Runs (.mirrorResyncWrite k v) s fun t =>
      ∃ x n, t.stream? k = some x ∧ x.mirror = some n ∧ n.resync = true ∧ n.w = 0 ∧ n.items = [] := by
  have hrun : exec (.mirrorResyncWrite k v) s = .next (settle (s.resync k)) := by
    change execMirrorResyncWrite k v s = _
    rw [execMirrorResyncWrite, if_neg (by omega), hostReg_open h hw, wrap32_of_lt hv, regWrite_resync s hk, State.resyncWrite,
      if_pos (by simp [hbit, hside])]
  refine ⟨_, hrun, { st with mirror := some { m.emptied with resync := true } }, { m.emptied with resync := true }, ?_, rfl, rfl, rfl,
    rfl⟩
  rw [State.stream?, settle_streams]
  exact resync_stream hs hm

theorem cleanEighthsWrite_completes {s : State} {v : Nat} (h : s.HostOpen) (hv : v < 2 ^ 32) (hw : s.writable 0xC0000 = true) :
    (s.cleanMayMove (v % 8) → Runs (.cleanEighthsWrite v) s fun t => t.get .CLEAN_EIGHTHS = v % 8) ∧
    (¬s.cleanMayMove (v % 8) → Runs (.cleanEighthsWrite v) s (KeepsBlock (fun _ => false) 0 s)) := by
  have hrun : exec (.cleanEighthsWrite v) s = .next (settle (s.cleanEighths v)) := by
    change hostReg 0xC0000 v s = _
    rw [hostReg_open h hw, wrap32_of_lt hv, regWrite_cleanEighths]
  refine ⟨fun hm => ⟨_, hrun, ?_⟩, fun hm => ⟨_, hrun, ?_⟩⟩
  · dsimp only
    rw [cleanEighths_moves hm, settle_get _ _ _ rfl, poolSync_get_cleanEighths, State.get_set_self]
  · rw [cleanEighths_stays hm]
    exact (KeepsBlock.refl _ 0 s).settle

/-- Settles O30, register by register. -/
theorem registerWritesComplete : Obligations.RegisterWritesComplete := by
  unfold Obligations.RegisterWritesComplete
  exact ⟨fun s v h => irqEnableWrite_completes v h, fun s bar off width v hr hbar hoff => registerWrite_refused v hr hbar hoff,
    fun s v h hv => ⟨sootCtrlWrite_completes h hv, linkCtrlWrite_completes h hv, linkErrWrite_completes h hv,
      fun k st m hk hw hbit hside hs hm => mirrorResyncWrite_completes h hv hk hw hbit hside hs hm,
      cleanEighthsWrite_completes h hv⟩⟩

end Sys2Proof.Machine
end

section
namespace Sys2Proof.Machine

/-! ## RC fields that a read clears (R9) -/

theorem clear_get (s : State) (r : Row × Nat × Nat) (f : Field) (i : Nat) :
    (if r.1.acc = .rc then s.set r.1.field r.2.1 0 else s).get f i =
      if r.1.acc = .rc ∧ r.1.field = f ∧ r.2.1 = i then 0 else s.get f i := by
  by_cases hacc : r.1.acc = .rc
  · simp only [hacc, if_true, true_and, State.get_set, eq_comm]
  · simp [hacc]

/-- Only an RC field of the word is cleared. -/
theorem foldl_clear_get (l : List (Row × Nat × Nat)) (s : State) (f : Field) (i : Nat) :
    (l.foldl (fun s r => if r.1.acc = .rc then s.set r.1.field r.2.1 0 else s) s).get f i =
      if ∃ r ∈ l, r.1.acc = .rc ∧ r.1.field = f ∧ r.2.1 = i then 0 else s.get f i := by
  induction l generalizing s with
  | nil => simp
  | cons r l ih =>
    rw [List.foldl_cons, ih, clear_get]
    simp only [List.mem_cons, exists_eq_or_imp]
    by_cases hr : r.1.acc = .rc ∧ r.1.field = f ∧ r.2.1 = i
    · rw [if_pos hr, ite_self, if_pos (.inl hr)]
    · simp only [hr, false_or, if_false]

/-- A register that a full read of the word at `off` clears. -/
def Clears (off : Nat) (f : Field) (i : Nat) : Prop := ∃ r ∈ rowsAt off, r.1.acc = .rc ∧ r.1.field = f ∧ r.2.1 = i

theorem readClear_get_cleared {s : State} {off : Nat} {f : Field} {i : Nat} (h : Clears off f i)
    (hc : s.clockIsLost (blockClock off) = false) (hr : s.readsReset off = false) : (s.readClear off).get f i = 0 := by
  rw [State.readClear, if_neg (by simp [hc, hr]), foldl_clear_get]
  exact if_pos h

theorem readClear_get_kept {s : State} {off : Nat} {f : Field} {i : Nat} (h : ¬Clears off f i) :
    (s.readClear off).get f i = s.get f i := by
  unfold State.readClear
  split
  · rfl
  · rw [foldl_clear_get]
    exact if_neg h

/-- A read clears registers and touches nothing else. -/
theorem readClear_frame (s : State) (off : Nat) : Keeps (fun _ => true) s (s.readClear off) := by
  unfold State.readClear
  split
  · exact Keeps.refl _ s
  · refine Keeps.foldl _ (fun s r => ?_) _ s
    split
    · exact (Keeps.refl _ s).set _ _ _ rfl
    · exact Keeps.refl _ s

/-- No RC field follows the state, and none says whether the link is up. -/
theorem rc_fields : ∀ r ∈ regRows, r.acc = .rc → followFields r.field = false ∧ r.field ≠ .LINK_DOWN := by decide +kernel

theorem Clears.field {off : Nat} {f : Field} {i : Nat} (h : Clears off f i) : followFields f = false ∧ f ≠ .LINK_DOWN := by
  obtain ⟨r, hr, hacc, rfl, -⟩ := h
  obtain ⟨x, hx, y, -, hxy⟩ : ∃ x ∈ regRows, ∃ y, x.hit off = some y ∧ (x, y) = r := by simpa [rowsAt] using hr
  subst hxy
  exact rc_fields x hx hacc

theorem readClear_linkDead (s : State) (off : Nat) : (s.readClear off).linkDead = s.linkDead := by
  have hd : (s.readClear off).get .LINK_DOWN = s.get .LINK_DOWN := readClear_get_kept fun h => h.field.2 rfl
  simp only [State.linkDead, State.clockIsLost, hd, (readClear_frame s off).clockLost]

/-! ## What a host read answers (R9, R15, R148) -/

theorem readReg_open {s : State} {off width : Nat} (h : s.HostOpen) (hoff : off < 2 ^ 24) (hal : off % width = 0) :
    readReg off width s = .next (settle (s.hostRead off width)) := by
  have hsize : ¬barSize 0 ≤ off := by simpa [barSize] using hoff
  simp [readReg, hsize, hal, hostAsk_open h]

theorem registerReadClear_eq {s : State} {off width : Nat} (hoff : off < 2 ^ 24) (hw : width = 4 ∨ width = 8) :
    exec (.registerReadClear 0 off width) s = readReg off width s := by
  have hsize : ¬barSize 0 ≤ off := by simpa [barSize] using hoff
  change execRegisterReadClear 0 off width s = _
  simp [execRegisterReadClear, hsize, hw]

/-- The state in which a read of the low half has kept the high one (R15). -/
def State.shadowed (s : State) (off : Nat) : State :=
  if isLow off then { s with shadowOwner := some off, shadowWord := some (s.readWord (off + 4)) } else s

theorem shadowed_get (s : State) (off : Nat) (f : Field) (i : Nat) : (s.shadowed off).get f i = s.get f i := by
  unfold State.shadowed
  split <;> rfl

/-- A read that the shadow word does not answer gives the word and clears its RC fields. -/
theorem hostRead_word {s : State} {off : Nat} (h : isHigh off = false ∨ s.shadowOwner ≠ some (off - 4)) :
    s.hostRead off 4 = ((s.shadowed off).readClear off).emit (.readData 0 off (s.readWord off)) := by
  have hno : ¬(isHigh off && s.shadowOwner == some (off - 4)) = true := by
    rcases h with h | h <;> simp [h]
  simp [State.hostRead, State.read32, hno, State.shadowed]

/-- A read of the high half takes the word kept for it. -/
theorem hostRead_kept {s : State} {off w : Nat} (h : isHigh off = true) (ho : s.shadowOwner = some (off - 4))
    (hw : s.shadowWord = some w) : s.hostRead off 4 = ({ s with shadowWord := none } : State).emit (.readData 0 off w) := by
  simp [State.hostRead, State.read32, h, ho, hw]

/-- Where that word has been read already, the high half reads as it stands. -/
theorem hostRead_live {s : State} {off : Nat} (h : isHigh off = true) (ho : s.shadowOwner = some (off - 4))
    (hw : s.shadowWord = none) : s.hostRead off 4 = s.emit (.readData 0 off (s.readWord off)) := by
  simp [State.hostRead, State.read32, h, ho, hw]

theorem shadowed_frame (s : State) (off : Nat) : (s.shadowed off).egress = s.egress ∧ (s.shadowed off).clockLost = s.clockLost := by
  unfold State.shadowed
  split <;> exact ⟨rfl, rfl⟩

/-- A read that the shadow word does not answer puts the word on the wire, and the RC fields of the word alone are cleared; no other
register changes but those that follow the state (R9). -/
theorem hostRead_word_completes {s : State} {off : Nat} (h : s.HostOpen) (hs : isHigh off = false ∨ s.shadowOwner ≠ some (off - 4)) :
    let t := settle (s.hostRead off 4)
    Sent s t (.readData 0 off (s.readWord off)) ∧
      (∀ f i, Clears off f i → s.clockIsLost (blockClock off) = false → s.readsReset off = false → t.get f i = 0) ∧
      ∀ f i, settleFields f = false → ¬Clears off f i → t.get f i = s.get f i := by
  have hget := shadowed_get s off
  obtain ⟨hegr, hclk⟩ := shadowed_frame s off
  have hlost : ∀ n, (s.shadowed off).clockIsLost n = s.clockIsLost n := fun n => by simp only [State.clockIsLost, hclk]
  have hreset : (s.shadowed off).readsReset off = s.readsReset off := by
    have hdev : (s.shadowed off).dev = s.dev := hget _ _
    rw [State.readsReset, hdev, State.readsReset]
  have hdead : (((s.shadowed off).readClear off).emit (.readData 0 off (s.readWord off))).linkDead = false := by
    rw [emit_linkDead, readClear_linkDead, State.linkDead, hget, hlost]
    exact linkDead_of_barsReached h.1
  rw [hostRead_word hs]
  refine ⟨Sent.settle ?_, fun f i hc hl hr => ?_, fun f i hf hc => ?_⟩
  · obtain ⟨l, he, hx⟩ := (readClear_frame (s.shadowed off) off).sent_emit (.readData 0 off (s.readWord off))
    exact ⟨l, by rw [he, hegr], hx⟩
  · rw [(settle_frame_linkUp _ hdead).1 f i hc.field.1, emit_get]
    exact readClear_get_cleared hc ((hlost _).trans hl) (hreset.trans hr)
  · rw [settle_get _ _ _ hf, emit_get, readClear_get_kept hc, hget]

/-- REGISTER_READ_CLEAR of 4 bytes (R9). -/
theorem registerReadClear_word_completes {s : State} {off : Nat} (h : s.HostOpen) (hoff : off < 2 ^ 24) (h4 : off % 4 = 0)
    (hs : isHigh off = false) : Runs (.registerReadClear 0 off 4) s fun t => Sent s t (.readData 0 off (s.readWord off)) ∧
      (∀ f i, Clears off f i → s.clockIsLost (blockClock off) = false → s.readsReset off = false → t.get f i = 0) ∧
      ∀ f i, settleFields f = false → ¬Clears off f i → t.get f i = s.get f i := by
  have hrun : exec (.registerReadClear 0 off 4) s = .next (settle (s.hostRead off 4)) := by
    rw [registerReadClear_eq hoff (.inl rfl), readReg_open h hoff h4]
  exact ⟨_, hrun, hostRead_word_completes h (.inl hs)⟩

/-- REGISTER_READ_CLEAR of 8 bytes reads both halves at once. -/
theorem registerReadClear_pair_completes {s : State} {off : Nat} (h : s.HostOpen) (hoff : off < 2 ^ 24) (h8 : off % 8 = 0) :
    Runs (.registerReadClear 0 off 8) s fun t =>
      Sent s t (.readData 0 off (s.readWord off + 2 ^ 32 * s.readWord (off + 4))) := by
  have hrun : exec (.registerReadClear 0 off 8) s = .next (settle (s.hostRead off 8)) := by
    rw [registerReadClear_eq hoff (.inr rfl), readReg_open h hoff h8]
  exact ⟨_, hrun, (((readClear_frame s off).trans (readClear_frame _ (off + 4))).sent_emit _).settle⟩

/-- SHADOW_LOW_READ keeps the high half (R15). -/
theorem shadowLowRead_completes {s : State} {off : Nat} (h : s.HostOpen) (hoff : off < 2 ^ 24) (h4 : off % 4 = 0)
    (hl : isLow off = true) (hs : isHigh off = false) : Runs (.shadowLowRead off) s fun t =>
      Sent s t (.readData 0 off (s.readWord off)) ∧ t.shadowOwner = some off ∧ t.shadowWord = some (s.readWord (off + 4)) := by
  have k := readClear_frame (s.shadowed off) off
  have hsh : s.shadowed off = { s with shadowOwner := some off, shadowWord := some (s.readWord (off + 4)) } := if_pos hl
  refine ⟨_, readReg_open h hoff h4, (hostRead_word_completes h (.inl hs)).1, ?_, ?_⟩
  · rw [settle_shadowOwner, hostRead_word (.inl hs), emit_shadowOwner, k.shadowOwner, hsh]
  · rw [settle_shadowWord, hostRead_word (.inl hs), emit_shadowWord, k.shadowWord, hsh]

/-- SHADOW_HIGH_READ gives the kept half once, and the live one where none of its own is kept (R15). -/
theorem shadowHighRead_completes {s : State} {off : Nat} (h : s.HostOpen) (hoff : off < 2 ^ 24) (h4 : off % 4 = 0)
    (hh : isHigh off = true) :
    (∀ w, s.shadowOwner = some (off - 4) → s.shadowWord = some w → Runs (.shadowHighRead off) s fun t =>
      Sent s t (.readData 0 off w) ∧ t.shadowWord = none) ∧
    (s.shadowOwner ≠ some (off - 4) ∨ s.shadowWord = none → Runs (.shadowHighRead off) s fun t =>
      Sent s t (.readData 0 off (s.readWord off))) := by
  refine ⟨fun w ho hw => ⟨_, readReg_open h hoff h4, ?_⟩, fun hn => ⟨_, readReg_open h hoff h4, ?_⟩⟩
  · rw [hostRead_kept hh ho hw]
    exact ⟨Sent.settle ⟨[_], rfl, by simp⟩, by rw [settle_shadowWord, emit_shadowWord]⟩
  · by_cases ho : s.shadowOwner = some (off - 4)
    · rw [hostRead_live hh ho (hn.resolve_left (not_not_intro ho))]
      exact ((Keeps.refl (fun _ => true) s).sent_emit _).settle
    · exact (hostRead_word_completes h (.inr ho)).1

/-- A read that finds the BARs closed is an Unsupported Request (R148). -/
theorem registerReadClear_closed {s : State} {off : Nat} (hr : s.barsReached = true) (ho : s.barsOpen = false) (hoff : off < 2 ^ 24)
    (h4 : off % 4 = 0) : Runs (.registerReadClear 0 off 4) s fun t => Sent s t (.unsupported off) ∧
      t.cfg.uncStatus = s.cfg.uncStatus ||| 2 ^ 20 ∧ RegsBut (fun _ => false) 0 s t := by
  have hsize : ¬barSize 0 ≤ off := by simpa [barSize] using hoff
  have hrun : exec (.registerReadClear 0 off 4) s = .next (settle (s.unsupported.emit (.unsupported off))) := by
    rw [registerReadClear_eq hoff (.inl rfl), readReg, if_neg (by simp [hsize, h4]), hostAsk_closed hr ho]
  refine ⟨_, hrun, Sent.settle ⟨[_], rfl, by simp⟩, ?_, RegsBut.settle (RegsBut.aer _ 0 s 20)⟩
  rw [settle_cfg]
  rfl

/-! ## Requests that are not carried out as asked (R14, R138, R148) -/

/-- A request of 4 or 8 bytes, aligned and fully enabled. -/
abbrev FullAccess (off bytes be : Nat) : Prop := (bytes = 4 ∨ bytes = 8) ∧ off % bytes = 0 ∧ be % 2 ^ bytes = 2 ^ bytes - 1

theorem fullAccess_false {off bytes be : Nat} (h : ¬FullAccess off bytes be) :
    ((bytes == 4 || bytes == 8) && off % bytes == 0 && be % 2 ^ bytes == 2 ^ bytes - 1) = false := by
  rw [Bool.eq_false_iff]
  exact fun hb => h (by simpa [and_assoc] using hb)

/-- A request that is no TLP in error meets the rules of R138. -/
theorem badBarAccess_odd {s : State} {bar off bytes : Nat} (hbar : bar ≠ 6) (hoff : off < barSize bar) (hb : bytes ≠ 0) (write : Bool)
    (be : Nat) : exec (.badBarAccess bar write off bytes be none) s = oddAccess bar write off bytes be s := by
  change execBadBarAccess bar write off bytes be none s = _
  rw [execBadBarAccess, if_neg (by simp [hbar, hb, hoff])]

/-- A TLP in error is discarded and reported in AER; one outside every BAR is an Unsupported Request besides (R148). -/
theorem badBarAccess_error {s : State} {bar off bytes : Nat} {write : Bool} {e : TlpFault} (hr : s.barsReached = true) (hbar : bar ≠ 6)
    (hoff : off < barSize bar) (hb : bytes ≠ 0) (hp : e = .poisoned → write = true) (hc : e = .ecrc → s.cfg.ecrcCheck = true)
    (be : Nat) : exec (.badBarAccess bar write off bytes be (some e)) s = .next (settle
      (if e = .outside ∧ write = false then (s.aer (TlpFault.bit e)).emit (.unsupported off) else s.aer (TlpFault.bit e))) := by
  change execBadBarAccess bar write off bytes be (some e) s = _
  rw [execBadBarAccess, if_neg (by simp [hbar, hb, hoff])]
  cases e
  case outside => cases write <;> simp [hr, State.unsupported, TlpFault.bit]
  case poisoned => simp [hr, hp]
  case ecrc => simp [hr, hc]
  all_goals simp [hr]

/-- A write that is narrow, unaligned or partly enabled changes GCTL_LINK_ERR alone (R138). -/
theorem oddWrite_completes {s : State} {bar off bytes be : Nat} (h : s.HostOpen) (hbar : bar ≠ 6) (hoff : off < barSize bar)
    (hb : bytes ≠ 0) (hf : ¬FullAccess off bytes be) : Runs (.badBarAccess bar true off bytes be none) s fun t =>
      t.get .GCTL_LINK_ERR = s.get .GCTL_LINK_ERR ||| 16 ∧ KeepsBlock (· == .GCTL_LINK_ERR) 0 s t := by
  have hrun : exec (.badBarAccess bar true off bytes be none) s = .next (settle s.badAccess) := by
    rw [badBarAccess_odd hbar hoff hb, oddAccess, if_pos rfl, fullAccess_false hf, if_neg Bool.false_ne_true, hostAct_open h]
  exact ⟨_, hrun, badAccess_frame s⟩

/-- A read across an 8-byte boundary is aborted and reported (R138, R148). -/
theorem crossingRead_completes {s : State} {bar off bytes : Nat} (be : Nat) (h : s.HostOpen) (hbar : bar ≠ 6) (hoff : off < barSize bar)
    (hb : bytes ≠ 0) (hx : 8 < off % 8 + bytes) : Runs (.badBarAccess bar false off bytes be none) s fun t =>
      t.get .GCTL_LINK_ERR = s.get .GCTL_LINK_ERR ||| 16 ∧ t.cfg.uncStatus = s.cfg.uncStatus ||| 2 ^ 15 ∧
      Sent s t (.completerAbort off) := by
  have hrun : exec (.badBarAccess bar false off bytes be none) s =
      .next (settle ((s.badAccess.aer 15).emit (.completerAbort off))) := by
    rw [badBarAccess_odd hbar hoff hb, oddAccess, if_neg Bool.false_ne_true, crosses, if_pos (by simpa using hx), hostAsk_open h]
  refine ⟨_, hrun, ?_, ?_, Sent.settle ⟨[_], rfl, by simp⟩⟩
  · rw [settle_get _ _ _ rfl]
    exact State.get_set_self s _ _ _
  · rw [settle_cfg]
    rfl

/-- A narrower read returns the enabled bytes and changes nothing (R14, R138). -/
theorem narrowRead_completes {s : State} {bar off bytes be : Nat} (h : s.HostOpen) (hbar : bar ≠ 6) (hoff : off < barSize bar)
    (hb : bytes ≠ 0) (hx : off % 8 + bytes ≤ 8) (hf : ¬FullAccess off bytes be) :
    Runs (.badBarAccess bar false off bytes be none) s fun t =>
      (∃ bs : Bytes, Sent s t (.readBytes bar off bs) ∧ bs.length = bytes ∧
        ∀ i, i < bytes → bs.getD i 0#8 = if be.testBit i then s.barByte bar (off + i) else 0#8) ∧
      KeepsBlock (fun _ => false) 0 s t := by
  have hrun : exec (.badBarAccess bar false off bytes be none) s = .next (settle (s.emit (.readBytes bar off
      ((List.range bytes).map fun i => if be.testBit i then s.barByte bar (off + i) else 0#8)))) := by
    rw [badBarAccess_odd hbar hoff hb, oddAccess, if_neg Bool.false_ne_true, crosses, if_neg (by simpa using hx), hostAsk_open h,
      State.oddRead, fullAccess_false hf, Bool.and_false, if_neg Bool.false_ne_true]
  refine ⟨_, hrun, ⟨_, ((Keeps.refl (fun _ => true) s).sent_emit _).settle, by simp, fun i hi => ?_⟩,
    ((KeepsBlock.refl _ 0 s).emit _).settle⟩
  simp [List.getD, hi]

/-- A TLP in error leaves nothing but its report (R148). -/
theorem tlpError_completes {s : State} {bar off bytes be : Nat} {write : Bool} {e : TlpFault} (hr : s.barsReached = true) (hbar : bar ≠ 6)
    (hoff : off < barSize bar) (hb : bytes ≠ 0) (hp : e = .poisoned → write = true) (hc : e = .ecrc → s.cfg.ecrcCheck = true) :
    Runs (.badBarAccess bar write off bytes be (some e)) s fun t =>
      t.cfg.uncStatus = s.cfg.uncStatus ||| 2 ^ TlpFault.bit e ∧ RegsBut (fun _ => false) 0 s t ∧ t.packets = s.packets ∧
      t.dram = s.dram ∧ (e = .outside → write = false → Sent s t (.unsupported off)) := by
  refine ⟨_, badBarAccess_error hr hbar hoff hb hp hc be, ?_, RegsBut.settle ?_, ?_, ?_, fun he hw => ?_⟩
  · rw [settle_cfg]; split <;> rfl
  · split <;> exact RegsBut.aer _ 0 s (TlpFault.bit e)
  · rw [settle_packets]; split <;> rfl
  · rw [settle_dram]; split <;> rfl
  · rw [if_pos ⟨he, hw⟩]
    exact Sent.settle ⟨[_], rfl, by simp⟩

/-- Settles O31: the reads by their offset, then closed BARs, odd requests and TLPs in error. -/
theorem registerReadsComplete : Obligations.RegisterReadsComplete := by
  unfold Obligations.RegisterReadsComplete
  exact ⟨fun s off h hoff h4 => ⟨registerReadClear_word_completes h hoff h4, registerReadClear_pair_completes h hoff,
      shadowLowRead_completes h hoff h4, shadowHighRead_completes h hoff h4⟩,
    fun s off hr ho hoff h4 => registerReadClear_closed hr ho hoff h4,
    fun s bar off bytes be h hbar hoff hb => ⟨oddWrite_completes h hbar hoff hb, crossingRead_completes be h hbar hoff hb,
      narrowRead_completes h hbar hoff hb⟩,
    fun s bar off bytes be write e hr hbar hoff hb hp hc => tlpError_completes hr hbar hoff hb hp hc⟩

end Sys2Proof.Machine
end

section
/-! Work on the frame path (R32 to R35): what it leaves alone, and the replies of the packets that ask for it. -/

namespace Sys2Proof.Machine

/-! ## Nothing of a record on the wire -/

theorem NoRecord.refl (s : State) : NoRecord s s := ⟨[], by simp, by simp⟩

theorem NoRecord.trans {s t u : State} (h : NoRecord s t) (k : NoRecord t u) : NoRecord s u := by
  obtain ⟨l, hl, hx⟩ := h
  obtain ⟨m, hm, hy⟩ := k
  refine ⟨l ++ m, by rw [hm, hl, List.append_assoc], fun x hx' => ?_⟩
  rcases List.mem_append.mp hx' with h | h
  · exact hx x h
  · exact hy x h

theorem NoRecord.of_egress {s t : State} (h : t.egress = s.egress) : NoRecord s t := ⟨[], by simp [h], by simp⟩

/-! ## Work that no packet is answered by -/

/-- A packet less what its start and a fence mark in it. -/
def Pkt.bare (p : Pkt) : Pkt := { p with started := false, startTick := 0, fenced := false }

/-- What packets, replies and the link see of a state. -/
def State.outward (s : State) :=
  (s.fields, s.packets, s.staged, s.bme, s.clockLost, s.thermal, s.storedGen, s.egress)

/-- From `s` to `t` registers of `F` alone change; the packets in flight, the staged completions, the link, the thermal trip and the
stored generation are as they were, and no record is put on the wire. -/
structure Steady (F : Field → Bool) (s t : State) : Prop where
  reg : ∀ f i, F f = false → t.get f i = s.get f i
  packets : t.packets.map Pkt.bare = s.packets.map Pkt.bare
  staged : t.staged = s.staged
  bme : t.bme = s.bme
  clockLost : t.clockLost = s.clockLost
  thermal : t.thermal = s.thermal
  storedGen : t.storedGen = s.storedGen
  wire : NoRecord s t

section Steady

variable {F G : Field → Bool} {s t u : State}

/-- A change of parts that nobody outside sees. -/
theorem Steady.same (h : t.outward = s.outward) : Steady F s t := by
  simp only [State.outward, Prod.mk.injEq] at h
  obtain ⟨hf, hp, hs, hb, hc, ht, hg, he⟩ := h
  exact ⟨fun f i _ => State.get_congr hf f i, by rw [hp], hs, hb, hc, ht, hg, .of_egress he⟩

theorem Steady.refl (F : Field → Bool) (s : State) : Steady F s s := .same rfl

theorem Steady.trans (h : Steady F s t) (k : Steady F t u) : Steady F s u :=
  ⟨fun f i hf => (k.reg f i hf).trans (h.reg f i hf), k.packets.trans h.packets, k.staged.trans h.staged, k.bme.trans h.bme,
    k.clockLost.trans h.clockLost, k.thermal.trans h.thermal, k.storedGen.trans h.storedGen, h.wire.trans k.wire⟩

theorem Steady.mono (h : Steady F s t) (hg : ∀ f, F f = true → G f = true) : Steady G s t :=
  { h with reg := fun f i hf => h.reg f i (by cases e : F f <;> simp_all) }

/-- Parts that nobody outside sees change next. -/
theorem Steady.more (h : Steady F s t) (e : u.outward = t.outward) : Steady F s u := h.trans (.same e)

theorem Steady.set (h : Steady F s t) (f : Field) (i v : Nat) (hf : F f = true) : Steady F s (t.set f i v) := by
  refine h.trans { Steady.refl F t with reg := fun g j hg => State.get_set_ne _ _ _ _ ?_ }
  rintro rfl
  simp [hf] at hg

theorem Steady.inc (h : Steady F s t) (f : Field) (i n : Nat) (hf : F f = true) : Steady F s (t.inc f i n) := h.set f i _ hf

theorem Steady.sat (h : Steady F s t) (b : Nat) (f : Field) (i n : Nat) (hf : F f = true) : Steady F s (t.sat b f i n) := h.set f i _ hf

theorem Steady.ite {c : Prop} [Decidable c] (h : Steady F s t) (k : Steady F s u) : Steady F s (if c then t else u) := by
  split
  · exact h
  · exact k

theorem Steady.foldl {α : Type} (h : Steady F s t) (g : State → α → State) (hg : ∀ s a, Steady F s (g s a)) (l : List α) :
    Steady F s (l.foldl g t) := by
  induction l generalizing t with
  | nil => exact h
  | cons a l ih => exact ih (h.trans (hg t a))

/-- A frame that keeps the packets and the staged completions, and puts no record on the wire. -/
theorem Steady.of_keeps (k : Keeps F s t) (hp : t.packets = s.packets) (hs : t.staged = s.staged) (hw : NoRecord s t) :
    Steady F s t :=
  ⟨k.1, by rw [hp], hs, k.bme, k.clockLost, k.thermal, k.storedGen, hw⟩

end Steady

/-! ## Messages and events -/

theorem signal_steady (s : State) (v : Nat) : Steady linkCounts s (s.signal v) :=
  .of_keeps (signal_frame s v fun _ h => h) (signal_only s v).1 (signal_only s v).2.2.2.2.2 (signal_addsMessages s v).noRecord

theorem Steady.irq {F : Field → Bool} {s t : State} (h : Steady F s t) (r e : Field) (i b v : Nat)
    (hl : ∀ f, linkCounts f = true → F f = true) (hr : F r = true) : Steady F s (t.irq r e i b v) :=
  h.trans (.of_keeps (irq_frame t r e i b v hl hr) (irq_only t r e i b v).1 (irq_only t r e i b v).2.2.2.2.2
    (irq_addsMessages t r e i b v).noRecord)

theorem capture_outward (s : State) (c src d0 d1 d2 : Nat) : (s.capture c src d0 d1 d2).packets = s.packets ∧
    (s.capture c src d0 d1 d2).staged = s.staged ∧ (s.capture c src d0 d1 d2).egress = s.egress := by
  unfold State.capture
  dsimp only
  split <;> split <;> exact ⟨rfl, rfl, rfl⟩

theorem Steady.capture {F : Field → Bool} {s t : State} (h : Steady F s t) (c src d0 d1 d2 : Nat)
    (hc : c = 14 ∨ F .EVU_PENDING = true) : Steady F s (t.capture c src d0 d1 d2) := by
  obtain ⟨hp, hs, he⟩ := capture_outward t c src d0 d1 d2
  exact h.trans (.of_keeps (capture_frame t c src d0 d1 d2 hc) hp hs (.of_egress he))

/-! ## The way to the reply of one packet -/

/-- The packets in flight with number `id`. -/
def State.pktsOf (s : State) (id : Nat) : List Pkt := s.packets.filter fun p => p.id == id

/-- The registers that say whether and where a reply is written. -/
def linkFields : List Field := [.EVU_TICK_NOW, .LINK_LTSSM, .LINK_DOWN, .CL_CPL_BASE, .CL_CPL_LOG2]

/-- Packet `id` is in `t` as in `s`, not completed, and its reply would go the same way (R147, R162, R168). -/
structure Path (id : Nat) (s t : State) : Prop where
  reg : ∀ f ∈ linkFields, ∀ i, t.get f i = s.get f i
  bme : t.bme = s.bme
  clockLost : t.clockLost = s.clockLost
  thermal : t.thermal = s.thermal
  pkts : (t.pktsOf id).map Pkt.bare = (s.pktsOf id).map Pkt.bare
  staged : t.isStaged id = s.isStaged id
  wire : ∃ l, t.egress = s.egress ++ l

section Path

variable {F : Field → Bool} {id : Nat} {s t u : State}

theorem Path.trans (h : Path id s t) (k : Path id t u) : Path id s u := by
  obtain ⟨l, hl⟩ := h.wire
  obtain ⟨m, hm⟩ := k.wire
  exact ⟨fun f hf i => (k.reg f hf i).trans (h.reg f hf i), k.bme.trans h.bme, k.clockLost.trans h.clockLost,
    k.thermal.trans h.thermal, k.pkts.trans h.pkts, k.staged.trans h.staged, l ++ m, by rw [hm, hl, List.append_assoc]⟩

/-- The packets of a number, less their marks, are those of the packets less their marks. -/
theorem pktsOf_bare (s : State) (id : Nat) :
    (s.pktsOf id).map Pkt.bare = (s.packets.map Pkt.bare).filter fun p => p.id == id := by
  rw [List.filter_map]; rfl

theorem Steady.path (h : Steady F s t) (id : Nat) (hF : ∀ f ∈ linkFields, F f = false) : Path id s t := by
  obtain ⟨l, hl, -⟩ := h.wire
  exact ⟨fun f hf i => h.reg f i (hF f hf), h.bme, h.clockLost, h.thermal, by rw [pktsOf_bare, pktsOf_bare, h.packets],
    by simp only [State.isStaged, h.staged], l, hl⟩

theorem Path.refl (id : Nat) (s : State) : Path id s s := (Steady.refl (fun _ => false) s).path id fun _ _ => rfl

theorem Path.held (h : Path id s t) : t.held = s.held := by
  simp only [State.held, h.reg .LINK_LTSSM (by decide)]

theorem Path.now (h : Path id s t) : t.now = s.now := h.reg .EVU_TICK_NOW (by decide) 0

theorem Path.linkClosed (h : Path id s t) : t.linkClosed = s.linkClosed := by
  simp only [State.linkClosed, State.linkDead, State.clockIsLost, h.reg .LINK_DOWN (by decide), h.bme, h.clockLost]

theorem Path.replyAddr (h : Path id s t) (c i : Nat) : t.replyAddr c i = s.replyAddr c i := by
  simp only [State.replyAddr, h.reg .CL_CPL_BASE (by decide), h.reg .CL_CPL_LOG2 (by decide)]

theorem pkt?_eq_head? (s : State) (id : Nat) : s.pkt? id = (s.pktsOf id).head? := by
  rw [State.pkt?, State.pktsOf, List.head?_filter]

/-- The packet is still there, with its client and its words. -/
theorem Path.pkt (h : Path id s t) {p : Pkt} (hp : s.pkt? id = some p) :
    ∃ q, t.pkt? id = some q ∧ q.client = p.client ∧ q.words = p.words := by
  have hb : (t.pkt? id).map Pkt.bare = some p.bare := by
    rw [pkt?_eq_head?, ← List.head?_map, h.pkts, List.head?_map, ← pkt?_eq_head?, hp]; rfl
  obtain ⟨q, hq, he⟩ := Option.map_eq_some_iff.mp hb
  have hc : q.bare.client = p.bare.client := by rw [he]
  have hw : q.bare.words = p.bare.words := by rw [he]
  exact ⟨q, hq, hc, hw⟩

/-- The reply of a packet whose path stands. -/
theorem Path.replied (h : Path id s t) {p : Pkt} (r : Reply) (hp : s.pkt? id = some p) (hs : s.isStaged id = false)
    (hth : s.thermal = none) (hl : s.linkClosed = false) : Replied s (t.complete id r) p r := by
  obtain ⟨q, hq, hc, hw⟩ := h.pkt hp
  have hpi : p.id = id := by simpa using List.find?_some hp
  have hpw : q.w = p.w := by funext i; simp only [Pkt.w, hw]
  unfold Replied RepliedAt
  split
  · next hh =>
    rw [complete_stages t id r q hq (h.staged.trans hs) (h.held.trans hh), h.now, hpi]
    simp
  · next hh =>
    obtain ⟨l, hl'⟩ := complete_sends t id r q hq (h.thermal.trans hth) (h.linkClosed.trans hl)
      (h.held.trans (by simpa using hh))
    obtain ⟨m, hm⟩ := h.wire
    refine ⟨t.get .CL_CPL_HEAD p.client, m ++ replyOf t q r :: l, by rw [hl', hm, List.append_assoc], ?_⟩
    simp [replyOf, hc, hpw, h.now, h.replyAddr]

end Path

/-! ## The end of a packet command -/

/-- A reply on its way is not taken back. -/
theorem RepliedAt.keeps {F : Field → Bool} {s t u : State} {p : Pkt} {tick : Nat} {r : Reply} (h : RepliedAt s t p tick r)
    (k : Keeps F t u) (hs : ∀ x ∈ t.staged, x ∈ u.staged) : RepliedAt s u p tick r := by
  unfold RepliedAt at *
  split
  · next hh =>
    rw [if_pos hh] at h
    exact hs _ h
  · next hh =>
    rw [if_neg hh] at h
    obtain ⟨slot, hx⟩ := h
    exact ⟨slot, hx.keeps k⟩

theorem putReply_staged (s : State) (c tag tick : Nat) (r : Reply) : (s.putReply c tag tick r).staged = s.staged := by
  have hd : ∀ s : State, s.discard.staged = s.staged := fun s => (discard_only s).2.2.2.2.2
  have hp : ∀ (s : State) x, (s.post x).staged = s.staged := by intro s x; unfold State.post; split <;> rfl
  have hc := (capture_outward s 14 c 0 0 0).2.1
  unfold State.putReply
  dsimp only
  split
  · exact hc
  · split
    · rw [hd]; exact hc
    · rw [hp]; exact hc

theorem writeback_staged (s : State) (c : Nat) : (s.writeback c).staged = s.staged := by
  unfold State.writeback State.post
  split
  · rfl
  · split
    · exact (discard_only s).2.2.2.2.2
    · split <;> rfl

theorem replySignal_staged (s : State) (p : Pkt) (r : Reply) : (s.replySignal p r).staged = s.staged := by
  unfold State.replySignal
  split
  · exact (signal_only _ _).2.2.2.2.2
  · rfl

theorem fenceBump_staged (s : State) (h : Nat) : (s.fenceBump h).staged = s.staged := by
  unfold State.fenceBump
  split <;> rfl

/-- A completion that is written leaves the staging store alone. -/
theorem completeN_staged (n : Nat) (s : State) (id tick : Nat) (r : Reply) : (completeN n s id tick r).staged = s.staged := by
  induction n generalizing s id tick r with
  | zero => rfl
  | succ n ih =>
    have hfold : ∀ (l : List Nat) (v : State) (m : Nat) (q : Reply),
        (l.foldl (fun u w => completeN n u w m q) v).staged = v.staged := by
      intro l
      induction l with
      | nil => intros; rfl
      | cons a l ihl => intro v m q; rw [List.foldl_cons, ihl, ih]
    cases hp : s.pkt? id with
    | none => simp only [completeN, hp]
    | some p =>
      have ha : (s.answer id tick p r).staged = s.staged := putReply_staged _ _ _ _ _
      simp only [completeN, hp, replySignal_staged]
      split
      · rw [hfold, fenceBump_staged, writeback_staged, ha]
      · rw [writeback_staged, ha]

/-- What waits in the staging store still waits after a completion. -/
theorem complete_staged (s : State) (id : Nat) (r : Reply) {x : Staged} (hx : x ∈ s.staged) : x ∈ (s.complete id r).staged := by
  unfold State.complete State.completeAt State.stage
  dsimp only
  split
  · split
    · exact hx
    · exact List.mem_append_left _ hx
  · rw [completeN_staged]; exact hx

theorem drainN_staged (n : Nat) (s : State) (c : Nat) {x : Staged} (hx : x ∈ s.staged) : x ∈ (drainN n s c).staged := by
  induction n generalizing s with
  | zero => exact hx
  | succ n ih =>
    unfold drainN
    split
    · exact hx
    · exact ih _ (complete_staged _ _ _ hx)

theorem drain_staged (s : State) (c : Nat) {x : Staged} (hx : x ∈ s.staged) : x ∈ (s.drain c).staged := by
  unfold State.drain
  split
  · exact drainN_staged _ s c hx
  · exact hx

theorem RepliedAt.settle {s t : State} {p : Pkt} {tick : Nat} {r : Reply} (h : RepliedAt s t p tick r) :
    RepliedAt s (settle t) p tick r :=
  h.keeps (settle_frame t) fun x hx => by rwa [settle_staged]

theorem RepliedAt.drain {s t : State} {p : Pkt} {tick : Nat} {r : Reply} (h : RepliedAt s t p tick r) (c : Nat) :
    RepliedAt s (t.drain c) p tick r :=
  h.keeps (drain_frame t c) fun _ hx => drain_staged t c hx

theorem packetFields_reply (f : Field) (h : packetFields f = false) : replyFields f = false := by simp_all [packetFields]
theorem packetFields_settle (f : Field) (h : packetFields f = false) : settleFields f = false := by simp_all [packetFields]

/-- What follows the effect of a packet command: the packets behind it that failed their checks, and the ending of every command. -/
theorem drainSettle_frame (s : State) (c : Nat) : Keeps packetFields s (settle (s.drain c)) :=
  ((drain_frame s c).mono packetFields_reply).trans ((settle_frame _).mono packetFields_settle)

/-- A packet command that ends in its reply changes after its effect what replies change. -/
theorem reply_frame (s : State) (id : Nat) (r : Reply) (c : Nat) : Keeps packetFields s (settle ((s.complete id r).drain c)) :=
  ((complete_frame s id r).mono packetFields_reply).trans (drainSettle_frame _ c)

theorem find?_id_of_nodup {l : List Pkt} {p : Pkt} (hp : p ∈ l) (hn : (l.map Pkt.id).Nodup) :
    l.find? (fun q => q.id == p.id) = some p := by
  induction l with
  | nil => simp at hp
  | cons a l ih =>
    rw [List.map_cons, List.nodup_cons] at hn
    by_cases ha : a.id = p.id
    · rcases List.mem_cons.mp hp with rfl | hp
      · simp
      · exact absurd (ha ▸ List.mem_map_of_mem hp) hn.1
    · rw [List.find?_cons_of_neg (by simpa using ha)]
      exact ih ((List.mem_cons.mp hp).resolve_left (by rintro rfl; exact ha rfl)) hn.2

section Starts

variable {s : State} {p : Pkt}

theorem coresRun_of_nextStart (h : s.nextStart = some p) : s.coresRun = true := by
  unfold State.nextStart at h
  split at h
  · assumption
  · cases h

theorem thermal_of_coresRun (h : s.coresRun = true) : s.thermal = none := by
  simp only [State.coresRun, Bool.and_eq_true, Option.isNone_iff_eq_none] at h
  exact h.1.1.2

theorem mayStart_of_nextStart (h : s.nextStart = some p) : p ∈ s.packets ∧ s.mayStart p = true := by
  unfold State.nextStart at h
  split at h
  · have hm := List.mem_of_find?_eq_some h
    simp only [List.mem_filter, Bool.and_eq_true] at hm
    exact ⟨hm.1, hm.2.2⟩
  · cases h

theorem State.Starts.pkt? (h : s.Starts p) : s.pkt? p.id = some p :=
  find?_id_of_nodup (mayStart_of_nextStart h.1).1 h.2

theorem State.Starts.unstaged (h : s.Starts p) : s.isStaged p.id = false := by
  have := (mayStart_of_nextStart h.1).2
  simp only [State.mayStart, Bool.and_eq_true, Bool.not_eq_true'] at this
  exact this.1.1.2

theorem State.Starts.thermal (h : s.Starts p) : s.thermal = none := thermal_of_coresRun (coresRun_of_nextStart h.1)

theorem markStarted_steady (F : Field → Bool) (s : State) (id : Nat) : Steady F s (s.markStarted id) := by
  refine { Steady.refl F s with packets := ?_ }
  simp only [State.markStarted, List.map_map]
  apply List.map_congr_left
  intro q _
  simp only [Function.comp_apply]
  split <;> rfl

/-- The reply of the packet that starts, where its effect `w` leaves its path as it was. -/
theorem State.Starts.replied (h : s.Starts p) (hl : s.linkClosed = false) {w : State} (k : Path p.id s w) (r : Reply) :
    Replied s (settle ((w.complete p.id r).drain p.client)) p r :=
  RepliedAt.settle (RepliedAt.drain (k.replied r h.pkt? h.unstaged h.thermal hl) p.client)

/-- What a packet command answers where its packet starts next: `w` is what its effect makes of the state. -/
theorem State.Starts.runs (h : s.Starts p) {c : Instr} {op : Nat} {body : State → Pkt → State} (hc : exec c s = startPkt op body s)
    (ho : p.opcode = op) {w : State} (hw : body (s.markStarted p.id) p = w) :
    exec c s = .next (settle (w.drain p.client)) := by
  rw [hc, startPkt_of body h.1 ho, hw]

end Starts

theorem checked_none {s : State} {p : Pkt} {cs : List (Bool × Reply)} (body : State → State) (h : firstBad cs = none) :
    s.checked p cs body = body s := by
  simp [State.checked, h]

end Sys2Proof.Machine
end

section
/-! Operations the frame path shares (R219, R231, R282, R302, R390, R401, R403): which registers each writes. -/

namespace Sys2Proof.Machine

/-! ## Operations on registers -/

/-- From `s` to `t` registers of `F` are written and interrupts signalled, and nothing else. -/
structure OnRegs (F : Field → Bool) (s t : State) : Prop where
  keeps : Keeps F s t
  only : SignalOnly s t
  adds : AddsMessages s t

section OnRegs

variable {F G : Field → Bool} {s t u : State}

theorem OnRegs.refl (F : Field → Bool) (s : State) : OnRegs F s s := ⟨.refl F s, .refl s, .of_egress rfl⟩

theorem OnRegs.trans (h : OnRegs F s t) (k : OnRegs F t u) : OnRegs F s u :=
  ⟨h.keeps.trans k.keeps, h.only.trans k.only, h.adds.trans k.adds⟩

theorem OnRegs.mono (h : OnRegs F s t) (hg : ∀ f, F f = true → G f = true) : OnRegs G s t :=
  { h with keeps := h.keeps.mono fun f hf => by cases e : F f <;> simp_all }

theorem OnRegs.set (h : OnRegs F s t) (f : Field) (i v : Nat) (hf : F f = true) : OnRegs F s (t.set f i v) :=
  ⟨h.keeps.set f i v hf, h.only.set f i v, h.adds.set f i v⟩

theorem OnRegs.irq (h : OnRegs F s t) (r e : Field) (i b v : Nat) (hl : ∀ f, linkCounts f = true → F f = true) (hr : F r = true) :
    OnRegs F s (t.irq r e i b v) :=
  h.trans ⟨irq_frame t r e i b v hl hr, irq_only t r e i b v, irq_addsMessages t r e i b v⟩

theorem OnRegs.ite {c : Prop} [Decidable c] (h : OnRegs F s t) (k : OnRegs F s u) : OnRegs F s (if c then t else u) := by
  split
  · exact h
  · exact k

theorem OnRegs.foldl {α : Type} (h : OnRegs F s t) (g : State → α → State) (hg : ∀ s a, OnRegs F s (g s a)) (l : List α) :
    OnRegs F s (l.foldl g t) := by
  induction l generalizing t with
  | nil => exact h
  | cons a l ih => exact ih (h.trans (hg t a))

theorem OnRegs.steady (h : OnRegs F s t) : Steady F s t :=
  have ⟨hp, _, _, _, _, hs⟩ := h.only
  .of_keeps h.keeps hp hs h.adds.noRecord

theorem OnRegs.streams (h : OnRegs F s t) : t.streams = s.streams := h.keeps.streams

theorem OnRegs.jobs (h : OnRegs F s t) : t.jobs = s.jobs :=
  have ⟨_, _, _, hj, _, _⟩ := h.only
  hj

theorem OnRegs.stream? (h : OnRegs F s t) (k : Nat) : t.stream? k = s.stream? k := by
  rw [State.stream?, h.streams, State.stream?]

end OnRegs

/-! ## The registers of a stream (R231, R255) -/

/-- The registers that follow a stream beside CTX_STATE. -/
def syncRest : Field → Bool
  | .CTX_AU_HELD | .CTX_FB_FREE | .PP_USED | .PP_FREE | .PP_BUILDING | .PP_HOLDING | .PP_ALARM => true
  | _ => false

/-- The registers that follow a stream. -/
def syncFields (f : Field) : Bool := syncRest f || f == .CTX_STATE

theorem streamSync_none {s : State} {k : Nat} (h : s.stream? k = none) : s.streamSync k = s := by
  simp only [State.streamSync, h]

/-- CTX_STATE is written first, then the others. -/
theorem streamSync_some {s : State} {k : Nat} {st : Stream} (h : s.stream? k = some st) :
    OnRegs syncRest (s.set .CTX_STATE k st.ctxState) (s.streamSync k) := by
  have h2 : ∀ a b, OnRegs syncRest (s.set .CTX_STATE k st.ctxState)
      (((s.set .CTX_STATE k st.ctxState).set .CTX_AU_HELD k a).set .CTX_FB_FREE k b) := fun a b =>
    ((OnRegs.refl _ _).set _ k a rfl).set _ k b rfl
  simp only [State.streamSync, h]
  cases st.pipe with
  | none => exact h2 _ _
  | some p =>
    have h6 : ∀ a b c d e f, OnRegs syncRest (s.set .CTX_STATE k st.ctxState)
        ((((((((s.set .CTX_STATE k st.ctxState).set .CTX_AU_HELD k a).set .CTX_FB_FREE k b).set .PP_USED k c).set .PP_FREE k d).set
          .PP_BUILDING k e).set .PP_HOLDING k f)) := fun a b c d e f =>
      ((((h2 a b).set _ k c rfl).set _ k d rfl).set _ k e rfl).set _ k f rfl
    exact ((h6 _ _ _ _ _ _).set _ k 0 rfl).ite (h6 _ _ _ _ _ _)

theorem syncRest_sync (f : Field) (h : syncRest f = true) : syncFields f = true := by simp [syncFields, h]

theorem streamSync_onRegs (s : State) (k : Nat) : OnRegs syncFields s (s.streamSync k) := by
  cases h : s.stream? k with
  | none => rw [streamSync_none h]; exact .refl _ s
  | some st => exact ((OnRegs.refl syncFields s).set .CTX_STATE k _ rfl).trans ((streamSync_some h).mono syncRest_sync)

@[simp] theorem streamSync_jobs (s : State) (k : Nat) : (s.streamSync k).jobs = s.jobs := (streamSync_onRegs s k).jobs
@[simp] theorem streamSync_stream? (s : State) (k j : Nat) : (s.streamSync k).stream? j = s.stream? j :=
  (streamSync_onRegs s k).stream? j

/-- CTX_STATE shows the state of the stream. -/
theorem streamSync_ctxState {s : State} {k : Nat} {st : Stream} (h : s.stream? k = some st) :
    (s.streamSync k).get .CTX_STATE k = st.ctxState := by
  rw [(streamSync_some h).keeps.1 .CTX_STATE k rfl, State.get_set_self]

theorem streamSync_ctxState_other {s : State} {k j : Nat} (h : s.stream? j = none) :
    (s.streamSync k).get .CTX_STATE j = s.get .CTX_STATE j := by
  cases hk : s.stream? k with
  | none => rw [streamSync_none hk]
  | some st =>
    rw [(streamSync_some hk).keeps.1 .CTX_STATE j rfl, State.get_set_ne' _ _ _ (by rintro rfl; simp [hk] at h)]

/-! ## Streams -/

@[simp] theorem stream?_set (s : State) (f : Field) (i v k : Nat) : (s.set f i v).stream? k = s.stream? k := rfl
@[simp] theorem stream?_dropJobs (s : State) (p : Job → Bool) (k : Nat) : (s.dropJobs p).stream? k = s.stream? k := rfl

theorem stream?_setStream (s : State) (k j : Nat) (st : Stream) :
    (s.setStream k st).stream? j = if j = k then some st else s.stream? j := Tab.find?_put k j st s.streams

@[simp] theorem stream?_setStream_self (s : State) (k : Nat) (st : Stream) : (s.setStream k st).stream? k = some st := by
  simp [stream?_setStream]

theorem stream?_modStream (s : State) (k j : Nat) (g : Stream → Stream) :
    (s.modStream k g).stream? j = if j = k then (s.stream? k).map g else s.stream? j := by
  unfold State.modStream
  split
  · next h =>
    split
    · next hj => rw [hj, h]; rfl
    · rfl
  · next st h => rw [stream?_setStream, h]; rfl

@[simp] theorem stream?_modStream_self (s : State) (k : Nat) (g : Stream → Stream) :
    (s.modStream k g).stream? k = (s.stream? k).map g := by
  simp [stream?_modStream]

theorem setStream_steady (F : Field → Bool) (s : State) (k : Nat) (st : Stream) : Steady F s (s.setStream k st) := .same rfl

theorem modStream_outward (s : State) (k : Nat) (g : Stream → Stream) : (s.modStream k g).outward = s.outward := by
  unfold State.modStream
  split <;> rfl

theorem modStream_steady (F : Field → Bool) (s : State) (k : Nat) (g : Stream → Stream) : Steady F s (s.modStream k g) :=
  .same (modStream_outward s k g)

@[simp] theorem modStream_get (s : State) (k : Nat) (g : Stream → Stream) (f : Field) (i : Nat) :
    (s.modStream k g).get f i = s.get f i :=
  (modStream_steady (fun _ => false) s k g).reg f i rfl

/-! ## Units -/

/-- The busy registers of the units. -/
def unitFields : Field → Bool
  | .DEC_BUSY | .AR_BUSY | .CL_BUSY | .FFT_BUSY | .TRE_BUSY | .MENC_BUSY | .MENC_DECODING => true
  | _ => false

theorem unitIdle_onRegs (s : State) (u : UnitName) : OnRegs unitFields s (s.unitIdle u) := by
  have h := OnRegs.refl unitFields s
  cases u with
  | dec n => exact h.set _ _ _ rfl
  | array n => exact h.set _ _ _ rfl
  | cluster n => exact h.set _ _ _ rfl
  | fft => exact h.set _ _ _ rfl
  | lane n => exact h.set _ _ _ rfl
  | menc n => exact (h.set _ _ _ rfl).set _ _ _ rfl

theorem freeUnits_onRegs (s : State) (p : Job → Bool) : OnRegs unitFields s (s.freeUnits p) :=
  (OnRegs.refl _ s).foldl State.unitIdle unitIdle_onRegs _

/-! ## Budgets and mirrors -/

/-- The mirror registers of a stream (R401). -/
def mirrorFields : Field → Bool
  | .MS_ENABLE | .MS_MODE | .MS_ROWRATE_NOW | .MS_FLOORED | .MS_DISCONTINUOUS | .MS_SIDE | .MS_MAU_BYTES | .MS_BUF_BYTES => true
  | _ => false

theorem mirrorSync_onRegs (s : State) (k : Nat) (st : Stream) : OnRegs mirrorFields s (s.mirrorSync k st) := by
  have h : ∀ a b c d e f g i, OnRegs mirrorFields s ((((((((s.set .MS_ENABLE k a).set .MS_MODE k b).set .MS_ROWRATE_NOW k c).set
      .MS_FLOORED k d).set .MS_DISCONTINUOUS k e).set .MS_SIDE k f).set .MS_MAU_BYTES k g).set .MS_BUF_BYTES k i) :=
    fun a b c d e f g i => ((((((((OnRegs.refl _ s).set _ k a rfl).set _ k b rfl).set _ k c rfl).set _ k d rfl).set _ k e rfl).set _ k
      f rfl).set _ k g rfl).set _ k i rfl
  unfold State.mirrorSync
  split
  · exact h _ _ _ _ _ _ _ _
  · exact h _ _ _ _ _ _ _ _

theorem mirrorShow_onRegs (s : State) (k : Nat) : OnRegs mirrorFields s (s.mirrorShow k) := by
  unfold State.mirrorShow
  split
  · exact .refl _ s
  · exact mirrorSync_onRegs s k _

/-- The registers of the budgets, the sums and the demand of each stream (R302, R323, R497). -/
def budgetFields : Field → Bool
  | .SCH_MEM_BUDGET | .SCH_MEM_ADMITTED | .SCH_CAP | .SCH_ADMITTED | .SCH_UNITS | .SCH_FFT_CAP | .SCH_FFT_ADMITTED
  | .HLT_CAPACITY | .HLT_IRQ | .SS_DRAM_MBPS | .SS_DECIMATED | .SS_SHED | .SS_NET_TICKS | .TS_EVAL_CYCLES => true
  | _ => false

/-- The registers that `schSync` writes. -/
def schFields (f : Field) : Bool := budgetFields f || linkCounts f || mirrorFields f

theorem linkCounts_sch (f : Field) (h : linkCounts f = true) : schFields f = true := by simp [schFields, h]
theorem mirrorFields_sch (f : Field) (h : mirrorFields f = true) : schFields f = true := by simp [schFields, h]

theorem capacitySync_onRegs (s : State) : OnRegs schFields s s.capacitySync := by
  unfold State.capacitySync
  exact (OnRegs.refl _ s).ite (((OnRegs.refl _ s).set _ _ _ rfl).irq _ _ _ _ _ linkCounts_sch rfl)

/-- The registers of one stream in `schSync`. -/
def State.schStream (s : State) (e : Nat × Stream) : State :=
  let s := s.set .SS_DRAM_MBPS e.1 (min (s.streamDemand e.2).dram 65535)
  let s := (s.set .SS_DECIMATED e.1 (Num.b2n e.2.decimated)).set .SS_SHED e.1 (Num.b2n e.2.shed.isSome)
  let s := s.mirrorSync e.1 e.2
  match e.2.pipe with
  | none => s.set .SS_NET_TICKS e.1 0
  | some p =>
    let s := s.set .SS_NET_TICKS e.1 (s.frameTicks p)
    match s.obj? p.ensemble with
    | none => s
    | some o => s.set .TS_EVAL_CYCLES e.1 (evalCycles o s.lanes)

theorem schStream_onRegs (s : State) (e : Nat × Stream) : OnRegs schFields s (s.schStream e) := by
  have h : ∀ a b c, OnRegs schFields s
      ((((s.set .SS_DRAM_MBPS e.1 a).set .SS_DECIMATED e.1 b).set .SS_SHED e.1 c).mirrorSync e.1 e.2) := fun a b c =>
    ((((OnRegs.refl _ s).set _ _ a rfl).set _ _ b rfl).set _ _ c rfl).trans ((mirrorSync_onRegs _ _ _).mono mirrorFields_sch)
  unfold State.schStream
  dsimp only
  split
  · exact (h _ _ _).set _ _ _ rfl
  · split
    · exact (h _ _ _).set _ _ _ rfl
    · exact ((h _ _ _).set _ _ _ rfl).set _ _ _ rfl

/-- The budgets and the sums in `schSync`. -/
def State.schBudgets (s : State) : State :=
  let t := s.sums
  let s := (List.range 16).foldl (fun s c =>
    (s.set .SCH_MEM_BUDGET c (min (s.channelBudget c) 65535)).set .SCH_MEM_ADMITTED c (min t.dram 65535)) s
  let s := (List.range 8).foldl (fun s k =>
    ((s.set .SCH_CAP k (s.engineBudget (k + 1))).set .SCH_ADMITTED k (t.on (0x11 + k))).set .SCH_UNITS k (s.unitsOf (k + 1))) s
  (s.set .SCH_FFT_CAP 0 s.fftBudget).set .SCH_FFT_ADMITTED 0 t.fft

theorem schSync_eq (s : State) :
    s.schSync = s.schBudgets.capacitySync.streams.foldl State.schStream s.schBudgets.capacitySync := rfl

theorem schBudgets_onRegs (s : State) : OnRegs schFields s s.schBudgets := by
  unfold State.schBudgets
  refine (((OnRegs.refl schFields s).foldl _ (fun u c => ?_) _).foldl _ (fun u k => ?_) _).set _ _ _ rfl |>.set _ _ _ rfl
  · exact ((OnRegs.refl _ u).set _ _ _ rfl).set _ _ _ rfl
  · exact (((OnRegs.refl _ u).set _ _ _ rfl).set _ _ _ rfl).set _ _ _ rfl

theorem schSync_onRegs (s : State) : OnRegs schFields s s.schSync := by
  rw [schSync_eq]
  exact ((schBudgets_onRegs s).trans (capacitySync_onRegs _)).foldl State.schStream schStream_onRegs _

/-! ## A mirror stops, and resynchronises -/

theorem resync_steady (s : State) (k : Nat) : Steady mirrorFields s (s.resync k) :=
  (modStream_steady mirrorFields s k _).trans (mirrorShow_onRegs _ k).steady

/-- The registers that the end of a mirror's jobs writes. -/
def haltFields (f : Field) : Bool := unitFields f || mirrorFields f

theorem unitFields_halt (f : Field) (h : unitFields f = true) : haltFields f = true := by simp [haltFields, h]
theorem mirrorFields_halt (f : Field) (h : mirrorFields f = true) : haltFields f = true := by simp [haltFields, h]

theorem haltMirror_steady (s : State) (k : Nat) : Steady haltFields s (s.haltMirror k) := by
  have h : Steady haltFields s (s.freeUnits fun j => j.sends k) := (freeUnits_onRegs s _).steady.mono unitFields_halt
  unfold State.haltMirror
  dsimp only
  refine Steady.trans ?_ ((resync_steady _ k).mono mirrorFields_halt)
  exact h.more rfl

theorem dropDecodes_steady (s : State) (k : Nat) : Steady unitFields s (s.dropDecodes k) :=
  (freeUnits_onRegs s fun j => j.stream == k && j.decodes).steady.more rfl

@[simp] theorem dropDecodes_streams (s : State) (k : Nat) : (s.dropDecodes k).streams = s.streams :=
  (freeUnits_onRegs s _).streams

end Sys2Proof.Machine
end

section
/-! Roles, the lease and takeover (R35, R90, R202, R404, R406 to R413). -/

namespace Sys2Proof.Machine

/-! ## A change of role (R404, R408, R410) -/

/-- A role that fences marks the packets fetched before it (R192). -/
def State.roleFence (s : State) (r : Nat) : State := if r == 1 || r == 2 then s.fencePackets else s

/-- The registers of role `r`, and the signal of a change otherwise than by PAIR_ROLE. -/
def State.enterRole (s : State) (r : Nat) (byCommand : Bool) : State :=
  let s := { s.set .ROLE 0 r with w.roleDue := true, leaseLapsed := false }
  let s := if r == 0 then s else (s.set .LEASE_VALID 0 0).set .GCTL_LEASE_END 0 0
  if byCommand then s else s.irq .GCTL_PAIR_IRQ .GCTL_PAIR_IRQ_EN 0 0 2

/-- What the sending and the receiving side of role `was` end. -/
def State.leaveRole (s : State) (was : Nat) : State :=
  let s := if was == 0 then s.stopMirroring else s
  let s := (s.streams.foldl (fun s e => (s.dropDecodes e.1).modMirror e.1 fun m =>
    { m with rxPos := 0, rxItem := none, rxSynced := false, needIdr := true, ringGap := false }) s)
  { s with w.eRx := none, w.rxSkip := none }.schSync

theorem roleFence_role (s : State) (r : Nat) : (s.roleFence r).role = s.role := by
  unfold State.roleFence
  split <;> rfl

theorem setRole_of_eq {s : State} {r : Nat} (h : s.role = r) (b : Bool) : s.setRole r b = s.roleFence r := by
  have h' : (s.roleFence r).role = r := (roleFence_role s r).trans h
  unfold State.setRole
  unfold State.roleFence at h' ⊢
  rw [if_pos (by simpa using h')]

theorem setRole_of_ne {s : State} {r : Nat} (h : s.role ≠ r) (b : Bool) :
    s.setRole r b = ((s.roleFence r).enterRole r b).leaveRole s.role := by
  have h' := roleFence_role s r
  unfold State.setRole
  unfold State.roleFence at h' ⊢
  rw [if_neg (by rw [h']; simpa using h), h']
  rfl

theorem roleFence_steady (F : Field → Bool) (s : State) (r : Nat) : Steady F s (s.roleFence r) := by
  unfold State.roleFence
  split
  · exact { Steady.refl F s with packets := by simp [State.fencePackets, Pkt.bare] }
  · exact .refl F s

/-- The registers that `enterRole` writes. -/
def enterFields (f : Field) : Bool :=
  linkCounts f || f == .ROLE || f == .LEASE_VALID || f == .GCTL_LEASE_END || f == .GCTL_PAIR_IRQ

theorem enterRole_steady (s : State) (r : Nat) (b : Bool) : Steady enterFields s (s.enterRole r b) := by
  have h1 : Steady enterFields s { s.set .ROLE 0 r with w.roleDue := true, leaseLapsed := false } :=
    ((Steady.refl _ s).set .ROLE 0 r rfl).more rfl
  have h2 := h1.ite (c := (r == 0) = true) ((h1.set .LEASE_VALID 0 0 rfl).set .GCTL_LEASE_END 0 0 rfl)
  exact h2.ite (h2.irq _ _ _ _ _ (fun f hf => by simp [enterFields, hf]) rfl)

/-- The registers that `leaveRole` writes. -/
def leaveFields (f : Field) : Bool := haltFields f || schFields f || f == .WRN_EPOCH_ABANDONED

theorem haltFields_leave (f : Field) (h : haltFields f = true) : leaveFields f = true := by simp [leaveFields, h]
theorem schFields_leave (f : Field) (h : schFields f = true) : leaveFields f = true := by simp [leaveFields, h]

theorem cutEpoch_steady (s : State) : Steady leaveFields s s.cutEpoch := by
  unfold State.cutEpoch
  refine Steady.ite (Steady.inc ?_ _ _ _ rfl) (.refl _ s)
  exact .same rfl

theorem stopMirroring_steady (s : State) : Steady leaveFields s s.stopMirroring := by
  refine Steady.trans ?_ (cutEpoch_steady _)
  exact (Steady.refl _ s).foldl _ (fun u (e : Nat × Stream) => (haltMirror_steady u e.1).mono haltFields_leave) _

theorem leaveRole_steady (s : State) (was : Nat) : Steady leaveFields s (s.leaveRole was) := by
  unfold State.leaveRole
  refine Steady.trans ?_ ((schSync_onRegs _).steady.mono schFields_leave)
  refine Steady.more (Steady.foldl ?_ _ (fun u e => ?_) _) rfl
  · exact (stopMirroring_steady s).ite (.refl _ s)
  · refine Steady.trans ?_ (modStream_steady _ _ _ _)
    exact (dropDecodes_steady u e.1).mono fun f hf => haltFields_leave f (unitFields_halt f hf)

/-- The registers that a change of role writes. -/
def roleFields (f : Field) : Bool := enterFields f || leaveFields f

theorem enterFields_role (f : Field) (h : enterFields f = true) : roleFields f = true := by simp [roleFields, h]
theorem leaveFields_role (f : Field) (h : leaveFields f = true) : roleFields f = true := by simp [roleFields, h]

theorem setRole_steady (s : State) (r : Nat) (b : Bool) : Steady roleFields s (s.setRole r b) := by
  by_cases h : s.role = r
  · rw [setRole_of_eq h]
    exact roleFence_steady _ s r
  · rw [setRole_of_ne h]
    exact (roleFence_steady _ s r).trans (((enterRole_steady _ r b).mono enterFields_role).trans
      ((leaveRole_steady _ _).mono leaveFields_role))

theorem irq_get_ne (s : State) (r e : Field) (i b v : Nat) {f : Field} (j : Nat) (hl : linkCounts f = false) (hr : f ≠ r) :
    (s.irq r e i b v).get f j = s.get f j := by
  have h := ((Steady.refl (fun g => linkCounts g || g == r) s).irq r e i b v (fun g hg => by simp [hg]) (by simp)).reg f j
  exact h (by simp [hl, hr])

/-- An interrupt sets its bit and clears none. -/
theorem irq_testBit (s : State) (r e : Field) (i b v c : Nat) (hr : linkCounts r = false) :
    ((s.irq r e i b v).get r i).testBit c = ((s.get r i).testBit c || decide (b = c)) := by
  have h : (s.irq r e i b v).get r i = s.get r i ||| 2 ^ b := by
    unfold State.irq
    dsimp only
    split
    · rw [(signal_steady _ v).reg r i hr, State.get_set_self]
    · rw [State.get_set_self]
  rw [h, Nat.testBit_or, Nat.testBit_two_pow]

theorem enterRole_role (s : State) (r : Nat) (b : Bool) : (s.enterRole r b).role = r := by
  have h1 : ∀ s : State, (s.irq .GCTL_PAIR_IRQ .GCTL_PAIR_IRQ_EN 0 0 2).get .ROLE = s.get .ROLE := fun s =>
    irq_get_ne s _ _ _ _ _ 0 rfl (by decide)
  cases b <;> by_cases hr : r = 0 <;> simp [State.enterRole, State.role, hr, h1, State.get_set]

theorem enterRole_lease (s : State) {r : Nat} (b : Bool) (hr : r ≠ 0) : (s.enterRole r b).get .LEASE_VALID = 0 := by
  have h1 : ∀ s : State, (s.irq .GCTL_PAIR_IRQ .GCTL_PAIR_IRQ_EN 0 0 2).get .LEASE_VALID = s.get .LEASE_VALID := fun s =>
    irq_get_ne s _ _ _ _ _ 0 rfl (by decide)
  cases b <;> simp [State.enterRole, hr, h1, State.get_set]

theorem enterRole_pairIrq (s : State) (r : Nat) (b : Bool) {c : Nat} (h : (s.get .GCTL_PAIR_IRQ).testBit c = true) :
    ((s.enterRole r b).get .GCTL_PAIR_IRQ).testBit c = true := by
  have h1 : ∀ s : State, ((s.irq .GCTL_PAIR_IRQ .GCTL_PAIR_IRQ_EN 0 0 2).get .GCTL_PAIR_IRQ).testBit c =
      ((s.get .GCTL_PAIR_IRQ).testBit c || decide (0 = c)) := fun s => irq_testBit s _ _ _ _ _ c rfl
  cases b <;> by_cases hr : r = 0 <;> simp [State.enterRole, hr, h1, State.get_set, h]

/-- A unit is in the role it was given. -/
theorem setRole_role (s : State) (r : Nat) (b : Bool) : (s.setRole r b).role = r := by
  by_cases h : s.role = r
  · rw [setRole_of_eq h, roleFence_role, h]
  · rw [setRole_of_ne h, State.role, (leaveRole_steady _ _).reg .ROLE 0 rfl]
    exact enterRole_role _ r b

theorem setRole_lease {s : State} {r : Nat} (b : Bool) (h : s.role ≠ r) (hr : r ≠ 0) : (s.setRole r b).get .LEASE_VALID = 0 := by
  rw [setRole_of_ne h, (leaveRole_steady _ _).reg .LEASE_VALID 0 rfl, enterRole_lease _ b hr]

/-- A change of role clears no bit of GCTL_PAIR_IRQ. -/
theorem setRole_pairIrq (s : State) (r : Nat) (b : Bool) {c : Nat} (h : (s.get .GCTL_PAIR_IRQ).testBit c = true) :
    ((s.setRole r b).get .GCTL_PAIR_IRQ).testBit c = true := by
  have hf := (roleFence_steady (fun _ => false) s r).reg .GCTL_PAIR_IRQ 0 rfl
  by_cases hr : s.role = r
  · rw [setRole_of_eq hr, hf, h]
  · rw [setRole_of_ne hr, (leaveRole_steady _ _).reg .GCTL_PAIR_IRQ 0 rfl]
    exact enterRole_pairIrq _ r b (by rwa [hf])

/-! ## The lease's expiry (R35, R407) -/

theorem lapse_steady (s : State) : Steady roleFields s s.lapse := by
  refine Steady.more (t := (s.irq .GCTL_PAIR_IRQ .GCTL_PAIR_IRQ_EN 0 1 2).setRole 2 false) ?_ rfl
  exact ((Steady.refl _ s).irq _ _ _ _ _ (fun f hf => by simp [roleFields, enterFields, hf]) rfl).trans (setRole_steady _ 2 false)

theorem lapse_get (s : State) (f : Field) (i : Nat) :
    s.lapse.get f i = ((s.irq .GCTL_PAIR_IRQ .GCTL_PAIR_IRQ_EN 0 1 2).setRole 2 false).get f i := rfl

theorem lapse_orphan {s : State} (h : s.role = 0) : s.lapse.role = 2 ∧ s.lapse.get .LEASE_VALID = 0 ∧
    (s.lapse.get .GCTL_PAIR_IRQ).testBit 1 = true := by
  have hr : (s.irq .GCTL_PAIR_IRQ .GCTL_PAIR_IRQ_EN 0 1 2).role = 0 :=
    (irq_get_ne s _ _ _ _ _ 0 rfl (by decide)).trans h
  refine ⟨setRole_role _ 2 false, ?_, ?_⟩
  · rw [lapse_get, setRole_lease false (by rw [hr]; decide) (by decide)]
  · rw [lapse_get]
    exact setRole_pairIrq _ 2 false (by rw [irq_testBit _ _ _ _ _ _ _ rfl]; simp)

theorem certSync_get (s : State) (f : Field) (i : Nat) (hl : linkCounts f = false)
    (h : f ∉ [Field.CERT_REASON, .CERT_LIFETIME_OUT, .CERT_CERTIFIED, .SEC_SOOT_IRQ]) : s.certSync.get f i = s.get f i := by
  simp only [List.mem_cons, List.not_mem_nil, or_false, not_or] at h
  obtain ⟨h1, h2, h3, h4⟩ := h
  have hs : (((s.set .CERT_REASON 0 s.certReason).set .CERT_LIFETIME_OUT 0 (Num.b2n (s.certReason % 4 != 0))).set .CERT_CERTIFIED 0
      (Num.b2n (s.certReason == 0))).get f i = s.get f i := by
    rw [State.get_set_ne _ _ _ _ h3, State.get_set_ne _ _ _ _ h2, State.get_set_ne _ _ _ _ h1]
  unfold State.certSync
  dsimp only
  split
  · exact hs
  · rw [irq_get_ne _ _ _ _ _ _ _ hl h4, hs]

/-- FLU_STATUS.FENCED follows the role and the lease (R90). -/
theorem settle_fenced (s : State) : (settle s).get .FLU_FENCED = Num.b2n s.fencedReg := by
  rw [settle, certSync_get _ _ _ rfl (by decide)]
  simp only [State.countSync, State.get_set, reduceCtorEq, false_and, if_false, if_true, and_self]

/-! ## Takeover (R411 to R413) -/

/-- The registers that a takeover writes. -/
def takeFields (f : Field) : Bool :=
  syncFields f || linkCounts f || f == .CTX_LAST_FSEQ || f == .CTX_F_VALID || f == .TS_HIST_FILL || f == .GCTL_ROLLED ||
    f == .GCTL_COLD_STREAMS || f == .GCTL_TAKEOVER_TICK || f == .HAS_EPOCH || f == .TAKEOVER_BUSY || f == .GCTL_PAIR_IRQ

theorem syncFields_take (f : Field) (h : syncFields f = true) : takeFields f = true := by simp [takeFields, h]

theorem setF_steady (s : State) (k : Nat) (q : Option Nat) : Steady takeFields s (s.setF k q) :=
  ((modStream_steady takeFields s k fun st => { st with f := q }).set .CTX_LAST_FSEQ k (q.getD 0) rfl).set .CTX_F_VALID k
    (Num.b2n q.isSome) rfl

theorem raise_outward (s : State) (lo hi : Nat) : (s.raise lo hi).outward = s.outward := by
  unfold State.raise
  split <;> rfl

theorem coldStream_steady (s : State) (k : Nat) : Steady takeFields s (s.coldStream k) := by
  unfold State.coldStream
  refine Steady.trans ?_ ((streamSync_onRegs _ k).steady.mono syncFields_take)
  refine Steady.set (Steady.trans (modStream_steady _ s k _) (setF_steady _ k none)) _ _ _ rfl

theorem rollStream_steady (s : State) (k : Nat) (st : Stream) (c : Crop) (x : Snap) (t : Nat) :
    Steady takeFields s (s.rollStream k st c x t) := by
  unfold State.rollStream
  dsimp only
  refine Steady.trans ?_ ((streamSync_onRegs _ k).steady.mono syncFields_take)
  refine Steady.trans (Steady.set (Steady.set (Steady.foldl ?_ _ (fun u b => ?_) _) _ _ _ rfl) _ _ _ rfl) (setF_steady _ k _)
  · exact .same rfl
  · exact .same (raise_outward u _ _)

theorem takeStream_steady (snaps : List Snap) (t : Nat) (s : State) (e : Nat × Stream) :
    Steady takeFields s (State.takeStream snaps t s e) := by
  unfold State.takeStream
  refine Steady.ite (.refl _ s) ?_
  split
  · exact rollStream_steady s _ _ _ _ _
  · exact (coldStream_steady s e.1).sat _ _ _ _ rfl

theorem dropKept_steady (s : State) : Steady takeFields s s.dropKept := by
  unfold State.dropKept
  refine Steady.set ?_ _ _ _ rfl
  exact .same rfl

theorem takeover_steady (s : State) (resume : Bool) : Steady takeFields s (s.takeover resume) := by
  have hend : ∀ u, Steady takeFields s u → Steady takeFields s
      (if u.rollDone then u.irq .GCTL_PAIR_IRQ .GCTL_PAIR_IRQ_EN 0 2 2 else u.set .TAKEOVER_BUSY 0 1) := fun u h =>
    (h.irq _ _ _ _ _ (fun f hf => by simp [takeFields, hf]) rfl).ite (h.set _ _ _ rfl)
  unfold State.takeover
  refine (dropKept_steady s).ite (hend _ ((Steady.foldl ?_ _ (takeStream_steady _ _) _).trans (dropKept_steady _)))
  exact (((Steady.refl _ s).set .GCTL_ROLLED 0 0 rfl).set .GCTL_COLD_STREAMS 0 0 rfl).set .GCTL_TAKEOVER_TICK 0 s.now rfl

/-! ## PAIR_ROLE (R202, R406 to R410) -/

/-- The generation is stored, and GCTL_GEN shows it. -/
def State.storeGen (s : State) (g : Nat) : State :=
  { s with storedGen := g, nor.genWrites := s.nor.genWrites + 1 }.set .GCTL_GEN 0 g

theorem storeGen_path (s : State) (g id : Nat) : Path id s (s.storeGen g) :=
  { Path.refl id s with
    reg := fun f hf i => State.get_set_ne _ _ _ _ (by rintro rfl; revert hf; decide) }

/-- ACTIVE with a lease from now, less the takeover. -/
def State.activate (s : State) (ms : Nat) : State := (s.setRole 0 true).grant ms

/-- The registers that PAIR_ROLE writes beside GCTL_GEN. -/
def pairRoleFields (f : Field) : Bool := roleFields f || takeFields f || f == .LAST_ACTIVE

theorem roleFields_pair (f : Field) (h : roleFields f = true) : pairRoleFields f = true := by simp [pairRoleFields, h]
theorem takeFields_pair (f : Field) (h : takeFields f = true) : pairRoleFields f = true := by simp [pairRoleFields, h]

/-- The registers of a role's end that follow its entry. -/
def afterRole (f : Field) : Bool := takeFields f || schFields f || f == .LAST_ACTIVE

theorem takeFields_after (f : Field) (h : takeFields f = true) : afterRole f = true := by simp [afterRole, h]
theorem schFields_after (f : Field) (h : schFields f = true) : afterRole f = true := by simp [afterRole, h]

theorem afterRole_pair (f : Field) (h : afterRole f = true) : pairRoleFields f = true := by
  simp only [afterRole, Bool.or_eq_true] at h
  rcases h with (h | h) | h
  · exact takeFields_pair f h
  · exact roleFields_pair f (leaveFields_role f (schFields_leave f h))
  · simp [pairRoleFields, h]

/-- What PAIR_ROLE has given the unit before what follows from its new role. -/
def State.given (s : State) (g r ms : Nat) : State :=
  if r == 0 then (s.storeGen g).activate ms else (s.storeGen g).setRole r true

theorem newRole_after (s : State) (g r ms : Nat) : Steady afterRole (s.given g r ms) (s.newRole g r ms) := by
  have hs : ∀ u : State, Steady afterRole u u.schSync := fun u => (schSync_onRegs u).steady.mono schFields_after
  unfold State.given State.newRole State.activate
  dsimp only
  by_cases h0 : r = 0
  · subst h0
    simp only [beq_self_eq_true, if_true]
    refine Steady.trans (Steady.set ?_ .LAST_ACTIVE 0 1 rfl) (hs _)
    exact (takeover_steady _ _).mono takeFields_after
  · have hb : (r == 0) = false := by simpa using h0
    simp only [hb, Bool.false_eq_true, if_false]
    split
    · next h1 =>
      obtain rfl : r = 1 := by simpa using h1
      refine Steady.trans (Steady.set ?_ .LAST_ACTIVE 0 0 rfl) (hs _)
      exact (dropKept_steady _).mono takeFields_after
    · exact .refl _ _

theorem given_steady (s : State) (g r ms : Nat) : Steady roleFields (s.storeGen g) (s.given g r ms) := by
  unfold State.given State.activate State.grant
  exact (((setRole_steady _ 0 true).set .LEASE_VALID 0 1 rfl).set .GCTL_LEASE_END 0 _ rfl).ite (setRole_steady _ r true)

theorem newRole_steady (s : State) (g r ms : Nat) : Steady pairRoleFields (s.storeGen g) (s.newRole g r ms) :=
  ((given_steady s g r ms).mono roleFields_pair).trans ((newRole_after s g r ms).mono afterRole_pair)

theorem newRole_role (s : State) (g r ms : Nat) : (s.newRole g r ms).role = r := by
  rw [State.role, (newRole_after s g r ms).reg .ROLE 0 rfl, State.given]
  split
  · next h =>
    rw [State.activate, State.grant, State.get_set_ne _ _ _ _ (by decide), State.get_set_ne _ _ _ _ (by decide)]
    exact (setRole_role _ 0 true).trans (eq_of_beq h).symm
  · exact setRole_role _ r true

theorem newRole_lease (s : State) (g ms : Nat) : (s.newRole g 0 ms).get .LEASE_VALID = 1 ∧
    (s.newRole g 0 ms).get .GCTL_LEASE_END = s.now + ms * 1000 := by
  have hn : ((s.storeGen g).setRole 0 true).now = s.now :=
    ((setRole_steady _ 0 true).reg .EVU_TICK_NOW 0 rfl).trans ((storeGen_path s g 0).now)
  rw [(newRole_after s g 0 ms).reg .LEASE_VALID 0 rfl, (newRole_after s g 0 ms).reg .GCTL_LEASE_END 0 rfl]
  simp [State.given, State.activate, State.grant, State.get_set, hn]

section PairRole

variable {s : State} {p : Pkt}

/-- What PAIR_ROLE starts from: a lease that ends in this tick has lapsed (R212). -/
def State.roleStart (u : State) : State := if u.leaseOver then u.lapse else u

theorem roleStart_steady (u : State) : Steady roleFields u u.roleStart := (lapse_steady u).ite (.refl _ u)

/-- PAIR_ROLE under a greater generation. -/
theorem pairRole_greater {u : State} (nor : Bool) (hc : firstBad p.roleChecks = none) (hg : u.roleStart.storedGen < p.w64 2)
    (hn : firstBad (u.roleStart.newRoleChecks (Num.slice (p.w 4) 1 0) nor) = none) : u.pairRole nor p =
      (u.roleStart.newRole (p.w64 2) (Num.slice (p.w 4) 1 0) p.leaseMs).complete p.id
        (u.roleStart.newRole (p.w64 2) (Num.slice (p.w 4) 1 0) p.leaseMs).roleReply := by
  unfold State.pairRole
  rw [checked_none _ hc]
  unfold State.roleStart at *
  rw [if_pos hg, checked_none _ hn]

/-- PAIR_ROLE under the stored generation renews a lease in force. -/
theorem pairRole_renews {u : State} (nor : Bool) (hc : firstBad p.roleChecks = none) (hg : p.w64 2 = u.roleStart.storedGen)
    (hr : Num.slice (p.w 4) 1 0 = 0) (ha : u.roleStart.role = 0) (hv : u.roleStart.get .LEASE_VALID = 1)
    (ht : u.roleStart.now ≤ p.covered + p.leaseMs * 500) : u.pairRole nor p =
      (u.roleStart.grant p.leaseMs).complete p.id (u.roleStart.grant p.leaseMs).roleReply := by
  unfold State.pairRole
  rw [checked_none _ hc]
  unfold State.roleStart at *
  rw [if_neg (by omega), if_pos (by simp [hg, hr, ha, hv]), if_neg (by omega)]

theorem newRole_completes (h : s.Starts p) (hl : s.linkClosed = false) (ho : p.opcode = 0x41)
    (hc : firstBad p.roleChecks = none) (hg : (s.markStarted p.id).roleStart.storedGen < p.w64 2)
    (hn : firstBad ((s.markStarted p.id).roleStart.newRoleChecks (Num.slice (p.w 4) 1 0) true) = none) :
    Runs (.pairRole true) s fun t => (∃ r, r.status = stOk ∧ Replied s t p r) ∧ t.storedGen = p.w64 2 ∧
      t.get .GCTL_GEN = p.w64 2 ∧ t.role = Num.slice (p.w 4) 1 0 ∧
      (Num.slice (p.w 4) 1 0 = 0 → t.get .LEASE_VALID = 1 ∧ t.get .GCTL_LEASE_END = s.now + p.leaseMs * 1000) := by
  refine ⟨_, h.runs rfl ho (pairRole_greater true hc hg hn), ?_⟩
  have h1 := (markStarted_steady roleFields s p.id).trans (roleStart_steady _)
  generalize (s.markStarted p.id).roleStart = v at h1 ⊢
  have h2 := newRole_steady v (p.w64 2) (Num.slice (p.w 4) 1 0) p.leaseMs
  have hr := newRole_role v (p.w64 2) (Num.slice (p.w 4) 1 0) p.leaseMs
  have hv := newRole_lease v (p.w64 2) p.leaseMs
  have hp : Path p.id s (v.newRole (p.w64 2) (Num.slice (p.w 4) 1 0) p.leaseMs) :=
    (h1.path p.id (by decide)).trans ((storeGen_path v _ p.id).trans (h2.path p.id (by decide)))
  have k := reply_frame (v.newRole (p.w64 2) (Num.slice (p.w 4) 1 0) p.leaseMs) p.id
    (v.newRole (p.w64 2) (Num.slice (p.w 4) 1 0) p.leaseMs).roleReply p.client
  refine ⟨⟨_, rfl, h.replied hl hp _⟩, ?_, ?_, ?_, fun h0 => ?_⟩
  · rw [k.storedGen, h2.storedGen]; rfl
  · rw [k.1 .GCTL_GEN 0 rfl, h2.reg .GCTL_GEN 0 rfl, State.storeGen, State.get_set_self]
  · rw [State.role, k.1 .ROLE 0 rfl]; exact hr
  · rw [k.1 .LEASE_VALID 0 rfl, k.1 .GCTL_LEASE_END 0 rfl, h0, hv.1, hv.2]
    exact ⟨rfl, by rw [show v.now = s.now from h1.reg .EVU_TICK_NOW 0 rfl]⟩

theorem renewal_completes (h : s.Starts p) (hl : s.linkClosed = false) (ho : p.opcode = 0x41)
    (hc : firstBad p.roleChecks = none) (hg : p.w64 2 = (s.markStarted p.id).roleStart.storedGen)
    (hr : Num.slice (p.w 4) 1 0 = 0) (ha : (s.markStarted p.id).roleStart.role = 0)
    (hv : (s.markStarted p.id).roleStart.get .LEASE_VALID = 1) (ht : s.now ≤ p.covered + p.leaseMs * 500) (nor : Bool) :
    Runs (.pairRole nor) s fun t => (∃ r, r.status = stOk ∧ Replied s t p r) ∧ t.role = 0 ∧
      t.get .GCTL_LEASE_END = s.now + p.leaseMs * 1000 := by
  have h1 := (markStarted_steady roleFields s p.id).trans (roleStart_steady _)
  have hn : (s.markStarted p.id).roleStart.now = s.now := h1.reg .EVU_TICK_NOW 0 rfl
  refine ⟨_, h.runs rfl ho (pairRole_renews nor hc hg hr ha hv (by rw [hn]; exact ht)), ?_⟩
  generalize (s.markStarted p.id).roleStart = v at h1 hn ha ⊢
  have h2 : Steady roleFields v (v.grant p.leaseMs) :=
    ((Steady.refl _ v).set .LEASE_VALID 0 1 rfl).set .GCTL_LEASE_END 0 _ rfl
  have k := reply_frame (v.grant p.leaseMs) p.id (v.grant p.leaseMs).roleReply p.client
  refine ⟨⟨_, rfl, h.replied hl ((h1.trans h2).path p.id (by decide)) _⟩, ?_, ?_⟩
  · rw [State.role, k.1 .ROLE 0 rfl, State.grant, State.get_set_ne _ _ _ _ (by decide), State.get_set_ne _ _ _ _ (by decide)]
    exact ha
  · rw [k.1 .GCTL_LEASE_END 0 rfl, State.grant, State.get_set_self, hn]

end PairRole

/-! ## The statement (R35, R90, R202, R406, R407, R412) -/

theorem leaseExpire_completes {s : State} (h : s.leaseOver = true) : Runs .leaseExpire s fun t =>
    t.role = 2 ∧ t.get .LEASE_VALID = 0 ∧ t.get .FLU_FENCED = 1 ∧ (t.get .GCTL_PAIR_IRQ).testBit 1 = true := by
  have hr : s.role = 0 := by
    simp only [State.leaseOver, Bool.and_eq_true, beq_iff_eq] at h
    exact h.1.1
  obtain ⟨h1, h2, h3⟩ := lapse_orphan hr
  refine ⟨settle s.lapse, by change execLeaseExpire s = _; rw [execLeaseExpire, h, doneIf_true], ?_, ?_, ?_, ?_⟩
  · rw [State.role, settle_get _ _ _ rfl]; exact h1
  · rw [settle_get _ _ _ rfl, h2]
  · rw [settle_fenced, State.fencedReg, h1]; rfl
  · rw [settle_get _ _ _ rfl, h3]

theorem takeoverRollDone_completes {s : State} (h : s.get .TAKEOVER_BUSY = 1) (hd : s.rollDone = true) :
    Runs .takeoverRollDone s fun t => t.get .TAKEOVER_BUSY = 0 ∧ (t.get .GCTL_PAIR_IRQ).testBit 2 = true := by
  refine ⟨settle ((s.set .TAKEOVER_BUSY 0 0).irq .GCTL_PAIR_IRQ .GCTL_PAIR_IRQ_EN 0 2 2), ?_, ?_, ?_⟩
  · change execTakeoverRollDone s = _
    rw [execTakeoverRollDone, h, hd]; rfl
  · rw [settle_get _ _ _ rfl, irq_get_ne _ _ _ _ _ _ _ rfl (by decide), State.get_set_self]
  · rw [settle_get _ _ _ rfl, irq_testBit _ _ _ _ _ _ _ rfl]; simp

/-- Settles O18: what a change of role leaves of the reply's path, what it gives the unit, and what ends a lease and a takeover. -/
theorem pairRoleLeaseAndTakeoverComplete : Obligations.PairRoleLeaseAndTakeoverComplete := by
  unfold Obligations.PairRoleLeaseAndTakeoverComplete
  refine ⟨?_, fun s h => leaseExpire_completes h, fun s h hd => takeoverRollDone_completes h hd⟩
  rintro s u v p h hl ho rfl hc rfl
  exact ⟨fun hg hn => newRole_completes h hl ho hc hg hn,
    fun hg hr ha hv ht nor => renewal_completes h hl ho hc hg hr ha hv ht nor⟩

end Sys2Proof.Machine
end

section
/-! Dropped frames and the recomputation of admission (R228, R253, R285, R291, R300, R501 to R506): what they leave of the streams. -/

namespace Sys2Proof.Machine

/-! ## Work that keeps the streams open under their terms -/

/-- What a stream was opened or reconfigured to, and its close. -/
def Stream.terms (st : Stream) : Option (Nat × Nat × Nat × Nat × Bool) × Nat × Nat × Option Nat :=
  (st.reconf, st.maxW, st.fps, st.closingPkt)

/-- Steady work that keeps every stream open, under its terms, and leaves CTX_STATE of a free context alone. -/
structure Calm (F : Field → Bool) (s t : State) : Prop extends Steady F s t where
  terms : ∀ k, (t.stream? k).map Stream.terms = (s.stream? k).map Stream.terms
  idle : ∀ i, s.stream? i = none → t.get .CTX_STATE i = s.get .CTX_STATE i

section Calm

variable {F G : Field → Bool} {s t u : State}

/-- Work that leaves the streams as they are, and CTX_STATE. -/
theorem Calm.of_steady (h : Steady F s t) (hf : F .CTX_STATE = false) (hs : t.streams = s.streams) : Calm F s t :=
  { h with terms := fun k => by rw [State.stream?, hs, State.stream?], idle := fun i _ => h.reg .CTX_STATE i hf }

theorem Calm.refl (F : Field → Bool) (s : State) : Calm F s s := ⟨.refl F s, fun _ => rfl, fun _ _ => rfl⟩

theorem Calm.trans (h : Calm F s t) (k : Calm F t u) : Calm F s u := by
  refine ⟨h.toSteady.trans k.toSteady, fun i => (k.terms i).trans (h.terms i), fun i hi => ?_⟩
  have ht : t.stream? i = none := by simpa [hi] using h.terms i
  exact (k.idle i ht).trans (h.idle i hi)

theorem Calm.mono (h : Calm F s t) (hg : ∀ f, F f = true → G f = true) : Calm G s t := { h with toSteady := h.toSteady.mono hg }

theorem OnRegs.calm (h : OnRegs F s t) (hf : F .CTX_STATE = false) : Calm F s t := .of_steady h.steady hf h.streams

theorem Calm.more (h : Calm F s t) (e : u.outward = t.outward) (hs : u.streams = t.streams) : Calm F s u :=
  h.trans ((Calm.of_steady (.same (F := fun _ => false) e) rfl hs).mono (by simp))

theorem Calm.set (h : Calm F s t) (f : Field) (i v : Nat) (hf : F f = true) (hc : f ≠ .CTX_STATE) : Calm F s (t.set f i v) :=
  h.trans { (Steady.refl F t).set f i v hf with
    terms := fun _ => rfl, idle := fun _ _ => State.get_set_ne _ _ _ _ (Ne.symm hc) }

theorem Calm.irq (h : Calm F s t) (r e : Field) (i b v : Nat) (hl : ∀ f, linkCounts f = true → F f = true) (hr : F r = true)
    (hc : r ≠ .CTX_STATE) : Calm F s (t.irq r e i b v) :=
  h.trans { (OnRegs.refl F t).irq r e i b v hl hr |>.steady with
    terms := fun k => by rw [((OnRegs.refl F t).irq r e i b v hl hr).stream?]
    idle := fun _ _ => irq_get_ne t r e i b v _ rfl (Ne.symm hc) }

theorem Calm.capture (h : Calm F s t) (c src d0 d1 d2 : Nat) (hF : F .EVU_PENDING = true) : Calm F s (t.capture c src d0 d1 d2) := by
  have k := capture_frame (F := fun f => f == .EVU_PENDING) t c src d0 d1 d2 (.inr rfl)
  exact h.trans { (Steady.refl F t).capture c src d0 d1 d2 (.inr hF) with
    terms := fun i => by rw [State.stream?, k.streams, State.stream?]
    idle := fun i _ => k.1 .CTX_STATE i rfl }

theorem Calm.ite {c : Prop} [Decidable c] (h : Calm F s t) (k : Calm F s u) : Calm F s (if c then t else u) := by
  split
  · exact h
  · exact k

theorem Calm.foldl {α : Type} (h : Calm F s t) (g : State → α → State) (hg : ∀ s a, Calm F s (g s a)) (l : List α) :
    Calm F s (l.foldl g t) := by
  induction l generalizing t with
  | nil => exact h
  | cons a l ih => exact ih (h.trans (hg t a))

/-- A stream is changed, and not in its terms. -/
theorem Calm.modStream (h : Calm F s t) (k : Nat) (g : Stream → Stream) (hg : ∀ st, (g st).terms = st.terms) :
    Calm F s (t.modStream k g) := by
  refine h.trans ⟨modStream_steady F t k g, fun j => ?_, fun _ _ => modStream_get _ _ _ _ _⟩
  rw [stream?_modStream]
  split
  · next hj =>
    subst hj
    cases t.stream? j with
    | none => rfl
    | some st => exact congrArg some (hg st)
  · rfl

theorem streamSync_calm (s : State) (k : Nat) : Calm syncFields s (s.streamSync k) :=
  { (streamSync_onRegs s k).steady with
    terms := fun j => by rw [streamSync_stream?], idle := fun _ hi => streamSync_ctxState_other hi }

/-- An open stream stays open. -/
theorem Calm.stream (h : Calm F s t) {k : Nat} {st : Stream} (hs : s.stream? k = some st) :
    ∃ x, t.stream? k = some x ∧ x.terms = st.terms :=
  Option.map_eq_some_iff.mp ((h.terms k).trans (by rw [hs]; rfl))

theorem Calm.stream_none (h : Calm F s t) {k : Nat} (hs : s.stream? k = none) : t.stream? k = none := by
  simpa [hs] using h.terms k

end Calm

/-! ## A dropped frame (R285, R300) -/

theorem forall₂_comp {α : Type} {R S T : α → α → Prop} {a b c : List α} (h : List.Forall₂ R a b) (k : List.Forall₂ S b c)
    (hT : ∀ x y z, R x y → S y z → T x z) : List.Forall₂ T a c := by
  induction h generalizing c with
  | nil => cases k; exact .nil
  | cons hr _ ih =>
    cases k with
    | cons hs ks => exact .cons (hT _ _ _ hr hs) (ih ks)

theorem grantActN_frames (l : List Nat) (fs : List Frame) :
    List.Forall₂ (fun f g => ∃ a, g = { f with actSet := a }) fs (grantActN l fs) := by
  induction fs generalizing l with
  | nil => cases l <;> exact .nil
  | cons f fs ih =>
    cases l with
    | nil => exact .cons ⟨f.actSet, rfl⟩ (List.forall₂_same.mpr fun f _ => ⟨f.actSet, rfl⟩)
    | cons i free =>
      simp only [grantActN]
      split
      · exact .cons ⟨some i, rfl⟩ (ih free)
      · exact .cons ⟨f.actSet, rfl⟩ (ih (i :: free))

theorem grantAct_calm (s : State) (k : Nat) : Calm syncFields s (s.grantAct k) := by
  unfold State.grantAct
  split
  · exact .refl _ s
  · exact (Calm.refl _ s).modStream k _ fun _ => rfl

theorem grantAct_stream {s : State} {k : Nat} {st : Stream} (h : s.stream? k = some st) :
    ∃ free, (s.grantAct k).stream? k = some { st with frames := grantActN free st.frames } := by
  simp only [State.grantAct, h, stream?_modStream_self, Option.map_some]
  exact ⟨_, rfl⟩

theorem fluePassDue_outward (s : State) (k q : Nat) :
    (s.fluePassDue k q).outward = s.outward ∧ (s.fluePassDue k q).streams = s.streams := by
  unfold State.fluePassDue
  split
  · exact ⟨rfl, rfl⟩
  · split <;> exact ⟨rfl, rfl⟩

theorem dropFrame_calm (s : State) (k q r : Nat) : Calm syncFields s (s.dropFrame k q r) := by
  unfold State.dropFrame
  dsimp only
  refine Calm.trans ?_ (streamSync_calm _ k)
  refine Calm.more (Calm.trans (Calm.modStream ?_ k _ ?_) (grantAct_calm _ k)) (fluePassDue_outward _ k q).1
    (fluePassDue_outward _ k q).2
  · exact (Calm.refl _ s).more rfl rfl
  · exact fun _ => rfl

/-- `g` is frame `f` after the frames numbered in `qs` have been dropped. -/
def DroppedIn (qs : List Nat) (f g : Frame) : Prop := g.fseq = f.fseq ∧ g.phase = if f.fseq ∈ qs then .dropped else f.phase

/-- A frame that is dropped, and nothing else of its stream. -/
theorem dropFrame_stream {s : State} {k : Nat} {st : Stream} (h : s.stream? k = some st) (q r : Nat) :
    ∃ fs, (s.dropFrame k q r).stream? k = some { st with frames := fs } ∧ List.Forall₂ (DroppedIn [q]) st.frames fs := by
  unfold State.dropFrame
  dsimp only
  rw [streamSync_stream?]
  generalize hu : State.modStream _ k _ = u
  have hs : ∃ fs, u.stream? k = some { st with frames := fs } ∧ List.Forall₂ (DroppedIn [q]) st.frames fs := by
    subst hu
    simp only [stream?_modStream_self, stream?_dropJobs, h, Option.map_some, Stream.modFrame]
    refine ⟨_, rfl, ?_⟩
    rw [List.forall₂_map_right_iff]
    refine List.forall₂_same.mpr fun f _ => ?_
    by_cases hq : f.fseq = q <;> simp [DroppedIn, hq]
  obtain ⟨fs, h1, h2⟩ := hs
  obtain ⟨free, h3⟩ := grantAct_stream h1
  refine ⟨grantActN free fs, by rw [State.stream?, (fluePassDue_outward _ k q).2]; exact h3, ?_⟩
  refine forall₂_comp h2 (grantActN_frames free fs) ?_
  rintro f g _ ⟨hq, hp⟩ ⟨a, rfl⟩
  exact ⟨hq, hp⟩

theorem forall₂_mem_right {α : Type} {R : α → α → Prop} {a b : List α} (h : List.Forall₂ R a b) {y : α} (hy : y ∈ b) :
    ∃ x ∈ a, R x y := by
  induction h with
  | nil => simp at hy
  | cons hr _ ih =>
    rcases List.mem_cons.mp hy with rfl | hy
    · exact ⟨_, by simp, hr⟩
    · obtain ⟨x, hx, hxy⟩ := ih hy
      exact ⟨x, by simp [hx], hxy⟩

theorem droppedIn_nil (fs : List Frame) : List.Forall₂ (DroppedIn []) fs fs :=
  List.forall₂_same.mpr fun f _ => ⟨rfl, by simp⟩

theorem DroppedIn.comp {qs rs : List Nat} {f g h : Frame} (a : DroppedIn qs f g) (b : DroppedIn rs g h) :
    DroppedIn (rs ++ qs) f h := by
  obtain ⟨a1, a2⟩ := a
  obtain ⟨b1, b2⟩ := b
  refine ⟨b1.trans a1, ?_⟩
  rw [b2, a1, a2]
  by_cases h1 : f.fseq ∈ rs <;> by_cases h2 : f.fseq ∈ qs <;> simp [h1, h2]

/-! ## Held access units and the batch in construction (R193, R228, R253) -/

/-- The registers that the recomputation of admission writes beside those of the streams and the budgets (R228, R251, R253, R302, R504
to R506). -/
def stepFields : Field → Bool
  | .CTX_FRAMES_DROPPED | .PP_LAST_DROP_FSEQ | .PP_ABANDONED | .SCH_IRQ | .SCH_STEP_CHANGES | .SCH_STEP | .SCH_CAUSE
  | .SCH_UNDO_PENDING | .SCH_UNDO_TICKS | .EVU_PENDING => true
  | _ => false

/-- All registers that the recomputation of admission writes. -/
def admitFields (f : Field) : Bool := syncFields f || schFields f || stepFields f

theorem syncFields_admit (f : Field) (h : syncFields f = true) : admitFields f = true := by simp [admitFields, h]
theorem schFields_admit (f : Field) (h : schFields f = true) : admitFields f = true := by simp [admitFields, h]

theorem dropFrame_admit (s : State) (k q r : Nat) : Calm admitFields s (s.dropFrame k q r) :=
  (dropFrame_calm s k q r).mono syncFields_admit

theorem dropBatch_calm (s : State) (k q r : Nat) : Calm admitFields s (s.dropBatch k q r) :=
  (dropFrame_admit s k q r).set .PP_LAST_DROP_FSEQ k q rfl (by decide)

theorem notDelivered_calm (s : State) (k q r : Nat) : Calm admitFields s (s.notDelivered k q r) :=
  (dropFrame_admit s k q r).set .CTX_FRAMES_DROPPED k _ rfl (by decide)

/-- The frame numbers of the access units that no engine has taken. -/
def Stream.heldSeqs (st : Stream) : List Nat := (st.frames.filter fun f => f.phase == .held).map Frame.fseq

theorem discardHeld_some {s : State} {k : Nat} {st : Stream} (h : s.stream? k = some st) (r : Nat) : s.discardHeld k r =
    (st.heldSeqs.zipIdx.foldl (fun s p => s.notDelivered k p.1 (if p.2 == 0 then r else 0)) s, st.heldSeqs.length) := by
  simp only [State.discardHeld, h, Stream.heldSeqs]

theorem discardHeld_calm (s : State) (k r : Nat) : Calm admitFields s (s.discardHeld k r).1 := by
  cases h : s.stream? k with
  | none => simp only [State.discardHeld, h]; exact .refl _ s
  | some st =>
    rw [discardHeld_some h]
    refine Calm.foldl (.refl _ s) _ (fun u p => ?_) _
    exact notDelivered_calm u k p.1 _

theorem foldl_notDelivered_stream (k r : Nat) (l : List (Nat × Nat)) {s : State} {st : Stream} (h : s.stream? k = some st) :
    ∃ fs qs, (l.foldl (fun s p => s.notDelivered k p.1 (if p.2 == 0 then r else 0)) s).stream? k = some { st with frames := fs } ∧
      List.Forall₂ (DroppedIn qs) st.frames fs ∧ ∀ p ∈ l, p.1 ∈ qs := by
  induction l generalizing s st with
  | nil => exact ⟨st.frames, [], h, droppedIn_nil _, by simp⟩
  | cons p l ih =>
    obtain ⟨fs, h1, h2⟩ := dropFrame_stream h p.1 (if p.2 == 0 then r else 0)
    obtain ⟨gs, qs, h3, h4, h5⟩ := ih (s := s.notDelivered k p.1 (if p.2 == 0 then r else 0)) (st := { st with frames := fs }) h1
    refine ⟨gs, qs ++ [p.1], h3, forall₂_comp h2 h4 fun _ _ _ a b => a.comp b, fun q hq => ?_⟩
    rcases List.mem_cons.mp hq with rfl | hq
    · simp
    · exact List.mem_append_left _ (h5 q hq)

/-- No access unit is held after the held ones are discarded; the answer says how many there were. -/
theorem discardHeld_stream {s : State} {k : Nat} {st : Stream} (h : s.stream? k = some st) (r : Nat) :
    (s.discardHeld k r).2 = st.frames.countP (fun f => f.phase == .held) ∧
      ∃ x, (s.discardHeld k r).1.stream? k = some x ∧ ∀ f ∈ x.frames, f.phase ≠ .held := by
  rw [discardHeld_some h]
  refine ⟨by simp [Stream.heldSeqs, List.countP_eq_length_filter], ?_⟩
  obtain ⟨fs, qs, h1, h2, h3⟩ := foldl_notDelivered_stream k r st.heldSeqs.zipIdx h
  refine ⟨_, h1, fun g hg hp => ?_⟩
  obtain ⟨f, hf, -, hfg⟩ := forall₂_mem_right h2 hg
  rw [hp] at hfg
  split at hfg
  · cases hfg
  · next hq =>
    have hm : f.fseq ∈ st.heldSeqs := List.mem_map_of_mem (List.mem_filter.mpr ⟨hf, by simp [← hfg]⟩)
    obtain ⟨n, hn⟩ := List.mem_iff_getElem.mp hm
    obtain ⟨hl, hn⟩ := hn
    exact hq (h3 (f.fseq, n) (List.mem_zipIdx_iff_getElem?.mpr (by simp [← hn, List.getElem?_eq_getElem hl])))

/-- A batch is abandoned: its frame is dropped, and no other frame changes its phase. -/
theorem abandonBuild_stream {s : State} {k : Nat} {st : Stream} (h : s.stream? k = some st) :
    ∃ fs qs, (s.abandonBuild k).1.stream? k = some { st with frames := fs } ∧ List.Forall₂ (DroppedIn qs) st.frames fs := by
  simp only [State.abandonBuild, h]
  split
  · exact ⟨st.frames, [], h, droppedIn_nil _⟩
  · next f _ =>
    obtain ⟨fs, h1, h2⟩ := dropFrame_stream
      (s := s.dropJobs fun j => j.stream == k && j.fseq == f.fseq && j.kind == .preproc) h f.fseq 0
    exact ⟨fs, [f.fseq], h1, h2⟩

theorem abandonBuild_calm (s : State) (k : Nat) : Calm admitFields s (s.abandonBuild k).1 := by
  unfold State.abandonBuild
  split
  · exact .refl _ s
  · split
    · exact .refl _ s
    · next f _ =>
      refine Calm.set (Calm.trans ?_ (dropBatch_calm _ k f.fseq 0)) .PP_ABANDONED k _ rfl (by decide)
      exact (Calm.refl _ s).more rfl rfl

/-! ## Reductions (R501 to R506) -/

theorem linkCounts_admit (f : Field) (h : linkCounts f = true) : admitFields f = true := schFields_admit f (linkCounts_sch f h)

theorem streamChanged_calm (s : State) : Calm admitFields s s.streamChanged :=
  (Calm.refl _ s).irq _ _ _ _ _ linkCounts_admit rfl (by decide)

theorem stepChange_calm (s : State) (a b : Nat) : Calm admitFields s (s.stepChange a b) := by
  refine Calm.set (t := { s with degradeQueue := s.degradeQueue ++ [(a, b)] }) ?_ .SCH_STEP_CHANGES 0 _ rfl (by decide)
  exact (Calm.refl _ s).more rfl rfl

theorem shedStream_calm (s : State) (k step : Nat) : Calm admitFields s (s.shedStream k step) := by
  unfold State.shedStream
  dsimp only
  have h2 := (discardHeld_calm s k reasonShed).trans (abandonBuild_calm _ k)
  generalize ((s.discardHeld k reasonShed).1.abandonBuild k).1 = v at h2 ⊢
  refine Calm.trans ?_ ((streamSync_calm _ k).mono syncFields_admit)
  refine Calm.trans ?_ (streamChanged_calm _)
  refine Calm.modStream ?_ k _ ?_
  · split
    · exact h2
    · refine Calm.foldl h2 _ (fun u f => ?_) _
      exact dropBatch_calm u k f.fseq 0
  · exact fun _ => rfl

/-- A reduction joins those in force. -/
theorem addReduction_calm {s t : State} (h : Calm admitFields s t) (l : List (Nat × Nat)) :
    Calm admitFields s { t with degrade := l } := h.more rfl rfl

theorem reduce_calm {s t : State} (h : s.reduce = some t) : Calm admitFields s t := by
  unfold State.reduce at h
  split at h
  · obtain rfl := Option.some.inj h
    exact (addReduction_calm (.refl _ s) _).trans (stepChange_calm _ 1 0)
  · split at h
    · obtain rfl := Option.some.inj h
      refine Calm.foldl ((addReduction_calm (.refl _ s) _).trans (stepChange_calm _ 2 0)) _ (fun u e => ?_) _
      exact shedStream_calm u e.1 2
    · dsimp only at h
      split at h
      · obtain rfl := Option.some.inj h
        refine Calm.trans (Calm.modStream (addReduction_calm ?_ _) _ _ ?_) (streamChanged_calm _)
        · exact (stepChange_calm s 3 0).ite (.refl _ s)
        · exact fun _ => rfl
      · split at h
        · obtain rfl := Option.some.inj h
          exact (addReduction_calm (.refl _ s) _).trans (stepChange_calm _ 3 0)
        · split at h
          · cases h
          · obtain rfl := Option.some.inj h
            refine Calm.trans (addReduction_calm ?_ _) (shedStream_calm _ _ 4)
            exact (Calm.refl _ s).ite (stepChange_calm s 4 0)

theorem reduceN_calm (n : Nat) (s : State) : Calm admitFields s (reduceN n s) := by
  induction n generalizing s with
  | zero => exact .refl _ s
  | succ n ih =>
    unfold reduceN
    split
    · exact .refl _ s
    · split
      · exact .refl _ s
      · next t ht => exact (reduce_calm ht).trans (ih t)

theorem reduceAll_calm (s : State) : Calm admitFields s s.reduceAll := by
  unfold State.reduceAll
  dsimp only
  refine Calm.foldl ?_ _ (fun u e => ?_) _
  · split
    · exact .refl _ s
    · exact ((Calm.refl _ s).set .SCH_CAUSE 0 _ rfl (by decide)).trans (reduceN_calm _ _)
  · refine Calm.trans (addReduction_calm ?_ _) (shedStream_calm _ e.1 4)
    exact (Calm.refl _ u).ite (stepChange_calm u 4 0)

theorem stepSync_calm (s : State) : Calm admitFields s s.stepSync := by
  unfold State.stepSync
  have h := (Calm.refl admitFields s).set .SCH_STEP 0 (s.degrade.foldl (fun m d => max m d.1) 0) rfl (by decide)
  exact (h.set .SCH_CAUSE 0 0x1F rfl (by decide)).ite h

theorem undoTest_calm (s : State) (b : Bool) : Calm admitFields s (s.undoTest b) := by
  have h : ∀ o a c, Calm admitFields s ((({ s with undoSince := o }).set .SCH_UNDO_PENDING 0 a).set .SCH_UNDO_TICKS 0 c) := by
    intro o a c
    have h0 : Calm admitFields s { s with undoSince := o } := (Calm.refl _ s).more rfl rfl
    exact (h0.set .SCH_UNDO_PENDING 0 a rfl (by decide)).set .SCH_UNDO_TICKS 0 c rfl (by decide)
  unfold State.undoTest
  exact (h _ _ _).ite ((h _ _ _).ite (h _ _ _))

theorem reportStep_calm (s : State) : Calm admitFields s s.reportStep := by
  unfold State.reportStep
  split
  · exact .refl _ s
  · refine (Calm.refl _ s).ite (Calm.capture (Calm.irq ?_ _ _ _ _ _ linkCounts_admit rfl (by decide)) _ _ _ _ _ rfl)
    exact (Calm.refl _ s).more rfl rfl

theorem schSync_calm (s : State) : Calm admitFields s s.schSync := ((schSync_onRegs s).calm rfl).mono schFields_admit

theorem recordStep_calm (s : State) : Calm admitFields s s.recordStep := by
  unfold State.recordStep
  split
  · exact .refl _ s
  · exact (Calm.refl _ s).ite ((Calm.refl _ s).capture _ _ _ _ _ rfl)

/-- A recomputation of the admission unit keeps every stream open under its terms (R291, R501). -/
theorem recompute_calm (s : State) : Calm admitFields s s.recompute := by
  unfold State.recompute
  refine (Calm.refl _ s).ite ?_
  have h : Calm admitFields s { s with lastAdmission := s.now } := (Calm.refl _ s).more rfl rfl
  generalize ({ s with lastAdmission := s.now } : State) = u at h ⊢
  dsimp only
  split
  · exact h.trans ((((((reduceAll_calm u).trans (stepSync_calm _)).trans (undoTest_calm _ _)).trans (reportStep_calm _))).trans
      (schSync_calm _))
  · exact (h.trans (recordStep_calm u)).trans (schSync_calm _)

end Sys2Proof.Machine
end

section
/-! Records and the rings they meet (R82 to R86): what they leave of the streams, and what a completion leaves of another packet. -/

namespace Sys2Proof.Machine

/-! ## A record meets a ring (R82 to R84) -/

/-- The registers that records write on their way to a ring. -/
def ringFields : Field → Bool
  | .META_HEAD | .FLU_RECORDS | .META_DROPPING | .META_DROPS | .FLU_RING_DROPS | .META_OVERRUNS | .EVU_PENDING => true
  | _ => false

/-- A stream less its pending drop state. -/
def Stream.ungap (st : Stream) : Stream := { st with gap := none }

/-- The parts that records leave alone, beside the registers and the streams. -/
def State.beside (s : State) := (s.packets, s.staged, s.bme, s.clockLost, s.thermal, s.tamperFence)

/-- From `s` to `t` registers of the rings are written and streams change, and nothing put on the wire is taken back. -/
structure RingWork (s t : State) : Prop where
  reg : ∀ f i, ringFields f = false → t.get f i = s.get f i
  rest : t.beside = s.beside
  wire : ∃ l, t.egress = s.egress ++ l

/-- From `s` to `t` records have met their rings: of the streams, pending drop states alone change. -/
structure OnRing (s t : State) : Prop extends RingWork s t where
  streams : ∀ k, (t.stream? k).map Stream.ungap = (s.stream? k).map Stream.ungap

section OnRing

variable {s t u : State}

theorem RingWork.refl (s : State) : RingWork s s := ⟨fun _ _ _ => rfl, rfl, [], by simp⟩

theorem RingWork.trans (h : RingWork s t) (k : RingWork t u) : RingWork s u := by
  obtain ⟨l, hl⟩ := h.wire
  obtain ⟨m, hm⟩ := k.wire
  exact ⟨fun f i hf => (k.reg f i hf).trans (h.reg f i hf), k.rest.trans h.rest, l ++ m, by rw [hm, hl, List.append_assoc]⟩

theorem RingWork.modStream (h : RingWork s t) (k : Nat) (g : Stream → Stream) : RingWork s (t.modStream k g) := by
  refine h.trans ⟨fun f i _ => modStream_get _ _ _ _ _, ?_, [], ?_⟩
  · unfold State.modStream; split <;> rfl
  · rw [List.append_nil]; unfold State.modStream; split <;> rfl

theorem RingWork.path (h : RingWork s t) (id : Nat) : Path id s t := by
  have hr := h.rest
  simp only [State.beside, Prod.mk.injEq] at hr
  obtain ⟨hp, hs, hb, hc, ht, -⟩ := hr
  refine ⟨fun f hf i => h.reg f i ?_, hb, hc, ht, by simp only [State.pktsOf, hp], by simp only [State.isStaged, hs], h.wire⟩
  revert f
  decide

/-- Records change nothing that fences the flues. -/
theorem RingWork.fenced (h : RingWork s t) : t.fenced = s.fenced := by
  have hr := h.rest
  simp only [State.beside, Prod.mk.injEq] at hr
  obtain ⟨-, -, -, -, ht, hf⟩ := hr
  simp only [State.fenced, State.fencedReg, State.role, State.isFault, State.dev, h.reg .ROLE _ rfl, h.reg .LEASE_VALID _ rfl,
    h.reg .DS_STATE _ rfl, ht, hf]

theorem OnRing.refl (s : State) : OnRing s s := ⟨.refl s, fun _ => rfl⟩

theorem OnRing.trans (h : OnRing s t) (k : OnRing t u) : OnRing s u :=
  ⟨h.toRingWork.trans k.toRingWork, fun i => (k.streams i).trans (h.streams i)⟩

theorem OnRing.set (h : OnRing s t) (f : Field) (i v : Nat) (hf : ringFields f = true) : OnRing s (t.set f i v) := by
  refine h.trans { OnRing.refl t with reg := fun g j hg => State.get_set_ne _ _ _ _ ?_ }
  rintro rfl
  simp [hf] at hg

theorem OnRing.emit (h : OnRing s t) (x : Egress) : OnRing s (t.emit x) :=
  h.trans { reg := fun _ _ _ => rfl, rest := rfl, streams := fun _ => rfl, wire := ⟨[x], rfl⟩ }

theorem OnRing.capture (h : OnRing s t) (c src d0 d1 d2 : Nat) : OnRing s (t.capture c src d0 d1 d2) := by
  have k := capture_frame (F := fun f => f == .EVU_PENDING) t c src d0 d1 d2 (.inr rfl)
  obtain ⟨hp, hs, he⟩ := capture_outward t c src d0 d1 d2
  exact h.trans
    { reg := fun f i hf => k.1 f i (by cases f <;> simp_all [ringFields])
      rest := by simp only [State.beside, hp, hs, k.bme, k.clockLost, k.thermal, k.tamperFence]
      streams := fun i => by rw [State.stream?, k.streams, State.stream?]
      wire := ⟨[], by simp [he]⟩ }

/-- A pending drop state is set or cleared. -/
theorem OnRing.modGap (h : OnRing s t) (k : Nat) (g : Stream → Stream) (hg : ∀ st, (g st).ungap = st.ungap) :
    OnRing s (t.modStream k g) := by
  refine h.trans ⟨(RingWork.refl t).modStream k g, fun j => ?_⟩
  rw [stream?_modStream]
  split
  · next hj => subst hj; cases t.stream? j <;> simp [hg]
  · rfl

theorem OnRing.ite {c : Prop} [Decidable c] (h : OnRing s t) (k : OnRing s u) : OnRing s (if c then t else u) := by
  split
  · exact h
  · exact k

/-- A stream that was there is there still, but for its pending drop state. -/
theorem OnRing.stream (h : OnRing s t) {k : Nat} {st : Stream} (hs : s.stream? k = some st) :
    ∃ x, t.stream? k = some x ∧ x.ungap = st.ungap :=
  Option.map_eq_some_iff.mp ((h.streams k).trans (by rw [hs]; rfl))

end OnRing

theorem writeWords_onRing (s : State) (c : Nat) (ws : List Nat) : OnRing s (s.writeWords c ws) := (OnRing.refl s).emit _

theorem writeHead_onRing (s : State) (c k : Nat) (ws : List Nat) : OnRing s (s.writeHead c k ws) :=
  (((OnRing.refl s).emit _).set .META_HEAD c _ rfl).set .FLU_RECORDS k _ rfl

theorem writeRecord_onRing (s : State) (c k : Nat) (ws : List Nat) : OnRing s (s.writeRecord c k ws) :=
  (writeWords_onRing s c ws).trans (writeHead_onRing _ c k ws)

theorem dropSync_onRing (s : State) (c : Nat) : OnRing s (s.dropSync c) := (OnRing.refl s).set .META_DROPPING c _ rfl

theorem flushGapsN_onRing (n : Nat) (s : State) (c : Nat) : OnRing s (flushGapsN n s c) := by
  induction n generalizing s with
  | zero => exact .refl s
  | succ n ih =>
    unfold flushGapsN
    split
    · exact .refl s
    · split
      · exact .refl s
      · split
        · exact .refl s
        · refine OnRing.trans ?_ (ih _)
          exact (writeRecord_onRing s c _ _).modGap _ _ fun _ => rfl

theorem flushGaps_onRing (s : State) (c : Nat) : OnRing s (s.flushGaps c) :=
  (flushGapsN_onRing _ s c).trans (dropSync_onRing _ c)

theorem dropRecord_onRing (s : State) (c k q : Nat) : OnRing s (s.dropRecord c k q) := by
  have h : ∀ g : Stream → Stream, (∀ st, (g st).ungap = st.ungap) →
      OnRing s ((((s.modStream k g).sat 32 .META_DROPS c).inc .FLU_RING_DROPS k).set .META_DROPPING c 1) := fun g hg =>
    ((((OnRing.refl s).modGap k g hg).set .META_DROPS c _ rfl).set .FLU_RING_DROPS k _ rfl).set .META_DROPPING c 1 rfl
  unfold State.dropRecord
  dsimp only
  split
  · refine OnRing.capture (h _ ?_) 13 c k 0 0
    exact fun _ => rfl
  · refine h _ ?_
    exact fun _ => rfl

theorem meetRing_onRing (s : State) (c k q : Nat) : OnRing s (s.meetRing c k q).1 := by
  have h := flushGaps_onRing s c
  have hd := h.trans (dropRecord_onRing (s.flushGaps c) c k q)
  unfold State.meetRing
  dsimp only
  split
  · exact .refl s
  · split
    · exact hd
    · split
      · exact (h.set .META_OVERRUNS c _ rfl).ite h
      · split
        · exact hd
        · exact h

theorem putRecord_onRing (s : State) (c k q : Nat) (ws : List Nat) : OnRing s (s.putRecord c k q ws).1 := by
  unfold State.putRecord
  dsimp only
  split
  · exact (meetRing_onRing s c k q).trans (writeRecord_onRing _ c k ws)
  · exact meetRing_onRing s c k q

/-- A fence discards the record, and nothing is written (R35, R94). -/
theorem putRecord_fenced {s : State} (c k q : Nat) (ws : List Nat) (h : s.fenced = true) : s.putRecord c k q ws = (s, false) := by
  simp [State.putRecord, State.meetRing, h]

/-! ## Completions put no record on the wire (R170, R176) -/

theorem post_noRecord (s : State) {x : Egress} (h : ∀ c n a, (∀ ws, x ≠ .record c n a ws) ∧ ∀ w, x ≠ .recordHead c n a w) :
    NoRecord s (s.post x) := by
  unfold State.post
  split
  · exact .of_egress rfl
  · exact ⟨[x], rfl, by simpa using h⟩

theorem putReply_noRecord (s : State) (c tag tick : Nat) (r : Reply) : NoRecord s (s.putReply c tag tick r) := by
  have hc : NoRecord s ((s.capture 14 c 0 0 0).set .CL_CPL_HEAD c (Num.wrap32 (s.get .CL_CPL_HEAD c + 1))) :=
    .of_egress (capture_outward s 14 c 0 0 0).2.2
  unfold State.putReply
  dsimp only
  split
  · exact hc
  · split
    · exact hc.trans (.of_egress (discard_egress _))
    · exact hc.trans (post_noRecord _ fun _ _ _ => ⟨nofun, nofun⟩)

theorem writeback_noRecord (s : State) (c : Nat) : NoRecord s (s.writeback c) := by
  unfold State.writeback
  split
  · exact .refl s
  · split
    · exact .of_egress (discard_egress s)
    · exact post_noRecord s fun _ _ _ => ⟨nofun, nofun⟩

theorem fenceBump_egress (s : State) (h : Nat) : (s.fenceBump h).egress = s.egress := by
  unfold State.fenceBump
  split <;> rfl

theorem replySignal_noRecord (s : State) (p : Pkt) (r : Reply) : NoRecord s (s.replySignal p r) := by
  unfold State.replySignal
  split
  · exact (signal_addsMessages s _).noRecord
  · exact .refl s

theorem NoRecord.foldl {α : Type} {s : State} (g : State → α → State) (hg : ∀ s a, NoRecord s (g s a)) (l : List α) :
    NoRecord s (l.foldl g s) := by
  induction l generalizing s with
  | nil => exact .refl s
  | cons a l ih => exact (hg s a).trans ih

theorem completeN_noRecord (n : Nat) (s : State) (id tick : Nat) (r : Reply) : NoRecord s (completeN n s id tick r) := by
  induction n generalizing s id tick r with
  | zero => exact .refl s
  | succ n ih =>
    cases hp : s.pkt? id with
    | none => simp only [completeN, hp]; exact .refl s
    | some p =>
      have ha : NoRecord s (s.answer id tick p r) := putReply_noRecord _ _ _ _ _
      have hw := ha.trans (writeback_noRecord _ p.client)
      simp only [completeN, hp]
      refine NoRecord.trans ?_ (replySignal_noRecord _ p r)
      split
      · refine (hw.trans (.of_egress (fenceBump_egress _ _))).trans (NoRecord.foldl _ (fun u w => ?_) _)
        exact ih u w _ _
      · exact hw

theorem complete_noRecord (s : State) (id : Nat) (r : Reply) : NoRecord s (s.complete id r) := by
  unfold State.complete State.completeAt State.stage
  dsimp only
  split
  · split
    · exact .of_egress rfl
    · exact .of_egress rfl
  · exact completeN_noRecord _ _ _ _ _

theorem release_noRecord (s : State) (h : Nat) : NoRecord s (s.release h) :=
  NoRecord.foldl _ (fun u w => complete_noRecord u w _) _

/-- The fence that a pass updates for client `c`, and the waits it ends. -/
def State.passFence (s : State) (c : Nat) : State :=
  if s.get .META_FENCE_EN c == 1 then (s.fenceBump (s.get .META_FENCE c)).release (s.get .META_FENCE c) else s

theorem passSignal_eq (s : State) (c : Nat) : s.passSignal c =
    if (s.passFence c).get .META_IRQ_EN c == 1 then (s.passFence c).signal (32 + c) else s.passFence c := rfl

theorem passSignal_noRecord (s : State) (c : Nat) : NoRecord s (s.passSignal c) := by
  have h : NoRecord s (s.passFence c) := by
    unfold State.passFence
    split
    · exact NoRecord.trans (.of_egress (fenceBump_egress _ _)) (release_noRecord _ _)
    · exact .refl s
  rw [passSignal_eq]
  split
  · exact h.trans (signal_addsMessages _ _).noRecord
  · exact h

/-- The signal after a pass is a reply's: fences, waits that end, and a vector (R86). -/
theorem passSignal_keeps (s : State) (c : Nat) : Keeps replyFields s (s.passSignal c) := by
  have h : Keeps replyFields s (s.passFence c) := by
    unfold State.passFence
    split
    · exact (fenceBump_frame _ s _).trans (release_frame _ _)
    · exact .refl _ s
  rw [passSignal_eq]
  split
  · exact h.trans (signal_frame _ _ linkCounts_reply)
  · exact h

/-! ## A completion leaves the other packets (R169, R176) -/

/-- No packet of number `id` waits on a fence. -/
def State.NoWait (s : State) (id : Nat) : Prop := ∀ p ∈ s.pktsOf id, p.opcode ≠ 0x02

theorem opcode_bare (p : Pkt) : p.bare.opcode = p.opcode := rfl

theorem Path.noWait {id : Nat} {s t : State} (h : Path id s t) (hw : s.NoWait id) : t.NoWait id := by
  intro p hp ho
  have hm : p.bare ∈ (s.pktsOf id).map Pkt.bare := h.pkts ▸ List.mem_map_of_mem hp
  obtain ⟨q, hq, he⟩ := List.mem_map.mp hm
  exact hw q hq (by rw [← opcode_bare, he, opcode_bare, ho])

/-- A wait that a fence releases is not packet `id`. -/
theorem ne_of_mem_readyWaits {s : State} {id h w : Nat} (hn : s.NoWait id) (hw : w ∈ s.readyWaits h) : w ≠ id := by
  unfold State.readyWaits at hw
  split at hw
  · simp at hw
  · obtain ⟨p, hp, rfl⟩ := List.mem_map.mp hw
    simp only [List.mem_filter, Bool.and_eq_true, beq_iff_eq] at hp
    rintro rfl
    exact hn p (by simp [State.pktsOf, hp.1]) hp.2.1.1.2

theorem putReply_packets (s : State) (c tag tick : Nat) (r : Reply) : (s.putReply c tag tick r).packets = s.packets := by
  have hc := (capture_outward s 14 c 0 0 0).1
  have hp : ∀ (s : State) x, (s.post x).packets = s.packets := by intro s x; unfold State.post; split <;> rfl
  unfold State.putReply
  dsimp only
  split
  · exact hc
  · split
    · rw [(discard_only _).1]; exact hc
    · rw [hp]; exact hc

theorem writeback_packets (s : State) (c : Nat) : (s.writeback c).packets = s.packets := by
  unfold State.writeback State.post
  split
  · rfl
  · split
    · exact (discard_only s).1
    · split <;> rfl

theorem fenceBump_packets (s : State) (h : Nat) : (s.fenceBump h).packets = s.packets := by
  unfold State.fenceBump
  split <;> rfl

theorem replySignal_packets (s : State) (p : Pkt) (r : Reply) : (s.replySignal p r).packets = s.packets := by
  unfold State.replySignal
  split
  · exact (signal_only s _).1
  · rfl

theorem pktsOf_congr {s t : State} (h : t.packets = s.packets) (id : Nat) : t.pktsOf id = s.pktsOf id := by
  rw [State.pktsOf, h, State.pktsOf]

theorem answer_pktsOf (s : State) {w id : Nat} (hne : w ≠ id) (tick : Nat) (p : Pkt) (r : Reply) :
    (s.answer w tick p r).pktsOf id = s.pktsOf id := by
  have hp : (s.answer w tick p r).packets = s.packets.filter fun q => q.id != w := putReply_packets _ _ _ _ _
  rw [State.pktsOf, hp, State.pktsOf, List.filter_filter]
  refine List.filter_congr fun q _ => ?_
  by_cases hq : q.id = id <;> simp [hq, hne.symm]

theorem completeN_pktsOf (n : Nat) {s : State} {w id : Nat} (hne : w ≠ id) (hn : s.NoWait id) (tick : Nat) (r : Reply) :
    (completeN n s w tick r).pktsOf id = s.pktsOf id := by
  induction n generalizing s w tick r with
  | zero => rfl
  | succ n ih =>
    cases hp : s.pkt? w with
    | none => simp only [completeN, hp]
    | some p =>
      have hv : ((s.answer w tick p r).writeback p.client).pktsOf id = s.pktsOf id :=
        (pktsOf_congr (writeback_packets _ _) id).trans (answer_pktsOf s hne tick p r)
      have hfold : ∀ (l : List Nat) (v : State) (m : Nat) (q : Reply), (∀ w ∈ l, w ≠ id) → v.pktsOf id = s.pktsOf id →
          (l.foldl (fun u w => completeN n u w m q) v).pktsOf id = s.pktsOf id := by
        intro l
        induction l with
        | nil => intro v m q _ hv; exact hv
        | cons a l ihl =>
          intro v m q hl hv
          have hnv : v.NoWait id := by unfold State.NoWait; rw [hv]; exact hn
          exact ihl _ m q (fun w hw => hl w (List.mem_cons_of_mem _ hw)) ((ih (hl a List.mem_cons_self) hnv m q).trans hv)
      simp only [completeN, hp]
      rw [pktsOf_congr (replySignal_packets _ _ _)]
      split
      · refine hfold _ _ _ _ (fun x hx => ne_of_mem_readyWaits ?_ hx) ?_
        · unfold State.NoWait
          rw [pktsOf_congr (fenceBump_packets _ _), hv]
          exact hn
        · rw [pktsOf_congr (fenceBump_packets _ _), hv]
      · exact hv

/-- The path of packet `id` under a frame of replies. -/
theorem Path.of_keeps {id : Nat} {s t : State} (k : Keeps replyFields s t) (hp : t.pktsOf id = s.pktsOf id)
    (hs : t.isStaged id = s.isStaged id) : Path id s t := by
  refine ⟨fun f hf i => k.1 f i ?_, k.bme, k.clockLost, k.thermal, by rw [hp], hs, k.2.2⟩
  revert f
  decide

/-- The completion of another packet leaves packet `id` in flight, unless it waits on a fence. -/
theorem complete_path {s : State} {w id : Nat} (hne : w ≠ id) (hn : s.NoWait id) (r : Reply) : Path id s (s.complete w r) := by
  refine .of_keeps (complete_frame s w r) ?_ ?_
  · unfold State.complete State.completeAt State.stage
    dsimp only
    split
    · split <;> rfl
    · exact completeN_pktsOf (s := s.endJobOf w) _ hne hn _ _
  · unfold State.complete State.completeAt State.stage
    dsimp only
    split
    · split
      · rfl
      · simp [State.isStaged, State.endJobOf, hne]
    · rw [State.isStaged, completeN_staged]; rfl

theorem release_path {s : State} {id : Nat} (hn : s.NoWait id) (h : Nat) : Path id s (s.release h) := by
  have hfold : ∀ (l : List Nat) (v : State), (∀ w ∈ l, w ≠ id) → Path id s v →
      Path id s (l.foldl (fun u w => u.complete w (s.waitReply h)) v) := by
    intro l
    induction l with
    | nil => exact fun _ _ hv => hv
    | cons a l ih =>
      intro v hl hv
      exact ih _ (fun w hw => hl w (List.mem_cons_of_mem _ hw))
        (hv.trans (complete_path (hl a List.mem_cons_self) (hv.noWait hn) _))
  exact hfold _ s (fun w hw => ne_of_mem_readyWaits hn hw) (.refl id s)

theorem signal_path (s : State) (id v : Nat) : Path id s (s.signal v) := (signal_steady s v).path id (by decide)

theorem fenceBump_path (s : State) (id h : Nat) : Path id s (s.fenceBump h) :=
  .of_keeps (fenceBump_frame _ s h) (pktsOf_congr (fenceBump_packets s h) id) (by rw [State.isStaged, fenceBump_staged, State.isStaged])

/-- The signal after a pass leaves a packet in flight that does not wait on a fence. -/
theorem passSignal_path {s : State} {id : Nat} (hn : s.NoWait id) (c : Nat) : Path id s (s.passSignal c) := by
  have h : Path id s (s.passFence c) := by
    unfold State.passFence
    split
    · have hb := fenceBump_path s id (s.get .META_FENCE c)
      exact hb.trans (release_path (hb.noWait hn) _)
    · exact .refl id s
  rw [passSignal_eq]
  split
  · exact h.trans (signal_path _ id _)
  · exact h

end Sys2Proof.Machine
end

section
/-! The end of a stream's work (R33, R34, R193 to R195, R231, R235). -/

namespace Sys2Proof.Machine

section Packet

variable {s : State} {p : Pkt} {st : Stream}

/-! ## STREAM_FLUSH (R193) -/

/-- STREAM_FLUSH discards every access unit no engine has taken. -/
theorem streamFlush_completes (h : s.Starts p) (hc : firstBad ((s.markStarted p.id).flushChecks p) = none)
    (hs : (s.markStarted p.id).stream? p.stream = some st) (ho : p.opcode = 0x12) (hl : s.linkClosed = false) :
    Runs .streamFlush s fun t =>
      (∃ b, b ≤ 1 ∧ Replied s t p (Reply.ok (st.frames.countP fun f => f.phase == .held) b)) ∧
      ∃ x, t.stream? p.stream = some x ∧ ∀ f ∈ x.frames, f.phase ≠ .held := by
  have hm := markStarted_steady admitFields s p.id
  refine ⟨_, h.runs rfl ho (checked_none _ hc), ?_⟩
  generalize s.markStarted p.id = u at hs hm ⊢
  obtain ⟨hn, x, hx, hh⟩ := discardHeld_stream hs 0
  obtain ⟨fs, qs, hf, hd⟩ := abandonBuild_stream hx
  have hp : Path p.id s (((u.discardHeld p.stream 0).1.abandonBuild p.stream).1) :=
    (hm.trans ((discardHeld_calm u _ 0).trans (abandonBuild_calm _ p.stream)).toSteady).path p.id (by decide)
  dsimp only
  refine ⟨⟨Num.b2n ((u.discardHeld p.stream 0).1.abandonBuild p.stream).2, ?_, ?_⟩, { x with frames := fs }, ?_, ?_⟩
  · cases ((u.discardHeld p.stream 0).1.abandonBuild p.stream).2 <;> decide
  · rw [← hn]
    exact h.replied hl hp _
  · rw [State.stream?, (reply_frame _ _ _ _).streams]
    exact hf
  · intro g hg hp
    obtain ⟨f, hfm, -, hfg⟩ := forall₂_mem_right hd hg
    rw [hp] at hfg
    split at hfg
    · cases hfg
    · exact hh f hfm hfg.symm

/-! ## STREAM_CLOSE (R34, R194, R235) -/

theorem modStream_open {s : State} {k : Nat} {st : Stream} (h : s.stream? k = some st) (g : Stream → Stream) :
    ∃ x, (s.modStream k g).stream? k = some x := ⟨g st, by rw [stream?_modStream_self, h]; rfl⟩

/-- A stream whose mirror resynchronises stays open. -/
theorem resync_open {s : State} {k : Nat} {st : Stream} (h : s.stream? k = some st) : ∃ x, (s.resync k).stream? k = some x := by
  rw [State.resync, State.stream?, mirrorShow_streams]
  exact modStream_open h _

theorem haltMirror_open {s : State} {k : Nat} {st : Stream} (h : s.stream? k = some st) :
    ∃ x, (s.haltMirror k).stream? k = some x := by
  unfold State.haltMirror
  refine resync_open (st := st) ?_
  exact ((freeUnits_onRegs s fun j => j.sends k).stream? k).trans h

/-- The stream is closing for packet `id` from here on, and shows it. -/
theorem startClose_stream {s : State} {k : Nat} {st : Stream} (h : s.stream? k = some st) (id : Nat) :
    ∃ x, (s.startClose k id).stream? k = some x ∧ x.closingPkt = some id ∧ (s.startClose k id).get .CTX_STATE k = 5 := by
  obtain ⟨y, hy⟩ := haltMirror_open h
  have hd : ((s.haltMirror k).dropDecodes k).stream? k = some y := by
    rw [State.stream?, dropDecodes_streams]; exact hy
  simp only [State.startClose, hd]
  generalize hw : State.setStream _ k _ = w
  have hwk : ∃ z, w.stream? k = some z ∧ z.closingPkt = some id := by
    subst hw
    exact ⟨_, stream?_setStream_self _ _ _, rfl⟩
  obtain ⟨z, hz, hzc⟩ := hwk
  generalize List.map Job.fseq _ = l
  have hcalm : Calm syncFields w (l.eraseDups.foldl (fun s q => s.dropFrame k q 0) w) :=
    (Calm.refl _ w).foldl _ (fun u q => dropFrame_calm u k q 0) _
  generalize List.foldl _ w l.eraseDups = v at hcalm ⊢
  obtain ⟨x, hx, hxt⟩ := hcalm.stream hz
  have hxc : x.closingPkt = some id := by
    rw [← hzc]
    exact congrArg (fun t => t.2.2.2) hxt
  refine ⟨x, by rw [streamSync_stream?]; exact hx, hxc, ?_⟩
  rw [streamSync_ctxState hx, Stream.ctxState, hxc]
  rfl

theorem streamClose_completes (h : s.Starts p) (hc : firstBad ((s.markStarted p.id).flushChecks p) = none)
    (hs : (s.markStarted p.id).stream? p.stream = some st) (ho : p.opcode = 0x13) : Runs .streamClose s fun t =>
      (∃ x, t.stream? p.stream = some x ∧ x.closingPkt = some p.id) ∧ t.get .CTX_STATE p.stream = 5 := by
  refine ⟨_, h.runs rfl ho (checked_none _ hc), ?_⟩
  obtain ⟨x, hx, hxc, h5⟩ := startClose_stream hs p.id
  have k := drainSettle_frame ((s.markStarted p.id).startClose p.stream p.id) p.client
  refine ⟨⟨x, ?_, hxc⟩, ?_⟩
  · rw [State.stream?, k.streams]
    exact hx
  · rw [k.1 .CTX_STATE _ rfl, h5]

/-! ## STREAM_RECONFIG (R33, R195) -/

/-- What STREAM_RECONFIG does where it passes its checks and is admitted. -/
theorem streamReconfig_admitted {u : State} (hc : firstBad (u.reconfigChecks p) = none) (hs : u.stream? p.stream = some st)
    (hr : firstBad (st.reconfigChecks p) = none) (ha : u.reconfigRefused st (st.withReconf p) = none) :
    u.streamReconfig p = (u.setStream p.stream (st.withReconf p)).recompute.complete p.id Reply.ok := by
  simp only [State.streamReconfig]
  rw [checked_none _ hc]
  simp only [hs]
  rw [checked_none _ hr]
  simp only [ha]

theorem streamReconfig_completes (h : s.Starts p) (hl : s.linkClosed = false) (ho : p.opcode = 0x14)
    (hc : firstBad ((s.markStarted p.id).reconfigChecks p) = none) (hs : (s.markStarted p.id).stream? p.stream = some st)
    (hr : firstBad (st.reconfigChecks p) = none) (ha : (s.markStarted p.id).reconfigRefused st (st.withReconf p) = none) :
    Runs .streamReconfig s fun t => Replied s t p Reply.ok ∧
      ∃ x, t.stream? p.stream = some x ∧ x.reconf = (st.withReconf p).reconf ∧ x.maxW = st.maxW ∧ x.fps = st.fps := by
  have hm := (markStarted_steady admitFields s p.id).trans (setStream_steady admitFields _ p.stream (st.withReconf p))
  refine ⟨_, h.runs rfl ho (streamReconfig_admitted hc hs hr ha), ?_⟩
  have hst : ((s.markStarted p.id).setStream p.stream (st.withReconf p)).stream? p.stream = some (st.withReconf p) :=
    stream?_setStream_self _ _ _
  generalize (s.markStarted p.id).setStream p.stream (st.withReconf p) = u at hm hst ⊢
  have hcalm := recompute_calm u
  obtain ⟨x, hx, hxt⟩ := hcalm.stream hst
  refine ⟨h.replied hl ((hm.trans hcalm.toSteady).path p.id (by decide)) _, x, ?_, ?_, ?_, ?_⟩
  · rw [State.stream?, (reply_frame _ _ _ _).streams]
    exact hx
  · exact congrArg (fun t => t.1) hxt
  · exact congrArg (fun t => t.2.1) hxt
  · exact congrArg (fun t => t.2.2.1) hxt

end Packet

/-! ## STREAM_CLOSE_COMPLETE (R34, R194, R231) -/

/-- The registers that the end of a stream writes. -/
def endFields (f : Field) : Bool := unitFields f || admitFields f || f == .PP_BOUND || f == .TS_ENSEMBLE

theorem unitFields_end (f : Field) (h : unitFields f = true) : endFields f = true := by simp [endFields, h]
theorem admitFields_end (f : Field) (h : admitFields f = true) : endFields f = true := by simp [endFields, h]

theorem free_outward (s : State) (a : Nat) : (s.free a).outward = s.outward ∧ (s.free a).streams = s.streams := by
  unfold State.free
  split
  · exact ⟨rfl, rfl⟩
  · dsimp only
    split <;> exact ⟨rfl, rfl⟩

theorem freeAll_outward (s : State) (bs : List (Nat × Nat)) :
    (s.freeAll bs).outward = s.outward ∧ (s.freeAll bs).streams = s.streams := by
  unfold State.freeAll
  induction bs generalizing s with
  | nil => exact ⟨rfl, rfl⟩
  | cons b bs ih =>
    obtain ⟨h1, h2⟩ := ih (s.free b.1)
    obtain ⟨k1, k2⟩ := free_outward s b.1
    exact ⟨h1.trans k1, h2.trans k2⟩

/-- Stream `k` gives back its buffers, its units and its jobs, and its context. -/
def State.vacate (s : State) (k : Nat) (st : Stream) : State :=
  let s := (s.freeAll st.buffers).freeUnits fun j => j.stream == k
  { s with streams := Tab.del k s.streams, jobs := s.jobs.filter fun j => j.stream != k }

/-- The registers of a context that is freed. -/
def State.blank (s : State) (k : Nat) : State :=
  ((((((((s.set .CTX_STATE k 0).set .PP_BOUND k 0).set .TS_ENSEMBLE k 0).set .MS_ENABLE k 0).set .SS_NET_TICKS k 0).set
    .SS_DRAM_MBPS k 0).set .SS_DECIMATED k 0).set .SS_SHED k 0)

theorem endStream_some {s : State} {k : Nat} {st : Stream} (h : s.stream? k = some st) :
    s.endStream k = ((s.vacate k st).blank k).forgetReductions k := by
  simp only [State.endStream, h]
  rfl

theorem vacate_steady (s : State) (k : Nat) (st : Stream) : Steady endFields s (s.vacate k st) := by
  have h : Steady endFields s (s.freeAll st.buffers) := .same (freeAll_outward s _).1
  have hu : Steady endFields (s.freeAll st.buffers) ((s.freeAll st.buffers).freeUnits fun j => j.stream == k) :=
    (freeUnits_onRegs _ _).steady.mono unitFields_end
  exact (h.trans hu).more rfl

theorem vacate_stream (s : State) (k : Nat) (st : Stream) : (s.vacate k st).stream? k = none :=
  Tab.find?_del_self _ _

theorem blank_steady (s : State) (k : Nat) : Steady endFields s (s.blank k) :=
  ((((((((Steady.refl endFields s).set .CTX_STATE k 0 rfl).set .PP_BOUND k 0 rfl).set .TS_ENSEMBLE k 0 rfl).set .MS_ENABLE k 0
    rfl).set .SS_NET_TICKS k 0 rfl).set .SS_DRAM_MBPS k 0 rfl).set .SS_DECIMATED k 0 rfl).set .SS_SHED k 0 rfl

theorem blank_get (s : State) (k : Nat) : (s.blank k).get .CTX_STATE k = 0 ∧ (s.blank k).get .PP_BOUND k = 0 := by
  simp [State.blank, State.get_set]

theorem blank_stream? (s : State) (k j : Nat) : (s.blank k).stream? j = s.stream? j := by simp only [State.blank, stream?_set]

theorem forgetReductions_calm (s : State) (k : Nat) : Calm admitFields s (s.forgetReductions k) := by
  refine Calm.trans ?_ (stepSync_calm _)
  exact (Calm.refl _ s).more rfl rfl

/-- What stream `k` leaves: no stream, and the registers of a free context. -/
structure Freed (k : Nat) (s t : State) : Prop where
  steady : Steady endFields s t
  stream : t.stream? k = none
  ctx : t.get .CTX_STATE k = 0
  bound : t.get .PP_BOUND k = 0

/-- Work of the admission unit leaves a freed context free. -/
theorem Freed.calm {k : Nat} {s t u : State} (h : Freed k s t) (c : Calm admitFields t u) : Freed k s u :=
  ⟨h.steady.trans (c.toSteady.mono admitFields_end), c.stream_none h.stream, (c.idle k h.stream).trans h.ctx,
    (c.reg .PP_BOUND k rfl).trans h.bound⟩

theorem endStream_freed {s : State} {k : Nat} {st : Stream} (h : s.stream? k = some st) : Freed k s (s.endStream k) := by
  obtain ⟨hc, hb⟩ := blank_get (s.vacate k st) k
  rw [endStream_some h]
  have hf : Freed k s ((s.vacate k st).blank k) :=
    ⟨(vacate_steady s k st).trans (blank_steady _ k), (blank_stream? _ k k).trans (vacate_stream s k st), hc, hb⟩
  exact hf.calm (forgetReductions_calm _ k)

/-- The pool registers follow the pools (R303). -/
def poolFields : Field → Bool
  | .PGR_CLEAN_FREE | .PGR_SOOT_FREE | .PGR_SOOT_LARGEST => true
  | _ => false

theorem poolSync_onRegs (s : State) : OnRegs poolFields s s.poolSync :=
  (((OnRegs.refl poolFields s).set .PGR_CLEAN_FREE 0 _ rfl).set .PGR_SOOT_FREE 0 _ rfl).set .PGR_SOOT_LARGEST 0 _ rfl

/-- The state of the unit once stream `k` has gone, before the close's reply. -/
def State.afterClose (s : State) (k c : Nat) : State := ((s.endStream k).dropSync c).recompute.poolSync

theorem afterClose_path {s : State} {k : Nat} {st : Stream} (h : s.stream? k = some st) (c id : Nat) :
    Path id s (s.afterClose k c) ∧ (s.afterClose k c).stream? k = none ∧ (s.afterClose k c).get .CTX_STATE k = 0 ∧
      (s.afterClose k c).get .PP_BOUND k = 0 := by
  have h1 := endStream_freed h
  have h2 := dropSync_onRing (s.endStream k) c
  have h3 := recompute_calm ((s.endStream k).dropSync c)
  have h4 := poolSync_onRegs ((s.endStream k).dropSync c).recompute
  have hn : ((s.endStream k).dropSync c).stream? k = none := h1.stream
  refine ⟨?_, ?_, ?_, ?_⟩
  · exact (h1.steady.path id (by decide)).trans ((h2.path id).trans ((h3.toSteady.path id (by decide)).trans
      (h4.steady.path id (by decide))))
  · exact (h4.stream? k).trans (h3.stream_none hn)
  · exact (h4.keeps.1 .CTX_STATE k rfl).trans ((h3.idle k hn).trans ((h2.reg .CTX_STATE k rfl).trans h1.ctx))
  · exact (h4.keeps.1 .PP_BOUND k rfl).trans ((h3.reg .PP_BOUND k rfl).trans ((h2.reg .PP_BOUND k rfl).trans h1.bound))

/-- The close's record leaves a packet in flight that does not wait on a fence, and the stream. -/
theorem closeStatus_path {s : State} {k id : Nat} {st : Stream} (hs : s.stream? k = some st) (hn : s.NoWait id) :
    Path id s (s.closeStatus k st) ∧ ∃ x, (s.closeStatus k st).stream? k = some x := by
  unfold State.closeStatus
  dsimp only
  generalize State.recordWords s _ _ _ _ _ _ _ _ _ = ws
  have hp := putRecord_onRing s st.owner k (st.f.getD 0) ws
  generalize s.putRecord st.owner k (st.f.getD 0) ws = r at hp ⊢
  obtain ⟨x, hx, -⟩ := hp.stream hs
  have hq : Path id s (if r.2 = true then r.1.passSignal st.owner else r.1) ∧
      (if r.2 = true then r.1.passSignal st.owner else r.1).stream? k = some x := by
    split
    · refine ⟨(hp.path id).trans (passSignal_path ((hp.path id).noWait hn) _), ?_⟩
      rw [State.stream?, (passSignal_keeps _ _).streams]
      exact hx
    · exact ⟨hp.path id, hx⟩
  obtain ⟨hq, hxq⟩ := hq
  generalize (if r.2 = true then r.1.passSignal st.owner else r.1) = v at hq hxq ⊢
  have hf := (flushGaps_onRing v st.owner).trans (dropSync_onRing _ st.owner)
  obtain ⟨y, hy, -⟩ := hf.stream hxq
  exact ⟨hq.trans (hf.path id), y, hy⟩

/-- The unbind that waits on the close completes with it (R235). -/
def State.endUnbind (s : State) (st : Stream) : State :=
  match st.unbindPkt with
  | none => s
  | some u => s.complete u Reply.ok

theorem endUnbind_path {s : State} {id : Nat} {st : Stream} (hu : st.unbindPkt ≠ some id) (hn : s.NoWait id) :
    Path id s (s.endUnbind st) ∧ (s.endUnbind st).streams = s.streams := by
  unfold State.endUnbind
  split
  · exact ⟨.refl id s, rfl⟩
  · next u h => exact ⟨complete_path (by rintro rfl; exact hu h) hn _, (complete_frame s u _).streams⟩

theorem closeComplete_eq (s : State) (k id : Nat) (st : Stream) : s.closeComplete k id st =
    (((s.closeStatus k st).endUnbind st).afterClose k st.owner).complete id (Reply.ok st.closeDone st.closeDisc) := by
  unfold State.closeComplete State.endUnbind
  cases st.unbindPkt <;> rfl

theorem streamCloseComplete_runs {s : State} {k id : Nat} {st : Stream} (hs : s.stream? k = some st) (hcl : st.closingPkt = some id) :
    exec (.streamCloseComplete k) s = doneIf s (s.coresRun && st.frames.isEmpty && !s.halfRecord st.owner &&
      s.jobs.all fun j => j.stream != k || j.ofMirror) (s.closeComplete k id st) := by
  change execStreamCloseComplete k s = _
  simp only [execStreamCloseComplete, hs, hcl]

/-- The packet with number `id`, where numbers are different, is the one alone. -/
theorem noWait_of_nodup {s : State} {id : Nat} {p : Pkt} (hn : (s.packets.map Pkt.id).Nodup) (hp : s.pkt? id = some p)
    (ho : p.opcode ≠ 0x02) : s.NoWait id := by
  intro q hq hw
  simp only [State.pktsOf, List.mem_filter, beq_iff_eq] at hq
  obtain ⟨hq, rfl⟩ := hq
  have hqp : s.pkt? q.id = some q := find?_id_of_nodup hq hn
  rw [hp] at hqp
  obtain rfl := Option.some.inj hqp
  exact ho hw

theorem streamCloseComplete_completes {s : State} {k id : Nat} {st : Stream} {p : Pkt} (hs : s.stream? k = some st)
    (hcl : st.closingPkt = some id) (hu : st.unbindPkt ≠ some id) (hr : s.coresRun = true) (hf : st.frames = [])
    (hh : s.halfRecord st.owner = false) (hj : ∀ j ∈ s.jobs, j.stream = k → j.ofMirror = true) (hl : s.linkClosed = false)
    (hp : s.pkt? id = some p) (hst : s.isStaged id = false) (ho : p.opcode = 0x13) (hn : (s.packets.map Pkt.id).Nodup) :
    Runs (.streamCloseComplete k) s fun t =>
      Replied s t p (Reply.ok st.closeDone st.closeDisc) ∧ t.stream? k = none ∧ t.get .CTX_STATE k = 0 ∧ t.get .PP_BOUND k = 0 := by
  have hall : (s.jobs.all fun j => j.stream != k || j.ofMirror) = true := by
    refine List.all_eq_true.mpr fun j hm => ?_
    by_cases hk : j.stream = k
    · simp [hj j hm hk]
    · simp [hk]
  refine ⟨settle (s.closeComplete k id st), ?_, ?_⟩
  · rw [streamCloseComplete_runs hs hcl, hr, hf, hh, hall]
    rfl
  rw [closeComplete_eq]
  have hw := noWait_of_nodup hn hp (by rw [ho]; decide)
  obtain ⟨h1, x, hx⟩ := closeStatus_path hs hw
  generalize s.closeStatus k st = u at h1 hx ⊢
  obtain ⟨h2, hus⟩ := endUnbind_path hu (h1.noWait hw)
  have hx' : (u.endUnbind st).stream? k = some x := by rw [State.stream?, hus]; exact hx
  generalize u.endUnbind st = v at h2 hx' ⊢
  obtain ⟨h3, hnone, hctx, hpp⟩ := afterClose_path hx' st.owner id
  generalize v.afterClose k st.owner = w at h3 hnone hctx hpp ⊢
  have kc := complete_frame w id (Reply.ok st.closeDone st.closeDisc)
  have ks := settle_frame (w.complete id (Reply.ok st.closeDone st.closeDisc))
  refine ⟨RepliedAt.settle ((h1.trans (h2.trans h3)).replied _ hp hst (thermal_of_coresRun hr) hl), ?_, ?_, ?_⟩
  · rw [State.stream?, ks.streams, kc.streams]
    exact hnone
  · rw [ks.1 .CTX_STATE _ rfl, kc.1 .CTX_STATE _ rfl, hctx]
  · rw [ks.1 .PP_BOUND _ rfl, kc.1 .PP_BOUND _ rfl, hpp]

/-- Settles O9: each command's effect leaves its reply's path, and the stream is followed through the work it asks for. -/
theorem streamFlushCloseReconfigComplete : Obligations.StreamFlushCloseReconfigComplete := by
  unfold Obligations.StreamFlushCloseReconfigComplete
  refine ⟨?_, ?_, ?_⟩
  · rintro s u p st h rfl hc hs
    exact ⟨fun ho hl => streamFlush_completes h hc hs ho hl, fun ho => streamClose_completes h hc hs ho⟩
  · intro s k id st p hs hcl hu hr hf hh hj hl hp hst ho hn
    exact streamCloseComplete_completes hs hcl hu hr hf hh hj hl hp hst ho hn
  · rintro s u p st h hl ho rfl hc hs hr ha
    exact streamReconfig_completes h hl ho hc hs hr ha

end Sys2Proof.Machine
end

section
/-! The flue pass and the fence (R35, R68, R79, R82, R90, R94). -/

namespace Sys2Proof.Machine

/-! ## The budget (R79) -/

/-- Of the candidates as many leave as the budget has records, the last of them a GAP that counts the rest. -/
theorem budgetCut_keeps (k : Nat) (cs : List Cand) (hk : 1 ≤ k) :
    (budgetCut k cs).1.length + Num.b2n (budgetCut k cs).2.isSome ≤ k ∧
    (budgetCut k cs).1 = cs.take (budgetCut k cs).1.length ∧
    ((budgetCut k cs).2 = none → (budgetCut k cs).1 = cs) ∧
    ∀ n, (budgetCut k cs).2 = some n → (budgetCut k cs).1.length + n = cs.length := by
  unfold budgetCut
  split
  · next h => simp [Num.b2n, h]
  · next h =>
    have hl : (cs.take (k - 1)).length = k - 1 := by rw [List.length_take]; omega
    refine ⟨?_, by rw [hl], nofun, ?_⟩
    · simp only [hl, Option.isSome_some, Num.b2n, if_true]
      omega
    · rintro n ⟨⟩
      rw [hl]
      omega

/-! ## The writes of a pass (R82) -/

/-- The posted writes a pass has left, at most. -/
def FluePass.left (p : FluePass) : Nat := 2 * p.todo.length - Num.b2n p.headDue

theorem todo_of_left {p : FluePass} (h : p.left = 0) : p.todo = [] := by
  cases ht : p.todo with
  | nil => rfl
  | cons x t =>
    cases hd : p.headDue
    · simp [FluePass.left, ht, hd, Num.b2n] at h
    · simp [FluePass.left, ht, hd, Num.b2n] at h
      omega

/-- Stream `k` has the frames `fs`, and pass `p` is open on it. -/
def PassAt (k : Nat) (fs : List Frame) (p : FluePass) (s : State) : Prop :=
  ∃ x, s.stream? k = some x ∧ x.frames = fs ∧ x.pass = some p

section Pass

variable {k : Nat} {fs : List Frame} {p : FluePass} {s t : State}

theorem ungap_eq {x y : Stream} (h : x.ungap = y.ungap) : x.frames = y.frames ∧ x.pass = y.pass := by
  have hf := congrArg Stream.frames h
  have hp := congrArg Stream.pass h
  exact ⟨hf, hp⟩

theorem PassAt.onRing (h : PassAt k fs p s) (r : OnRing s t) : PassAt k fs p t := by
  obtain ⟨x, hx, hf, hp⟩ := h
  obtain ⟨y, hy, he⟩ := r.stream hx
  obtain ⟨h1, h2⟩ := ungap_eq he
  exact ⟨y, hy, h1.trans hf, h2.trans hp⟩

theorem PassAt.setPass (h : PassAt k fs p s) (q : FluePass) : PassAt k fs q (s.setPass k (some q)) := by
  obtain ⟨x, hx, hf, -⟩ := h
  exact ⟨{ x with pass := some q }, by simp [State.setPass, hx], hf, rfl⟩

theorem PassAt.bind (h : PassAt k fs p s) : (s.stream? k).bind Stream.pass = some p := by
  obtain ⟨x, hx, -, hp⟩ := h
  rw [hx]
  exact hp

/-- A posted write leaves the frames of its stream, and one write less. -/
theorem passWrite_pass (h : PassAt k fs p s) (hp : p.todo ≠ []) (c : Nat) :
    ∃ q, PassAt k fs q (s.passWrite k c p) ∧ q.fseq = p.fseq ∧ q.left < p.left := by
  obtain ⟨⟨own, ws⟩, t, ht⟩ := List.exists_cons_of_ne_nil hp
  have hl : 2 * t.length < p.left := by
    cases hd : p.headDue <;> simp [FluePass.left, ht, hd, Num.b2n]; omega
  have hle : ∀ q : FluePass, q.todo = t → q.headDue = false → q.left < p.left := fun q h1 h2 => by
    simpa [FluePass.left, h1, h2, Num.b2n] using hl
  unfold State.passWrite
  simp only [ht]
  split
  · refine ⟨_, h.setPass _, rfl, ?_⟩
    have h0 : ({ p with todo := [], headDue := false } : FluePass).left = 0 := rfl
    omega
  · split
    · refine ⟨{ p with todo := t, headDue := false, wrote := p.wrote || own && !s.linkClosed && !s.held }, ?_, rfl, hle _ rfl rfl⟩
      split
      · exact (h.setPass _).onRing (dropRecord_onRing _ _ _ _)
      · exact (h.setPass _).onRing (writeHead_onRing _ _ _ _)
    · next hd =>
      have hr := h.onRing (meetRing_onRing s c k p.fseq)
      split
      · refine ⟨_, (hr.onRing (writeWords_onRing _ c ws)).setPass _, rfl, ?_⟩
        simp [FluePass.left, hd, ht, Num.b2n]
      · exact ⟨{ p with todo := t }, hr.setPass _, rfl, hle _ rfl (by simpa using hd)⟩

theorem passWrites_pass (n : Nat) (h : PassAt k fs p s) (c : Nat) :
    ∃ q, PassAt k fs q (passWrites n s k c) ∧ q.fseq = p.fseq ∧ (p.left ≤ n → q.todo = []) := by
  induction n generalizing s p with
  | zero => exact ⟨p, h, rfl, fun hl => todo_of_left (Nat.le_zero.mp hl)⟩
  | succ n ih =>
    simp only [passWrites, h.bind]
    by_cases ht : p.todo = []
    · exact ⟨p, by simpa [ht] using h, rfl, fun _ => ht⟩
    · obtain ⟨q, hq, hqf, hql⟩ := passWrite_pass h ht c
      obtain ⟨r, hr, hrf, hrl⟩ := ih hq
      rw [if_neg (by simpa using ht)]
      exact ⟨r, hr, hrf.trans hqf, fun hl => hrl (by omega)⟩

/-! ## What the writes of a pass leave -/

theorem setPass_work (s : State) (k : Nat) (p : Option FluePass) : RingWork s (s.setPass k p) := (RingWork.refl s).modStream k _

theorem passWrite_work (s : State) (k c : Nat) (p : FluePass) : RingWork s (s.passWrite k c p) := by
  unfold State.passWrite
  split
  · exact .refl s
  · dsimp only
    split
    · exact setPass_work s k _
    · split
      · split
        · exact (setPass_work s k _).trans (dropRecord_onRing _ _ _ _).toRingWork
        · exact (setPass_work s k _).trans (writeHead_onRing _ _ _ _).toRingWork
      · split
        · exact ((meetRing_onRing s c k _).trans (writeWords_onRing _ _ _)).toRingWork.trans (setPass_work _ k _)
        · exact (meetRing_onRing s c k _).toRingWork.trans (setPass_work _ k _)

theorem passWrites_work (n : Nat) (s : State) (k c : Nat) : RingWork s (passWrites n s k c) := by
  induction n generalizing s with
  | zero => exact .refl s
  | succ n ih =>
    unfold passWrites
    split
    · exact .refl s
    · split
      · exact .refl s
      · exact (passWrite_work s k c _).trans (ih _)

theorem setPass_egress (s : State) (k : Nat) (p : Option FluePass) : (s.setPass k p).egress = s.egress := by
  unfold State.setPass State.modStream
  split <;> rfl

/-- A fence lets no write of a pass go out, in the middle of it either. -/
theorem passWrites_fenced (n : Nat) {s : State} (k c : Nat) (h : s.fenced = true) :
    (passWrites n s k c).egress = s.egress := by
  induction n generalizing s with
  | zero => rfl
  | succ n ih =>
    unfold passWrites
    split
    · rfl
    · next p _ =>
      split
      · rfl
      · rw [ih ((passWrite_work s k c p).fenced.trans h)]
        unfold State.passWrite
        split
        · rfl
        · rw [if_pos h]
          exact setPass_egress _ _ _

/-! ## The end of a pass (R68, R86) -/

/-- The frame of pass `p` leaves its stream, and the client is signalled where a record of it was written. -/
def State.leavePath (s : State) (k c : Nat) (p : FluePass) : State :=
  let s := s.dropJobs fun j => j.stream == k && j.fseq == p.fseq && j.kind == .flue
  let s := s.modStream k fun st => { st with
    pass := none
    frames := st.frames.filter fun g => g.fseq != p.fseq
    closeDone := if st.closingPkt.isSome then st.closeDone + 1 else st.closeDone }
  if p.wrote then s.passSignal c else s

theorem endPass_eq (s : State) (k c : Nat) (p : FluePass) :
    s.endPass k c p = (((s.leavePath k c p).flushGaps c).dropSync c).streamSync k := rfl

/-- What a pass's end does to the state less the rings. -/
theorem leavePath_keeps (s : State) (k c : Nat) (p : FluePass) : ∃ u, RingWork s u ∧ Keeps replyFields u (s.leavePath k c p) ∧
    NoRecord s (s.leavePath k c p) ∧ ∀ x, s.stream? k = some x → ∃ y, u.stream? k = some y ∧ y.pass = none ∧
      y.frames = x.frames.filter fun g => g.fseq != p.fseq := by
  unfold State.leavePath
  dsimp only
  generalize hu : State.modStream (s.dropJobs _) k _ = u
  have hw : RingWork s u := by
    subst hu
    refine RingWork.modStream ?_ k _
    exact { reg := fun _ _ _ => rfl, rest := rfl, wire := ⟨[], by simp [State.dropJobs]⟩ }
  have he : u.egress = s.egress := by
    subst hu
    unfold State.modStream
    split <;> rfl
  have hs : ∀ x, s.stream? k = some x → ∃ y, u.stream? k = some y ∧ y.pass = none ∧
      y.frames = x.frames.filter fun g => g.fseq != p.fseq := by
    subst hu
    intro x hx
    exact ⟨_, by rw [stream?_modStream_self, stream?_dropJobs, hx]; rfl, rfl, rfl⟩
  refine ⟨u, hw, ?_, ?_, hs⟩
  · split
    · exact passSignal_keeps u c
    · exact .refl _ u
  · split
    · exact NoRecord.trans (.of_egress he) (passSignal_noRecord u c)
    · exact .of_egress he

/-- What the fence rests on: the role, the lease, FAULT, a trip and a tampering (R90, R98, R111, R450). -/
theorem fenced_keeps {F : Field → Bool} {s t : State} (h : Keeps F s t) (hr : F .ROLE = false) (hl : F .LEASE_VALID = false)
    (hd : F .DS_STATE = false) : t.fenced = s.fenced := by
  simp only [State.fenced, State.fencedReg, State.role, State.isFault, State.dev, h.1 _ _ hr, h.1 _ _ hl, h.1 _ _ hd, h.thermal,
    h.tamperFence]

theorem endPass_stream {x : Stream} (hx : s.stream? k = some x) (c : Nat) (p : FluePass) :
    ∃ y, (s.endPass k c p).stream? k = some y ∧ y.pass = none ∧ y.frames = x.frames.filter fun g => g.fseq != p.fseq := by
  obtain ⟨u, -, hk, -, hs⟩ := leavePath_keeps s k c p
  obtain ⟨y, hy, hyp, hyf⟩ := hs x hx
  have hl : (s.leavePath k c p).stream? k = some y := by rw [State.stream?, hk.streams]; exact hy
  obtain ⟨z, hz, he⟩ := ((flushGaps_onRing _ c).trans (dropSync_onRing _ c)).stream hl
  obtain ⟨h1, h2⟩ := ungap_eq he
  exact ⟨z, by rw [endPass_eq, streamSync_stream?]; exact hz, h2.trans hyp, h1.trans hyf⟩

theorem endPass_active (s : State) (k c : Nat) (p : FluePass) : (s.endPass k c p).get .LAST_ACTIVE = s.get .LAST_ACTIVE := by
  obtain ⟨u, hu, hk, -, -⟩ := leavePath_keeps s k c p
  have hr := (flushGaps_onRing (s.leavePath k c p) c).trans (dropSync_onRing _ c)
  rw [endPass_eq, (streamSync_onRegs _ k).keeps.1 .LAST_ACTIVE 0 rfl, hr.reg .LAST_ACTIVE 0 rfl, hk.1 .LAST_ACTIVE 0 rfl,
    hu.reg .LAST_ACTIVE 0 rfl]

theorem endPass_fenced (c : Nat) (p : FluePass) (h : s.fenced = true) : NoRecord s (s.endPass k c p) := by
  obtain ⟨u, hu, hk, hn, -⟩ := leavePath_keeps s k c p
  have hf : (s.leavePath k c p).fenced = true := (fenced_keeps hk rfl rfl rfl).trans (hu.fenced.trans h)
  have hg : NoRecord (s.leavePath k c p) (((s.leavePath k c p).flushGaps c).dropSync c) := .of_egress (flushGaps_fenced_egress c hf)
  rw [endPass_eq]
  exact (hn.trans hg).trans (streamSync_onRegs _ k).adds.noRecord

/-! ## A pass goes on (R82, R94) -/

theorem goOnPass_fenced (c n : Nat) (h : s.fenced = true) : NoRecord s (s.goOnPass k c n) := by
  have hw : NoRecord s (passWrites n s k c) := .of_egress (passWrites_fenced n k c h)
  have hf := (passWrites_work n s k c).fenced.trans h
  unfold State.goOnPass
  generalize passWrites n s k c = u at hw hf ⊢
  dsimp only
  split
  · exact hw
  · split
    · exact hw.trans (endPass_fenced c _ hf)
    · exact hw.trans (streamSync_onRegs (u.dropSync c) k).adds.noRecord

/-- A pass that goes on ends, its frame off the path, or is still open; it ends with the writes it has left. -/
theorem goOnPass_stream (h : PassAt k fs p s) (c n : Nat) : ∃ x, (s.goOnPass k c n).stream? k = some x ∧
    ((x.pass = none ∧ x.frames = fs.filter fun g => g.fseq != p.fseq) ∨
      (x.frames = fs ∧ ∃ q, x.pass = some q ∧ q.fseq = p.fseq)) ∧ (p.left ≤ n → x.pass = none) := by
  obtain ⟨q, hq, hqf, hql⟩ := passWrites_pass n h c
  unfold State.goOnPass
  generalize passWrites n s k c = u at hq ⊢
  obtain ⟨x, hx, hxf, hxp⟩ := id hq
  simp only [hq.bind]
  by_cases ht : q.todo = []
  · rw [if_pos (by simpa using ht)]
    obtain ⟨y, hy, hyp, hyf⟩ := endPass_stream hx c q
    exact ⟨y, hy, .inl ⟨hyp, by rw [hyf, hxf, hqf]⟩, fun _ => hyp⟩
  · rw [if_neg (by simpa using ht)]
    obtain ⟨y, hy, hyf, hyp⟩ := hq.onRing (dropSync_onRing u c)
    exact ⟨y, by rw [streamSync_stream?]; exact hy, .inr ⟨hyf, q, hyp, hqf⟩, fun hl => absurd (hql hl) ht⟩

theorem goOnPass_active (s : State) (k c n : Nat) : (s.goOnPass k c n).get .LAST_ACTIVE = s.get .LAST_ACTIVE := by
  rw [← (passWrites_work n s k c).reg .LAST_ACTIVE 0 rfl]
  unfold State.goOnPass
  generalize passWrites n s k c = u
  dsimp only
  split
  · rfl
  · split
    · exact endPass_active u k c _
    · rw [(streamSync_onRegs _ k).keeps.1 .LAST_ACTIVE 0 rfl, (dropSync_onRing u c).reg .LAST_ACTIVE 0 rfl]

/-! ## A pass begins (R68, R71, R79) -/

/-- The registers that the beginning of a pass counts in. -/
def beginFields : Field → Bool
  | .FLU_BUDGET_GAPS | .FLU_SUPPRESSED | .FLU_RING_DROPS | .LAST_ACTIVE => true
  | _ => false

/-- The counts of a pass that begins: what its budget suppressed, and what is lost to the errors of its lines (R79, R92). -/
def State.countBegun (s : State) (k : Nat) (gap : Option Nat) (lost : Nat) : State :=
  let s := match gap with
    | none => s
    | some n => (s.inc .FLU_BUDGET_GAPS k).inc .FLU_SUPPRESSED k n
  s.inc .FLU_RING_DROPS k lost

theorem countBegun_onRegs (s : State) (k : Nat) (gap : Option Nat) (lost : Nat) :
    OnRegs (fun f => beginFields f && f != .LAST_ACTIVE) s (s.countBegun k gap lost) := by
  have h := OnRegs.refl (fun f => beginFields f && f != .LAST_ACTIVE) s
  cases gap with
  | none => exact h.set .FLU_RING_DROPS k _ rfl
  | some n => exact ((h.set .FLU_BUDGET_GAPS k _ rfl).set .FLU_SUPPRESSED k _ rfl).set .FLU_RING_DROPS k _ rfl

/-- Whoever begins a pass unfenced has been ACTIVE last (R90). -/
def State.markActive (s : State) : State := if s.fenced then s else s.set .LAST_ACTIVE 0 1

theorem markActive_keeps (s : State) : Keeps beginFields s s.markActive := by
  unfold State.markActive
  split
  · exact .refl _ s
  · exact (Keeps.refl _ s).set .LAST_ACTIVE 0 1 rfl

theorem markActive_egress (s : State) : s.markActive.egress = s.egress := by
  unfold State.markActive
  split <;> rfl

theorem countBegun_egress (s : State) (k : Nat) (gap : Option Nat) (lost : Nat) : (s.countBegun k gap lost).egress = s.egress := by
  cases gap <;> rfl

/-- A pass that begins counts, and opens on its stream with its records to do. -/
theorem beginPass_eq (s : State) (k : Nat) (st : Stream) (f : Frame) (bad : List Nat) :
    ∃ gap lost x, s.beginPass k st f bad = (s.markActive.countBegun k gap lost).setStream k x ∧ x.frames = st.frames ∧
      ∃ p, x.pass = some p ∧ p.fseq = f.fseq := ⟨_, _, _, rfl, rfl, _, rfl, rfl⟩

theorem beginPass_begins (s : State) (k : Nat) (st : Stream) (f : Frame) (bad : List Nat) :
    (∃ p, PassAt k st.frames p (s.beginPass k st f bad) ∧ p.fseq = f.fseq) ∧
    (s.beginPass k st f bad).egress = s.egress ∧ (s.beginPass k st f bad).fenced = s.fenced ∧
    (s.fenced = false → (s.beginPass k st f bad).get .LAST_ACTIVE = 1) := by
  obtain ⟨gap, lost, x, he, hf, p, hp, hq⟩ := beginPass_eq s k st f bad
  rw [he]
  have hk := (countBegun_onRegs s.markActive k gap lost).keeps
  refine ⟨⟨p, ⟨x, stream?_setStream_self _ _ _, hf, hp⟩, hq⟩, ?_, ?_, fun hn => ?_⟩
  · exact (countBegun_egress _ k gap lost).trans (markActive_egress s)
  · exact (fenced_keeps hk rfl rfl rfl).trans (fenced_keeps (markActive_keeps s) rfl rfl rfl)
  · change (s.markActive.countBegun k gap lost).get _ _ = _
    rw [hk.1 .LAST_ACTIVE 0 rfl, State.markActive, hn, if_neg (by decide), State.get_set_self]

end Pass

/-! ## FLUE_PASS (R68, R82, R94) -/

/-- The state a flue pass goes on from: its pass is open, or begins. -/
def State.opened (s : State) (k : Nat) (st : Stream) (f : Frame) (bad : List Nat) : State :=
  if st.pass.isSome then s else s.beginPass k st f bad

section FluePass

variable {s : State} {k : Nat} {st : Stream} {f : Frame} {rest : List Frame}

theorem opened_egress (s : State) (k : Nat) (st : Stream) (f : Frame) (bad : List Nat) :
    (s.opened k st f bad).egress = s.egress ∧ (s.opened k st f bad).fenced = s.fenced := by
  unfold State.opened
  split
  · exact ⟨rfl, rfl⟩
  · obtain ⟨-, he, hf, -⟩ := beginPass_begins s k st f bad
    exact ⟨he, hf⟩

/-- What FLUE_PASS answers for a stream with a frame on its path. -/
theorem fluePass_exec (hs : s.stream? k = some st) (hfs : st.frames = f :: rest) (n : Nat) (bad : List Nat) :
    ∃ b, exec (.fluePass k n bad) s = doneIf s b ((s.opened k st f bad).goOnPass k st.owner n) := by
  change ∃ b, execFluePass k n bad s = _
  simp only [execFluePass, hs, hfs, State.opened]
  split
  · exact ⟨_, rfl⟩
  · exact ⟨_, rfl⟩

/-- FLUE_PASS goes on where the engines run, no record of another stream is half written, and the pass is due or open. -/
theorem fluePass_runs (he : s.enginesRun = true) (hs : s.stream? k = some st) (hfs : st.frames = f :: rest)
    (hh : s.halfRecord st.owner = false ∨ st.pass.any FluePass.headDue = true)
    (hd : s.passDue k st f = true ∨ ∃ p, st.pass = some p ∧ p.fseq = f.fseq) (n : Nat) (bad : List Nat) :
    exec (.fluePass k n bad) s = .next (settle ((s.opened k st f bad).goOnPass k st.owner n)) := by
  change execFluePass k n bad s = _
  have hm : (st.pass.any FluePass.headDue || !s.halfRecord st.owner) = true := by
    rcases hh with hh | hh <;> simp [hh]
  simp only [execFluePass, hs, hfs, State.opened, he, hm, Bool.and_self, Bool.true_and]
  split
  · rfl
  · next hp =>
    rcases hd with hd | ⟨p, hp', -⟩
    · rw [hd]; rfl
    · simp [hp'] at hp

theorem opened_pass (hs : s.stream? k = some st) (hd : s.passDue k st f = true ∨ ∃ p, st.pass = some p ∧ p.fseq = f.fseq)
    (bad : List Nat) : ∃ p, PassAt k st.frames p (s.opened k st f bad) ∧ p.fseq = f.fseq := by
  unfold State.opened
  split
  · next hp =>
    rcases hd with hd | ⟨p, hp', hq⟩
    · simp [State.passDue, Option.isNone_iff_eq_none] at hd
      simp [hd] at hp
    · exact ⟨p, ⟨st, hs, rfl, hp'⟩, hq⟩
  · exact (beginPass_begins s k st f bad).1

theorem settle_stream? (s : State) (k : Nat) : (settle s).stream? k = s.stream? k := by
  rw [State.stream?, (settle_frame s).streams, State.stream?]

theorem fluePass_completes (he : s.enginesRun = true) (hs : s.stream? k = some st) (hfs : st.frames = f :: rest)
    (hh : s.halfRecord st.owner = false ∨ st.pass.any FluePass.headDue = true)
    (hd : s.passDue k st f = true ∨ ∃ p, st.pass = some p ∧ p.fseq = f.fseq) :
    (∀ n bad, Runs (.fluePass k n bad) s fun t =>
      (s.fenced = true → NoRecord s t) ∧ (s.fenced = false → st.pass = none → t.get .LAST_ACTIVE = 1) ∧
      ∃ x, t.stream? k = some x ∧ ((x.pass = none ∧ x.frames = st.frames.filter (fun g => g.fseq != f.fseq)) ∨
        (x.frames = st.frames ∧ ∃ p, x.pass = some p ∧ p.fseq = f.fseq))) ∧
    ∀ bad, ∃ m, ∀ n, m ≤ n → Runs (.fluePass k n bad) s fun t => ∃ x, t.stream? k = some x ∧ x.pass = none := by
  refine ⟨fun n bad => ⟨_, fluePass_runs he hs hfs hh hd n bad, fun hf => ?_, fun hf hp => ?_, ?_⟩, fun bad => ?_⟩
  · obtain ⟨h1, h2⟩ := opened_egress s k st f bad
    exact (NoRecord.of_egress h1).trans ((goOnPass_fenced _ n (h2.trans hf)).trans (settle_addsMessages _).noRecord)
  · rw [settle_get _ _ _ rfl, goOnPass_active, State.opened, hp, if_neg (by simp)]
    exact (beginPass_begins s k st f bad).2.2.2 hf
  · obtain ⟨p, hp, hq⟩ := opened_pass hs hd bad
    obtain ⟨x, hx, hxs, -⟩ := goOnPass_stream hp st.owner n
    exact ⟨x, (settle_stream? _ k).trans hx, by rwa [← hq]⟩
  · obtain ⟨p, hp, -⟩ := opened_pass hs hd bad
    refine ⟨p.left, fun n hn => ⟨_, fluePass_runs he hs hfs hh hd n bad, ?_⟩⟩
    obtain ⟨x, hx, -, hxn⟩ := goOnPass_stream hp st.owner n
    exact ⟨x, (settle_stream? _ k).trans hx, hxn hn⟩

end FluePass

/-! ## Fenced flues (R35, R90, R94) -/

/-- A command that is done or leaves the state puts no record on the wire where its effect puts none. -/
theorem noRecord_doneIf {s t u : State} {b : Bool} (h : NoRecord s u) (ht : doneIf s b u = .next t) : NoRecord s t := by
  rw [doneIf_next] at ht
  subst ht
  split
  · exact h.trans (settle_addsMessages u).noRecord
  · exact .refl s

theorem noRecord_stays {s t : State} {c : Instr} (hc : exec c s = .next s) (ht : exec c s = .next t) : NoRecord s t := by
  cases hc.symm.trans ht
  exact .refl s

theorem fluePass_fenced {s t : State} (h : s.fenced = true) {k n : Nat} {bad : List Nat}
    (ht : exec (.fluePass k n bad) s = .next t) : NoRecord s t := by
  have hstay : exec (.fluePass k n bad) s = .next s → NoRecord s t := fun he => noRecord_stays he ht
  cases hs : s.stream? k with
  | none => exact hstay (by change execFluePass k n bad s = _; simp only [execFluePass, hs])
  | some st =>
    cases hfs : st.frames with
    | nil => exact hstay (by change execFluePass k n bad s = _; simp only [execFluePass, hs, hfs])
    | cons f rest =>
      obtain ⟨b, hb⟩ := fluePass_exec hs hfs n bad
      obtain ⟨h1, h2⟩ := opened_egress s k st f bad
      exact noRecord_doneIf ((NoRecord.of_egress h1).trans (goOnPass_fenced _ n (h2.trans h))) (hb.symm.trans ht)

theorem closeStatus_fenced {s : State} (h : s.fenced = true) (k : Nat) (st : Stream) : NoRecord s (s.closeStatus k st) := by
  unfold State.closeStatus
  dsimp only
  rw [putRecord_fenced _ _ _ _ h, if_neg Bool.false_ne_true]
  exact .of_egress (flushGaps_fenced_egress _ h)

theorem endStream_noRecord (s : State) (k : Nat) : NoRecord s (s.endStream k) := by
  cases hs : s.stream? k with
  | none => simp only [State.endStream, hs]; exact .refl s
  | some st => exact (endStream_freed hs).steady.wire

theorem closeComplete_fenced {s : State} (h : s.fenced = true) (k id : Nat) (st : Stream) : NoRecord s (s.closeComplete k id st) := by
  have h1 := closeStatus_fenced h k st
  have h2 : NoRecord (s.closeStatus k st) ((s.closeStatus k st).endUnbind st) := by
    unfold State.endUnbind
    split
    · exact .refl _
    · exact complete_noRecord _ _ _
  rw [closeComplete_eq]
  generalize (s.closeStatus k st).endUnbind st = u at h2 ⊢
  have h3 : NoRecord u (u.afterClose k st.owner) := by
    have hd : NoRecord u ((u.endStream k).dropSync st.owner) := (endStream_noRecord u k).trans (.of_egress rfl)
    exact (hd.trans (recompute_calm _).wire).trans (poolSync_onRegs _).adds.noRecord
  exact (h1.trans (h2.trans h3)).trans (complete_noRecord _ _ _)

theorem streamCloseComplete_fenced {s t : State} (h : s.fenced = true) {k : Nat}
    (ht : exec (.streamCloseComplete k) s = .next t) : NoRecord s t := by
  have hstay : exec (.streamCloseComplete k) s = .next s → NoRecord s t := fun he => noRecord_stays he ht
  cases hs : s.stream? k with
  | none => exact hstay (by change execStreamCloseComplete k s = _; simp only [execStreamCloseComplete, hs])
  | some st =>
    cases hcl : st.closingPkt with
    | none => exact hstay (by change execStreamCloseComplete k s = _; simp only [execStreamCloseComplete, hs, hcl])
    | some id => exact noRecord_doneIf (closeComplete_fenced h k id st) ((streamCloseComplete_runs hs hcl).symm.trans ht)

/-- A write to META_TAIL frees slots, which no pending GAP takes while the flues are fenced (R84, R90). -/
theorem metaTail_fenced {s : State} (h : s.fenced = true) (c v : Nat) : NoRecord s (s.metaTail c v) := by
  unfold State.metaTail
  dsimp only
  split
  · exact .of_egress (flushGaps_fenced_egress c ((fenced_set_metaTail s c _).trans h))
  · exact .refl s

theorem metaTailWrite_fenced {s t : State} (h : s.fenced = true) {c v : Nat} (ht : exec (.metaTailWrite c v) s = .next t) :
    NoRecord s t := by
  change clientReg 0x94 c v s = _ at ht
  unfold clientReg at ht
  split at ht
  · cases ht
  · next hc =>
    refine noRecord_doneIf ?_ ht
    split
    · unfold State.write32
      dsimp only
      split
      · rw [regWrite_client s (by omega) (by decide)]
        exact metaTail_fenced h c _
      · exact .refl s
    · exact .of_egress rfl

/-- Settles O55: a pass is followed from write to write by what it has left, and a fenced one writes nothing. -/
theorem fluePassAndFenceComplete : Obligations.FluePassAndFenceComplete := by
  unfold Obligations.FluePassAndFenceComplete
  refine ⟨⟨fun s k st f rest he hs hfs hh hd => fluePass_completes he hs hfs hh hd, budgetCut_keeps⟩, fun s t h => ⟨?_, ?_, ?_⟩⟩
  · exact fun k n bad ht => fluePass_fenced h ht
  · exact fun k ht => streamCloseComplete_fenced h ht
  · exact fun c v ht => metaTailWrite_fenced h ht

end Sys2Proof.Machine
end

section
/-! The frame that an engine has in hand (R218 to R228, R235, R240). -/

namespace Sys2Proof.Machine

/-! ## The verdict (R224 to R227, R343) -/

section Verdict

variable {st : Stream} {b : Bool} {out : DecodeOutcome}

/-- An access unit whose samples are not decoded is not delivered, and what is shown of it in HOLD is no error. -/
theorem verdict_not_taken (h : st.takes out.au = false) : (verdict st b out).decoded = false ∧ (verdict st b out).deliver = false ∧
    ∀ c, (verdict st b out).shown = some c → (verdict st b out).errs = [] := by
  unfold verdict
  simp only [h, Bool.false_eq_true, if_false]
  split
  · exact ⟨rfl, rfl, fun _ _ => rfl⟩
  · split <;> exact ⟨rfl, rfl, nofun⟩

theorem verdict_taken (h : st.takes out.au = true) : (verdict st b out).decoded = true ∧ (verdict st b out).hold = false ∧
    (verdict st b out).shown = none := by
  unfold verdict
  simp only [h, if_true]
  exact ⟨rfl, rfl, rfl⟩

theorem verdict_decoded : (verdict st b out).decoded = st.takes out.au := by
  cases h : st.takes out.au
  · exact (verdict_not_taken h).1
  · exact (verdict_taken h).1

/-- The facts of an access unit that is decoded are shown. -/
theorem shows_of_takes {au : AuFacts} (h : st.takes au = true) : st.shows au = true := by
  simp only [Stream.takes, Stream.shows, Bool.and_eq_true, Bool.or_eq_true, Bool.not_eq_true'] at *
  obtain ⟨⟨hp, hr⟩, -⟩ := h
  rcases hr with hr | hr
  · exact .inr ⟨hr, hp⟩
  · exact .inl hr.1

theorem poisoned_taken {x y : Bool} (h : ((verdict st b out).poisoned x y).deliver = true) : st.takes out.au = true := by
  by_contra hn
  obtain ⟨-, hd, -⟩ := verdict_not_taken (b := b) (Bool.eq_false_iff.mpr hn)
  simp [Verdict.poisoned, hd] at h

theorem poisoned_shown {x y : Bool} {c : Nat} (h : ((verdict st b out).poisoned x y).shown = some c) :
    ((verdict st b out).poisoned x y).errs = [] := by
  have hs : (verdict st b out).shown = some c := h
  have he : (verdict st b out).errs = [] := by
    cases ht : st.takes out.au
    · exact (verdict_not_taken ht).2.2 c hs
    · rw [(verdict_taken ht).2.2] at hs
      cases hs
  simp [Verdict.poisoned, he]

end Verdict

/-! ## Work that keeps the stream in hand -/

/-- What the end of a decode reads of a frame. -/
def Frame.core (f : Frame) : Nat × Bool × Nat × Nat := (f.fseq, f.isDrop, f.outW, f.outH)

/-- What the end of a decode reads of a stream. -/
def Stream.core (st : Stream) : Bool × Option Pipe × Bool × Option Header × List (Nat × Bool × Nat × Nat) :=
  (st.hold, st.pipe, st.decimated, st.lastHdr, st.frames.map Frame.core)

/-- Work beside the frame in hand: registers of `F` change, and stream `k` not in what the end of a decode reads. -/
structure InHand (F : Field → Bool) (k : Nat) (s t : State) : Prop extends Steady F s t where
  core : (t.stream? k).map Stream.core = (s.stream? k).map Stream.core

section InHand

variable {F G : Field → Bool} {k : Nat} {s t u : State}

theorem InHand.of_steady (h : Steady F s t) (hs : t.streams = s.streams) : InHand F k s t :=
  ⟨h, by rw [State.stream?, hs, State.stream?]⟩

theorem InHand.refl (F : Field → Bool) (k : Nat) (s : State) : InHand F k s s := ⟨.refl F s, rfl⟩

theorem InHand.trans (h : InHand F k s t) (c : InHand F k t u) : InHand F k s u :=
  ⟨h.toSteady.trans c.toSteady, c.core.trans h.core⟩

theorem InHand.mono (h : InHand F k s t) (hg : ∀ f, F f = true → G f = true) : InHand G k s t :=
  ⟨h.toSteady.mono hg, h.core⟩

theorem InHand.set (h : InHand F k s t) (f : Field) (i v : Nat) (hf : F f = true) : InHand F k s (t.set f i v) :=
  ⟨h.toSteady.set f i v hf, h.core⟩

theorem InHand.modStream (h : InHand F k s t) (g : Stream → Stream) (hg : ∀ st, (g st).core = st.core) :
    InHand F k s (t.modStream k g) := by
  refine h.trans ⟨modStream_steady F t k g, ?_⟩
  rw [stream?_modStream_self]
  cases t.stream? k with
  | none => rfl
  | some st => exact congrArg some (hg st)

theorem modFrame_core (st : Stream) (q : Nat) (g : Frame → Frame) (hg : ∀ f, (g f).core = f.core) :
    (st.modFrame q g).core = st.core := by
  have hm : (st.modFrame q g).frames.map Frame.core = st.frames.map Frame.core := by
    simp only [Stream.modFrame, List.map_map]
    refine List.map_congr_left fun f _ => ?_
    simp only [Function.comp_apply]
    split
    · exact hg f
    · rfl
  simp only [Stream.core, hm]
  rfl

theorem InHand.modFrame (h : InHand F k s t) (q : Nat) (g : Frame → Frame) (hg : ∀ f, (g f).core = f.core) :
    InHand F k s (t.modFrame k q g) := by
  unfold State.modFrame
  refine h.modStream _ fun st => ?_
  exact modFrame_core st q g hg

theorem InHand.foldl {α : Type} (h : InHand F k s t) (g : State → α → State) (hg : ∀ s a, InHand F k s (g s a)) (l : List α) :
    InHand F k s (l.foldl g t) := by
  induction l generalizing t with
  | nil => exact h
  | cons a l ih => exact ih (h.trans (hg t a))

/-- A stream in hand is found again. -/
theorem InHand.stream (h : InHand F k s t) {st : Stream} (hs : s.stream? k = some st) :
    ∃ x, t.stream? k = some x ∧ x.core = st.core :=
  Option.map_eq_some_iff.mp (h.core.trans (by rw [hs]; rfl))

end InHand

/-! ## The end of a decode, step by step -/

/-- The registers of poisoned granules (R342). -/
def poisonFields (f : Field) : Bool := f == .CH_POISONED

/-- The registers of an engine that lets its context go (R218). -/
def releaseFields (f : Field) : Bool := f == .DEC_BUSY || f == .CTX_DECODING

theorem poisonSync_onRegs (s : State) : OnRegs poisonFields s s.poisonSync :=
  (OnRegs.refl _ s).foldl _ (fun u c => (OnRegs.refl _ u).set .CH_POISONED c _ rfl) _

theorem rewritten_inHand (s : State) (k : Nat) (b : Nat × Nat) : InHand poisonFields k s (s.rewritten b) := by
  unfold State.rewritten
  dsimp only
  split
  · refine InHand.trans ?_ (.of_steady (poisonSync_onRegs _).steady (poisonSync_onRegs _).streams)
    exact .of_steady (.same rfl) rfl
  · exact .refl _ k s

theorem endDecode_inHand (s : State) (k e : Nat) (f : Frame) : InHand releaseFields k s (s.endDecode k e f) := by
  have h : InHand releaseFields k s (s.releaseEngine k e) := ((InHand.refl _ k s).set .DEC_BUSY e 0 rfl).set .CTX_DECODING k 0 rfl
  have hd : InHand releaseFields k s ((s.releaseEngine k e).dropJobs fun j => j.unit == some (.dec e)) :=
    h.trans (.of_steady (.same rfl) rfl)
  unfold State.endDecode
  refine hd.modFrame f.fseq _ ?_
  exact fun _ => rfl

theorem endDecode_get (s : State) (k e : Nat) (f : Frame) :
    (s.endDecode k e f).get .DEC_BUSY e = 0 ∧ (s.endDecode k e f).get .CTX_DECODING k = 0 := by
  have h : ∀ g i, (s.endDecode k e f).get g i = (s.releaseEngine k e).get g i := fun g i => modStream_get _ _ _ _ _
  rw [h, h, State.releaseEngine]
  simp [State.get_set]

/-! ### The facts of the access unit (R223, R225, R231) -/

/-- The registers that show header facts. -/
def noteFields : Field → Bool
  | .CTX_WIDTH | .CTX_HEIGHT | .CTX_PROFILE | .CTX_LEVEL | .CTX_CHROMA | .CTX_BIT_DEPTH | .CTX_OUT_WIDTH | .CTX_OUT_HEIGHT => true
  | _ => false

/-- The facts of header `h`, as registers. -/
def State.factRegs (s : State) (k : Nat) (h : HdrFacts) : State :=
  let s := ((s.set .CTX_WIDTH k h.width).set .CTX_HEIGHT k h.height).set .CTX_PROFILE k h.profile
  let s := ((s.set .CTX_LEVEL k h.level).set .CTX_CHROMA k h.chroma).set .CTX_BIT_DEPTH k h.bitDepth
  (s.set .CTX_OUT_WIDTH k h.outW).set .CTX_OUT_HEIGHT k h.outH

theorem showFacts_eq (s : State) (k : Nat) (h : Header) :
    s.showFacts k h = (s.factRegs k h.facts).modStream k fun st => { st with lastHdr := some h } := rfl

theorem factRegs_steady (s : State) (k : Nat) (h : HdrFacts) : Steady noteFields s (s.factRegs k h) :=
  ((((((((Steady.refl noteFields s).set .CTX_WIDTH k _ rfl).set .CTX_HEIGHT k _ rfl).set .CTX_PROFILE k _ rfl).set .CTX_LEVEL k _
    rfl).set .CTX_CHROMA k _ rfl).set .CTX_BIT_DEPTH k _ rfl).set .CTX_OUT_WIDTH k _ rfl).set .CTX_OUT_HEIGHT k _ rfl

theorem factRegs_get (s : State) (k : Nat) (h : HdrFacts) :
    (s.factRegs k h).get .CTX_WIDTH k = h.width ∧ (s.factRegs k h).get .CTX_HEIGHT k = h.height := by
  simp [State.factRegs, State.get_set]

theorem factRegs_stream? (s : State) (k j : Nat) (h : HdrFacts) : (s.factRegs k h).stream? j = s.stream? j := by
  simp only [State.factRegs, stream?_set]

/-- The header registers after an access unit, and the headers the stream remembers. -/
def State.showAu (s : State) (k : Nat) (st : Stream) (au : AuFacts) : State :=
  match au.header with
  | none => s
  | some h => if st.shows au then s.showFacts k h else s

/-- The frame in hand carries the facts of the stream's last headers. -/
def State.markFacts (s : State) (k : Nat) (f : Frame) : State :=
  match (s.stream? k).bind Stream.lastFacts with
  | none => s
  | some h => s.modFrame k f.fseq fun g => { g with hdr5 := factWord5 h, hdr6 := factWord6 h, outW := h.outW, outH := h.outH }

theorem noteFacts_eq (s : State) (k : Nat) (st : Stream) (f : Frame) (au : AuFacts) :
    s.noteFacts k st f au = (s.showAu k st au).markFacts k f := rfl

theorem showAu_steady (s : State) (k : Nat) (st : Stream) (au : AuFacts) : Steady noteFields s (s.showAu k st au) := by
  unfold State.showAu
  split
  · exact .refl _ s
  · split
    · rw [showFacts_eq]
      exact (factRegs_steady s k _).trans (modStream_steady _ _ k _)
    · exact .refl _ s

theorem markFacts_steady (F : Field → Bool) (s : State) (k : Nat) (f : Frame) : Steady F s (s.markFacts k f) := by
  unfold State.markFacts
  split
  · exact .refl _ s
  · exact modStream_steady _ s k _

theorem noteFacts_steady (s : State) (k : Nat) (st : Stream) (f : Frame) (au : AuFacts) :
    Steady noteFields s (s.noteFacts k st f au) := (showAu_steady s k st au).trans (markFacts_steady _ _ k f)

theorem noteFacts_get {s : State} {k : Nat} {st : Stream} {f : Frame} {au : AuFacts} {h : Header} (ha : au.header = some h)
    (hs : st.shows au = true) : (s.noteFacts k st f au).get .CTX_WIDTH k = h.facts.width ∧
      (s.noteFacts k st f au).get .CTX_HEIGHT k = h.facts.height := by
  have hg : ∀ g, (s.noteFacts k st f au).get g k = (s.factRegs k h.facts).get g k := by
    intro g
    rw [noteFacts_eq, (markFacts_steady (fun _ => false) _ k f).reg g k rfl]
    simp only [State.showAu, ha, hs, if_true, showFacts_eq, modStream_get]
  rw [hg, hg]
  exact factRegs_get s k h.facts

/-- What is known of the stream in hand when the engine is done with frame `f`: its HOLD, its pipeline, its frames by number, and the
output size of the frame's active headers. -/
structure Hand (k : Nat) (st : Stream) (f : Frame) (hdr : Option Header) (hold : Bool) (x : Stream) : Prop where
  hold : x.hold = hold
  pipe : x.pipe = st.pipe
  decimated : x.decimated = st.decimated
  frames : x.frames.map (fun g => (g.fseq, g.isDrop)) = st.frames.map fun g => (g.fseq, g.isDrop)
  sized : ∀ h, hdr = some h → ∀ g ∈ x.frames, g.fseq = f.fseq → g.outW = h.facts.outW ∧ g.outH = h.facts.outH

section Hand

variable {k : Nat} {st : Stream} {f : Frame} {hdr : Option Header} {hold : Bool} {x y : Stream}

theorem keys_of_core {x y : Stream} (h : y.frames.map Frame.core = x.frames.map Frame.core) :
    y.frames.map (fun g => (g.fseq, g.isDrop)) = x.frames.map fun g => (g.fseq, g.isDrop) := by
  have := congrArg (List.map fun c : Nat × Bool × Nat × Nat => (c.1, c.2.1)) h
  rw [List.map_map, List.map_map] at this
  exact this

theorem Hand.of_core (h : Hand k st f hdr hold x) (hc : y.core = x.core) : Hand k st f hdr hold y := by
  simp only [Stream.core, Prod.mk.injEq] at hc
  obtain ⟨hh, hp, hd, -, hf⟩ := hc
  refine ⟨hh.trans h.hold, hp.trans h.pipe, hd.trans h.decimated, (keys_of_core hf).trans h.frames, fun v hv g hg hq => ?_⟩
  have hm : g.core ∈ x.frames.map Frame.core := hf ▸ List.mem_map_of_mem hg
  obtain ⟨g', hg', he⟩ := List.mem_map.mp hm
  simp only [Frame.core, Prod.mk.injEq] at he
  obtain ⟨e1, -, e3, e4⟩ := he
  obtain ⟨hw, hh⟩ := h.sized v hv g' hg' (e1.trans hq)
  exact ⟨e3.symm.trans hw, e4.symm.trans hh⟩

/-- A frame of the stream is found under its number. -/
theorem Hand.frame? (h : Hand k st f hdr hold x) (q : Nat) :
    (x.frame? q).map (fun g => (g.fseq, g.isDrop)) = (st.frame? q).map fun g => (g.fseq, g.isDrop) := by
  have hl : ∀ l : List Frame, (l.find? fun g => g.fseq == q).map (fun g => (g.fseq, g.isDrop)) =
      (l.map fun g => (g.fseq, g.isDrop)).find? fun c => c.1 == q := by
    intro l
    rw [List.find?_map]
    rfl
  rw [Stream.frame?, Stream.frame?, hl, hl, h.frames]

end Hand

/-- What noting the facts of frame `f` leaves of a stream in hand. -/
theorem noteFacts_hand {s : State} {k : Nat} {st x : Stream} {f : Frame} {au : AuFacts} (hx : s.stream? k = some x)
    (hc : x.core = st.core) : ∃ y, (s.noteFacts k (st.asTaken f) f au).stream? k = some y ∧
      Hand k st f (if (st.asTaken f).shows au then (st.asTaken f).active au else none) st.hold y := by
  simp only [Stream.core, Prod.mk.injEq] at hc
  obtain ⟨hh, hp, hd, hl, hf⟩ := hc
  have hkeys := keys_of_core hf
  -- the stream after its headers are shown
  obtain ⟨z, hz, z1, z2, z3, z4, z5⟩ : ∃ z, (s.showAu k (st.asTaken f) au).stream? k = some z ∧ z.hold = st.hold ∧ z.pipe = st.pipe ∧
      z.decimated = st.decimated ∧ z.frames = x.frames ∧
      ((st.asTaken f).shows au = true → z.lastHdr = (st.asTaken f).active au) := by
    unfold State.showAu Stream.active
    cases ha : au.header with
    | none => exact ⟨x, hx, hh, hp, hd, rfl, fun _ => hl⟩
    | some h =>
      by_cases hs : (st.asTaken f).shows au = true
      · simp only [hs, if_true, showFacts_eq, stream?_modStream_self, factRegs_stream?, hx, Option.map_some]
        exact ⟨_, rfl, hh, hp, hd, rfl, fun _ => rfl⟩
      · simp only [hs]
        exact ⟨x, hx, hh, hp, hd, rfl, fun h => absurd h (by decide)⟩
  rw [noteFacts_eq]
  unfold State.markFacts
  generalize s.showAu k (st.asTaken f) au = u at hz ⊢
  have hsize : ∀ h, (if (st.asTaken f).shows au then (st.asTaken f).active au else none) = some h → z.lastFacts = some h.facts := by
    intro h hv
    split at hv
    · next hs => rw [Stream.lastFacts, z5 hs, hv]; rfl
    · cases hv
  simp only [hz, Option.bind_some]
  cases hlf : z.lastFacts with
  | none =>
    refine ⟨z, hz, z1, z2, z3, by rw [z4]; exact hkeys, fun h hv => ?_⟩
    rw [hsize h hv] at hlf
    cases hlf
  | some v =>
    simp only [State.modFrame, stream?_modStream_self, hz, Option.map_some, Stream.modFrame]
    refine ⟨_, rfl, z1, z2, z3, ?_, fun h hv g hg hq => ?_⟩
    · rw [← hkeys, ← z4, List.map_map]
      refine List.map_congr_left fun g _ => ?_
      simp only [Function.comp_apply]
      split <;> rfl
    · rw [hsize h hv] at hlf
      cases hlf
      obtain ⟨g', -, rfl⟩ := List.mem_map.mp hg
      by_cases hq' : g'.fseq = f.fseq
      · simp [hq']
      · simp [hq'] at hq

/-! ### Headers accepted (R224, R233, R235, R240) -/

/-- The registers that accepted headers write. -/
def acceptFields : Field → Bool
  | .CTX_HDR_CHANGES | .PP_GEOMETRY | .PP_X0P0 | .PP_Y0P0 | .PP_WP0 | .PP_HP0 | .PP_X0P1 | .PP_Y0P1 | .PP_WP1 | .PP_HP1 | .PP_X0P2
  | .PP_Y0P2 | .PP_WP2 | .PP_HP2 | .PP_X0P3 | .PP_Y0P3 | .PP_WP3 | .PP_HP3 => true
  | _ => false

/-- The registers of the crop geometry. -/
def geomFields (f : Field) : Bool := acceptFields f && f != .CTX_HDR_CHANGES

theorem showGeometry_onRegs (s : State) (k ow oh : Nat) : OnRegs geomFields s (s.showGeometry k ow oh) := by
  unfold State.showGeometry
  split
  · exact .refl _ s
  · dsimp only
    iterate 17 refine OnRegs.set ?_ _ _ _ rfl
    exact .refl _ s

/-- The stream forgets its HOLD, and its pictures where its headers change. -/
def State.forget (s : State) (k : Nat) (f : Frame) (changed : Bool) : State := s.modStream k fun t => { t with
  hdrSeen := true, hold := t.hold && !f.inHold, refs := if changed then [] else t.refs, lastPoc := if changed then none else t.lastPoc }

/-- A change of header is counted, and the frame says so. -/
def State.countChange (s : State) (k : Nat) (f : Frame) (changed : Bool) : State :=
  if changed then (s.inc .CTX_HDR_CHANGES k).modFrame k f.fseq fun g => { g with reasons := g.reasons ||| 2 } else s

/-- The geometry of the active headers. -/
def State.geometryOf (s : State) (k : Nat) (h : Option Header) (due : Bool) : State :=
  match h with
  | some h => if due then s.showGeometry k h.outW h.outH else s
  | none => s

theorem acceptHeader_eq (s : State) (k : Nat) (st : Stream) (f : Frame) (au : AuFacts) : s.acceptHeader k st f au =
    ((s.forget k f (st.changes au)).countChange k f (st.changes au)).geometryOf k (st.active au) (st.changes au || f.inHold) := rfl

theorem countChange_inHand (s : State) (k : Nat) (f : Frame) (b : Bool) : InHand acceptFields k s (s.countChange k f b) := by
  unfold State.countChange
  split
  · refine InHand.modFrame ((InHand.refl _ k s).set .CTX_HDR_CHANGES k _ rfl) f.fseq _ ?_
    exact fun _ => rfl
  · exact .refl _ k s

theorem countChange_get (s : State) (k : Nat) (f : Frame) (b : Bool) : (s.countChange k f b).get .CTX_HDR_CHANGES k =
    if b = true then Num.wrap32 (s.get .CTX_HDR_CHANGES k + 1) else s.get .CTX_HDR_CHANGES k := by
  unfold State.countChange
  split
  · exact (modStream_get _ _ _ _ _).trans (State.get_set_self _ _ _ _)
  · rfl

theorem geometryOf_onRegs (s : State) (k : Nat) (h : Option Header) (b : Bool) : OnRegs geomFields s (s.geometryOf k h b) := by
  unfold State.geometryOf
  split
  · exact (showGeometry_onRegs s k _ _).ite (.refl _ s)
  · exact .refl _ s

theorem geomFields_accept (f : Field) (h : geomFields f = true) : acceptFields f = true := by simp_all [geomFields]

theorem geometryOf_inHand (s : State) (k : Nat) (h : Option Header) (b : Bool) : InHand acceptFields k s (s.geometryOf k h b) :=
  .of_steady ((geometryOf_onRegs s k h b).steady.mono geomFields_accept) (geometryOf_onRegs s k h b).streams

theorem acceptHeader_steady (s : State) (k : Nat) (st : Stream) (f : Frame) (au : AuFacts) :
    Steady acceptFields s (s.acceptHeader k st f au) :=
  (modStream_steady acceptFields s k _).trans ((countChange_inHand _ k f _).trans (geometryOf_inHand _ k _ _)).toSteady

theorem acceptHeader_hdrChanges (s : State) (k : Nat) (st : Stream) (f : Frame) (au : AuFacts) :
    (s.acceptHeader k st f au).get .CTX_HDR_CHANGES k =
      if st.changes au = true then Num.wrap32 (s.get .CTX_HDR_CHANGES k + 1) else s.get .CTX_HDR_CHANGES k := by
  rw [acceptHeader_eq, (geometryOf_onRegs _ k _ _).keeps.1 .CTX_HDR_CHANGES k rfl, countChange_get, State.forget, modStream_get]

/-- Accepted headers end the HOLD the frame was taken in, and no other. -/
theorem acceptHeader_hand {s : State} {k : Nat} {st x : Stream} {f : Frame} {hdr : Option Header} {hold : Bool}
    (hx : s.stream? k = some x) (h : Hand k st f hdr hold x) (u : Stream) (au : AuFacts) :
    ∃ y, (s.acceptHeader k u f au).stream? k = some y ∧ Hand k st f hdr (hold && !f.inHold) y := by
  have hs : (s.forget k f (u.changes au)).stream? k = some { x with
      hdrSeen := true, hold := x.hold && !f.inHold, refs := if u.changes au then [] else x.refs
      lastPoc := if u.changes au then none else x.lastPoc } := by
    rw [State.forget, stream?_modStream_self, hx]; rfl
  obtain ⟨y, hy, hc⟩ := ((countChange_inHand _ k f _).trans (geometryOf_inHand _ k (u.active au) (u.changes au || f.inHold))).stream hs
  refine ⟨y, hy, Hand.of_core ?_ hc⟩
  exact { h with hold := by simp only [h.hold] }

/-! ### Errors (R226, R228) -/

/-- The registers of decode errors and concealment. -/
def errorFields : Field → Bool
  | .CTX_ERR_COUNT | .CTX_LAST_ERROR | .CTX_LAST_ERROR_TICK | .CTX_FRAMES_CONCEALED => true
  | _ => false

theorem decodeError_inHand (s : State) (k q c : Nat) : InHand errorFields k s (s.decodeError k q c) := by
  unfold State.decodeError
  refine InHand.modFrame ?_ q _ ?_
  · exact (((InHand.refl _ k s).set .CTX_ERR_COUNT k _ rfl).set .CTX_LAST_ERROR k _ rfl).set .CTX_LAST_ERROR_TICK k _ rfl
  · exact fun _ => rfl

theorem decodeError_get (s : State) (k q c : Nat) : (s.decodeError k q c).get .CTX_LAST_ERROR k = c ∧
    (s.decodeError k q c).get .CTX_LAST_ERROR_TICK k = s.now ∧
    (s.decodeError k q c).get .CTX_ERR_COUNT k = Num.wrap32 (s.get .CTX_ERR_COUNT k + 1) := by
  have h : ∀ g i, (s.decodeError k q c).get g i =
      (((s.inc .CTX_ERR_COUNT k).set .CTX_LAST_ERROR k c).set .CTX_LAST_ERROR_TICK k s.now).get g i := fun g i =>
    modStream_get _ _ _ _ _
  rw [h, h, h]
  simp [State.get_set, State.inc]

end Sys2Proof.Machine
end

section
/-! Decode starts, ends and overruns (R33, R218, R220, R221, R224 to R228, R240, R257, R285). -/

namespace Sys2Proof.Machine

/-! ## A frame found by its number -/

/-- A change of the frames of one number changes the one that is found. -/
theorem frame?_modFrame (st : Stream) (q : Nat) (g : Frame → Frame) (hg : ∀ f, f.fseq = q → (g f).fseq = q) :
    (st.modFrame q g).frame? q = (st.frame? q).map g := by
  simp only [Stream.frame?, Stream.modFrame]
  induction st.frames with
  | nil => rfl
  | cons a l ih =>
    by_cases ha : a.fseq = q
    · simp [ha, hg a ha]
    · have hb : (a.fseq == q) = false := by simpa using ha
      simpa only [List.map_cons, hb, Bool.false_eq_true, if_false, List.find?_cons] using ih

theorem frame?_isSome_of_mem {st : Stream} {f : Frame} (h : f ∈ st.frames) : (st.frame? f.fseq).isSome = true := by
  rw [Stream.frame?, List.find?_isSome]
  exact ⟨f, h, by simp⟩

theorem frame?_fseq {st : Stream} {q : Nat} {g : Frame} (h : st.frame? q = some g) : g.fseq = q := by
  simpa using List.find?_some h

theorem frame?_mem {st : Stream} {q : Nat} {g : Frame} (h : st.frame? q = some g) : g ∈ st.frames := List.mem_of_find?_eq_some h

/-- The frame dropped is found dropped. -/
theorem droppedIn_find {q : Nat} {a b : List Frame} (h : List.Forall₂ (DroppedIn [q]) a b)
    (ha : (a.find? fun f => f.fseq == q).isSome = true) : ∃ g, (b.find? fun f => f.fseq == q) = some g ∧ g.phase = .dropped := by
  induction h with
  | nil => simp at ha
  | @cons f g l m hfg _ ih =>
    obtain ⟨hs, hp⟩ := hfg
    by_cases hf : f.fseq = q
    · exact ⟨g, by simp [hs, hf], by simpa [hf] using hp⟩
    · rw [List.find?_cons_of_neg (by simpa using hf)] at ha
      obtain ⟨x, hx, hxp⟩ := ih ha
      exact ⟨x, by rw [List.find?_cons_of_neg (by simpa [hs] using hf)]; exact hx, hxp⟩

/-! ## DECODE_START (R33, R218, R222) -/

section Start

variable {s : State} {e k : Nat} {st : Stream} {f : Frame}

/-- The registers of the settings that apply. -/
def reconfFields : Field → Bool
  | .CTX_MAX_WIDTH | .CTX_MAX_HEIGHT | .CTX_FPS_X100 | .CTX_PRIORITY | .CTX_CLASS => true
  | _ => false

theorem settled_frames (st : Stream) : st.settled.frames = st.frames ∧ st.settled.hold = st.hold := by
  unfold Stream.settled
  split <;> exact ⟨rfl, rfl⟩

theorem settled_nextAu (st : Stream) : st.settled.nextAu = st.nextAu := by
  simp only [Stream.nextAu, (settled_frames st).1]

theorem applyReconf_steady (s : State) (k : Nat) : Steady reconfFields s (s.applyReconf k) := by
  unfold State.applyReconf
  split
  · exact .refl _ s
  · split
    · exact .refl _ s
    · exact (((((setStream_steady reconfFields s k _).set .CTX_MAX_WIDTH k _ rfl).set .CTX_MAX_HEIGHT k _ rfl).set .CTX_FPS_X100 k _
        rfl).set .CTX_PRIORITY k _ rfl).set .CTX_CLASS k _ rfl

/-- The settings in force from this frame on (R33). -/
theorem applyReconf_stream (h : s.stream? k = some st) : (s.applyReconf k).stream? k = some st.settled := by
  simp only [State.applyReconf, h]
  split
  · next hr =>
    rw [h, Stream.settled, Option.isNone_iff_eq_none.mp hr]
  · simp only [stream?_set, stream?_setStream_self]

/-- Stream `st` when engine `e` has taken its frame `f`, with a frame buffer for the output. -/
def Stream.engage (st : Stream) (e : Nat) (f : Frame) : Stream :=
  (st.modFrame f.fseq fun _ => { f with fps := st.fps, c2 := st.c2, phase := .decoding e, inHold := st.hold }).placeFb f.fseq

theorem engage_frame? (e : Nat) (h : f ∈ st.frames) : (st.engage e f).frame? f.fseq =
    some { f with fps := st.fps, c2 := st.c2, phase := .decoding e, inHold := st.hold } := by
  obtain ⟨g, hg⟩ := Option.isSome_iff_exists.mp (frame?_isSome_of_mem h)
  have hm := frame?_modFrame st f.fseq
    (fun _ => { f with fps := st.fps, c2 := st.c2, phase := .decoding e, inHold := st.hold }) fun _ _ => rfl
  rw [hg] at hm
  exact hm

theorem find?_concat_isSome {α : Type} (l : List (Nat × α)) (q : Nat) (v : α) : (Tab.find? q (l ++ [(q, v)])).isSome = true := by
  induction l with
  | nil => simp [Tab.find?]
  | cons p l ih =>
    obtain ⟨j, w⟩ := p
    by_cases hj : j = q
    · simp [Tab.find?, hj]
    · simpa [Tab.find?, hj] using ih

theorem placeFb_fbAt (st : Stream) (q : Nat) : ((st.placeFb q).fbAt q).isSome = true := by
  rw [Stream.fbAt, Option.isSome_map]
  exact find?_concat_isSome _ q _

/-- The decode job of frame `f` on engine `e`. -/
def State.decodeJob (s : State) (k e : Nat) (st : Stream) (f : Frame) : Job :=
  { emptyJob with
    kind := .decode, cls := f.jobClass, stream := k, fseq := f.fseq, deadline := some f.da, unit := some (.dec e), soot := true
    since := s.now, ins := asBufs ((f.auAddr, f.auBytes) :: st.refBufs), outs := asBufs (st.fbAt f.fseq).toList }

theorem raiseBufs_kept (l : List (Nat × Nat)) (s : State) :
    (l.foldl State.raiseBuf s).streams = s.streams ∧ (l.foldl State.raiseBuf s).jobs = s.jobs := by
  induction l generalizing s with
  | nil => exact ⟨rfl, rfl⟩
  | cons b l ih =>
    have hb : (s.raiseBuf b).streams = s.streams ∧ (s.raiseBuf b).jobs = s.jobs := by
      unfold State.raiseBuf State.raise
      split <;> exact ⟨rfl, rfl⟩
    exact ⟨(ih _).1.trans hb.1, (ih _).2.trans hb.2⟩

/-- The registers of an engine and of the context it takes. -/
def State.markTaken (s : State) (e k : Nat) : State :=
  (((s.set .DEC_BUSY e 1).set .DEC_STREAM e k).set .CTX_DECODING k 1).set .CTX_ENGINE k e

theorem markTaken_get (s : State) (e k : Nat) : (s.markTaken e k).get .DEC_BUSY e = 1 ∧ (s.markTaken e k).get .DEC_STREAM e = k ∧
    (s.markTaken e k).get .CTX_DECODING k = 1 ∧ (s.markTaken e k).get .CTX_ENGINE k = e := by
  simp [State.markTaken, State.get_set]

theorem markTaken_parts (s : State) (e k : Nat) : (s.markTaken e k).streams = s.streams ∧ (s.markTaken e k).jobs = s.jobs := ⟨rfl, rfl⟩

/-- What the start of a decode makes of the state where stream `k` has settled as `x`. -/
theorem takeContext_eq {u : State} {x : Stream} (hu : u = s.applyReconf k) (hx : u.stream? k = some x) (hn : x.nextAu = some f) :
    s.takeContext e k = (((((x.engage e f).fbAt f.fseq).toList.foldl State.raiseBuf ((u.setStream k (x.engage e f)).addJob
      (u.decodeJob k e (x.engage e f) { f with fps := x.fps, c2 := x.c2, phase := .decoding e, inHold := x.hold }))).markTaken e
        k).streamSync k) := by
  subst hu
  simp only [State.takeContext, hx, hn]
  rfl

theorem nextAu_mem (h : st.nextAu = some f) : f ∈ st.frames := by
  unfold Stream.nextAu at h
  split at h
  · cases h
  · exact List.mem_of_find?_eq_some (Option.filter_eq_some_iff.mp h).1

theorem nextEngine_lt (h : s.nextEngine = some e) : e < 8 := by
  simpa using List.mem_of_find?_eq_some h

/-- The start of a decode (R33, R218). -/
theorem decodeStart_completes (hr : s.enginesRun = true) (hs : s.stream? k = some st) (he : s.nextEngine = some e)
    (hk : s.nextDecode = some k) (hn : st.nextAu = some f) :
    Runs (.decodeStart e) s fun t => t.get .DEC_BUSY e = 1 ∧ t.get .DEC_STREAM e = k ∧ t.get .CTX_DECODING k = 1 ∧
      t.get .CTX_ENGINE k = e ∧
      t.HasFrame k f.fseq (fun g => g.phase = .decoding e ∧ g.inHold = st.hold ∧ g.fps = st.settled.fps ∧ g.c2 = st.settled.c2) ∧
      (∃ x, t.stream? k = some x ∧ (x.fbAt f.fseq).isSome = true) ∧
      ∃ j ∈ t.jobs, j.kind = .decode ∧ j.unit = some (.dec e) ∧ j.stream = k ∧ j.fseq = f.fseq ∧ j.since = s.now := by
  refine ⟨settle (s.takeContext e k), ?_, ?_⟩
  · change execDecodeStart e s = _
    simp only [execDecodeStart, if_neg (show ¬8 ≤ e by have := nextEngine_lt he; omega), hk, hr, he, beq_self_eq_true, Bool.and_self,
      doneIf_true]
  have hnow : (s.applyReconf k).now = s.now := (applyReconf_steady s k).reg .EVU_TICK_NOW 0 rfl
  have hx := applyReconf_stream hs
  have hnx : st.settled.nextAu = some f := (settled_nextAu st).trans hn
  have hmem : f ∈ st.settled.frames := nextAu_mem hnx
  rw [takeContext_eq rfl hx hnx]
  generalize s.applyReconf k = u at hnow
  obtain ⟨q1, q2⟩ := raiseBufs_kept ((st.settled.engage e f).fbAt f.fseq).toList ((u.setStream k (st.settled.engage e f)).addJob
    (u.decodeJob k e (st.settled.engage e f)
      { f with fps := st.settled.fps, c2 := st.settled.c2, phase := .decoding e, inHold := st.settled.hold }))
  generalize List.foldl State.raiseBuf _ _ = v at q1 q2
  obtain ⟨g1, g2, g3, g4⟩ := markTaken_get v e k
  obtain ⟨p1, p2⟩ := markTaken_parts v e k
  have hreg : ∀ g i, syncFields g = false → settleFields g = false →
      (settle ((v.markTaken e k).streamSync k)).get g i = (v.markTaken e k).get g i := fun g i h1 h2 =>
    (settle_get _ g i h2).trans ((streamSync_onRegs _ k).keeps.1 g i h1)
  have hstream : (settle ((v.markTaken e k).streamSync k)).stream? k = some (st.settled.engage e f) := by
    rw [settle_stream?, streamSync_stream?, State.stream?, p1, q1]
    exact stream?_setStream_self u k _
  refine ⟨(hreg _ _ rfl rfl).trans g1, (hreg _ _ rfl rfl).trans g2, (hreg _ _ rfl rfl).trans g3, (hreg _ _ rfl rfl).trans g4, ?_, ?_, ?_⟩
  · exact ⟨_, _, hstream, engage_frame? e hmem, rfl, (settled_frames st).2, rfl, rfl⟩
  · exact ⟨_, hstream, placeFb_fbAt _ _⟩
  · rw [settle_jobs, streamSync_jobs, p2, q2]
    exact ⟨_, List.mem_append_right _ (List.mem_singleton.mpr rfl), rfl, rfl, rfl, rfl, hnow⟩

end Start

end Sys2Proof.Machine
end

section
/-! The end of a decode and its overrun (R218, R220, R221, R224 to R228, R235, R240, R257, R285, R343). -/

namespace Sys2Proof.Machine

/-! ## The frame leaves the engine's hands (R240, R257, R285) -/

/-- The registers that the delivery of a frame, or its dropping, writes. -/
def giveFields (f : Field) : Bool := syncFields f || f == .PP_LAST_DROP_FSEQ || f == .PP_SKIPPED || f == .CTX_FRAMES_DROPPED

/-- Those of them that a frame delivered at a valid geometry writes. -/
def keptFields (f : Field) : Bool := giveFields f && f != .CTX_FRAMES_DROPPED

theorem syncFields_kept (f : Field) (h : syncFields f = true) : keptFields f = true := by
  have hn : f ≠ .CTX_FRAMES_DROPPED := by rintro rfl; cases h
  simp [keptFields, giveFields, h, hn]

theorem keptFields_give (f : Field) (h : keptFields f = true) : giveFields f = true := by simp_all [keptFields]

/-- A crop of the stream's pipeline is invalid at the output size of frame `f`, or there is no pipeline. -/
def Stream.badSize (st : Stream) (f : Frame) : Bool :=
  match st.pipe with
  | none => true
  | some p => p.crops.any fun c => !c.valid f.outW f.outH

/-- Frame `f` is decoded and delivered. -/
def State.markDecoded (s : State) (k : Nat) (f : Frame) : State :=
  s.modFrame k f.fseq fun g => { g with phase := .decoded, delivered := true, slot := none }

/-- A decimated stream goes on to the other half of its frames, and skips this one where it falls on the skipped half (R257). -/
def State.decimate (s : State) (k : Nat) (st : Stream) (f : Frame) : State :=
  let s := s.modStream k fun st => { st with decParity := !st.decParity }
  if st.decParity then (s.dropFrame k f.fseq 32).inc .PP_SKIPPED k else s

section Deliver

variable {s : State} {k : Nat} {st : Stream} {f : Frame}

theorem deliver_some (h : s.stream? k = some st) : s.deliver k f =
    if f.isDrop then (s.markDecoded k f).dropFrame k f.fseq 0
    else if st.badSize f then (((s.markDecoded k f).dropBatch k f.fseq 0).inc .PP_SKIPPED k).inc .CTX_FRAMES_DROPPED k
    else if st.decimated then (s.markDecoded k f).decimate k st f else s.markDecoded k f := by
  simp only [State.deliver, h]
  rfl

theorem dropFrame_kept (s : State) (k q r : Nat) : Steady keptFields s (s.dropFrame k q r) :=
  (dropFrame_calm s k q r).toSteady.mono syncFields_kept

theorem markDecoded_steady (F : Field → Bool) (s : State) (k : Nat) (f : Frame) : Steady F s (s.markDecoded k f) :=
  modStream_steady F s k _

theorem decimate_kept (s : State) (k : Nat) (st : Stream) (f : Frame) : Steady keptFields s (s.decimate k st f) := by
  have h := modStream_steady keptFields s k fun st => { st with decParity := !st.decParity }
  unfold State.decimate
  dsimp only
  split
  · exact (h.trans (dropFrame_kept _ k f.fseq 32)).set .PP_SKIPPED k _ rfl
  · exact h

/-- A frame whose geometry is valid is delivered, or skipped, and not counted as dropped (R228, R240). -/
theorem deliver_kept (h : s.stream? k = some st) (hb : st.badSize f = false) : Steady keptFields s (s.deliver k f) := by
  have hm := markDecoded_steady keptFields s k f
  rw [deliver_some h, hb, if_neg Bool.false_ne_true]
  exact (hm.trans (dropFrame_kept _ k f.fseq 0)).ite ((hm.trans (decimate_kept _ k st f)).ite hm)

theorem deliver_steady (s : State) (k : Nat) (f : Frame) : Steady giveFields s (s.deliver k f) := by
  cases h : s.stream? k with
  | none => simp only [State.deliver, h]; exact .refl _ s
  | some st =>
    cases hb : st.badSize f
    · exact (deliver_kept h hb).mono keptFields_give
    · have hm := markDecoded_steady keptFields s k f
      have hd := (hm.trans (dropFrame_kept _ k f.fseq 0)).mono keptFields_give
      rw [deliver_some h, hb, if_pos rfl]
      refine Steady.ite hd ?_
      exact ((hd.set .PP_LAST_DROP_FSEQ k _ rfl).set .PP_SKIPPED k _ rfl).set .CTX_FRAMES_DROPPED k _ rfl

theorem markDecoded_stream (h : s.stream? k = some st) : (s.markDecoded k f).stream? k =
    some (st.modFrame f.fseq fun g => { g with phase := .decoded, delivered := true, slot := none }) := by
  rw [State.markDecoded, State.modFrame, stream?_modStream_self, h]
  rfl

/-- A drop leaves the HOLD of its stream. -/
theorem dropFrame_hold (h : s.stream? k = some st) (q r : Nat) : ∃ x, (s.dropFrame k q r).stream? k = some x ∧ x.hold = st.hold := by
  obtain ⟨fs, hfs, -⟩ := dropFrame_stream h q r
  exact ⟨_, hfs, rfl⟩

theorem deliver_hold (h : s.stream? k = some st) : ∃ x, (s.deliver k f).stream? k = some x ∧ x.hold = st.hold := by
  have hm := markDecoded_stream (f := f) h
  rw [deliver_some h]
  split
  · exact dropFrame_hold hm f.fseq 0
  · split
    · exact dropFrame_hold hm f.fseq 0
    · split
      · unfold State.decimate
        dsimp only
        have hp : ((s.markDecoded k f).modStream k fun st => { st with decParity := !st.decParity }).stream? k = some
            { st.modFrame f.fseq fun g => { g with phase := .decoded, delivered := true, slot := none } with
              decParity := !st.decParity } := by
          rw [stream?_modStream_self, hm]; rfl
        split
        · exact dropFrame_hold hp f.fseq 32
        · exact ⟨_, hp, rfl⟩
      · exact ⟨_, hm, rfl⟩

/-- A frame that is due, valid and not skipped stands decoded and delivered. -/
theorem deliver_decoded (h : s.stream? k = some st) (hf : st.frame? f.fseq = some f) (hd : f.isDrop = false)
    (hb : st.badSize f = false) (hdec : st.decimated = false) :
    (s.deliver k f).HasFrame k f.fseq fun g => g.phase = .decoded ∧ g.delivered = true := by
  rw [deliver_some h, hd, hb, hdec]
  have hfr := frame?_modFrame st f.fseq (fun g => { g with phase := .decoded, delivered := true, slot := none }) fun _ hq => hq
  rw [hf] at hfr
  exact ⟨_, _, markDecoded_stream h, hfr, rfl, rfl⟩

theorem notDelivered_steady (s : State) (k q r : Nat) : Steady giveFields s (s.notDelivered k q r) :=
  ((dropFrame_kept s k q r).mono keptFields_give).set .CTX_FRAMES_DROPPED k _ rfl

theorem notDelivered_dropped (s : State) (k q r : Nat) : (s.notDelivered k q r).get .CTX_FRAMES_DROPPED k =
    Num.wrap32 (s.get .CTX_FRAMES_DROPPED k + 1) := by
  rw [State.notDelivered, State.inc, State.get_set_self, (dropFrame_kept s k q r).reg .CTX_FRAMES_DROPPED k rfl]

theorem notDelivered_frame (h : s.stream? k = some st) {q : Nat} (hq : (st.frame? q).isSome = true) (r : Nat) :
    (s.notDelivered k q r).HasFrame k q fun g => g.phase = .dropped := by
  obtain ⟨fs, hfs, hd⟩ := dropFrame_stream h q r
  obtain ⟨g, hg, hp⟩ := droppedIn_find hd hq
  exact ⟨{ st with frames := fs }, g, hfs, hg, hp⟩

end Deliver

/-- Frame `q` of stream `k` is delivered, or is not; then its stream shows. -/
def State.giveOut (s : State) (k q : Nat) (b : Bool) : State :=
  match (s.stream? k).bind fun t => t.frame? q with
  | none => s
  | some g => if b then s.deliver k g else s.notDelivered k q 0

section GiveOut

variable {s : State} {k q : Nat} {st : Stream} {g : Frame}

theorem giveOut_found (h : s.stream? k = some st) (hg : st.frame? q = some g) (b : Bool) :
    s.giveOut k q b = if b then s.deliver k g else s.notDelivered k q 0 := by
  simp only [State.giveOut, h, Option.bind_some, hg]

theorem giveOut_steady (s : State) (k q : Nat) (b : Bool) : Steady giveFields s (s.giveOut k q b) := by
  unfold State.giveOut
  split
  · exact .refl _ s
  · exact (deliver_steady s k _).ite (notDelivered_steady s k q 0)

theorem giveOut_hold (h : s.stream? k = some st) (q : Nat) (b : Bool) :
    ∃ x, (s.giveOut k q b).stream? k = some x ∧ x.hold = st.hold := by
  unfold State.giveOut
  split
  · exact ⟨st, h, rfl⟩
  · split
    · exact deliver_hold h
    · exact dropFrame_hold h q 0

/-- The end of the command that gives the frame out. -/
def State.handOver (s : State) (k q : Nat) (b : Bool) : State := settle ((s.giveOut k q b).streamSync k)

theorem handOver_get (s : State) (k q : Nat) (b : Bool) (f : Field) (i : Nat) (h : giveFields f = false) (hs : settleFields f = false) :
    (s.handOver k q b).get f i = s.get f i := by
  have hy : syncFields f = false := by simp_all [giveFields]
  rw [State.handOver, settle_get _ _ _ hs, (streamSync_onRegs _ k).keeps.1 f i hy, (giveOut_steady s k q b).reg f i h]

theorem handOver_dropped (s : State) (k q : Nat) (b : Bool) :
    (s.handOver k q b).get .CTX_FRAMES_DROPPED k = (s.giveOut k q b).get .CTX_FRAMES_DROPPED k := by
  rw [State.handOver, settle_get _ _ _ rfl, (streamSync_onRegs _ k).keeps.1 .CTX_FRAMES_DROPPED k rfl]

theorem handOver_stream? (s : State) (k q : Nat) (b : Bool) : (s.handOver k q b).stream? k = (s.giveOut k q b).stream? k := by
  rw [State.handOver, settle_stream?, streamSync_stream?]

end GiveOut

end Sys2Proof.Machine
end

section
/-! DECODE_DONE and DECODE_OVERRUN, put together (R218, R220, R221, R224 to R228, R235, R343). -/

namespace Sys2Proof.Machine

/-! ## The engine is free and the facts are noted -/

/-- The registers that an engine's letting go of a frame writes, the count of its frames with them. -/
def freeFields (f : Field) : Bool := poisonFields f || releaseFields f || f == .DEC_FRAMES

/-- The registers written until the facts are noted. -/
def notedFields (f : Field) : Bool := freeFields f || noteFields f || f == .CTX_TAINTED

theorem poisonFields_free (f : Field) (h : poisonFields f = true) : freeFields f = true := by simp [freeFields, h]
theorem releaseFields_free (f : Field) (h : releaseFields f = true) : freeFields f = true := by simp [freeFields, h]
theorem freeFields_noted (f : Field) (h : freeFields f = true) : notedFields f = true := by simp [notedFields, h]
theorem noteFields_noted (f : Field) (h : noteFields f = true) : notedFields f = true := by simp [notedFields, h]

/-- The engine lets frame `f` go, whose picture stands in `bs`, and counts it. -/
def State.letGo (s : State) (e k : Nat) (f : Frame) (bs : List (Nat × Nat)) : State :=
  ((bs.foldl State.rewritten s).endDecode k e f).inc .DEC_FRAMES e

/-- The facts of its access unit are noted. -/
def State.noted (s : State) (e k : Nat) (st : Stream) (f : Frame) (au : AuFacts) (taint : Bool) : State :=
  ((s.letGo e k f ((st.asTaken f).fbAt f.fseq).toList).noteFacts k (st.asTaken f) f au).set .CTX_TAINTED k (Num.b2n taint)

section Noted

variable {s : State} {e k : Nat} {st : Stream} {f : Frame}

theorem inDecode_mem (h : s.inDecode e = some (k, st, f)) : f ∈ st.frames := by
  unfold State.inDecode at h
  obtain ⟨x, -, hx⟩ := List.exists_of_findSome?_eq_some h
  obtain ⟨g, hg, he⟩ := Option.map_eq_some_iff.mp hx
  cases he
  exact List.mem_of_find?_eq_some hg

theorem rewrittens_inHand (s : State) (k : Nat) (bs : List (Nat × Nat)) : InHand poisonFields k s (bs.foldl State.rewritten s) :=
  (InHand.refl poisonFields k s).foldl State.rewritten (fun u b => rewritten_inHand u k b) bs

theorem letGo_inHand (s : State) (e k : Nat) (f : Frame) (bs : List (Nat × Nat)) : InHand freeFields k s (s.letGo e k f bs) :=
  (((rewrittens_inHand s k bs).mono poisonFields_free).trans ((endDecode_inHand _ k e f).mono releaseFields_free)).set
    .DEC_FRAMES e _ rfl

theorem letGo_get (s : State) (e k : Nat) (f : Frame) (bs : List (Nat × Nat)) : (s.letGo e k f bs).get .DEC_BUSY e = 0 ∧
    (s.letGo e k f bs).get .CTX_DECODING k = 0 ∧ (s.letGo e k f bs).get .DEC_FRAMES e = Num.wrap32 (s.get .DEC_FRAMES e + 1) := by
  have hp := rewrittens_inHand s k bs
  unfold State.letGo State.inc
  generalize List.foldl State.rewritten s bs = v at hp
  obtain ⟨h1, h2⟩ := endDecode_get v k e f
  refine ⟨?_, ?_, ?_⟩
  · rw [State.get_set_ne _ _ _ _ (by decide), h1]
  · rw [State.get_set_ne _ _ _ _ (by decide), h2]
  · rw [State.get_set_self, (endDecode_inHand v k e f).reg .DEC_FRAMES e rfl, hp.reg .DEC_FRAMES e rfl]

theorem noted_steady (s : State) (e k : Nat) (st : Stream) (f : Frame) (au : AuFacts) (b : Bool) :
    Steady notedFields s (s.noted e k st f au b) :=
  ((((letGo_inHand s e k f _).toSteady.mono freeFields_noted).trans ((noteFacts_steady _ k _ f au).mono noteFields_noted))).set
    .CTX_TAINTED k _ rfl

/-- What the registers read once the facts are noted. -/
theorem noted_get (s : State) (e k : Nat) (st : Stream) (f : Frame) (au : AuFacts) (b : Bool) :
    (s.noted e k st f au b).get .DEC_FRAMES e = Num.wrap32 (s.get .DEC_FRAMES e + 1) ∧ (s.noted e k st f au b).get .DEC_BUSY e = 0 ∧
    (s.noted e k st f au b).get .CTX_DECODING k = 0 ∧ (s.noted e k st f au b).get .CTX_TAINTED k = Num.b2n b ∧
    ∀ h, au.header = some h → (st.asTaken f).shows au = true →
      (s.noted e k st f au b).get .CTX_WIDTH k = h.facts.width ∧ (s.noted e k st f au b).get .CTX_HEIGHT k = h.facts.height := by
  obtain ⟨h1, h2, h3⟩ := letGo_get s e k f ((st.asTaken f).fbAt f.fseq).toList
  unfold State.noted
  generalize s.letGo e k f ((st.asTaken f).fbAt f.fseq).toList = v at h1 h2 h3
  have hn := noteFacts_steady v k (st.asTaken f) f au
  have hr : ∀ g i, g ≠ .CTX_TAINTED → ((v.noteFacts k (st.asTaken f) f au).set .CTX_TAINTED k (Num.b2n b)).get g i =
      (v.noteFacts k (st.asTaken f) f au).get g i := fun g i hg => State.get_set_ne _ _ _ _ hg
  refine ⟨?_, ?_, ?_, State.get_set_self _ _ _ _, fun h ha hs => ?_⟩
  · rw [hr _ _ (by decide), hn.reg .DEC_FRAMES e rfl, h3]
  · rw [hr _ _ (by decide), hn.reg .DEC_BUSY e rfl, h1]
  · rw [hr _ _ (by decide), hn.reg .CTX_DECODING k rfl, h2]
  · rw [hr _ _ (by decide), hr _ _ (by decide)]
    exact noteFacts_get ha hs

/-- The headers whose output size the frame carries. -/
abbrev Stream.notedHeader (st : Stream) (f : Frame) (au : AuFacts) : Option Header :=
  if (st.asTaken f).shows au then (st.asTaken f).active au else none

theorem noted_hand (hs : s.stream? k = some st) (e : Nat) (f : Frame) (au : AuFacts) (b : Bool) :
    ∃ y, (s.noted e k st f au b).stream? k = some y ∧ Hand k st f (st.notedHeader f au) st.hold y := by
  obtain ⟨x, hx, hc⟩ := (letGo_inHand s e k f ((st.asTaken f).fbAt f.fseq).toList).stream hs
  exact noteFacts_hand hx hc

end Noted

/-! ## The verdict is applied -/

/-- The verdict on frame `f`: a decoded picture stands and its headers with it, or the stream is in HOLD (R221, R224, R225). -/
def State.judged (s : State) (k : Nat) (st : Stream) (f : Frame) (out : DecodeOutcome) (v : Verdict) : State :=
  if v.decoded then
    let s := (s.acceptHeader k (st.asTaken f) f out.au).modStream k fun t =>
      { t with refs := (st.asTaken f).refsAfter f.fseq v.newHeader (out.ofCodec st.codec).refs, lastPoc := some out.poc }
    ((s.newPicture k f.fseq).inc .CTX_FRAMES_DECODED k).set .CTX_DEC_FSEQ k f.fseq
  else s.modStream k fun t => { t with hold := t.holdAfter f v }

/-- The registers that count a decoded picture. -/
def pictureFields (f : Field) : Bool := f == .CTX_FRAMES_DECODED || f == .CTX_DEC_FSEQ

/-- The registers that a verdict writes. -/
def judgeFields (f : Field) : Bool := acceptFields f || pictureFields f

theorem acceptFields_judge (f : Field) (h : acceptFields f = true) : judgeFields f = true := by simp [judgeFields, h]
theorem pictureFields_judge (f : Field) (h : pictureFields f = true) : judgeFields f = true := by simp [judgeFields, h]

/-- A picture decoded from `s`, whose headers stand. -/
def State.pictured (s : State) (k : Nat) (f : Frame) (refs : List Nat) (poc : Int) : State :=
  (((s.modStream k fun t => { t with refs := refs, lastPoc := some poc }).newPicture k f.fseq).inc .CTX_FRAMES_DECODED k).set
    .CTX_DEC_FSEQ k f.fseq

section Judged

variable {s : State} {k : Nat} {st : Stream} {f : Frame} {out : DecodeOutcome} {v : Verdict}

theorem newPicture_inHand (F : Field → Bool) (s : State) (k q : Nat) : InHand F k s (s.newPicture k q) := by
  unfold State.newPicture
  refine InHand.trans (InHand.modFrame (.refl F k s) q (fun g => { g with pic := s.freeCtr }) fun _ => rfl) ?_
  exact .of_steady (.same rfl) rfl

theorem pictured_inHand (s : State) (k : Nat) (f : Frame) (refs : List Nat) (poc : Int) :
    InHand pictureFields k s (s.pictured k f refs poc) := by
  unfold State.pictured
  refine ((InHand.trans ?_ (newPicture_inHand _ _ k f.fseq)).set .CTX_FRAMES_DECODED k _ rfl).set .CTX_DEC_FSEQ k _ rfl
  refine (InHand.refl _ k s).modStream _ ?_
  exact fun _ => rfl

theorem pictured_get (s : State) (k : Nat) (f : Frame) (refs : List Nat) (poc : Int) :
    (s.pictured k f refs poc).get .CTX_DEC_FSEQ k = f.fseq ∧
    (s.pictured k f refs poc).get .CTX_FRAMES_DECODED k = Num.wrap32 (s.get .CTX_FRAMES_DECODED k + 1) := by
  unfold State.pictured State.inc
  rw [State.get_set_self, State.get_set_ne _ _ _ _ (by decide), State.get_set_self,
    (newPicture_inHand (fun _ => false) _ k f.fseq).reg .CTX_FRAMES_DECODED k rfl, modStream_get]
  exact ⟨rfl, rfl⟩

theorem judged_decoded (h : v.decoded = true) : s.judged k st f out v = (s.acceptHeader k (st.asTaken f) f out.au).pictured k f
    ((st.asTaken f).refsAfter f.fseq v.newHeader (out.ofCodec st.codec).refs) out.poc := by
  rw [State.judged, if_pos h]
  rfl

theorem judged_held (h : v.decoded = false) :
    s.judged k st f out v = s.modStream k fun t => { t with hold := t.holdAfter f v } := by
  rw [State.judged, h, if_neg Bool.false_ne_true]

theorem judged_steady (s : State) (k : Nat) (st : Stream) (f : Frame) (out : DecodeOutcome) (v : Verdict) :
    Steady judgeFields s (s.judged k st f out v) := by
  cases h : v.decoded
  · rw [judged_held h]
    exact modStream_steady _ s k _
  · rw [judged_decoded h]
    exact ((acceptHeader_steady s k _ f out.au).mono acceptFields_judge).trans
      ((pictured_inHand _ k f _ _).toSteady.mono pictureFields_judge)

theorem judged_get (h : v.decoded = true) : (s.judged k st f out v).get .CTX_DEC_FSEQ k = f.fseq ∧
    (s.judged k st f out v).get .CTX_FRAMES_DECODED k = Num.wrap32 (s.get .CTX_FRAMES_DECODED k + 1) ∧
    (s.judged k st f out v).get .CTX_HDR_CHANGES k = if (st.asTaken f).changes out.au = true then
      Num.wrap32 (s.get .CTX_HDR_CHANGES k + 1) else s.get .CTX_HDR_CHANGES k := by
  rw [judged_decoded h]
  obtain ⟨h1, h2⟩ := pictured_get (s.acceptHeader k (st.asTaken f) f out.au) k f
    ((st.asTaken f).refsAfter f.fseq v.newHeader (out.ofCodec st.codec).refs) out.poc
  refine ⟨h1, ?_, ?_⟩
  · rw [h2, (acceptHeader_steady s k _ f out.au).reg .CTX_FRAMES_DECODED k rfl]
  · rw [(pictured_inHand _ k f _ _).reg .CTX_HDR_CHANGES k rfl, acceptHeader_hdrChanges]

theorem judged_held_get (h : v.decoded = false) (g : Field) (i : Nat) : (s.judged k st f out v).get g i = s.get g i := by
  rw [judged_held h, modStream_get]

/-- The HOLD after the verdict: one entered while the frame was in hand stands (R225, R235). -/
theorem judged_hand {hdr : Option Header} {x : Stream} (hx : s.stream? k = some x) (h : Hand k st f hdr st.hold x)
    (hv : v.decoded = true → v.hold = false) (out : DecodeOutcome) :
    ∃ y, (s.judged k st f out v).stream? k = some y ∧ Hand k st f hdr (st.holdAfter f v) y := by
  cases hd : v.decoded
  · rw [judged_held hd, stream?_modStream_self, hx]
    refine ⟨_, rfl, { h with hold := ?_ }⟩
    simp only [Stream.holdAfter, h.hold]
  · obtain ⟨y, hy, hh⟩ := acceptHeader_hand hx h (st.asTaken f) out.au
    rw [judged_decoded hd]
    obtain ⟨z, hz, hc⟩ := (pictured_inHand (s.acceptHeader k (st.asTaken f) f out.au) k f
      ((st.asTaken f).refsAfter f.fseq v.newHeader (out.ofCodec st.codec).refs) out.poc).stream hy
    refine ⟨z, hz, ?_⟩
    have hhold : st.holdAfter f v = (st.hold && !f.inHold) := by simp [Stream.holdAfter, hv hd]
    rw [hhold]
    exact hh.of_core hc

end Judged

/-! ## Its errors are counted, or shown (R225, R226) -/

/-- The errors of the verdict, the refusal it shows and its concealment. -/
def State.blamed (s : State) (k q : Nat) (v : Verdict) : State :=
  let s := v.errs.foldl (fun s c => s.decodeError k q c) s
  let s : State := match v.shown with
    | none => s
    | some c => (s.set .CTX_LAST_ERROR k c).set .CTX_LAST_ERROR_TICK k s.now
  if v.concealed then s.inc .CTX_FRAMES_CONCEALED k else s

/-- A refusal in HOLD is shown. -/
def State.shownError (s : State) (k : Nat) (c : Option Nat) : State :=
  match c with
  | none => s
  | some c => (s.set .CTX_LAST_ERROR k c).set .CTX_LAST_ERROR_TICK k s.now

/-- A concealed picture is counted. -/
def State.countConcealed (s : State) (k : Nat) (b : Bool) : State := if b then s.inc .CTX_FRAMES_CONCEALED k else s

section Blamed

variable {s : State} {k q : Nat} {v : Verdict}

theorem blamed_eq (s : State) (k q : Nat) (v : Verdict) : s.blamed k q v =
    ((v.errs.foldl (fun s c => s.decodeError k q c) s).shownError k v.shown).countConcealed k v.concealed := rfl

theorem shownError_inHand (s : State) (k : Nat) (c : Option Nat) : InHand errorFields k s (s.shownError k c) := by
  cases c with
  | none => exact .refl _ k s
  | some c => exact ((InHand.refl _ k s).set .CTX_LAST_ERROR k _ rfl).set .CTX_LAST_ERROR_TICK k _ rfl

theorem countConcealed_inHand (s : State) (k : Nat) (b : Bool) : InHand errorFields k s (s.countConcealed k b) := by
  cases b
  · exact .refl _ k s
  · exact (InHand.refl _ k s).set .CTX_FRAMES_CONCEALED k _ rfl

theorem blamed_inHand (s : State) (k q : Nat) (v : Verdict) : InHand errorFields k s (s.blamed k q v) := by
  rw [blamed_eq]
  refine (InHand.trans ?_ (shownError_inHand _ k v.shown)).trans (countConcealed_inHand _ k v.concealed)
  exact (InHand.refl _ k s).foldl _ (fun u c => decodeError_inHand u k q c) _

theorem countConcealed_get (s : State) (k : Nat) (b : Bool) (f : Field) (i : Nat) (h : f ≠ .CTX_FRAMES_CONCEALED) :
    (s.countConcealed k b).get f i = s.get f i := by
  cases b
  · rfl
  · exact State.get_set_ne _ _ _ _ h

/-- One error: it is counted, and the last. -/
theorem blamed_error {c : Nat} (h : v.errs = [c]) (hs : v.shown = none) : (s.blamed k q v).get .CTX_LAST_ERROR k = c ∧
    (s.blamed k q v).get .CTX_LAST_ERROR_TICK k = s.now ∧
    (s.blamed k q v).get .CTX_ERR_COUNT k = Num.wrap32 (s.get .CTX_ERR_COUNT k + 1) := by
  rw [blamed_eq, h, hs, countConcealed_get _ _ _ _ _ (by decide), countConcealed_get _ _ _ _ _ (by decide),
    countConcealed_get _ _ _ _ _ (by decide)]
  exact decodeError_get s k q c

/-- A refusal in HOLD is the last error, and not counted. -/
theorem blamed_shown {c : Nat} (h : v.errs = []) (hs : v.shown = some c) : (s.blamed k q v).get .CTX_LAST_ERROR k = c ∧
    (s.blamed k q v).get .CTX_ERR_COUNT k = s.get .CTX_ERR_COUNT k := by
  rw [blamed_eq, h, hs, countConcealed_get _ _ _ _ _ (by decide), countConcealed_get _ _ _ _ _ (by decide)]
  simp [State.shownError, State.get_set]

end Blamed

/-! ## DECODE_DONE (R221, R224 to R228, R343) -/

/-- The verdict on the access unit of frame `f`, poison with it. -/
abbrev State.verdictOn (s : State) (k : Nat) (st : Stream) (f : Frame) (out : DecodeOutcome) : Verdict :=
  (verdict (st.asTaken f) (s.get .CTX_TAINTED k == 1) out).poisoned (s.poisonIn [(f.auAddr, f.auBytes)])
    (s.poisonIn (st.asTaken f).refBufs)

/-- The state before the frame is given out. -/
def State.settledOn (s : State) (e k : Nat) (st : Stream) (f : Frame) (out : DecodeOutcome) (v : Verdict) : State :=
  ((s.noted e k st f out.au v.taint).judged k st f out v).blamed k f.fseq v

theorem decodeDone_eq (s : State) (e k : Nat) (st : Stream) (f : Frame) (out : DecodeOutcome) :
    settle (s.decodeDone e k st f out) =
      (s.settledOn e k st f out (s.verdictOn k st f out)).handOver k f.fseq (s.verdictOn k st f out).deliver := rfl

end Sys2Proof.Machine
end

section
/-! What a decode's end and its overrun leave (R33, R218, R220, R221, R224 to R228, R343). -/

namespace Sys2Proof.Machine

theorem HasFrame.congr {s t : State} {k q : Nat} {P : Frame → Prop} (h : s.HasFrame k q P) (e : t.stream? k = s.stream? k) :
    t.HasFrame k q P := by
  obtain ⟨x, g, hx, hg, hp⟩ := h
  exact ⟨x, g, e.trans hx, hg, hp⟩

/-- The registers that a verdict and its errors write. -/
def weighFields (f : Field) : Bool := judgeFields f || errorFields f

theorem judgeFields_weigh (f : Field) (h : judgeFields f = true) : weighFields f = true := by simp [weighFields, h]
theorem errorFields_weigh (f : Field) (h : errorFields f = true) : weighFields f = true := by simp [weighFields, h]

section Done

variable {s : State} {e k : Nat} {st : Stream} {f : Frame} {out : DecodeOutcome} {v : Verdict}

theorem settledOn_weigh (s : State) (e k : Nat) (st : Stream) (f : Frame) (out : DecodeOutcome) (v : Verdict) :
    Steady weighFields (s.noted e k st f out.au v.taint) (s.settledOn e k st f out v) :=
  ((judged_steady _ k st f out v).mono judgeFields_weigh).trans ((blamed_inHand _ k f.fseq v).toSteady.mono errorFields_weigh)

/-- A register that neither the facts nor the verdict writes. -/
theorem settledOn_get (s : State) (e k : Nat) (st : Stream) (f : Frame) (out : DecodeOutcome) (v : Verdict) (g : Field) (i : Nat)
    (hn : notedFields g = false) (hw : weighFields g = false) : (s.settledOn e k st f out v).get g i = s.get g i :=
  ((settledOn_weigh s e k st f out v).reg g i hw).trans ((noted_steady s e k st f out.au v.taint).reg g i hn)

/-- The stream when the verdict has been applied. -/
theorem settledOn_hand (hs : s.stream? k = some st) (hv : v.decoded = true → v.hold = false) (e : Nat) (f : Frame)
    (out : DecodeOutcome) : ∃ y, (s.settledOn e k st f out v).stream? k = some y ∧
      Hand k st f (st.notedHeader f out.au) (st.holdAfter f v) y := by
  obtain ⟨x, hx, hh⟩ := noted_hand hs e f out.au v.taint
  obtain ⟨y, hy, hyh⟩ := judged_hand hx hh hv out
  obtain ⟨z, hz, hc⟩ := (blamed_inHand _ k f.fseq v).stream hy
  exact ⟨z, hz, hyh.of_core hc⟩

theorem verdictOn_hold (h : (s.verdictOn k st f out).decoded = true) : (s.verdictOn k st f out).hold = false := by
  have ht : (st.asTaken f).takes out.au = true := verdict_decoded.symm.trans h
  exact (verdict_taken ht).2.1

/-- The frame in hand is still found under its number. -/
theorem Hand.found {hdr : Option Header} {hold : Bool} {y : Stream} (h : Hand k st f hdr hold y) (hf : f ∈ st.frames) :
    ∃ g, y.frame? f.fseq = some g ∧ (st.frame? f.fseq = some f → g.isDrop = f.isDrop) := by
  have hk := h.frame? f.fseq
  obtain ⟨g₀, hg₀⟩ := Option.isSome_iff_exists.mp (frame?_isSome_of_mem hf)
  rw [hg₀] at hk
  obtain ⟨g, hg, he⟩ := Option.map_eq_some_iff.mp hk
  refine ⟨g, hg, fun hff => ?_⟩
  rw [hg₀] at hff
  cases hff
  exact congrArg Prod.snd he

/-- The frame found has a valid geometry where every crop is valid at the output size of its active headers (R240). -/
theorem Hand.validSize {hold : Bool} {y : Stream} {g : Frame} {h : Header} {p : Pipe} {hdr : Option Header} (hy : Hand k st f hdr hold y)
    (hh : hdr = some h) (hg : y.frame? f.fseq = some g) (hp : st.pipe = some p)
    (hc : ∀ c ∈ p.crops, c.valid h.facts.outW h.facts.outH = true) : y.badSize g = false := by
  obtain ⟨hw, ho⟩ := hy.sized h hh g (frame?_mem hg) (frame?_fseq hg)
  have hyp : y.pipe = some p := hy.pipe.trans hp
  simp only [Stream.badSize, hyp, List.any_eq_false, Bool.not_eq_true', Bool.not_eq_false, hw, ho]
  intro c hcm
  rw [hc c hcm]

theorem decodeDone_exec (hi : s.inDecode e = some (k, st, f)) (hr : s.enginesRun = true) (hin : s.get .DEC_IN_SERVICE e = 1)
    (hfit : out.au.fits st.codec = true) : exec (.decodeDone e out) s =
      .next ((s.settledOn e k st f out (s.verdictOn k st f out)).handOver k f.fseq (s.verdictOn k st f out).deliver) := by
  change execDecodeDone e out s = _
  simp only [execDecodeDone, hi, hr, hin, hfit, beq_self_eq_true, Bool.and_self, doneIf_true]
  rw [decodeDone_eq]

/-- The registers that show the decode once the frame is given out (R218, R223, R225, R226, R228). -/
theorem handOver_shows (hv : v.decoded = true → v.hold = false) (hs : s.stream? k = some st) :
    let t := (s.settledOn e k st f out v).handOver k f.fseq v.deliver
    t.get .DEC_FRAMES e = Num.wrap32 (s.get .DEC_FRAMES e + 1) ∧ t.get .DEC_BUSY e = 0 ∧ t.get .CTX_DECODING k = 0 ∧
    t.get .CTX_TAINTED k = Num.b2n v.taint ∧ (∃ x, t.stream? k = some x ∧ x.hold = st.holdAfter f v) ∧
    (∀ h, out.au.header = some h → (st.asTaken f).shows out.au = true → t.get .CTX_WIDTH k = h.facts.width ∧
      t.get .CTX_HEIGHT k = h.facts.height) := by
  intro t
  obtain ⟨h1, h2, h3, h4, h5⟩ := noted_get s e k st f out.au v.taint
  have hreg : ∀ g i, weighFields g = false → giveFields g = false → settleFields g = false →
      t.get g i = (s.noted e k st f out.au v.taint).get g i := fun g i ha hb hc =>
    (handOver_get _ k f.fseq _ g i hb hc).trans ((settledOn_weigh s e k st f out v).reg g i ha)
  obtain ⟨y, hy, hh⟩ := settledOn_hand hs hv e f out
  obtain ⟨x, hx, hxh⟩ := giveOut_hold hy f.fseq v.deliver
  refine ⟨(hreg _ _ rfl rfl rfl).trans h1, (hreg _ _ rfl rfl rfl).trans h2, (hreg _ _ rfl rfl rfl).trans h3,
    (hreg _ _ rfl rfl rfl).trans h4, ⟨x, (handOver_stream? _ _ _ _).trans hx, hxh.trans hh.hold⟩, fun h ha hsh => ?_⟩
  obtain ⟨hw, ho⟩ := h5 h ha hsh
  exact ⟨(hreg _ _ rfl rfl rfl).trans hw, (hreg _ _ rfl rfl rfl).trans ho⟩

/-- The registers that count what was decoded, and its errors (R221, R224 to R226). -/
theorem handOver_counts (he : ∀ c, v.shown = some c → v.errs = []) :
    let t := (s.settledOn e k st f out v).handOver k f.fseq v.deliver
    (v.decoded = true → t.get .CTX_DEC_FSEQ k = f.fseq ∧
      t.get .CTX_FRAMES_DECODED k = Num.wrap32 (s.get .CTX_FRAMES_DECODED k + 1) ∧
      t.get .CTX_HDR_CHANGES k = if (st.asTaken f).changes out.au = true then Num.wrap32 (s.get .CTX_HDR_CHANGES k + 1)
        else s.get .CTX_HDR_CHANGES k) ∧
    (v.decoded = false → t.get .CTX_FRAMES_DECODED k = s.get .CTX_FRAMES_DECODED k) ∧
    (∀ c, v.errs = [c] → v.shown = none → t.get .CTX_LAST_ERROR k = c ∧ t.get .CTX_LAST_ERROR_TICK k = s.now ∧
      t.get .CTX_ERR_COUNT k = Num.wrap32 (s.get .CTX_ERR_COUNT k + 1)) ∧
    (∀ c, v.shown = some c → t.get .CTX_LAST_ERROR k = c ∧ t.get .CTX_ERR_COUNT k = s.get .CTX_ERR_COUNT k) := by
  intro t
  have hn := noted_steady s e k st f out.au v.taint
  have hj := judged_steady (s.noted e k st f out.au v.taint) k st f out v
  -- what the errors leave, and what they write
  have hb : ∀ g i, errorFields g = false → giveFields g = false → settleFields g = false →
      t.get g i = ((s.noted e k st f out.au v.taint).judged k st f out v).get g i := fun g i ha hc hd =>
    (handOver_get _ k f.fseq _ g i hc hd).trans ((blamed_inHand _ k f.fseq v).reg g i ha)
  have hc : ((s.noted e k st f out.au v.taint).judged k st f out v).get .CTX_ERR_COUNT k = s.get .CTX_ERR_COUNT k :=
    (hj.reg .CTX_ERR_COUNT k rfl).trans (hn.reg .CTX_ERR_COUNT k rfl)
  have hnow : ((s.noted e k st f out.au v.taint).judged k st f out v).now = s.now :=
    (hj.reg .EVU_TICK_NOW 0 rfl).trans (hn.reg .EVU_TICK_NOW 0 rfl)
  refine ⟨fun hd => ?_, fun hd => ?_, fun c h1 h2 => ?_, fun c h1 => ?_⟩
  · obtain ⟨d1, d2, d3⟩ := judged_get (s := s.noted e k st f out.au v.taint) (k := k) (st := st) (f := f) (out := out) hd
    rw [hb .CTX_DEC_FSEQ k rfl rfl rfl, hb .CTX_FRAMES_DECODED k rfl rfl rfl, hb .CTX_HDR_CHANGES k rfl rfl rfl, d1, d2, d3,
      hn.reg .CTX_FRAMES_DECODED k rfl, hn.reg .CTX_HDR_CHANGES k rfl]
    exact ⟨rfl, rfl, rfl⟩
  · rw [hb .CTX_FRAMES_DECODED k rfl rfl rfl, judged_held_get hd, hn.reg .CTX_FRAMES_DECODED k rfl]
  · obtain ⟨b1, b2, b3⟩ := blamed_error (s := (s.noted e k st f out.au v.taint).judged k st f out v) (k := k) (q := f.fseq) h1 h2
    rw [handOver_get _ k f.fseq _ _ _ rfl rfl, handOver_get _ k f.fseq _ _ _ rfl rfl, handOver_get _ k f.fseq _ _ _ rfl rfl]
    exact ⟨b1, b2.trans hnow, by rw [← hc]; exact b3⟩
  · obtain ⟨b1, b2⟩ := blamed_shown (s := (s.noted e k st f out.au v.taint).judged k st f out v) (k := k) (q := f.fseq) (he c h1) h1
    rw [handOver_get _ k f.fseq _ _ _ rfl rfl, handOver_get _ k f.fseq _ _ _ rfl rfl]
    exact ⟨b1, b2.trans hc⟩

/-- A frame that is not delivered is dropped, and counted (R228). -/
theorem handOver_dropped_frame (hs : s.stream? k = some st) (hf : f ∈ st.frames) (hv : v.decoded = true → v.hold = false)
    (hd : v.deliver = false) : let t := (s.settledOn e k st f out v).handOver k f.fseq v.deliver
    t.get .CTX_FRAMES_DROPPED k = Num.wrap32 (s.get .CTX_FRAMES_DROPPED k + 1) ∧
      t.HasFrame k f.fseq fun g => g.phase = .dropped := by
  intro t
  obtain ⟨y, hy, hh⟩ := settledOn_hand hs hv e f out
  obtain ⟨g, hg, -⟩ := hh.found hf
  have hgive := giveOut_found hy hg v.deliver
  rw [hd, if_neg Bool.false_ne_true] at hgive
  refine ⟨?_, HasFrame.congr (notDelivered_frame hy (by rw [hg]; rfl) 0) ?_⟩
  · rw [handOver_dropped, hd, hgive, notDelivered_dropped, settledOn_get s e k st f out v _ _ rfl rfl]
  · rw [handOver_stream?, hd, hgive]

/-- A frame that is delivered at a valid geometry is not counted as dropped, and goes on decoded (R228, R240, R257). -/
theorem handOver_delivered (hs : s.stream? k = some st) (hf : f ∈ st.frames) (hv : v.decoded = true → v.hold = false)
    (ht : (st.asTaken f).takes out.au = true) (hd : v.deliver = true) {h : Header} {p : Pipe}
    (ha : (st.asTaken f).active out.au = some h) (hp : st.pipe = some p)
    (hc : ∀ c ∈ p.crops, c.valid h.facts.outW h.facts.outH = true) :
    let t := (s.settledOn e k st f out v).handOver k f.fseq v.deliver
    t.get .CTX_FRAMES_DROPPED k = s.get .CTX_FRAMES_DROPPED k ∧
      (st.frame? f.fseq = some f → f.isDrop = false → st.decimated = false →
        t.HasFrame k f.fseq fun g => g.phase = .decoded ∧ g.delivered = true) := by
  intro t
  obtain ⟨y, hy, hh⟩ := settledOn_hand hs hv e f out
  obtain ⟨g, hg, hdrop⟩ := hh.found hf
  have hb := hh.validSize (by rw [Stream.notedHeader, if_pos (shows_of_takes ht), ha]) hg hp hc
  have hgive := giveOut_found hy hg v.deliver
  rw [hd, if_pos rfl] at hgive
  refine ⟨?_, fun hff hfd hsd => ?_⟩
  · rw [handOver_dropped, hd, hgive, (deliver_kept hy hb).reg .CTX_FRAMES_DROPPED k rfl,
      settledOn_get s e k st f out v _ _ rfl rfl]
  · have hq : g.fseq = f.fseq := frame?_fseq hg
    have hdec := deliver_decoded hy (by rw [hq]; exact hg) ((hdrop hff).trans hfd) hb (hh.decimated.trans hsd)
    rw [hq] at hdec
    exact HasFrame.congr hdec (by rw [handOver_stream?, hd, hgive])

end Done

/-! ## DECODE_OVERRUN (R220, R226, R228) -/

section Overrun

variable {s : State} {e k : Nat} {st : Stream} {f : Frame}

/-- Frame `f` is taken from its engine, noted and its headers accepted. -/
def State.abandoned (s : State) (k e : Nat) (st : Stream) (f : Frame) (au : AuFacts) : State :=
  let s := ((s.endDecode k e f).noteFacts k (st.asTaken f) f au).set .CTX_DEC_FSEQ k f.fseq
  if (st.asTaken f).takes au then s.acceptHeader k (st.asTaken f) f au else s

theorem abandonDecode_eq (s : State) (k e : Nat) (st : Stream) (f : Frame) (au : AuFacts) (c : Nat) : s.abandonDecode k e st f au c =
    (((((s.abandoned k e st f au).decodeError k f.fseq c).set .CTX_TAINTED k 1).notDelivered k f.fseq 0).streamSync k) := rfl

/-- The registers that the taking of the frame writes. -/
def abandonFields (f : Field) : Bool := releaseFields f || noteFields f || acceptFields f || f == .CTX_DEC_FSEQ

theorem releaseFields_abandon (f : Field) (h : releaseFields f = true) : abandonFields f = true := by simp [abandonFields, h]
theorem noteFields_abandon (f : Field) (h : noteFields f = true) : abandonFields f = true := by simp [abandonFields, h]
theorem acceptFields_abandon (f : Field) (h : acceptFields f = true) : abandonFields f = true := by simp [abandonFields, h]

theorem abandoned_steady (s : State) (k e : Nat) (st : Stream) (f : Frame) (au : AuFacts) :
    Steady abandonFields s (s.abandoned k e st f au) := by
  have h := (((endDecode_inHand s k e f).toSteady.mono releaseFields_abandon).trans
    ((noteFacts_steady _ k (st.asTaken f) f au).mono noteFields_abandon)).set .CTX_DEC_FSEQ k f.fseq rfl
  exact (h.trans ((acceptHeader_steady _ k (st.asTaken f) f au).mono acceptFields_abandon)).ite h

theorem abandoned_get (s : State) (k e : Nat) (st : Stream) (f : Frame) (au : AuFacts) :
    (s.abandoned k e st f au).get .DEC_BUSY e = 0 ∧ (s.abandoned k e st f au).get .CTX_DEC_FSEQ k = f.fseq := by
  have hn := noteFacts_steady (s.endDecode k e f) k (st.asTaken f) f au
  have h1 : (((s.endDecode k e f).noteFacts k (st.asTaken f) f au).set .CTX_DEC_FSEQ k f.fseq).get .DEC_BUSY e = 0 := by
    rw [State.get_set_ne _ _ _ _ (by decide), hn.reg .DEC_BUSY e rfl, (endDecode_get s k e f).1]
  have h2 : (((s.endDecode k e f).noteFacts k (st.asTaken f) f au).set .CTX_DEC_FSEQ k f.fseq).get .CTX_DEC_FSEQ k = f.fseq :=
    State.get_set_self _ _ _ _
  unfold State.abandoned
  generalize ((s.endDecode k e f).noteFacts k (st.asTaken f) f au).set .CTX_DEC_FSEQ k f.fseq = u at h1 h2
  dsimp only
  split
  · have ha := acceptHeader_steady u k (st.asTaken f) f au
    exact ⟨(ha.reg .DEC_BUSY e rfl).trans h1, (ha.reg .CTX_DEC_FSEQ k rfl).trans h2⟩
  · exact ⟨h1, h2⟩

/-- A frame abandoned with error `c`: its engine is free, the error counts, the stream is tainted, the frame dropped (R220, R226). -/
theorem abandonDecode_get (s : State) (k e : Nat) (st : Stream) (f : Frame) (au : AuFacts) (c : Nat) :
    let t := settle (s.abandonDecode k e st f au c)
    t.get .DEC_BUSY e = 0 ∧ t.get .CTX_LAST_ERROR k = c ∧ t.get .CTX_TAINTED k = 1 ∧
      t.get .CTX_ERR_COUNT k = Num.wrap32 (s.get .CTX_ERR_COUNT k + 1) ∧ t.get .CTX_DEC_FSEQ k = f.fseq ∧
      t.get .CTX_FRAMES_DROPPED k = Num.wrap32 (s.get .CTX_FRAMES_DROPPED k + 1) := by
  intro t
  have ha := abandoned_steady s k e st f au
  obtain ⟨a1, a2⟩ := abandoned_get s k e st f au
  have ht : t = settle (((((s.abandoned k e st f au).decodeError k f.fseq c).set .CTX_TAINTED k 1).notDelivered k f.fseq
    0).streamSync k) := congrArg settle (abandonDecode_eq s k e st f au c)
  generalize s.abandoned k e st f au = u at ha a1 a2 ht
  have he := decodeError_inHand u k f.fseq c
  obtain ⟨e1, -, e3⟩ := decodeError_get u k f.fseq c
  generalize u.decodeError k f.fseq c = w at he e1 e3 ht
  have hsync : ∀ g i, syncFields g = false → settleFields g = false →
      t.get g i = ((w.set .CTX_TAINTED k 1).notDelivered k f.fseq 0).get g i := fun g i h1 h2 => by
    rw [ht, settle_get _ _ _ h2, (streamSync_onRegs _ k).keeps.1 g i h1]
  have hreg : ∀ g i, giveFields g = false → settleFields g = false → g ≠ .CTX_TAINTED → t.get g i = w.get g i :=
    fun g i h1 h2 h3 => by
      rw [hsync g i (by simp_all [giveFields]) h2, (notDelivered_steady _ k f.fseq 0).reg g i h1, State.get_set_ne _ _ _ _ h3]
  refine ⟨?_, ?_, ?_, ?_, ?_, ?_⟩
  · rw [hreg _ _ rfl rfl (by decide), he.reg .DEC_BUSY e rfl, a1]
  · rw [hreg _ _ rfl rfl (by decide), e1]
  · rw [hsync _ _ rfl rfl, (notDelivered_steady _ k f.fseq 0).reg .CTX_TAINTED k rfl, State.get_set_self]
  · rw [hreg _ _ rfl rfl (by decide), e3, ha.reg .CTX_ERR_COUNT k rfl]
  · rw [hreg _ _ rfl rfl (by decide), he.reg .CTX_DEC_FSEQ k rfl, a2]
  · rw [hsync _ _ rfl rfl, notDelivered_dropped, State.get_set_ne _ _ _ _ (by decide), he.reg .CTX_FRAMES_DROPPED k rfl,
      ha.reg .CTX_FRAMES_DROPPED k rfl]

theorem decodeOverrun_exec (hi : s.inDecode e = some (k, st, f)) (hr : s.enginesRun = true) {au : AuFacts}
    (hfit : au.fits st.codec = true) (ht : (st.asTaken f).takes au = true)
    (hj : ∃ j ∈ s.jobs, j.unit = some (.dec e) ∧ j.since + 4 * Num.cdiv (codedBound st.codec st.maxW st.maxH) 500 ≤ s.now) :
    exec (.decodeOverrun e au) s = .next (settle (s.abandonDecode k e st f au 0x0109)) := by
  have hany : (s.jobs.any fun j => j.unit == some (.dec e) &&
      decide (j.since + 4 * Num.cdiv (codedBound st.codec st.maxW st.maxH) 500 ≤ s.now)) = true := by
    obtain ⟨j, hm, hu, hl⟩ := hj
    exact List.any_eq_true.mpr ⟨j, hm, by simp [hu, hl]⟩
  change execDecodeOverrun e au s = _
  simp only [execDecodeOverrun, hi, hr, hfit, ht, hany, Bool.and_self, doneIf_true]

end Overrun

/-- Settles O51: a decode's start, the stages of its end, and its overrun, each by what it writes and what it leaves of the stream. -/
theorem decodeCompletes : Obligations.DecodeCompletes := by
  unfold Obligations.DecodeCompletes
  intro s e k st f hr hs
  refine ⟨fun he hk hn => decodeStart_completes hr hs he hk hn, fun hi => ⟨fun out hin hfit => ?_, fun au hfit ht hj => ?_⟩⟩
  · have hf := inDecode_mem hi
    have hv : (s.verdictOn k st f out).decoded = true → (s.verdictOn k st f out).hold = false := verdictOn_hold
    obtain ⟨h1, h2, h3, h4, h5, h6⟩ := handOver_shows (e := e) (f := f) (out := out) hv hs
    obtain ⟨c1, c2, c3, c4⟩ := handOver_counts (s := s) (e := e) (k := k) (st := st) (f := f) (out := out)
      (v := s.verdictOn k st f out) fun _ hc => poisoned_shown hc
    refine ⟨_, decodeDone_exec hi hr hin hfit, h1, h2, h3, h4, h5, c1, c2, c3, c4, h6, fun hd => ?_, fun hd h p ha hp hc => ?_⟩
    · obtain ⟨d1, d2⟩ := handOver_dropped_frame (e := e) (out := out) hs hf hv hd
      exact ⟨d1, fun _ => d2⟩
    · exact handOver_delivered (e := e) hs hf hv (poisoned_taken hd) hd ha hp hc
  · exact ⟨_, decodeOverrun_exec hi hr hfit ht hj, abandonDecode_get s k e st f au 0x0109⟩

end Sys2Proof.Machine
end

section
/-! The registers that follow the state (R61, R62, R90, R123, R302, R303): every command that takes effect ends by bringing them up to
the state, and no other command changes it. -/

namespace Sys2Proof.Machine

/-! ## The conditions of certification stand through the ending of a command (R61) -/

/-- A key of META_POLICY is written. -/
def State.policySet (s : State) : Bool := s.fields.any fun e => e.1 % 512 == Field.META_POLICY.ctorIdx

theorem any_key_put {α : Type} (P : Nat → Bool) {k : Nat} (hk : P k = false) (v : α) (m : List (Nat × α)) :
    (Tab.put k v m).any (fun e => P e.1) = m.any fun e => P e.1 := by
  induction m with
  | nil => simp [Tab.put, hk]
  | cons e m ih =>
    simp only [Tab.put]
    split
    · simp [hk]
    · split
      · next h => subst h; simp
      · simp [ih]

theorem any_key_del {α : Type} (P : Nat → Bool) {k : Nat} (hk : P k = false) (m : List (Nat × α)) :
    (Tab.del k m).any (fun e => P e.1) = m.any fun e => P e.1 := by
  induction m with
  | nil => rfl
  | cons e m ih =>
    simp only [Tab.del]
    split
    · next h => subst h; simp [ih, hk]
    · simp [ih]

theorem Field.key_mod (f : Field) (i : Nat) : f.key i % 512 = f.ctorIdx := by
  have := f.ctorIdx_lt
  simp only [Field.key]
  omega

theorem policySet_set (s : State) {f : Field} (i v : Nat) (h : f ≠ .META_POLICY) : (s.set f i v).policySet = s.policySet := by
  have hk : (f.key i % 512 == Field.META_POLICY.ctorIdx) = false := by
    rw [Field.key_mod, beq_eq_false_iff_ne]
    exact fun e => h (Field.eq_of_ctorIdx e)
  simp only [State.policySet, State.set, Tab.putD]
  split
  · exact any_key_del (fun k => k % 512 == Field.META_POLICY.ctorIdx) hk s.fields
  · exact any_key_put (fun k => k % 512 == Field.META_POLICY.ctorIdx) hk v s.fields

theorem signal_policySet (s : State) (v : Nat) : (s.signal v).policySet = s.policySet := by
  have hd : s.discard.policySet = s.policySet := by
    unfold State.discard State.sat
    dsimp only
    split <;> simp only [policySet_set, ne_eq, reduceCtorEq, not_false_eq_true]
  unfold State.signal State.post
  split
  · rfl
  · split
    · exact hd
    · split <;> rfl

theorem irq_policySet (s : State) {r : Field} (e : Field) (i b v : Nat) (h : r ≠ .META_POLICY) :
    (s.irq r e i b v).policySet = s.policySet := by
  unfold State.irq
  dsimp only
  split
  · rw [signal_policySet, policySet_set _ _ _ h]
  · exact policySet_set _ _ _ h

theorem certSync_policySet (s : State) : s.certSync.policySet = s.policySet := by
  unfold State.certSync
  dsimp only
  split
  · simp only [policySet_set, ne_eq, reduceCtorEq, not_false_eq_true]
  · rw [irq_policySet _ _ _ _ _ (by decide)]
    simp only [policySet_set, ne_eq, reduceCtorEq, not_false_eq_true]

/-- CERT_STATE's conditions do not read what reporting them writes. -/
theorem certSync_certReason (s : State) : s.certSync.certReason = s.certReason := by
  have k := certSync_frame s
  have hp : s.certSync.fields.any (fun e => e.1 % 512 == Field.META_POLICY.ctorIdx) =
    s.fields.any (fun e => e.1 % 512 == Field.META_POLICY.ctorIdx) := certSync_policySet s
  simp only [State.certReason, k.certSensed, k.fuses, k.fwCertified, hp, k.1 .SOOT_PRECLEAR 0 rfl, k.1 .SOOT_LOCK 0 rfl,
    k.1 .SOOT_TAGSTORE_READY 0 rfl, k.1 .SOOT_SRAM_READY 0 rfl]

theorem certSync_cert (s : State) : s.certSync.get .CERT_REASON = s.certReason ∧
    s.certSync.get .CERT_CERTIFIED = Num.b2n (s.certReason == 0) ∧
    s.certSync.get .CERT_LIFETIME_OUT = Num.b2n (s.certReason % 4 != 0) := by
  have hi : ∀ (u : State) (f : Field), linkCounts f = false → f ≠ .SEC_SOOT_IRQ →
      (u.irq .SEC_SOOT_IRQ .SEC_SOOT_IRQ_EN 0 1 1).get f = u.get f := fun u f hl hf => irq_get_ne u _ _ _ _ _ 0 hl hf
  unfold State.certSync
  dsimp only
  split
  · simp [State.get_set]
  · rw [hi _ .CERT_REASON rfl (by decide), hi _ .CERT_CERTIFIED rfl (by decide), hi _ .CERT_LIFETIME_OUT rfl (by decide)]
    simp [State.get_set]

/-! ## The ending of a command brings the registers up to the state -/

theorem countSync_counts (s : State) : s.countSync.get .FLU_FENCED = Num.b2n s.fencedReg ∧
    s.countSync.get .SCH_JOBS = s.jobs.countP Job.entry ∧
    s.countSync.get .SCH_PKT_JOBS = s.jobs.countP (fun j => j.entry && j.pkt.isSome) ∧
    s.countSync.get .PGR_RESIDENT = s.pageSlots.length ∧
    s.countSync.get .PGR_MODELS = s.objects.countP (fun o => !o.2.isTree) ∧
    s.countSync.get .PGR_ENSEMBLES = s.objects.countP (fun o => o.2.isTree) ∧
    s.countSync.get .DS_DB_LATCHED = Num.b2n (!s.dbLatch.isEmpty) := by
  simp [State.countSync, State.get_set]

theorem fencedReg_keeps {F : Field → Bool} {s t : State} (k : Keeps F s t) (hr : F .ROLE = false) (hl : F .LEASE_VALID = false) :
    t.fencedReg = s.fencedReg := by
  simp only [State.fencedReg, State.role, k.1 _ _ hr, k.1 _ _ hl]

theorem settle_settled (s : State) : (settle s).Settled := by
  obtain ⟨hf, hj, hp, hr, hm, he, hd⟩ := countSync_counts s
  obtain ⟨c1, c2, c3⟩ := certSync_cert s.countSync
  have hc : ∀ f : Field, linkCounts f = false → f ∉ [Field.CERT_REASON, .CERT_LIFETIME_OUT, .CERT_CERTIFIED, .SEC_SOOT_IRQ] →
      (settle s).get f = s.countSync.get f := fun f hl h => certSync_get _ f 0 hl h
  have hq : (settle s).certReason = s.countSync.certReason := certSync_certReason _
  unfold State.Settled
  rw [hc _ rfl (by decide), hc _ rfl (by decide), hc _ rfl (by decide), hc _ rfl (by decide), hc _ rfl (by decide),
    hc _ rfl (by decide), hc _ rfl (by decide), fencedReg_keeps (settle_frame s) rfl rfl, settle_jobs, settle_pageSlots,
    settle_objects, settle_dbLatch, hq]
  exact ⟨hf, hj, hp, hr, hm, he, hd, c1, c2, c3⟩

/-! ## How every command ends -/

/-- A command of result `r` on `s` leaves `s`, or answers a state that its ending has brought up to date. -/
def Ends (s : State) (r : Result) : Prop := ∀ t, r = .next t → t = s ∨ ∃ u, t = settle u

variable {s : State}

theorem Ends.next (s : State) : Ends s (.next s) := by
  rintro t ⟨⟩
  exact .inl rfl

theorem Ends.done (s u : State) : Ends s (done u) := by
  rintro t ⟨⟩
  exact .inr ⟨u, rfl⟩

theorem Ends.fault (s : State) (e : Fault) : Ends s (.fault e) := by
  rintro t ⟨⟩

theorem Ends.ite {c : Prop} [Decidable c] {a b : Result} (ha : Ends s a) (hb : Ends s b) : Ends s (if c then a else b) := by
  split
  · exact ha
  · exact hb

theorem Ends.doneIf (s : State) (b : Bool) (u : State) : Ends s (doneIf s b u) := .ite (.done s u) (.next s)

theorem Ends.startPkt (op : Nat) (body : State → Pkt → State) (s : State) : Ends s (startPkt op body s) := by
  unfold Machine.startPkt
  split
  · exact .next s
  · exact .ite (.done s _) (.next s)

theorem Ends.startRead (op : Nat) (pre : State → Pkt → List (Bool × Reply)) (job : Pkt → Option Nat)
    (src : Pkt → Option (Nat × Nat)) (body : State → Pkt → State) (s : State) : Ends s (startRead op pre job src body s) := by
  unfold Machine.startRead
  split
  · exact .done s _
  · split
    · exact .next s
    · exact .ite (.next s) (.ite (.done s _) (.ite (.done s _) (.done s _)))

theorem Ends.hostAct (s : State) (f : State → State) : Ends s (hostAct s f) := .doneIf s _ _

theorem Ends.hostAsk (off : Nat) (s : State) (f : State → State) : Ends s (hostAsk off s f) := .doneIf s _ _

theorem Ends.hostReg (off v : Nat) (s : State) : Ends s (hostReg off v s) := .hostAct s _

theorem Ends.clientReg (r c v : Nat) (s : State) : Ends s (clientReg r c v s) := .ite (.fault s _) (.hostReg _ v s)

theorem Ends.readReg (off width : Nat) (s : State) : Ends s (readReg off width s) := .ite (.fault s _) (.hostAsk off s _)

theorem Ends.wdgReg (r w v : Nat) (byHost : Bool) (own : State → State) (s : State) : Ends s (wdgReg r w v byHost own s) :=
  .ite (.fault s _) (.ite (.hostReg _ v s) (.doneIf s _ _))

theorem Ends.oddAccess (bar : Nat) (write : Bool) (off bytes be : Nat) (s : State) : Ends s (oddAccess bar write off bytes be s) :=
  .ite (.ite (.next s) (.hostAct s _)) (.ite (.hostAsk off s _) (.hostAsk off s _))

theorem Ends.onChannel (s : State) (c : Nat) (b : Bool) (u : State) : Ends s (onChannel s c b u) := .ite (.fault s _) (.doneIf s _ u)

theorem Ends.onFrame (s : State) (cls : Nat) (ok : Bool) (body : State → State) : Ends s (onFrame s cls ok body) := .doneIf s _ _

theorem Ends.unitFaultCmd (s : State) (src : Nat) (b : Bool) (u : State) : Ends s (unitFaultCmd s src b u) :=
  .ite (.done s _) (.doneIf s _ u)

theorem Ends.trainAdvance (s : State) (t : Training) (lanes : Nat) : Ends s (s.trainAdvance t lanes) := by
  unfold State.trainAdvance
  refine .ite (.doneIf s _ _) ?_
  split
  · exact .next s
  · split
    · exact .next s
    · exact .doneIf s _ _
/-- Every command ends so: its packet starts, its copy waits, its register is reached or its event has occasion, and it takes effect;
elsewhere nothing changes. -/
theorem exec_ends (c : Instr) (s : State) : Ends s (exec c s) := by
  cases c <;> unfold exec
  case nop | fenceDestroy | fenceSignal | fenceWait | barrier | metadataRingSet | streamOpen | streamFeed | streamFlush |
      streamClose | streamReconfig | modelLoad | treeLoad | modelUnload | treeUnload | pipelineUnbind | scrub | mirrorConfig |
      pairBind | pairRole | bayControl | clientReset | powerSet | updateBegin | updateVerify | updateActivate | updateConfirm =>
    exact .startPkt _ _ s
  case flueConfig | pipelineBind | debugToken | attest | updateChunk | healthQuery => exact .startRead _ _ _ _ _ s
  case clientEnableWrite | cplFenceWrite | metaTailWrite => exact .clientReg _ _ _ s
  case evuRingCtrlWrite | evuRingTailWrite | warmResetWrite | debugEndWrite | labArmWrite | wrenRetrainWrite | wrenWidthReq |
      cleanEighthsWrite => exact .hostReg _ _ s
  case mirrorResyncWrite => exact .ite (.fault s _) (.hostReg _ _ s)
  case irqEnableWrite => exact .ite (.hostReg _ _ s) (.fault s _)
  case wdgCheckin | wdgPeriodWrite | wdgEnableWrite => exact .wdgReg _ _ _ _ _ s
  case commandDoorbell | completionDoorbell | clientFlush => exact .ite (.fault s _) (.hostAct s _)
  case shadowLowRead | shadowHighRead => exact .readReg _ _ s
  case creditRx | tickRx | pingRx | pairFrameRx | keyFrameRx | faultFrameRx | mirrorFrameRx | epochFrameRx =>
    exact .onFrame s _ _ _
  case retrainReqRx => exact .ite (.doneIf s _ _) (.onFrame s _ _ _)
  case dramAgePromotion | dramTempRead | trackingPass | patrolRead | tagWordUe | runtimeRetrainDone => exact .onChannel s _ _ _
  case dramCe => exact .ite (.fault s _) (.onChannel s _ _ _)
  case dramUe => exact .ite (.fault s _) (.ite (.done s _) (.onChannel s _ _ _))
  case decodeEngineFault | treeLaneFault | mirrorEncoderFault => exact .ite (.fault s _) (.unitFaultCmd s _ _ _)
  case computeUnitFault => exact .unitFaultCmd s _ _ _
  case packetFetch | stagingStoreUe | bayInputDebounced | tamper | clockLoss | pwrokRise | linkWidthReduce | wrenEqAdapt |
      wrenEyeMeasure | supplyRailClear => exact .ite (.fault s _) (.doneIf s _ _)
  case fenceCreate => exact .ite (.next s) (.startPkt _ _ s)
  case coldReset | powerOnReset => exact .ite (.done s _) (.next s)
  case smbusRead => exact .ite (.done s _) (.ite (.done s _) (.done s _))
  case jtagAccess => exact .ite (.next s) (.ite (.done s _) (.done s _))
  case supplyWarn => exact .ite (.fault s _) (.ite (.done s _) (.ite (.doneIf s _ _) (.doneIf s _ _)))
  case hostLinkUp => exact .ite (.doneIf s _ _) (.doneIf s _ _)
  case wrenLinkDown => exact .ite (.done s _) (.doneIf s _ _)
  case registerWrite =>
    exact .ite (.fault s _) (.ite (.ite (.doneIf s _ _) (.fault s _)) (.hostAct s _))
  case registerReadClear =>
    exact .ite (.fault s _) (.ite (.ite (.doneIf s _ _) (.fault s _)) (.ite (.ite (.readReg _ _ s) (.ite (.fault s _)
      (.hostAsk _ s _))) (.fault s _)))
  case admissionRecompute | selftestDone | thermalTrip | wrenCreditSend | wrenTickSend | wrenAutoPropose | laneLockLoss |
      wrenKeepaliveExpire | rekeyStart | wrenFrameReject | takeoverRollDone | leaseExpire | bayPowerTimeout | bayPerstRelease |
      bayPwrenDrop | bayPoweroffEnd | bayPerstPulseEnd | bayLedToggle | clientResetDone | hotReset | aonValid | resetRelease |
      functionLevelReset | sramZeroDone | hostLinkDown | dlUpReturn | busMasterEnableWrite | powerWake | pmcsrD3hot |
      pmcsrD0Write | debugSessionExpire | trngHealthFail | avsOffsetRaise | hltIntervalEnd | governorRecompute | ageingSample |
      tick | tapReset => exact .doneIf s _ _
  case eventGroup | degradeUndo | decodeDone | decodeOverrun | epochStart | snapshotDeadline | jobEntryGrant | jobIssue |
      jobComplete | tileStoreUe | modelLoadCopyDone | treeLoadCopyDone | batchEnqueue | preprocessFault | scrubDone |
      mirrorEncodeDone | mirrorDecodeDone | trainCfgRx | pairHandshakeDone | pwrdnReq | powerTransitionStart | fwRestartDone |
      warningStateClear | breachLogAppend =>
    simp only [execEventGroup, execDegradeUndo, execDecodeDone, execDecodeOverrun, execEpochStart, execSnapshotDeadline,
      execJobEntryGrant, execJobIssue, execJobComplete, execTileStoreUe, execModelLoadCopyDone, execTreeLoadCopyDone,
      execBatchEnqueue, execPreprocessFault, execScrubDone, execMirrorEncodeDone, execMirrorDecodeDone, execTrainCfgRx,
      execPairHandshakeDone, execPwrdnReq, execPowerTransitionStart, execFwRestartDone, execWarningStateClear,
      execBreachLogAppend]
    split
    · exact .next s
    · exact .doneIf s _ _
  case fenceWaitTimeout | barrierComplete | fetchRetry | fluePass | feedCopyDone | streamCloseComplete | decodeStart |
      frameDeadline | pageStageStart | pageStageDone | pipelineUnbindDone | preprocessStart | wrenFrameTx | widthWindowEnd |
      pairBindTimeout | flrComplete | bootStepDone | linkRecovery | msixUnblock | wakeComplete | trialConfirmTimeout |
      wdgPeriodEnd | wdgPrewarn | deviceReadFail | badBarAccess | wrenTrainAdvance =>
    simp only [execFenceWaitTimeout, execBarrierComplete, execFetchRetry, execFluePass, execFeedCopyDone,
      execStreamCloseComplete, execDecodeStart, execFrameDeadline, execPageStageStart, execPageStageDone,
      execPipelineUnbindDone, execPreprocessStart, execWrenFrameTx, execWidthWindowEnd, execPairBindTimeout, execFlrComplete,
      execBootStepDone, execLinkRecovery, execMsixUnblock, execWakeComplete, execTrialConfirmTimeout, execWdgPeriodEnd,
      execWdgPrewarn, execDeviceReadFail, execBadBarAccess, execWrenTrainAdvance]
    (repeat' split) <;> simp only [Ends.next, Ends.done, Ends.doneIf, Ends.fault, Ends.oddAccess, Ends.trainAdvance]

/-- Settles O3: a command's ending settles the state it answers, and a command that has no effect answers the state it found. -/
theorem stepKeepsSettled : Obligations.StepKeepsSettled := by
  unfold Obligations.StepKeepsSettled
  intro s t hs ht
  cases hp : s.pending with
  | nil =>
    simp only [step, hp, Host.Outcome.next.injEq] at ht
    exact ht ▸ hs
  | cons c rest =>
    simp only [step, hp] at ht
    obtain rfl | ⟨u, rfl⟩ := exec_ends c { s with pending := rest } t ht
    · exact hs
    · exact settle_settled u

end Sys2Proof.Machine
end

section
/-! Bytes of device memory and intervals of granules (R38, R42, R44): what is read after a write, after zeroes, and after tags rise or
clear. -/

namespace Sys2Proof.Tab

variable {α : Type}

theorem find?_append (x : Nat) (m n : List (Nat × α)) : find? x (m ++ n) = (find? x m).or (find? x n) := by
  induction m with
  | nil => rfl
  | cons e m ih =>
    simp only [List.cons_append, find?]
    split
    · rfl
    · exact ih

/-- Entries are kept or removed by their keys alone. -/
theorem find?_filter_key (P : Nat → Bool) (x : Nat) (m : List (Nat × α)) :
    find? x (m.filter fun e => P e.1) = if P x then find? x m else none := by
  induction m with
  | nil => simp [find?]
  | cons e m ih =>
    by_cases he : P e.1 = true
    · by_cases hx : e.1 = x
      · subst hx
        simp [find?, he]
      · simp [find?, he, hx, ih]
    · by_cases hx : e.1 = x
      · subst hx
        simp [he, ih]
      · simp [find?, he, hx, ih]

end Sys2Proof.Tab

namespace Sys2Proof.ISet

/-- What is removed is not there, and nothing comes in by it. -/
theorem mem_remove (lo hi x : Nat) (m : List (Nat × Nat)) :
    mem x (remove lo hi m) = (mem x m && !(decide (lo ≤ x) && decide (x < hi))) := by
  rw [Bool.eq_iff_iff]
  simp only [mem, remove, List.any_eq_true, List.mem_flatMap, List.mem_append, List.mem_ite_nil_right, List.mem_singleton,
    Bool.and_eq_true, decide_eq_true_eq, Bool.not_eq_true', Bool.and_eq_false_iff, decide_eq_false_iff_not]
  constructor
  · rintro ⟨q, ⟨p, hp, ⟨hc, rfl⟩ | ⟨hc, rfl⟩⟩, h1, h2⟩
    · exact ⟨⟨p, hp, h1, by omega⟩, by omega⟩
    · exact ⟨⟨p, hp, by omega, h2⟩, by omega⟩
  · rintro ⟨⟨p, hp, h1, h2⟩, h⟩
    by_cases hx : x < lo
    · exact ⟨(p.1, min p.2 lo), ⟨p, hp, .inl ⟨by omega, rfl⟩⟩, h1, by omega⟩
    · exact ⟨(max p.1 hi, p.2), ⟨p, hp, .inr ⟨by omega, rfl⟩⟩, by omega, h2⟩

theorem mem_place (lo hi x : Nat) (m : List (Nat × Nat)) (h : (lo ≤ x ∧ x < hi) ∨ mem x m = true) : mem x (place lo hi m) = true := by
  induction m generalizing lo hi with
  | nil => simpa [place, mem] using h
  | cons e m ih =>
    obtain ⟨a, b⟩ := e
    have hc : mem x ((a, b) :: m) = true ↔ (a ≤ x ∧ x < b) ∨ mem x m = true := by simp [mem]
    rw [hc] at h
    simp only [place]
    split
    · simp only [mem, List.any_cons, Bool.or_eq_true, Bool.and_eq_true, decide_eq_true_eq] at h ⊢
      exact h
    · split
      · have ih' := ih lo hi
        simp only [mem, List.any_cons, Bool.or_eq_true, Bool.and_eq_true, decide_eq_true_eq] at h ih' ⊢
        tauto
      · refine ih _ _ ?_
        obtain h | h | h := h
        · exact .inl (by omega)
        · exact .inl (by omega)
        · exact .inr h

/-- What is added is there, and what was there stays. -/
theorem mem_add (lo hi x : Nat) (m : List (Nat × Nat)) (h : (lo ≤ x ∧ x < hi) ∨ mem x m = true) : mem x (add lo hi m) = true := by
  unfold add
  split
  · exact mem_place lo hi x m h
  · exact h.resolve_left (by omega)

end Sys2Proof.ISet

namespace Sys2Proof.Machine

/-! ## A byte as it was last written (R38, R42) -/

theorem find?_memCells_below (a x : Nat) (bs : Bytes) (h : x < a) : Tab.find? x (memCells a bs) = none := by
  induction bs generalizing a with
  | nil => rfl
  | cons b bs ih =>
    simp only [memCells]
    split
    · exact ih (a + 1) (by omega)
    · simp only [Tab.find?]
      rw [if_neg (by omega)]
      exact ih (a + 1) (by omega)

theorem find?_memCells_above (a x : Nat) (bs : Bytes) (h : a + bs.length ≤ x) : Tab.find? x (memCells a bs) = none := by
  induction bs generalizing a with
  | nil => rfl
  | cons b bs ih =>
    simp only [List.length_cons] at h
    simp only [memCells]
    split
    · exact ih (a + 1) (by omega)
    · simp only [Tab.find?]
      rw [if_neg (by omega)]
      exact ih (a + 1) (by omega)

theorem memByte_memCells (a i : Nat) (bs : Bytes) (h : i < bs.length) : memByte (memCells a bs) (a + i) = bs.getD i 0#8 := by
  induction bs generalizing a i with
  | nil => simp at h
  | cons b bs ih =>
    cases i with
    | zero =>
      simp only [memCells]
      split
      · next hb =>
        simp only [memByte, Tab.getD]
        rw [find?_memCells_below (a + 1) (a + 0) bs (by omega)]
        simp [hb]
      · simp [memByte, Tab.getD, Tab.find?]
    | succ i =>
      have hi := ih (a + 1) i (by simpa using h)
      rw [show a + 1 + i = a + (i + 1) by omega] at hi
      simp only [memCells, List.getD_cons_succ]
      split
      · exact hi
      · rw [← hi]
        simp only [memByte, Tab.getD, Tab.find?]
        rw [if_neg (by omega)]

theorem memByte_memWrite_inside (m : Mem) (a i : Nat) (bs : Bytes) (h : i < bs.length) :
    memByte (memWrite m a bs) (a + i) = bs.getD i 0#8 := by
  rw [← memByte_memCells a i bs h]
  simp only [memByte, Tab.getD, memWrite, Tab.find?_append]
  rw [Tab.find?_filter_key (fun k => decide (k < a)), Tab.find?_filter_key (fun k => decide (a + bs.length ≤ k))]
  rw [if_neg (by simp), if_neg (by simp; omega)]
  simp

theorem memByte_memWrite_outside (m : Mem) (a x : Nat) (bs : Bytes) (h : x < a ∨ a + bs.length ≤ x) :
    memByte (memWrite m a bs) x = memByte m x := by
  simp only [memByte, Tab.getD, memWrite, Tab.find?_append]
  rw [Tab.find?_filter_key (fun k => decide (k < a)), Tab.find?_filter_key (fun k => decide (a + bs.length ≤ k))]
  obtain h | h := h
  · rw [find?_memCells_below a x bs h, if_pos (by simpa using h), if_neg (by simp; omega)]
    simp
  · rw [find?_memCells_above a x bs h, if_neg (by simp; omega), if_pos (by simpa using h)]
    simp

theorem memByte_memZero (m : Mem) (lo hi x : Nat) :
    memByte (memZero m lo hi) x = if lo ≤ x ∧ x < hi then 0#8 else memByte m x := by
  simp only [memByte, Tab.getD, memZero]
  rw [Tab.find?_filter_key (fun k => decide (k < lo) || decide (hi ≤ k))]
  by_cases h : lo ≤ x ∧ x < hi
  · rw [if_pos h, if_neg (by simp; omega)]
    rfl
  · rw [if_neg h, if_pos (by simp; omega)]

/-- Settles O15: a write lists the written bytes between those below and those above it, and zeroing unlists its range. -/
theorem memoryReadsAsWritten : Obligations.MemoryReadsAsWritten := by
  unfold Obligations.MemoryReadsAsWritten
  refine fun m => ⟨fun a bs => ⟨fun i => memByte_memWrite_inside m a i bs, fun x => memByte_memWrite_outside m a x bs⟩, fun lo hi => ⟨?_, ?_⟩⟩
  · intro x h1 h2
    rw [memByte_memZero, if_pos ⟨h1, h2⟩]
  · intro x h
    rw [memByte_memZero, if_neg (by omega)]

end Sys2Proof.Machine
end

section
/-! What waits for a packet (R158, R282): replies to other packets leave the packet in flight, its jobs and its transfer. -/

namespace Sys2Proof.Machine

/-- The jobs of packet `id`, and its transfer. -/
def State.workOf (s : State) (id : Nat) : List Job × List HostRead :=
  (s.jobs.filter fun j => j.pkt == some id, s.reads.filter fun r => r.pkt == id)

/-- The packets of number `id`, and what waits for them. -/
def State.waitOf (s : State) (id : Nat) : List Pkt × List Job × List HostRead := (s.pktsOf id, s.workOf id)

theorem workOf_congr {s t : State} (hj : t.jobs = s.jobs) (hr : t.reads = s.reads) (id : Nat) : t.workOf id = s.workOf id := by
  rw [State.workOf, hj, hr, State.workOf]

theorem SignalOnly.waitOf {s t : State} (h : SignalOnly s t) (id : Nat) : t.waitOf id = s.waitOf id := by
  obtain ⟨hp, -, -, hj, hr, -⟩ := h
  rw [State.waitOf, pktsOf_congr hp, workOf_congr hj hr, State.waitOf]

theorem post_workOf (s : State) (x : Egress) (id : Nat) : (s.post x).workOf id = s.workOf id := by
  unfold State.post
  split <;> rfl

theorem capture_workOf (s : State) (c src d0 d1 d2 id : Nat) : (s.capture c src d0 d1 d2).workOf id = s.workOf id := by
  unfold State.capture
  dsimp only
  split <;> split <;> rfl

theorem discard_workOf (s : State) (id : Nat) : s.discard.workOf id = s.workOf id :=
  workOf_congr (discard_only s).2.2.2.1 (discard_only s).2.2.2.2.1 id

theorem putReply_workOf (s : State) (c tag tick : Nat) (r : Reply) (id : Nat) : (s.putReply c tag tick r).workOf id = s.workOf id := by
  have hc := capture_workOf s 14 c 0 0 0 id
  unfold State.putReply
  dsimp only
  split
  · exact hc
  · split
    · rw [discard_workOf]
      exact hc
    · rw [post_workOf]
      exact hc

theorem answer_workOf (s : State) {w id : Nat} (hne : w ≠ id) (tick : Nat) (p : Pkt) (r : Reply) :
    (s.answer w tick p r).workOf id = s.workOf id := by
  rw [State.answer, putReply_workOf]
  simp only [State.workOf, State.set_jobs, State.set_reads, List.filter_filter, Prod.mk.injEq, true_and]
  refine List.filter_congr fun q _ => ?_
  by_cases hq : q.pkt = id <;> simp [hq, hne.symm]

theorem writeback_workOf (s : State) (c id : Nat) : (s.writeback c).workOf id = s.workOf id := by
  unfold State.writeback
  split
  · rfl
  · split
    · exact discard_workOf s id
    · exact post_workOf s _ id

theorem fenceBump_workOf (s : State) (h id : Nat) : (s.fenceBump h).workOf id = s.workOf id := by
  unfold State.fenceBump
  split <;> rfl

theorem replySignal_workOf (s : State) (p : Pkt) (r : Reply) (id : Nat) : (s.replySignal p r).workOf id = s.workOf id := by
  unfold State.replySignal
  split
  · exact workOf_congr (signal_only s _).2.2.2.1 (signal_only s _).2.2.2.2.1 id
  · rfl

theorem State.NoWait.congr {s t : State} {id : Nat} (hn : s.NoWait id) (h : t.pktsOf id = s.pktsOf id) : t.NoWait id := by
  unfold State.NoWait
  rw [h]
  exact hn

theorem completeN_workOf (n : Nat) {s : State} {w id : Nat} (hne : w ≠ id) (hn : s.NoWait id) (tick : Nat) (r : Reply) :
    (completeN n s w tick r).workOf id = s.workOf id := by
  induction n generalizing s w tick r with
  | zero => rfl
  | succ n ih =>
    cases hp : s.pkt? w with
    | none => simp only [completeN, hp]
    | some p =>
      have hv : ((s.answer w tick p r).writeback p.client).workOf id = s.workOf id :=
        (writeback_workOf _ _ id).trans (answer_workOf s hne tick p r)
      have hv' : ((s.answer w tick p r).writeback p.client).pktsOf id = s.pktsOf id :=
        (pktsOf_congr (writeback_packets _ _) id).trans (answer_pktsOf s hne tick p r)
      have hfold : ∀ (l : List Nat) (v : State) (m : Nat) (q : Reply), (∀ w ∈ l, w ≠ id) → v.NoWait id →
          (l.foldl (fun u w => completeN n u w m q) v).workOf id = v.workOf id := by
        intro l
        induction l with
        | nil => intro v m q _ _; rfl
        | cons a l ihl =>
          intro v m q hl hv
          have ha := hl a List.mem_cons_self
          rw [List.foldl_cons, ihl _ m q (fun w hw => hl w (List.mem_cons_of_mem _ hw)) (hv.congr (completeN_pktsOf n ha hv m q)),
            ih ha hv m q]
      simp only [completeN, hp]
      rw [replySignal_workOf]
      split
      · have hb : ∀ h, (((s.answer w tick p r).writeback p.client).fenceBump h).NoWait id := fun h =>
          (hn.congr hv').congr (pktsOf_congr (fenceBump_packets _ h) id)
        rw [hfold _ _ _ _ (fun x hx => ne_of_mem_readyWaits (hb _) hx) (hb _), fenceBump_workOf, hv]
      · exact hv

/-- The completion of another packet leaves what waits for packet `id`, unless it waits on a fence. -/
theorem complete_waitOf {s : State} {w id : Nat} (hne : w ≠ id) (hn : s.NoWait id) (r : Reply) :
    (s.complete w r).waitOf id = s.waitOf id := by
  have he : (s.endJobOf w).waitOf id = s.waitOf id := by
    simp only [State.waitOf, State.workOf, State.endJobOf, List.filter_filter, Prod.mk.injEq, and_true]
    refine ⟨rfl, List.filter_congr fun j _ => ?_⟩
    by_cases hj : j.pkt = some id <;> simp [hj, hne.symm]
  rw [← he]
  unfold State.complete State.completeAt State.stage
  dsimp only
  split
  · split <;> rfl
  · have hn' : (s.endJobOf w).NoWait id := hn
    rw [State.waitOf, completeN_pktsOf _ hne hn', completeN_workOf _ hne hn', State.waitOf]

/-- Every packet of number `id` has started, and none of them waits on a fence. -/
def State.Waits (s : State) (id : Nat) : Prop := ∀ p ∈ s.pktsOf id, p.started = true ∧ p.opcode ≠ 0x02

theorem State.Waits.noWait {s : State} {id : Nat} (h : s.Waits id) : s.NoWait id := fun p hp => (h p hp).2

theorem State.Waits.congr {s t : State} {id : Nat} (h : s.Waits id) (hp : t.pktsOf id = s.pktsOf id) : t.Waits id := by
  unfold State.Waits
  rw [hp]
  exact h

theorem drainN_waitOf (n : Nat) {s : State} {id : Nat} (h : s.Waits id) (c : Nat) : (drainN n s c).waitOf id = s.waitOf id := by
  induction n generalizing s with
  | zero => rfl
  | succ n ih =>
    unfold drainN
    split
    · rfl
    · next q hq =>
      have hm := List.mem_of_find?_eq_some hq
      have hs := List.find?_some hq
      simp only [Bool.and_eq_true, State.mayStart, Bool.not_eq_true'] at hs
      have hne : q.id ≠ id := by
        intro e
        have := (h q (by simp [State.pktsOf, hm, e])).1
        rw [hs.2.1.1.1] at this
        cases this
      have hw := complete_waitOf hne h.noWait ⟨(q.bad.getD (0, 0)).1, (q.bad.getD (0, 0)).2, 0, 0, 0, 0⟩
      exact (ih (h.congr (congrArg Prod.fst hw))).trans hw

/-- Packets behind a packet that waits complete without it. -/
theorem drainSettle_waitOf {s : State} {id : Nat} (h : s.Waits id) (c : Nat) : (settle (s.drain c)).waitOf id = s.waitOf id := by
  have hd : (s.drain c).waitOf id = s.waitOf id := by
    unfold State.drain
    split
    · exact drainN_waitOf _ h c
    · rfl
  exact ((settle_only _).waitOf id).trans hd

theorem mem_jobs_of_waitOf {s t : State} {id : Nat} (h : t.waitOf id = s.waitOf id) {j : Job} (hj : j ∈ s.jobs)
    (hp : j.pkt = some id) : j ∈ t.jobs := by
  have he : t.jobs.filter (fun j => j.pkt == some id) = s.jobs.filter fun j => j.pkt == some id := congrArg (fun x => x.2.1) h
  exact (List.mem_filter.mp (he ▸ List.mem_filter.mpr ⟨hj, by simp [hp]⟩)).1

theorem mem_reads_of_waitOf {s t : State} {id : Nat} (h : t.waitOf id = s.waitOf id) {r : HostRead} (hr : r ∈ s.reads)
    (hp : r.pkt = id) : r ∈ t.reads := by
  have he : t.reads.filter (fun r => r.pkt == id) = s.reads.filter fun r => r.pkt == id := congrArg (fun x => x.2.2) h
  exact (List.mem_filter.mp (he ▸ List.mem_filter.mpr ⟨hr, by simp [hp]⟩)).1

/-! ## A packet that starts -/

theorem markStarted_pktsOf (s : State) (id : Nat) :
    (s.markStarted id).pktsOf id = (s.pktsOf id).map fun p => { p with started := true, startTick := s.now } := by
  simp only [State.pktsOf, State.markStarted, List.filter_map]
  have hf : ((fun p : Pkt => p.id == id) ∘ fun p => if p.id == id then { p with started := true, startTick := s.now } else p) =
      fun p => p.id == id := by
    funext p
    simp only [Function.comp_apply]
    split <;> simp_all
  rw [hf]
  refine List.map_congr_left fun p hp => ?_
  rw [if_pos (List.mem_filter.mp hp).2]

theorem mem_pktsOf {s : State} {p q : Pkt} (hn : (s.packets.map Pkt.id).Nodup) (hp : s.pkt? p.id = some p) (hq : q ∈ s.pktsOf p.id) :
    q = p := by
  simp only [State.pktsOf, List.mem_filter, beq_iff_eq] at hq
  have h := find?_id_of_nodup hq.1 hn
  rw [hq.2] at h
  exact Option.some.inj (h.symm.trans hp)

/-- A packet that starts and is no wait on a fence, waits. -/
theorem State.Starts.waits {s : State} {p : Pkt} (h : s.Starts p) (ho : p.opcode ≠ 0x02) : (s.markStarted p.id).Waits p.id := by
  intro q hq
  rw [markStarted_pktsOf, List.mem_map] at hq
  obtain ⟨x, hx, rfl⟩ := hq
  obtain rfl := mem_pktsOf h.2 h.pkt? hx
  exact ⟨rfl, ho⟩

end Sys2Proof.Machine
end

section
/-! SCRUB (R42, R55, R56). -/

namespace Sys2Proof.Machine

/-! ## SCRUB starts (R55, R56) -/

theorem addJob_mem (s : State) (j : Job) : ∃ i ∈ (s.addJob j).jobs, i.kind = j.kind ∧ i.cls = j.cls ∧ i.pkt = j.pkt ∧
    i.stream = j.stream ∧ i.fseq = j.fseq :=
  ⟨_, List.mem_append_right _ (List.mem_singleton_self _), rfl, rfl, rfl, rfl, rfl⟩

/-- What SCRUB does once its checks have passed. -/
def State.scrubStart (s : State) (p : Pkt) : State :=
  let s := { s with
    scrub := some (p.id, Num.slice (p.w 2) 1 0, s.scrubRanges (Num.slice (p.w 2) 1 0) (Num.slice (p.w 2) 14 8)) }
  (s.addJob { emptyJob with kind := .scrub, cls := 3, pkt := some p.id }).set .SOOT_SCRUB_BUSY 0 1

theorem scrubPkt_passed {u : State} {p : Pkt} (hc : firstBad (u.scrubChecks p) = none) : u.scrubPkt p = (u.scrubStart p).poolSync := by
  unfold State.scrubPkt
  rw [checked_none _ hc]
  rfl

theorem scrub_starts {s : State} {p : Pkt} (h : s.Starts p) (ho : p.opcode = 0x38)
    (hc : firstBad ((s.markStarted p.id).scrubChecks p) = none) : Runs .scrub s fun t => t.get .SOOT_SCRUB_BUSY = 1 ∧
      t.scrub = some (p.id, Num.slice (p.w 2) 1 0,
        (s.markStarted p.id).scrubRanges (Num.slice (p.w 2) 1 0) (Num.slice (p.w 2) 14 8)) ∧
      ∃ j ∈ t.jobs, j.kind = .scrub ∧ j.pkt = some p.id := by
  refine ⟨_, h.runs rfl ho (scrubPkt_passed hc), ?_⟩
  have hw := h.waits (by rw [ho]; decide)
  generalize s.markStarted p.id = u at hw ⊢
  have hr := poolSync_onRegs (u.scrubStart p)
  have hj : ∃ j ∈ (u.scrubStart p).jobs, j.kind = .scrub ∧ j.pkt = some p.id := by
    obtain ⟨j, hj, hk, -, hp, -⟩ := addJob_mem u { emptyJob with kind := .scrub, cls := 3, pkt := some p.id }
    exact ⟨j, hj, hk, hp⟩
  obtain ⟨j, hj, hk, hp⟩ := hj
  have hw' : (u.scrubStart p).poolSync.Waits p.id := hw.congr (congrArg Prod.fst (hr.only.waitOf p.id))
  have kd := drainSettle_frame (u.scrubStart p).poolSync p.client
  have hd := drainSettle_waitOf hw' p.client
  refine ⟨?_, ?_, j, ?_, hk, hp⟩
  · rw [kd.1 _ _ rfl, hr.keeps.1 _ _ rfl]
    exact State.get_set_self _ _ _ _
  · rw [kd.scrub, hr.keeps.scrub]
    rfl
  · exact mem_jobs_of_waitOf (hd.trans (hr.only.waitOf p.id)) hj hp

/-! ## SCRUB_DONE (R42, R56) -/

/-- One range of a SCRUB. -/
def State.zeroRange (s : State) (r : Nat × Nat) : State := { s.zeroise r.1 r.2 with marks := cutMarks r.1 r.2 s.marks }

theorem zeroRanges_eq (s : State) (rs : List (Nat × Nat)) : s.zeroRanges rs = (rs.foldl State.zeroRange s).poisonSync := rfl

theorem foldl_zeroRange_outward (s : State) (rs : List (Nat × Nat)) : (rs.foldl State.zeroRange s).outward = s.outward := by
  induction rs generalizing s with
  | nil => rfl
  | cons r rs ih => exact ih (s.zeroRange r)

theorem foldl_zeroRange_unsooted (s : State) (rs : List (Nat × Nat)) {g : Nat} (h : ISet.mem g s.soot = false) :
    ISet.mem g (rs.foldl State.zeroRange s).soot = false := by
  induction rs generalizing s with
  | nil => exact h
  | cons r rs ih =>
    refine ih _ ?_
    rw [State.zeroRange, State.zeroise, ISet.mem_remove, h]
    rfl

/-- A granule that a range covers in part is covered whole by the tags it clears. -/
theorem foldl_zeroRange_soot (s : State) (rs : List (Nat × Nat)) {r : Nat × Nat} (hr : r ∈ rs) {a : Nat} (h1 : r.1 ≤ a) (h2 : a < r.2) :
    ISet.mem (a / 64) (rs.foldl State.zeroRange s).soot = false := by
  induction rs generalizing s with
  | nil => simp at hr
  | cons q rs ih =>
    rcases List.mem_cons.mp hr with rfl | hr
    · refine foldl_zeroRange_unsooted _ rs ?_
      have hlo : r.1 / 64 ≤ a / 64 := by omega
      have hhi : a / 64 < Num.cdiv r.2 64 := by
        rw [Num.cdiv, if_neg (by decide)]
        omega
      simp [State.zeroRange, State.zeroise, ISet.mem_remove, hlo, hhi]
    · exact ih _ hr

theorem foldl_zeroRange_byte (s : State) (rs : List (Nat × Nat)) (a : Nat) :
    memByte (rs.foldl State.zeroRange s).dram a = if ∃ r ∈ rs, r.1 ≤ a ∧ a < r.2 then 0#8 else memByte s.dram a := by
  induction rs generalizing s with
  | nil => simp
  | cons r rs ih =>
    rw [List.foldl_cons, ih, State.zeroRange, State.zeroise, memByte_memZero]
    simp only [List.mem_cons, exists_eq_or_imp]
    by_cases h : r.1 ≤ a ∧ a < r.2 <;> by_cases k : ∃ q ∈ rs, q.1 ≤ a ∧ a < q.2 <;> simp [h, k]

/-- A SCRUB of scope 2 clears the tile store too (R55). -/
def State.scrubTiles (s : State) (scope : Nat) : State := if scope == 2 then s.clearTiles else s

theorem scrubTiles_same (s : State) (scope : Nat) : (s.scrubTiles scope).outward = s.outward ∧ (s.scrubTiles scope).dram = s.dram ∧
    (s.scrubTiles scope).soot = s.soot := by
  unfold State.scrubTiles
  split <;> exact ⟨rfl, rfl, rfl⟩

theorem scrubTiles_tileSoot (s : State) : (s.scrubTiles 2).tileSoot = [] := rfl

/-- The unit once a SCRUB has ended, before its reply. -/
def State.scrubbed (s : State) (scope : Nat) (rs : List (Nat × Nat)) : State :=
  ({ ((s.zeroRanges rs).dropJobs fun j => j.kind == .scrub).scrubTiles scope with scrub := none } : State).set .SOOT_SCRUB_BUSY 0 0

theorem scrubEnd_eq (s : State) (id scope : Nat) (rs : List (Nat × Nat)) : s.scrubEnd id scope rs =
    (s.scrubbed scope rs).poolSync.complete id (Reply.ok (ISet.size rs / 64 % 2 ^ 32) (ISet.size rs / 64 / 2 ^ 32)) := by
  unfold State.scrubEnd State.scrubbed State.scrubTiles
  rfl

/-- Registers that the end of a SCRUB writes. -/
def scrubFields (f : Field) : Bool := poisonFields f || poolFields f || f == .SOOT_SCRUB_BUSY

theorem poisonFields_scrub (f : Field) (h : poisonFields f = true) : scrubFields f = true := by simp [scrubFields, h]
theorem poolFields_scrub (f : Field) (h : poolFields f = true) : scrubFields f = true := by simp [scrubFields, h]

theorem scrubbed_steady (s : State) (scope : Nat) (rs : List (Nat × Nat)) : Steady scrubFields s (s.scrubbed scope rs) := by
  have h0 : Steady scrubFields s (s.zeroRanges rs) := by
    rw [zeroRanges_eq]
    exact Steady.trans (.same (foldl_zeroRange_outward s rs)) ((poisonSync_onRegs _).steady.mono poisonFields_scrub)
  unfold State.scrubbed
  generalize s.zeroRanges rs = u at h0 ⊢
  have h1 : Steady scrubFields s (u.dropJobs fun j => j.kind == .scrub) := h0.more rfl
  have h2 := h1.more (scrubTiles_same (u.dropJobs fun j => j.kind == .scrub) scope).1
  generalize State.scrubTiles _ scope = v at h2 ⊢
  refine Steady.set ?_ .SOOT_SCRUB_BUSY 0 0 rfl
  exact h2.more rfl

theorem scrubbed_parts (s : State) (scope : Nat) (rs : List (Nat × Nat)) : (s.scrubbed scope rs).scrub = none ∧
    (s.scrubbed scope rs).get .SOOT_SCRUB_BUSY = 0 ∧ (scope = 2 → (s.scrubbed scope rs).tileSoot = []) ∧
    (s.scrubbed scope rs).dram = (rs.foldl State.zeroRange s).dram ∧ (s.scrubbed scope rs).soot = (rs.foldl State.zeroRange s).soot := by
  have k := (poisonSync_onRegs (rs.foldl State.zeroRange s)).keeps
  rw [← k.dram, ← k.soot, ← zeroRanges_eq]
  unfold State.scrubbed
  generalize s.zeroRanges rs = u
  obtain ⟨-, hd, hs⟩ := scrubTiles_same (u.dropJobs fun j => j.kind == .scrub) scope
  refine ⟨rfl, State.get_set_self _ _ _ _, ?_, hd, hs⟩
  rintro rfl
  exact scrubTiles_tileSoot (u.dropJobs fun j => j.kind == .scrub)

theorem scrubDone_completes {s : State} {id scope : Nat} {rs : List (Nat × Nat)} {p : Pkt} (hs : s.scrub = some (id, scope, rs))
    (hr : s.enginesRun = true) (hj : ∃ j ∈ s.jobs, j.kind = .scrub ∧ j.entry = true) (hl : s.linkClosed = false)
    (hp : s.pkt? id = some p) (hst : s.isStaged id = false) : Runs .scrubDone s fun t =>
      Replied s t p (Reply.ok (ISet.size rs / 64 % 2 ^ 32) (ISet.size rs / 64 / 2 ^ 32)) ∧ t.scrub = none ∧
      t.get .SOOT_SCRUB_BUSY = 0 ∧ (scope = 2 → t.tileSoot = []) ∧
      (∀ r ∈ rs, ∀ a, r.1 ≤ a → a < r.2 → memByte t.dram a = 0#8 ∧ ISet.mem (a / 64) t.soot = false) ∧
      ∀ a, (∀ r ∈ rs, ¬(r.1 ≤ a ∧ a < r.2)) → memByte t.dram a = memByte s.dram a := by
  have hany : (s.jobs.any fun j => j.kind == .scrub && j.entry) = true := by
    obtain ⟨j, hm, hk, he⟩ := hj
    exact List.any_eq_true.mpr ⟨j, hm, by simp [hk, he]⟩
  have hth : s.thermal = none := by
    simp only [State.enginesRun, Bool.and_eq_true, Option.isNone_iff_eq_none] at hr
    exact hr.1.2
  refine ⟨settle (s.scrubEnd id scope rs), ?_, ?_⟩
  · change execScrubDone s = _
    simp only [execScrubDone, hs, hr, hany, Bool.and_self, doneIf_true]
  rw [scrubEnd_eq]
  obtain ⟨hn, hb, ht, hd, hso⟩ := scrubbed_parts s scope rs
  have h1 := scrubbed_steady s scope rs
  generalize s.scrubbed scope rs = u at hn hb ht hd hso h1 ⊢
  have h2 := poolSync_onRegs u
  have hpath := (h1.trans (h2.steady.mono poolFields_scrub)).path id (by decide)
  generalize Reply.ok (ISet.size rs / 64 % 2 ^ 32) (ISet.size rs / 64 / 2 ^ 32) = r
  have kc : Keeps packetFields u.poolSync (settle (u.poolSync.complete id r)) :=
    ((complete_frame _ id r).mono packetFields_reply).trans ((settle_frame _).mono packetFields_settle)
  refine ⟨RepliedAt.settle (hpath.replied r hp hst hth hl), ?_, ?_, ?_, ?_, ?_⟩
  · rw [kc.scrub, h2.keeps.scrub, hn]
  · rw [kc.1 _ _ rfl, h2.keeps.1 _ _ rfl, hb]
  · intro h
    rw [kc.tileSoot, h2.keeps.tileSoot, ht h]
  · intro q hq a ha1 ha2
    rw [kc.dram, h2.keeps.dram, hd, kc.soot, h2.keeps.soot, hso, foldl_zeroRange_byte, if_pos ⟨q, hq, ha1, ha2⟩]
    exact ⟨rfl, foldl_zeroRange_soot s rs hq ha1 ha2⟩
  · intro a ha
    rw [kc.dram, h2.keeps.dram, hd, foldl_zeroRange_byte, if_neg]
    rintro ⟨q, hq, hin⟩
    exact ha q hq hin

/-- Settles O14: the start of a SCRUB leaves its job through the packets behind it, and its end zeroes range by range. -/
theorem scrubCompletes : Obligations.ScrubCompletes := by
  unfold Obligations.ScrubCompletes
  refine ⟨?_, fun s id scope rs p hs hr hj hl hp hst => scrubDone_completes hs hr hj hl hp hst⟩
  rintro s u p h ho rfl hc
  exact scrub_starts h ho hc

end Sys2Proof.Machine
end

section
/-! The tick (R99, R100, R110, R112, R116): what its end changes, and what an event that comes out of its rank finds. -/

namespace Sys2Proof.Machine

/-! ## Busy units count the tick (R116) -/

/-- Unit `i` of a row counts the tick where it is busy. -/
def State.countOne (b : Field × Field × Nat × Nat) (s : State) (i : Nat) : State :=
  if s.get b.1 i == 1 then s.set b.2.1 i ((s.get b.2.1 i + 1) % 2 ^ 64) else s

/-- One row of `busyCounters`: the units of a kind that are busy count the tick while their clock runs. -/
def State.countUnit (s : State) (b : Field × Field × Nat × Nat) : State :=
  if s.clockIsLost b.2.2.2 then s else (List.range b.2.2.1).foldl (State.countOne b) s

theorem countBusy_eq (s : State) : s.countBusy = busyCounters.foldl State.countUnit s := rfl

/-- A state less its registers, its captured events and the adjusted ticks. -/
def State.still (s : State) : State := { s with fields := [], captured := [], slewTicks := [] }

theorem still_part {α : Type} {s t : State} (h : t.still = s.still) (p : State → α) (hp : ∀ s, p s.still = p s) : p t = p s := by
  rw [← hp t, h, hp]

theorem countOne_same (b : Field × Field × Nat × Nat) (s : State) (i : Nat) : (s.countOne b i).still = s.still ∧
    (s.countOne b i).captured = s.captured ∧ (s.countOne b i).slewTicks = s.slewTicks ∧
      ∀ f j, f ≠ b.2.1 → (s.countOne b i).get f j = s.get f j := by
  unfold State.countOne
  split
  · exact ⟨rfl, rfl, rfl, fun f j hf => State.get_set_ne _ _ _ _ hf⟩
  · exact ⟨rfl, rfl, rfl, fun _ _ _ => rfl⟩

theorem countUnit_same (s : State) (b : Field × Field × Nat × Nat) :
    (s.countUnit b).still = s.still ∧ (s.countUnit b).captured = s.captured ∧ (s.countUnit b).slewTicks = s.slewTicks ∧
      ∀ f i, f ≠ b.2.1 → (s.countUnit b).get f i = s.get f i := by
  unfold State.countUnit
  split
  · exact ⟨rfl, rfl, rfl, fun _ _ _ => rfl⟩
  · generalize List.range b.2.2.1 = l
    clear * -
    induction l generalizing s with
    | nil => exact ⟨rfl, rfl, rfl, fun _ _ _ => rfl⟩
    | cons i l ih =>
      obtain ⟨h1, h2, h3, h4⟩ := ih (s.countOne b i)
      obtain ⟨k1, k2, k3, k4⟩ := countOne_same b s i
      exact ⟨h1.trans k1, h2.trans k2, h3.trans k3, fun f j hf => (h4 f j hf).trans (k4 f j hf)⟩

theorem foldl_countOne_counts (b : Field × Field × Nat × Nat) (hb : b.1 ≠ b.2.1) (s : State) (n j : Nat) :
    ((List.range n).foldl (State.countOne b) s).get b.1 j = s.get b.1 j ∧
      ((List.range n).foldl (State.countOne b) s).get b.2.1 j =
        if j < n ∧ s.get b.1 j = 1 then (s.get b.2.1 j + 1) % 2 ^ 64 else s.get b.2.1 j := by
  induction n generalizing j with
  | zero => exact ⟨rfl, (if_neg (by omega)).symm⟩
  | succ n ih =>
    obtain ⟨h1, h2⟩ := ih j
    obtain ⟨k1, k2⟩ := ih n
    rw [List.range_succ, List.foldl_append, List.foldl_cons, List.foldl_nil]
    generalize (List.range n).foldl (State.countOne b) s = u at h1 h2 k1 k2
    rw [State.countOne, k1]
    by_cases hn : s.get b.1 n = 1
    · rw [if_pos (by simp [hn])]
      refine ⟨(State.get_set_ne _ _ _ _ hb).trans h1, ?_⟩
      by_cases hj : j = n
      · subst hj
        rw [State.get_set_self, k2, if_neg (by omega), if_pos ⟨by omega, hn⟩]
      · rw [State.get_set_ne' _ _ _ hj, h2]
        exact if_congr (by omega) rfl rfl
    · rw [if_neg (by simp [hn])]
      refine ⟨h1, h2.trans (if_congr ⟨fun h => ⟨by omega, h.2⟩, fun h => ⟨?_, h.2⟩⟩ rfl rfl)⟩
      have : j ≠ n := by
        rintro rfl
        exact hn h.2
      omega

theorem countUnit_counts (s : State) {b : Field × Field × Nat × Nat} (hb : b.1 ≠ b.2.1) (hc : s.clockIsLost b.2.2.2 = false) {i : Nat}
    (hi : i < b.2.2.1) :
    (s.countUnit b).get b.2.1 i = if s.get b.1 i = 1 then (s.get b.2.1 i + 1) % 2 ^ 64 else s.get b.2.1 i := by
  rw [State.countUnit, hc, if_neg Bool.false_ne_true, (foldl_countOne_counts b hb s _ i).2]
  exact if_congr (by simp [hi]) rfl rfl

theorem foldl_countUnit_same (bs : List (Field × Field × Nat × Nat)) (s : State) :
    (bs.foldl State.countUnit s).still = s.still ∧ (bs.foldl State.countUnit s).captured = s.captured ∧
      (bs.foldl State.countUnit s).slewTicks = s.slewTicks ∧
      ∀ f i, f ∉ bs.map (fun b => b.2.1) → (bs.foldl State.countUnit s).get f i = s.get f i := by
  induction bs generalizing s with
  | nil => exact ⟨rfl, rfl, rfl, fun _ _ _ => rfl⟩
  | cons b bs ih =>
    obtain ⟨h1, h2, h3, h4⟩ := ih (s.countUnit b)
    obtain ⟨k1, k2, k3, k4⟩ := countUnit_same s b
    refine ⟨h1.trans k1, h2.trans k2, h3.trans k3, fun f i hf => ?_⟩
    simp only [List.map_cons, List.mem_cons, not_or] at hf
    exact (h4 f i hf.2).trans (k4 f i hf.1)

theorem clockIsLost_still {s t : State} (h : t.still = s.still) (id : Nat) : t.clockIsLost id = s.clockIsLost id := by
  rw [State.clockIsLost, still_part h State.clockLost fun _ => rfl, State.clockIsLost]

/-- A counter counts where no other row writes it and no row writes its BUSY bit. -/
theorem foldl_countUnit_counts {bs : List (Field × Field × Nat × Nat)} (hn : (bs.map fun b => b.2.1).Nodup)
    (hd : ∀ b ∈ bs, b.1 ∉ bs.map fun b => b.2.1) (s : State) : ∀ b ∈ bs, s.clockIsLost b.2.2.2 = false → ∀ i, i < b.2.2.1 →
      (bs.foldl State.countUnit s).get b.2.1 i = if s.get b.1 i = 1 then (s.get b.2.1 i + 1) % 2 ^ 64 else s.get b.2.1 i := by
  induction bs generalizing s with
  | nil => simp
  | cons a bs ih =>
    intro b hb hc i hi
    obtain ⟨k1, -, -, k4⟩ := countUnit_same s a
    rw [List.map_cons, List.nodup_cons] at hn
    have ha : ∀ b ∈ a :: bs, b.1 ≠ a.2.1 ∧ b.1 ∉ bs.map fun b => b.2.1 := fun b hb => by
      have := hd b hb
      rw [List.map_cons, List.mem_cons, not_or] at this
      exact this
    rw [List.foldl_cons]
    rcases List.mem_cons.mp hb with rfl | hb'
    · rw [(foldl_countUnit_same bs _).2.2.2 _ i hn.1]
      exact countUnit_counts s (ha b hb).1 hc hi
    · have hne : b.2.1 ≠ a.2.1 := fun e => hn.1 (e ▸ List.mem_map_of_mem hb')
      rw [ih hn.2 (fun b hb => (ha b (List.mem_cons_of_mem _ hb)).2) (s.countUnit a) b hb'
        (by rw [clockIsLost_still k1]; exact hc) i hi, k4 _ _ (ha b hb).1, k4 _ _ hne]

/-! ## The end of a tick -/

/-- The registers that the end of a tick writes. -/
def rankFields (f : Field) : Bool :=
  f ∈ busyCounters.map (fun b => b.2.1) || f == .EVU_TICK_NOW || f == .EVU_SLEWING || f == .EVU_SLEW_DIR || f == .EVU_SLEW_ADJ ||
    f == .SCH_UNDO_TICKS

theorem slew_same (s : State) : s.slew.still = s.still ∧ s.slew.captured = s.captured ∧ ∀ f i,
    f ≠ .EVU_SLEWING → f ≠ .EVU_SLEW_DIR → f ≠ .EVU_SLEW_ADJ → s.slew.get f i = s.get f i := by
  unfold State.slew
  dsimp only
  split
  · split
    · refine ⟨rfl, rfl, fun f i h1 h2 h3 => ?_⟩
      rw [State.get_set_ne _ _ _ _ h3, State.get_set_ne _ _ _ _ h2, State.get_set_ne _ _ _ _ h1, State.get_mk]
    · refine ⟨rfl, rfl, fun f i h1 h2 h3 => ?_⟩
      rw [State.get_set_ne _ _ _ _ h3, State.get_set_ne _ _ _ _ h1, State.get_mk]
  · refine ⟨rfl, rfl, fun f i h1 h2 h3 => ?_⟩
    rw [State.get_set_ne _ _ _ _ h3, State.get_set_ne _ _ _ _ h1, State.get_mk]

/-- The tick counts, and completions that no other event of their tick stands beside form no group (R104). -/
def State.turnTick (s : State) : State :=
  ({ s.countBusy with captured := s.captured.filter fun e =>
      e.code != 14 || s.captured.any fun g => g.code != 14 && g.tick == e.tick } : State).set .EVU_TICK_NOW 0 ((s.now + 1) % 2 ^ 64)

/-- The time a candidate of R506 has passed its test is shown. -/
def State.undoClock (s : State) : State :=
  match s.undoSince with
  | some t0 => s.set .SCH_UNDO_TICKS 0 (Num.wrap32 (s.now - t0))
  | none => s

theorem advance_eq (s : State) : s.advance = s.turnTick.slew.undoClock := by
  obtain ⟨-, hc, -, hr⟩ := foldl_countUnit_same busyCounters s
  have hn : s.countBusy.get .EVU_TICK_NOW = s.get .EVU_TICK_NOW := hr _ _ (by decide)
  unfold State.advance State.turnTick State.now
  dsimp only
  rw [countBusy_eq] at hn ⊢
  rw [State.get_mk, hn, hc]
  rfl

theorem undoClock_same (s : State) : s.undoClock.still = s.still ∧ s.undoClock.captured = s.captured ∧ ∀ f i,
    f ≠ .SCH_UNDO_TICKS → s.undoClock.get f i = s.get f i := by
  unfold State.undoClock
  split
  · exact ⟨rfl, rfl, fun f i h => State.get_set_ne _ _ _ _ h⟩
  · exact ⟨rfl, rfl, fun _ _ _ => rfl⟩

theorem turnTick_same (s : State) : s.turnTick.still = s.still ∧ s.turnTick.now = (s.now + 1) % 2 ^ 64 ∧
    ∀ f i, f ≠ .EVU_TICK_NOW → s.turnTick.get f i = s.countBusy.get f i := by
  have hs := (foldl_countUnit_same busyCounters s).1
  rw [← countBusy_eq] at hs
  unfold State.turnTick
  generalize s.countBusy = u at hs ⊢
  exact ⟨hs, State.get_set_self _ _ _ _, fun f i h => (State.get_set_ne _ _ _ _ h).trans rfl⟩

theorem advance_still (s : State) : s.advance.still = s.still := by
  rw [advance_eq, (undoClock_same _).1, (slew_same _).1, (turnTick_same s).1]

theorem advance_captured (s : State) : s.advance.captured =
    s.captured.filter fun e => e.code != 14 || s.captured.any fun g => g.code != 14 && g.tick == e.tick := by
  rw [advance_eq, (undoClock_same _).2.1, (slew_same _).2.1]
  rfl

theorem advance_now (s : State) : s.advance.now = (s.now + 1) % 2 ^ 64 := by
  rw [advance_eq, State.now, (undoClock_same _).2.2 _ _ (by decide),
    (slew_same _).2.2 _ _ (by decide) (by decide) (by decide)]
  exact (turnTick_same s).2.1

theorem advance_get_busy (s : State) {f : Field} (i : Nat) (h : f ∉ [Field.EVU_TICK_NOW, .EVU_SLEWING, .EVU_SLEW_DIR, .EVU_SLEW_ADJ,
    .SCH_UNDO_TICKS]) : s.advance.get f i = s.countBusy.get f i := by
  simp only [List.mem_cons, List.not_mem_nil, or_false, not_or] at h
  obtain ⟨h1, h2, h3, h4, h5⟩ := h
  rw [advance_eq, (undoClock_same _).2.2 f i h5, (slew_same _).2.2 f i h2 h3 h4, (turnTick_same s).2.2 f i h1]

theorem advance_get (s : State) {f : Field} (i : Nat) (h : rankFields f = false) : s.advance.get f i = s.get f i := by
  simp only [rankFields, Bool.or_eq_false_iff, decide_eq_false_iff_not, beq_eq_false_iff_ne] at h
  obtain ⟨⟨⟨⟨⟨h0, h1⟩, h2⟩, h3⟩, h4⟩, h5⟩ := h
  rw [advance_get_busy s i (by simp [h1, h2, h3, h4, h5])]
  exact (foldl_countUnit_same busyCounters s).2.2.2 f i h0

theorem advance_counts (s : State) : ∀ b ∈ busyCounters, s.clockIsLost b.2.2.2 = false → ∀ i, i < b.2.2.1 →
    s.advance.get b.2.1 i = if s.get b.1 i = 1 then (s.get b.2.1 i + 1) % 2 ^ 64 else s.get b.2.1 i := by
  intro b hb hc i hi
  have hf : ∀ b ∈ busyCounters,
      b.2.1 ∉ [Field.EVU_TICK_NOW, .EVU_SLEWING, .EVU_SLEW_DIR, .EVU_SLEW_ADJ, .SCH_UNDO_TICKS] := by decide
  rw [advance_get_busy s i (hf b hb), countBusy_eq]
  exact foldl_countUnit_counts (by decide) (by decide) s b hb hc i hi

/-! ## TICK (R100, R112, R116) -/

/-- The registers that the report of a degradation step writes. -/
def reportFields (f : Field) : Bool := linkCounts f || f == .SCH_IRQ || f == .EVU_PENDING

theorem reportStep_keeps (s : State) : (∀ f i, reportFields f = false → s.reportStep.get f i = s.get f i) ∧
    s.reportStep.packets = s.packets ∧ s.reportStep.streams = s.streams ∧ s.reportStep.dram = s.dram := by
  unfold State.reportStep
  split
  · exact ⟨fun _ _ _ => rfl, rfl, rfl, rfl⟩
  · next step back q _ =>
    split
    · exact ⟨fun _ _ _ => rfl, rfl, rfl, rfl⟩
    · have k1 := irq_frame (F := reportFields) { s with degradeQueue := q } .SCH_IRQ .SCH_IRQ_EN 0 0 6
        (fun f hf => by simp [reportFields, hf]) rfl
      have k2 := capture_frame (F := reportFields) (({ s with degradeQueue := q } : State).irq .SCH_IRQ .SCH_IRQ_EN 0 0 6) 12 0
        (step + back * 2 ^ 31) 0 0 (.inr rfl)
      have k := k1.trans k2
      refine ⟨k.1, ?_, k.streams, k.dram⟩
      exact (capture_outward _ _ _ _ _ _).1.trans (irq_only _ _ _ _ _ _).1

theorem tick_completes {s : State} (ha : s.aonValid = true) (hs : s.get .EVU_TICK_STOPPED = 0) (hc : s.clockIsLost 21 = false) :
    Runs .tick s fun t => t.now = (s.now + 1) % 2 ^ 64 ∧
      (∀ b ∈ busyCounters, s.clockIsLost b.2.2.2 = false → ∀ i, i < b.2.2.1 →
        t.get b.2.1 i = if s.get b.1 i = 1 then (s.get b.2.1 i + 1) % 2 ^ 64 else s.get b.2.1 i) ∧
      t.packets = s.packets ∧ t.streams = s.streams ∧ t.dram = s.dram := by
  refine ⟨settle s.tick, ?_, ?_⟩
  · change execTick s = _
    simp [execTick, ha, hs, hc]
  obtain ⟨hg, hp, hst, hd⟩ := reportStep_keeps s.advance
  have h := advance_still s
  have hget : ∀ f i, settleFields f = false → reportFields f = false → (settle s.tick).get f i = s.advance.get f i := fun f i h1 h2 =>
    (settle_get _ f i h1).trans (hg f i h2)
  refine ⟨?_, fun b hb hc i hi => ?_, ?_, ?_, ?_⟩
  · rw [State.now, hget _ _ rfl rfl]
    exact advance_now s
  · have hf : ∀ b ∈ busyCounters, settleFields b.2.1 = false ∧ reportFields b.2.1 = false := by decide
    rw [hget _ _ (hf b hb).1 (hf b hb).2]
    exact advance_counts s b hb hc i hi
  · rw [settle_packets, State.tick, hp]
    exact still_part h State.packets fun _ => rfl
  · rw [settle_streams, State.tick, hst]
    exact still_part h State.streams fun _ => rfl
  · rw [settle_dram, State.tick, hd]
    exact still_part h State.dram fun _ => rfl

end Sys2Proof.Machine
end

section
/-! Event groups (R104 to R109) and the copy of the breach log (R50). -/

namespace Sys2Proof.Machine

/-! ## A vector is signalled after other work -/

/-- What a signal goes by: pending and masked vectors, the link, and what waits in the crossing (R139 to R141, R147). -/
def State.signalView (s : State) :=
  (s.msixPba, s.msixTable, s.funcMask, s.msixEnable, s.bme, s.clockLost, s.crossing, s.get .LINK_DOWN, s.get .LINK_LTSSM)

/-- Work that puts messages on the wire and leaves what a signal goes by comes before it. -/
theorem Signalled.after {s u t : State} {v : Nat} (h : Signalled u t v) (hv : u.signalView = s.signalView)
    (hw : ∃ l, u.egress = s.egress ++ l) : Signalled s t v := by
  simp only [State.signalView, Prod.mk.injEq] at hv
  obtain ⟨hp, ht, hf, he, hb, hc, -, hd, hl⟩ := hv
  have h1 : u.msixEntry v = s.msixEntry v := by simp only [State.msixEntry, ht]
  have h2 : u.msixBlocked v = s.msixBlocked v := by simp only [State.msixBlocked, h1, hf, he, hb]
  have h3 : u.linkDead = s.linkDead := by simp only [State.linkDead, State.clockIsLost, hd, hc]
  have h4 : u.held = s.held := by simp only [State.held, hl]
  unfold Signalled Posted at *
  rw [h1, h2, h3, h4, hp] at h
  split
  · next hm => rwa [if_pos hm] at h
  · next hm =>
    rw [if_neg hm] at h
    intro hn hk
    have hs := h hn hk
    split
    · next hh => rwa [if_pos hh] at hs
    · next hh =>
      rw [if_neg hh] at hs
      obtain ⟨l, hl⟩ := hw
      obtain ⟨m, hm, hx⟩ := hs
      exact ⟨l ++ m, by rw [hm, hl, List.append_assoc], List.mem_append_right _ hx⟩

/-! ## The records of a group (R105, R108, R109) -/

/-- The wire of `s` with `l` behind it. -/
def State.sends (s : State) (l : List Egress) : State := { s with egress := s.egress ++ l }

theorem sends_sends (s : State) (l m : List Egress) : (s.sends l).sends m = s.sends (l ++ m) := by
  simp [State.sends]

/-- Record `r` of ring count `i` as its two writes (R82, R108). -/
def State.recordWrites (s : State) (i : Nat) (r : List Nat) : List Egress :=
  let a := s.get .EVU_RING_BASE + i % 2 ^ s.get .EVU_RING_LOG2 * 32
  let ws := withPhase (s.get .EVU_RING_LOG2) i r
  [.event i (a + 4) (ws.drop 1), .eventHead i a (ws.getD 0 0)]

theorem writeGroup_cons (s : State) (i : Nat) (r : List Nat) (rs : List (List Nat)) :
    s.writeGroup i (r :: rs) = (s.sends (s.recordWrites i r)).writeGroup (Num.wrap32 (i + 1)) rs := by
  rw [State.writeGroup]
  simp [State.emit, State.sends, State.recordWrites]

/-- What is written to a ring goes on the wire and changes nothing else. -/
theorem writeGroup_eq (s : State) (i : Nat) (rs : List (List Nat)) : ∃ l, s.writeGroup i rs = s.sends l := by
  induction rs generalizing s i with
  | nil => exact ⟨[], by simp [State.writeGroup, State.sends]⟩
  | cons r rs ih =>
    obtain ⟨l, hl⟩ := ih (s.sends (s.recordWrites i r)) (Num.wrap32 (i + 1))
    exact ⟨s.recordWrites i r ++ l, by rw [writeGroup_cons, hl, sends_sends]⟩

/-- The first record of a group is on the wire whole. -/
theorem writeGroup_first (s : State) (i : Nat) (r : List Nat) (rs : List (List Nat)) :
    ∃ l, s.writeGroup i (r :: rs) = s.sends (s.recordWrites i r ++ l) := by
  obtain ⟨l, hl⟩ := writeGroup_eq (s.sends (s.recordWrites i r)) (Num.wrap32 (i + 1)) rs
  exact ⟨l, by rw [writeGroup_cons, hl, sends_sends]⟩

/-- The registers of the history (R109). -/
def historyFields (f : Field) : Bool := f == .EVU_HISTORY

theorem writeHistory_onRegs (s : State) (seq : Nat) (h : List Nat) : OnRegs historyFields s (s.writeHistory seq h) :=
  (OnRegs.refl _ s).foldl _ (fun u _ => (OnRegs.refl _ u).set .EVU_HISTORY _ _ rfl) _

theorem writeHistory_signalView (s : State) (seq : Nat) (h : List Nat) : (s.writeHistory seq h).signalView = s.signalView ∧
    (s.writeHistory seq h).egress = s.egress := by
  unfold State.writeHistory
  generalize List.range 8 = l
  induction l generalizing s with
  | nil => exact ⟨rfl, rfl⟩
  | cons w l ih =>
    obtain ⟨h1, h2⟩ := ih (s.set .EVU_HISTORY (((seq + 15) % 16) * 8 + w) (h.getD w 0))
    refine ⟨h1.trans ?_, h2⟩
    simp [State.signalView, State.get_set]

/-! ## A group is formed (R104 to R107) -/

/-- The group of stamp `t` leaves what is captured, under the next sequence number (R104). -/
def State.grouped (s : State) (t : Nat) : State :=
  { s with captured := s.captured.filter fun e => decide (t < e.tick),
           staleWritten := s.staleWritten || (s.staleTick == some t && !s.staleWritten) }.set .EVU_SEQ 0
    (Num.wrap32 (s.get .EVU_SEQ + 1))

/-- The DETAIL records of the group of stamp `t` (R106). -/
def State.groupDetails (s : State) (t : Nat) : List (List Nat) :=
  (List.range 13).filterMap fun c =>
    detailWords (s.captured.filter fun e => e.tick == t) (c + 1) (Num.wrap32 (s.get .EVU_SEQ + 1)) t

/-- The HEAD record of the group of stamp `t` (R105). -/
def State.groupHead (s : State) (t : Nat) : List Nat :=
  headWords (s.captured.filter fun e => e.tick == t) (s.staleTick == some t && !s.staleWritten) (s.groupDetails t).length
    (Num.wrap32 (s.get .EVU_SEQ + 1)) t s.lostSinceHead

/-- A group goes to the ring (R108). -/
def State.toRing (s : State) (h : List Nat) (ds : List (List Nat)) : State :=
  ({ s.writeGroup (s.get .EVU_RING_HEAD) (h :: ds) with lostSinceHead := 0 }.set .EVU_RING_HEAD 0
    (Num.wrap32 (s.get .EVU_RING_HEAD + (ds.length + 1)))).set .EVU_RING_FULL 0 0

/-- The `n` records of a group are discarded (R107). -/
def State.ringLoses (s : State) (n : Nat) : State :=
  ({ s with lostSinceHead := s.lostSinceHead + n }.sat 32 .EVU_LOST 0 n).set .EVU_RING_FULL 0 1

/-- A group is written and signalled (R108, R109). -/
def State.ringWrites (s : State) (seq : Nat) (h : List Nat) (ds : List (List Nat)) : State :=
  let u := s.toRing h ds
  let u := u.writeHistory seq (withPhase (u.get .EVU_RING_LOG2) (s.get .EVU_RING_HEAD) h)
  if u.get .EVU_IRQ_EN == 1 then u.signal 0 else u

theorem formGroup_eq (s : State) (t : Nat) : s.formGroup t =
    let g := s.grouped t
    let ds := s.groupDetails t
    let h := s.groupHead t
    let seq := Num.wrap32 (s.get .EVU_SEQ + 1)
    if g.get .EVU_RING_EN == 1 && g.sinceReady t then
      if g.groupPath && decide (ds.length + 1 ≤ g.evuFree) then g.ringWrites seq h ds
      else (g.ringLoses (ds.length + 1)).writeHistory seq h
    else g.writeHistory seq h := rfl

theorem grouped_get (s : State) (t : Nat) {f : Field} (i : Nat) (h : f ≠ .EVU_SEQ) : (s.grouped t).get f i = s.get f i :=
  State.get_set_ne _ _ _ _ h

theorem grouped_ring (s : State) (t : Nat) : (s.grouped t).groupPath = s.groupPath ∧ (s.grouped t).evuFree = s.evuFree ∧
    (s.grouped t).sinceReady t = s.sinceReady t ∧ (s.grouped t).signalView = s.signalView := by
  refine ⟨?_, ?_, rfl, ?_⟩
  · simp only [State.groupPath, State.linkClosed, State.linkDead, State.held, grouped_get _ _ _ (by decide : Field.LINK_DOWN ≠ _),
      grouped_get _ _ _ (by decide : Field.LINK_LTSSM ≠ _)]
    rfl
  · simp only [State.evuFree, grouped_get _ _ _ (by decide : Field.EVU_RING_LOG2 ≠ _),
      grouped_get _ _ _ (by decide : Field.EVU_RING_HEAD ≠ _), grouped_get _ _ _ (by decide : Field.EVU_RING_TAIL ≠ _)]
  · simp only [State.signalView, grouped_get _ _ _ (by decide : Field.LINK_DOWN ≠ _),
      grouped_get _ _ _ (by decide : Field.LINK_LTSSM ≠ _)]
    rfl

theorem grouped_recordWrites (s : State) (t i : Nat) (r : List Nat) : (s.grouped t).recordWrites i r = s.recordWrites i r := by
  simp only [State.recordWrites, grouped_get _ _ _ (by decide : Field.EVU_RING_BASE ≠ _),
    grouped_get _ _ _ (by decide : Field.EVU_RING_LOG2 ≠ _)]

/-- The registers that a group writes beside EVU_SEQ and its interrupt. -/
def groupFields (f : Field) : Bool :=
  historyFields f || linkCounts f || f == .EVU_RING_HEAD || f == .EVU_RING_FULL || f == .EVU_LOST

theorem toRing_parts (s : State) (h : List Nat) (ds : List (List Nat)) :
    (s.toRing h ds).get .EVU_RING_HEAD = Num.wrap32 (s.get .EVU_RING_HEAD + (ds.length + 1)) ∧
    (s.toRing h ds).get .EVU_RING_FULL = 0 ∧ (s.toRing h ds).lostSinceHead = 0 ∧ (s.toRing h ds).captured = s.captured ∧
    (s.toRing h ds).signalView = s.signalView ∧
    (∀ f i, groupFields f = false → (s.toRing h ds).get f i = s.get f i) ∧
    ∃ l, (s.toRing h ds).egress = s.egress ++ (s.recordWrites (s.get .EVU_RING_HEAD) h ++ l) := by
  obtain ⟨l, hl⟩ := writeGroup_first s (s.get .EVU_RING_HEAD) h ds
  unfold State.toRing
  rw [hl]
  refine ⟨?_, State.get_set_self _ _ _ _, rfl, rfl, ?_, ?_, l, rfl⟩
  · exact (State.get_set_ne _ _ _ _ (by decide)).trans (State.get_set_self _ _ _ _)
  · simp only [State.signalView, State.get_set_ne _ _ _ _ (by decide : Field.LINK_DOWN ≠ .EVU_RING_FULL),
      State.get_set_ne _ _ _ _ (by decide : Field.LINK_DOWN ≠ .EVU_RING_HEAD),
      State.get_set_ne _ _ _ _ (by decide : Field.LINK_LTSSM ≠ .EVU_RING_FULL),
      State.get_set_ne _ _ _ _ (by decide : Field.LINK_LTSSM ≠ .EVU_RING_HEAD)]
    rfl
  · intro f i hf
    exact (State.get_set_ne _ _ _ _ (by rintro rfl; cases hf)).trans (State.get_set_ne _ _ _ _ (by rintro rfl; cases hf))

theorem ringWrites_completes (s : State) (seq : Nat) (h : List Nat) (ds : List (List Nat)) :
    let t := s.ringWrites seq h ds
    t.get .EVU_RING_HEAD = Num.wrap32 (s.get .EVU_RING_HEAD + (ds.length + 1)) ∧ t.get .EVU_RING_FULL = 0 ∧
    t.lostSinceHead = 0 ∧ t.captured = s.captured ∧ (∀ f i, groupFields f = false → t.get f i = s.get f i) ∧
    (∀ x ∈ s.recordWrites (s.get .EVU_RING_HEAD) h, Sent s t x) ∧ (s.get .EVU_IRQ_EN = 1 → Signalled s t 0) := by
  obtain ⟨hh, hf, hl, hc, hv, hk, l, he⟩ := toRing_parts s h ds
  simp only [State.ringWrites]
  generalize s.toRing h ds = u at *
  generalize withPhase (u.get .EVU_RING_LOG2) (s.get .EVU_RING_HEAD) h = hd
  have kh := writeHistory_onRegs u seq hd
  obtain ⟨hv2, he2⟩ := writeHistory_signalView u seq hd
  have hl2 := kh.keeps.lostSinceHead
  generalize u.writeHistory seq hd = v at *
  have hget : ∀ f i, historyFields f = false → v.get f i = u.get f i := kh.keeps.1
  have hgroup : ∀ f i, groupFields f = false → v.get f i = s.get f i := fun f i hF =>
    (hget f i (by cases hH : historyFields f <;> simp_all [groupFields])).trans (hk f i hF)
  have hsent : ∀ x ∈ s.recordWrites (s.get .EVU_RING_HEAD) h, Sent s v x := fun x hx =>
    ⟨_, he2.trans he, List.mem_append_left _ hx⟩
  have hirq : v.get .EVU_IRQ_EN = s.get .EVU_IRQ_EN := hgroup _ _ rfl
  have ks := signal_frame v 0 fun _ h => h
  split
  · refine ⟨?_, ?_, ?_, ?_, ?_, ?_, ?_⟩
    · rw [ks.1 _ _ rfl, hget _ _ rfl, hh]
    · rw [ks.1 _ _ rfl, hget _ _ rfl, hf]
    · rw [ks.lostSinceHead, hl2, hl]
    · rw [(signal_only v 0).2.1, kh.only.2.1, hc]
    · intro f i hF
      rw [ks.1 _ _ (by cases hL : linkCounts f <;> simp_all [groupFields]), hgroup f i hF]
    · exact fun x hx => (hsent x hx).keeps ks
    · exact fun _ => (signal_signalled v 0).after (hv2.trans hv) ⟨_, he2.trans he⟩
  · next hn =>
    refine ⟨?_, ?_, hl2.trans hl, kh.only.2.1.trans hc, hgroup, hsent, ?_⟩
    · rw [hget _ _ rfl, hh]
    · rw [hget _ _ rfl, hf]
    · intro h1
      exact absurd (by simp [hirq, h1]) hn

theorem ringLoses_parts (s : State) (n : Nat) :
    (s.ringLoses n).get .EVU_LOST = Num.satAdd 32 (s.get .EVU_LOST) n ∧ (s.ringLoses n).get .EVU_RING_FULL = 1 ∧
    (s.ringLoses n).lostSinceHead = s.lostSinceHead + n ∧ (s.ringLoses n).captured = s.captured ∧
    ∀ f i, f ≠ .EVU_LOST → f ≠ .EVU_RING_FULL → (s.ringLoses n).get f i = s.get f i :=
  ⟨(State.get_set_ne _ _ _ _ (by decide)).trans (State.get_set_self _ _ _ _), State.get_set_self _ _ _ _, rfl, rfl,
    fun _ _ hl hf => (State.get_set_ne _ _ _ _ hf).trans (State.get_set_ne _ _ _ _ hl)⟩

/-- The ring takes groups of stamp `t` (R107, R116). -/
def State.ringShut (s : State) (t : Nat) : Prop := s.get .EVU_RING_EN ≠ 1 ∨ s.sinceReady t = false

/-- A group that goes to no ring changes its number and the history alone. -/
theorem formGroup_shut {s : State} {t : Nat} (h : s.ringShut t) : ∃ hd,
    s.formGroup t = (s.grouped t).writeHistory (Num.wrap32 (s.get .EVU_SEQ + 1)) hd := by
  refine ⟨s.groupHead t, ?_⟩
  rw [formGroup_eq]
  refine if_neg ?_
  rw [grouped_get s t 0 (by decide), (grouped_ring s t).2.2.1]
  rcases h with h | h <;> simp [h]

/-- A group with a place and a way goes to the ring. -/
theorem formGroup_writes {s : State} {t : Nat} (h : ¬s.ringShut t) (hp : s.groupPath = true)
    (hn : (s.groupDetails t).length + 1 ≤ s.evuFree) :
    s.formGroup t = (s.grouped t).ringWrites (Num.wrap32 (s.get .EVU_SEQ + 1)) (s.groupHead t) (s.groupDetails t) := by
  obtain ⟨gp, gf, gs, -⟩ := grouped_ring s t
  simp only [State.ringShut, not_or, not_not, Bool.not_eq_false] at h
  obtain ⟨he, hr⟩ := h
  rw [formGroup_eq]
  dsimp only
  rw [grouped_get s t 0 (by decide), gs, gp, gf, he, hr, hp, decide_eq_true hn]
  rfl

/-- A group without either is lost. -/
theorem formGroup_loses {s : State} {t : Nat} (h : ¬s.ringShut t)
    (hp : s.groupPath = false ∨ s.evuFree < (s.groupDetails t).length + 1) : ∃ hd,
    s.formGroup t = ((s.grouped t).ringLoses ((s.groupDetails t).length + 1)).writeHistory (Num.wrap32 (s.get .EVU_SEQ + 1)) hd := by
  obtain ⟨gp, gf, gs, -⟩ := grouped_ring s t
  simp only [State.ringShut, not_or, not_not, Bool.not_eq_false] at h
  obtain ⟨he, hr⟩ := h
  refine ⟨s.groupHead t, ?_⟩
  rw [formGroup_eq]
  dsimp only
  have hno : (s.groupPath && decide ((s.groupDetails t).length + 1 ≤ s.evuFree)) = false := by
    rcases hp with hp | hp
    · rw [hp, Bool.false_and]
    · rw [decide_eq_false (by omega), Bool.and_false]
  rw [grouped_get s t 0 (by decide), gs, gp, gf, he, hr, hno]
  rfl

/-- Whatever becomes of it, a group leaves what is captured and takes a number. -/
theorem formGroup_takes (s : State) (t : Nat) : (s.formGroup t).get .EVU_SEQ = Num.wrap32 (s.get .EVU_SEQ + 1) ∧
    (s.formGroup t).captured = s.captured.filter fun e => decide (t < e.tick) := by
  have hg : (s.grouped t).get .EVU_SEQ = Num.wrap32 (s.get .EVU_SEQ + 1) := State.get_set_self _ _ _ _
  have hc : (s.grouped t).captured = s.captured.filter fun e => decide (t < e.tick) := rfl
  rw [formGroup_eq]
  dsimp only
  generalize s.grouped t = g at *
  generalize Num.wrap32 (s.get .EVU_SEQ + 1) = q at *
  split
  · split
    · obtain ⟨-, -, -, wc, wk, -⟩ := ringWrites_completes g q (s.groupHead t) (s.groupDetails t)
      exact ⟨(wk _ _ rfl).trans hg, wc.trans hc⟩
    · obtain ⟨-, -, -, lc, lk⟩ := ringLoses_parts g ((s.groupDetails t).length + 1)
      have kh := writeHistory_onRegs (g.ringLoses ((s.groupDetails t).length + 1)) q (s.groupHead t)
      exact ⟨((kh.keeps.1 _ _ rfl).trans (lk _ _ (by decide) (by decide))).trans hg, (kh.only.2.1.trans lc).trans hc⟩
  · have kh := writeHistory_onRegs g q (s.groupHead t)
    exact ⟨(kh.keeps.1 _ _ rfl).trans hg, kh.only.2.1.trans hc⟩

/-! ## EVENT_GROUP and BREACH_LOG_APPEND -/

theorem log_holds (s : State) (type : Nat) (payload : List Nat) :
    ∃ r ∈ (s.log type payload).nor.log, r.type = type ∧ r.tick = s.now ∧ r.payload = payload :=
  ⟨_, List.mem_append_right _ (List.mem_singleton_self _), rfl, rfl, rfl⟩

theorem breachLogAppend_completes {s : State} {e : List Nat} {es : List (List Nat)} (hq : s.breachQueue = e :: es)
    (hr : s.coresRun = true) : Runs .breachLogAppend s fun t => t.breachQueue = es ∧ RegsBut (fun _ => false) 0 s t ∧
      ∃ r ∈ t.nor.log, r.type = 1 ∧ r.tick = s.now ∧ r.payload = e := by
  refine ⟨settle (({ s with breachQueue := es } : State).log 1 e), ?_, ?_, ?_, ?_⟩
  · change execBreachLogAppend s = _
    simp only [execBreachLogAppend, hq, hr, doneIf_true]
  · exact (settle_frame _).breachQueue
  · exact RegsBut.settle (RegsBut.refl _ _ s)
  · rw [(settle_frame _).nor]
    exact log_holds _ _ _

theorem eventGroup_runs {s : State} {t : Nat} (hg : s.groupStamp = some t) (ht : t < s.now ∨ s.get .EVU_TICK_STOPPED = 1) :
    exec .eventGroup s = .next (settle (s.formGroup t)) := by
  change execEventGroup s = _
  simp only [execEventGroup, hg]
  rw [show (decide (t < s.now) || s.get .EVU_TICK_STOPPED == 1) = true by simpa using ht]
  rfl

theorem held_of_groupPath {s : State} (h : s.groupPath = true) : s.held = false := by
  simp only [State.groupPath, Bool.and_eq_true, Bool.not_eq_true'] at h
  exact h.1.1.2

/-- Settles O50: a tick counts, and an event group is numbered before the branches of the ring part. -/
theorem tickAndEventGroupComplete : Obligations.TickAndEventGroupComplete := by
  unfold Obligations.TickAndEventGroupComplete
  refine ⟨fun s => tick_completes, ?_, fun s e es => breachLogAppend_completes⟩
  intro s t hg ht
  obtain ⟨hseq, hcap⟩ := formGroup_takes s t
  refine ⟨settle (s.formGroup t), eventGroup_runs hg ht, ?_, ?_, ?_, ?_, ?_⟩
  · rw [settle_get _ _ _ rfl, hseq]
  · rw [settle_captured, hcap]
  · intro hs hp hn
    obtain ⟨wh, wf, wl, -, -, ws, wi⟩ :=
      ringWrites_completes (s.grouped t) (Num.wrap32 (s.get .EVU_SEQ + 1)) (s.groupHead t) (s.groupDetails t)
    rw [formGroup_writes hs hp hn]
    rw [grouped_get s t 0 (by decide)] at wh ws wi
    rw [grouped_recordWrites] at ws
    refine ⟨?_, ?_, ?_, ?_, ?_, ?_⟩
    · rw [settle_get _ _ _ rfl, wh]
      rfl
    · rw [settle_get _ _ _ rfl, wf]
    · exact Sent.settle (ws _ List.mem_cons_self)
    · exact Sent.settle (ws _ (List.mem_cons_of_mem _ List.mem_cons_self))
    · rw [(settle_frame _).lostSinceHead, wl]
    · intro h1
      exact Signalled.settle ((wi h1).after (grouped_ring s t).2.2.2 ⟨[], by simp [State.grouped]⟩) (held_of_groupPath hp)
  · intro hs hp
    obtain ⟨hd, hl⟩ := formGroup_loses hs hp
    obtain ⟨ll, lf, ls, -, lk⟩ := ringLoses_parts (s.grouped t) ((s.groupDetails t).length + 1)
    have kh := writeHistory_onRegs ((s.grouped t).ringLoses ((s.groupDetails t).length + 1)) (Num.wrap32 (s.get .EVU_SEQ + 1)) hd
    rw [hl]
    refine ⟨?_, ?_, ?_, ?_⟩
    · rw [settle_get _ _ _ rfl, kh.keeps.1 _ _ rfl, ll, grouped_get s t 0 (by decide)]
      rfl
    · rw [settle_get _ _ _ rfl, kh.keeps.1 _ _ rfl, lf]
    · rw [settle_get _ _ _ rfl, kh.keeps.1 _ _ rfl, lk _ _ (by decide) (by decide), grouped_get s t 0 (by decide)]
    · rw [(settle_frame _).lostSinceHead, kh.keeps.lostSinceHead, ls]
      rfl
  · intro hs f i h1 h2 h3
    obtain ⟨hd, hl⟩ := formGroup_shut hs
    rw [hl, settle_get _ _ _ h1, (writeHistory_onRegs _ _ hd).keeps.1 _ _ (by simpa [historyFields] using h3), grouped_get s t i h2]

end Sys2Proof.Machine
end

section
/-! Transfers from host memory and the commands that wait for one (R146, R158, R282). -/

namespace Sys2Proof.Machine

/-! ## What issues and ends transfers -/

/-- `t` differs from `s` in its transfers and in the read requests put on the wire. -/
def ReadsOnly (s t : State) : Prop :=
  ∃ l rs, t = { s with egress := s.egress ++ l, reads := rs } ∧ ∀ x ∈ l, ∃ a n, x = .read a n

section ReadsOnly

variable {s t u : State}

theorem ReadsOnly.refl (s : State) : ReadsOnly s s := ⟨[], s.reads, by simp, by simp⟩

theorem ReadsOnly.trans (h : ReadsOnly s t) (k : ReadsOnly t u) : ReadsOnly s u := by
  obtain ⟨l, rs, rfl, hl⟩ := h
  obtain ⟨m, qs, rfl, hm⟩ := k
  refine ⟨l ++ m, qs, by simp, fun x hx => ?_⟩
  rcases List.mem_append.mp hx with hx | hx
  · exact hl x hx
  · exact hm x hx

theorem ReadsOnly.withReads (s : State) (rs : List HostRead) : ReadsOnly s { s with reads := rs } := ⟨[], rs, by simp, by simp⟩

theorem ReadsOnly.foldl {α : Type} (g : State → α → State) (hg : ∀ s a, ReadsOnly s (g s a)) (l : List α) (s : State) :
    ReadsOnly s (l.foldl g s) := by
  induction l generalizing s with
  | nil => exact .refl s
  | cons a l ih => exact (hg s a).trans (ih _)

theorem emitRead_readsOnly (s : State) (a n : Nat) : ReadsOnly s (s.emit (.read a n)) := ⟨[.read a n], s.reads, rfl, by simp⟩

theorem askFor_readsOnly (s : State) (l : List (Nat × Nat)) : ReadsOnly s (s.askFor l) :=
  .foldl (fun s (x : Nat × Nat) => s.emit (.read x.1 x.2)) (fun s x => emitRead_readsOnly s x.1 x.2) l s

/-- Transfer `r` gets what requests the limit lets go. -/
def State.issueOne (s : State) (r : HostRead) : State :=
  { s.askFor (s.asks r) with reads := s.reads.map fun q => if q.pkt == r.pkt then q.ask (s.asks r) else q }

theorem issueReads_eq (s : State) : s.issueReads = s.reads.foldl State.issueOne s := rfl

theorem issueReads_readsOnly (s : State) : ReadsOnly s s.issueReads :=
  .foldl State.issueOne (fun s r => (askFor_readsOnly s (s.asks r)).trans (.withReads _ _)) s.reads s

theorem startHostRead_readsOnly (s : State) (id a n : Nat) : ReadsOnly s (s.startHostRead id a n) :=
  (ReadsOnly.withReads s _).trans (issueReads_readsOnly _)

theorem endRead_readsOnly (s : State) (id : Nat) : ReadsOnly s (s.endRead id) := by
  refine (ReadsOnly.foldl _ (fun s r => ?_) s.reads s).trans ((ReadsOnly.withReads _ _).trans (issueReads_readsOnly _))
  split
  · exact askFor_readsOnly s _
  · exact .refl s

/-- Nothing but the wire is to be seen of it. -/
theorem ReadsOnly.steady (h : ReadsOnly s t) (F : Field → Bool) : Steady F s t := by
  obtain ⟨l, rs, rfl, hl⟩ := h
  refine { Steady.refl F s with wire := ⟨l, rfl, fun x hx c n a => ?_⟩ }
  obtain ⟨b, m, rfl⟩ := hl x hx
  exact ⟨fun _ => by simp, fun _ => by simp⟩

/-- A part that does not speak of the transfers or the wire is as before. -/
theorem ReadsOnly.part {α : Type} (h : ReadsOnly s t) (g : State → α)
    (hg : ∀ (s : State) l rs, g { s with egress := l, reads := rs } = g s) : g t = g s := by
  obtain ⟨l, rs, rfl, -⟩ := h
  exact hg _ _ _

end ReadsOnly

/-! ## A transfer that starts is there -/

theorem issueOne_pkts (s : State) (r : HostRead) : (s.issueOne r).reads.map HostRead.pkt = s.reads.map HostRead.pkt := by
  simp only [State.issueOne, List.map_map]
  refine List.map_congr_left fun q _ => ?_
  simp only [Function.comp_apply]
  split <;> rfl

theorem foldl_issueOne_pkts (rs : List HostRead) (s : State) :
    (rs.foldl State.issueOne s).reads.map HostRead.pkt = s.reads.map HostRead.pkt := by
  induction rs generalizing s with
  | nil => rfl
  | cons r rs ih => exact (ih _).trans (issueOne_pkts s r)

theorem issueReads_pkts (s : State) : s.issueReads.reads.map HostRead.pkt = s.reads.map HostRead.pkt :=
  foldl_issueOne_pkts s.reads s

theorem startHostRead_mem (s : State) (id a n : Nat) : ∃ r ∈ (s.startHostRead id a n).reads, r.pkt = id := by
  have h : id ∈ (s.startHostRead id a n).reads.map HostRead.pkt := by
    rw [State.startHostRead, issueReads_pkts]
    simp
  exact List.mem_map.mp h

end Sys2Proof.Machine
end

section
/-! A copy that ends after a thermal trip (R111, R112): its reply is withheld, which refutes the statements that promise one. -/

namespace Sys2Proof.Machine

open Tests

/-- Whether a message on the wire is a reply. -/
def Egress.isReply : Egress → Bool
  | .reply .. => true
  | _ => false

/-- `c` answers a next state with no reply on the wire. -/
def answersNoReply (c : Instr) (s : State) : Bool :=
  match exec c s with
  | .next t => t.egress.all fun x => !x.isReply
  | _ => false

theorem not_replied_of_answersNoReply {c : Instr} {s t : State} {p : Pkt} {r : Reply} (h : answersNoReply c s = true)
    (hh : s.held = false) (he : exec c s = .next t) : ¬Replied s t p r := by
  intro hr
  simp only [answersNoReply, he, List.all_eq_true] at h
  rw [Replied, RepliedAt, if_neg (by simp [hh])] at hr
  obtain ⟨slot, l, hl, hx⟩ := hr
  have hno := h _ (hl ▸ List.mem_append_right _ hx)
  cases hno

/-- `base` tripped, with packet `p` begun and the job of its copy in its entry. -/
def tripped (p : Pkt) (s : State) : State :=
  { put (begun p) s with thermal := some 2, jobs := [{ emptyJob with entry := true, pkt := some p.id }] }

/-- A HEALTH_QUERY SUMMARY of 64 bytes. -/
def summaryQuery : Pkt := pk 0 0x51 [0, 0x1000, 0, 64, 0, 0, 0]

theorem tripped_summaryQuery :
    let s := tripped summaryQuery base
    let p := begun summaryQuery
    ((s.packets.map Pkt.id).Nodup ∧ s.reading 0x51 = some p) ∧ s.linkClosed = false ∧ s.held = false ∧
      firstBad ((s.endRead 0).healthChecks p) = none ∧ Num.slice (p.w 2) 7 0 = 0 ∧ answersNoReply .healthQuery s = true := by
  decide +kernel

/-- Refutes O16: a SUMMARY whose job took its entry before a thermal trip ends after it, and its reply is withheld (R112). -/
theorem not_healthQueryCompletesAndHidesSoot : ¬Obligations.HealthQueryCompletesAndHidesSoot := by
  unfold Obligations.HealthQueryCompletesAndHidesSoot
  rintro ⟨-, -, h⟩
  obtain ⟨⟨hn, hr⟩, hl, hh, hb, hs, ha⟩ := tripped_summaryQuery
  obtain ⟨hsum, -⟩ := h _ _ _ ⟨hn, .inl ⟨hr, rfl⟩⟩ hl hb
  obtain ⟨t, he, -, hrep⟩ := hsum hs
  exact not_replied_of_answersNoReply ha hh he hrep

/-- An UPDATE_CHUNK of sector 1. -/
def chunkOne : Pkt := pk 0 0x61 [4096, 4096, 0x2000, 0]

/-- `base` with an update of two sectors begun. -/
def twoSectors : State := { base with fw.upState := 1, fw.upBytes := 8192 }

theorem tripped_chunkOne :
    let s := tripped chunkOne twoSectors
    let p := begun chunkOne
    ((s.packets.map Pkt.id).Nodup ∧ s.reading 0x61 = some p) ∧ s.linkClosed = false ∧ s.held = false ∧
      firstBad ((s.endRead 0).chunkChecks p) = none ∧ 0 < p.w 2 / 4096 ∧ s.soot = [] ∧
      answersNoReply (.updateChunk [] true) s = true := by
  decide +kernel

theorem sootIn_of_clear {s : State} (h : s.soot = []) (lo hi : Nat) : s.sootIn lo hi = [] := by
  simp [State.sootIn, h]

/-- Refutes O22: an UPDATE_CHUNK whose job took its entry before a thermal trip ends after it, and its reply is withheld (R112). -/
theorem not_updateCompletes : ¬Obligations.UpdateCompletes := by
  unfold Obligations.UpdateCompletes
  rintro ⟨-, ⟨-, h⟩, -⟩
  obtain ⟨⟨hn, hr⟩, hl, hh, hb, ho, hs, ha⟩ := tripped_chunkOne
  obtain ⟨hclean, -⟩ := h _ _ _ [] ⟨hn, .inl ⟨hr, rfl⟩⟩ hl hb (.inl ho)
  obtain ⟨t, he, hrep, -⟩ := hclean (sootIn_of_clear hs _ _)
  exact not_replied_of_answersNoReply ha hh he hrep

end Sys2Proof.Machine
end

section
/-! STREAM_FEED and the end of its copy (R192, R216, R219, R226). -/

namespace Sys2Proof.Machine

/-! ## The feed starts -/

/-- The frame that a feed makes. -/
def State.fedFrame (st : Stream) (p : Pkt) (slot : Nat) : Frame :=
  { emptyFrame with
    fseq := p.w 3, phase := .copying p.id, slot := some slot, auBytes := Num.slice (p.w 2) 31 8
    auAddr := st.bitBuf.1 + slot * st.auMaxKib * 1024, prevF := st.f, fps := st.fps, c2 := st.c2 }

/-- The job of a feed (R282). -/
def State.feedJob (s : State) (st : Stream) (p : Pkt) (slot : Nat) : State :=
  s.addJob { emptyJob with
    kind := .ingest, cls := if st.c2 then 2 else 0, stream := p.stream, fseq := p.w 3, pkt := some p.id
    deadline := some (s.now + periodOf st.fps), soot := true
    outs := asBufs [(st.bitBuf.1 + slot * st.auMaxKib * 1024, Num.slice (p.w 2) 31 8)] }

/-- The stream with the frame of a feed, and F. -/
def State.feedFrame (s : State) (st : Stream) (p : Pkt) (slot : Nat) : State :=
  (s.modStream p.stream fun st' => { st' with frames := st'.frames ++ [{ emptyFrame with
      fseq := p.w 3, phase := .copying p.id, slot := some slot, auBytes := Num.slice (p.w 2) 31 8
      auAddr := st.bitBuf.1 + slot * st.auMaxKib * 1024, prevF := st'.f, fps := st'.fps, c2 := st'.c2 }] }).setF p.stream (some (p.w 3))

/-- The slot's tags rise and its transfer starts. -/
def State.feedCopy (s : State) (st : Stream) (p : Pkt) (slot : Nat) : State :=
  let a := st.bitBuf.1 + slot * st.auMaxKib * 1024
  let n := Num.slice (p.w 2) 31 8
  (s.raise a (a + n)).startHostRead p.id (p.w64 4) n

theorem streamFeed_eq {s : State} {p : Pkt} {st : Stream} {slot : Nat} (h1 : firstBad (s.feedChecks p) = none)
    (hs : s.stream? p.stream = some st) (h2 : firstBad (s.feedStreamChecks p st) = none) (hf : st.freeSlot = some slot) :
    s.streamFeed p = (((s.feedJob st p slot).feedFrame st p slot).feedCopy st p slot).streamSync p.stream := by
  simp only [State.streamFeed, checked_none _ h1, hs, checked_none _ h2, hf]
  rfl

theorem feedFrame_stream {s : State} {p : Pkt} {st : Stream} {slot : Nat} (hs : s.stream? p.stream = some st) :
    (s.feedFrame st p slot).stream? p.stream =
      some { st with frames := st.frames ++ [State.fedFrame st p slot], f := some (p.w 3) } := by
  simp only [State.feedFrame, State.setF]
  exact (stream?_modStream_self _ _ _).trans (by rw [stream?_modStream_self, hs]; rfl)

theorem feedFrame_regs (s : State) (st : Stream) (p : Pkt) (slot : Nat) :
    (s.feedFrame st p slot).get .CTX_LAST_FSEQ p.stream = p.w 3 ∧ (s.feedFrame st p slot).get .CTX_F_VALID p.stream = 1 :=
  ⟨(State.get_set_ne _ _ _ _ (by decide)).trans (State.get_set_self _ _ _ _), State.get_set_self _ _ _ _⟩

theorem modStream_packets (s : State) (k : Nat) (g : Stream → Stream) : (s.modStream k g).packets = s.packets := by
  unfold State.modStream
  split <;> rfl

theorem modStream_jobs (s : State) (k : Nat) (g : Stream → Stream) : (s.modStream k g).jobs = s.jobs := by
  unfold State.modStream
  split <;> rfl

theorem feedFrame_packets (s : State) (st : Stream) (p : Pkt) (slot : Nat) : (s.feedFrame st p slot).packets = s.packets := by
  simp only [State.feedFrame, State.setF, State.set_packets, modStream_packets]

theorem feedFrame_jobs (s : State) (st : Stream) (p : Pkt) (slot : Nat) : (s.feedFrame st p slot).jobs = s.jobs := by
  simp only [State.feedFrame, State.setF, State.set_jobs, modStream_jobs]

theorem feedCopy_readsOnly (s : State) (st : Stream) (p : Pkt) (slot : Nat) :
    ReadsOnly (s.raise (st.bitBuf.1 + slot * st.auMaxKib * 1024)
      (st.bitBuf.1 + slot * st.auMaxKib * 1024 + Num.slice (p.w 2) 31 8)) (s.feedCopy st p slot) := startHostRead_readsOnly _ _ _ _

theorem raise_parts (s : State) (lo hi : Nat) : (s.raise lo hi).packets = s.packets ∧ (s.raise lo hi).jobs = s.jobs ∧
    (s.raise lo hi).streams = s.streams ∧ (s.raise lo hi).fields = s.fields := by
  unfold State.raise
  split <;> exact ⟨rfl, rfl, rfl, rfl⟩

theorem mem_raise {s : State} {lo hi a : Nat} (h1 : lo ≤ a) (h2 : a < hi) : ISet.mem (a / 64) (s.raise lo hi).soot = true := by
  unfold State.raise
  rw [if_pos (by omega)]
  refine ISet.mem_add _ _ _ _ (Or.inl ⟨by omega, ?_⟩)
  rw [Num.cdiv, if_neg (by decide)]
  omega

/-- The copy of a feed leaves all but the tags, the transfers and the wire. -/
theorem feedCopy_parts (s : State) (st : Stream) (p : Pkt) (slot : Nat) : (s.feedCopy st p slot).packets = s.packets ∧
    (s.feedCopy st p slot).jobs = s.jobs ∧ (s.feedCopy st p slot).streams = s.streams ∧ (s.feedCopy st p slot).fields = s.fields := by
  have h := feedCopy_readsOnly s st p slot
  obtain ⟨hp, hj, hs, hf⟩ := raise_parts s (st.bitBuf.1 + slot * st.auMaxKib * 1024)
    (st.bitBuf.1 + slot * st.auMaxKib * 1024 + Num.slice (p.w 2) 31 8)
  exact ⟨(h.part State.packets fun _ _ _ => rfl).trans hp, (h.part State.jobs fun _ _ _ => rfl).trans hj,
    (h.part State.streams fun _ _ _ => rfl).trans hs, (h.part State.fields fun _ _ _ => rfl).trans hf⟩

theorem feed_starts {s : State} {p : Pkt} {st : Stream} {slot : Nat} (h : s.Starts p) (ho : p.opcode = 0x11)
    (h1 : firstBad ((s.markStarted p.id).feedChecks p) = none) (hs : (s.markStarted p.id).stream? p.stream = some st)
    (h2 : firstBad ((s.markStarted p.id).feedStreamChecks p st) = none) (hf : st.freeSlot = some slot) :
    Runs .streamFeed s fun t =>
      t.get .CTX_LAST_FSEQ p.stream = p.w 3 ∧ t.get .CTX_F_VALID p.stream = 1 ∧
      (∃ x f, t.stream? p.stream = some x ∧ x.f = some (p.w 3) ∧ x.frames = st.frames ++ [f] ∧ f.fseq = p.w 3 ∧
        f.phase = .copying p.id ∧ f.slot = some slot ∧ f.auBytes = Num.slice (p.w 2) 31 8) ∧
      (∃ j ∈ t.jobs, j.kind = .ingest ∧ j.pkt = some p.id ∧ j.stream = p.stream ∧ j.fseq = p.w 3) ∧
      (∃ r ∈ t.reads, r.pkt = p.id) ∧
      ∀ a, st.bitBuf.1 + slot * st.auMaxKib * 1024 ≤ a →
        a < st.bitBuf.1 + slot * st.auMaxKib * 1024 + Num.slice (p.w 2) 31 8 → t.sooted a = true := by
  refine ⟨_, h.runs rfl ho (streamFeed_eq h1 hs h2 hf), ?_⟩
  have hw := h.waits (by rw [ho]; decide)
  generalize s.markStarted p.id = u at hw hs ⊢
  obtain ⟨hr1, hr2⟩ := feedFrame_regs (u.feedJob st p slot) st p slot
  have hst := feedFrame_stream (s := u.feedJob st p slot) (slot := slot) hs
  have hj := feedFrame_jobs (u.feedJob st p slot) st p slot
  have hp : ((u.feedJob st p slot).feedFrame st p slot).packets = u.packets := feedFrame_packets (u.feedJob st p slot) st p slot
  obtain ⟨j, hmem, hk, -, hjp, hjs, hjf⟩ := addJob_mem u { emptyJob with
    kind := .ingest, cls := if st.c2 then 2 else 0, stream := p.stream, fseq := p.w 3, pkt := some p.id
    deadline := some (u.now + periodOf st.fps), soot := true
    outs := asBufs [(st.bitBuf.1 + slot * st.auMaxKib * 1024, Num.slice (p.w 2) 31 8)] }
  have hmem' : j ∈ ((u.feedJob st p slot).feedFrame st p slot).jobs := hj ▸ hmem
  generalize (u.feedJob st p slot).feedFrame st p slot = v at hr1 hr2 hst hmem' hp ⊢
  obtain ⟨cp, cj, cs, cf⟩ := feedCopy_parts v st p slot
  obtain ⟨r, hrm, hrp⟩ := startHostRead_mem (v.raise (st.bitBuf.1 + slot * st.auMaxKib * 1024)
    (st.bitBuf.1 + slot * st.auMaxKib * 1024 + Num.slice (p.w 2) 31 8)) p.id (p.w64 4) (Num.slice (p.w 2) 31 8)
  have csoot := (feedCopy_readsOnly v st p slot).part State.soot fun _ _ _ => rfl
  have hrm' : r ∈ (v.feedCopy st p slot).reads := hrm
  generalize v.feedCopy st p slot = c at cp cj cs cf csoot hrm' ⊢
  have ks := streamSync_onRegs c p.stream
  have hw' : (c.streamSync p.stream).Waits p.id := by
    refine hw.congr ?_
    rw [State.pktsOf, ks.only.1, cp, hp, State.pktsOf]
  have kd := drainSettle_frame (c.streamSync p.stream) p.client
  have hd := drainSettle_waitOf hw' p.client
  have hget : ∀ f i, packetFields f = false → syncFields f = false →
      (settle ((c.streamSync p.stream).drain p.client)).get f i = v.get f i := fun f i k1 k2 =>
    (kd.1 f i k1).trans ((ks.keeps.1 f i k2).trans (State.get_congr cf f i))
  have hstream : (settle ((c.streamSync p.stream).drain p.client)).stream? p.stream = v.stream? p.stream := by
    rw [State.stream?, kd.streams, ks.streams, cs, State.stream?]
  refine ⟨?_, ?_, ?_, ⟨j, ?_, hk, hjp, hjs, hjf⟩, ⟨r, ?_, hrp⟩, ?_⟩
  · rw [hget _ _ rfl rfl, hr1]
  · rw [hget _ _ rfl rfl, hr2]
  · exact ⟨_, State.fedFrame st p slot, hstream.trans hst, rfl, rfl, rfl, rfl, rfl, rfl⟩
  · exact mem_jobs_of_waitOf (hd.trans (ks.only.waitOf p.id)) (cj ▸ hmem') hjp
  · exact mem_reads_of_waitOf (hd.trans (ks.only.waitOf p.id)) hrm' hrp
  · intro a ha1 ha2
    have hm := mem_raise (s := v) ha1 ha2
    simp only [State.sooted, kd.soot, ks.keeps.soot, csoot, hm, Bool.or_true]

end Sys2Proof.Machine
end

section
/-! FEED_COPY_DONE: the three ends of a feed's copy (R192, R216, R219, R226). -/

namespace Sys2Proof.Machine

/-- Bytes `b` stand in memory at `a`. -/
def State.withBytes (s : State) (a : Nat) (b : Bytes) : State := { s with dram := memWrite s.dram a b }

/-- The access unit stands in its slot. -/
def State.landed (s : State) (f : Frame) (au : Bytes) : State := (s.withBytes f.auAddr au).rewritten (f.auAddr, f.auBytes)

/-- Frame `q` of a stream is held under deadline `d`. -/
def Stream.holdFrame (st : Stream) (q d : Nat) : Stream :=
  { (st.modFrame q fun g => { g with phase := .held, deadline := d, accepted := true }) with prevD := d, fed := st.fed + 1 }

/-- The frame of a whole access unit is held, with the deadline of its stream (R219). -/
def State.holdAu (s : State) (k : Nat) (st : Stream) (f : Frame) : State :=
  (s.dropJobs fun j => j.stream == k && j.fseq == f.fseq && j.kind == .ingest).modStream k fun x =>
    x.holdFrame f.fseq (max s.now st.prevD + periodOf st.fps)

/-- What becomes of a held access unit whose stream takes none. -/
def State.refuseAu (s : State) (k : Nat) (st : Stream) (f : Frame) : State :=
  if st.closingPkt.isSome then
    s.modStream k fun st => { st with frames := st.frames.filter fun g => g.fseq != f.fseq, closeDisc := st.closeDisc + 1 }
  else if st.shed.isSome then
    (s.notDelivered k f.fseq (st.pendingBits &&& reasonShed)).modStream k fun x =>
      { x with pendingBits := st.pendingBits - (st.pendingBits &&& reasonShed) }
  else if st.pipe.isNone || st.unbindPkt.isSome then s.notDelivered k f.fseq 0
  else s

/-- The end of a feed whose access unit fails its check (R226). -/
def State.refuseFeed (s : State) (k : Nat) (f : Frame) : State :=
  (s.unfeed k f).modStream k fun st => { st with errors := st.errors + 1 }

section Copy

variable {s : State} {k id : Nat} {f : Frame} {au : Bytes} {st : Stream}

theorem copyDone_fenced (hs : s.stream? k = some st) (hf : (s.landed f au).feedFenced id = true) :
    s.copyDone k id f au = ((s.landed f au).unfeed k f).complete id ⟨stAbortedRole, (s.landed f au).roleDetail, 0, 0, 0, 0⟩ := by
  simp only [State.copyDone, hs]
  exact if_pos hf

theorem copyDone_bad (hs : s.stream? k = some st) (hf : (s.landed f au).feedFenced id = false) {c : Nat}
    (hc : ingestFault st.codec au = some c) : s.copyDone k id f au =
    ((s.landed f au).refuseFeed k f).complete id ⟨stStreamError, c, 0, 0, 0, 0⟩ := by
  simp only [State.copyDone, hs, hc]
  exact if_neg (Bool.eq_false_iff.mp hf)

theorem copyDone_held (hs : s.stream? k = some st) (hf : (s.landed f au).feedFenced id = false)
    (hc : ingestFault st.codec au = none) : s.copyDone k id f au =
    ((((s.landed f au).holdAu k st f).refuseAu k st f).streamSync k).complete id (Reply.ok (st.auHeld + 1)) := by
  simp only [State.copyDone, hs, hc]
  exact if_neg (Bool.eq_false_iff.mp hf)

end Copy

/-! ## What each leaves of the packet's way -/

/-- The registers that the end of a feed's copy writes. -/
def feedFields (f : Field) : Bool := takeFields f || giveFields f || poisonFields f

theorem takeFields_feed (f : Field) (h : takeFields f = true) : feedFields f = true := by simp [feedFields, h]
theorem giveFields_feed (f : Field) (h : giveFields f = true) : feedFields f = true := by simp [feedFields, h]

theorem streamSync_feed (s : State) (k : Nat) : Steady feedFields s (s.streamSync k) :=
  (streamSync_onRegs s k).steady.mono fun f h => takeFields_feed f (syncFields_take f h)

theorem landed_steady (s : State) (f : Frame) (au : Bytes) : Steady poisonFields s (s.landed f au) :=
  Steady.trans (t := s.withBytes f.auAddr au) (.same rfl) (rewritten_inHand _ 0 _).toSteady

theorem unfeed_steady (s : State) (k : Nat) (f : Frame) : Steady feedFields s (s.unfeed k f) := by
  unfold State.unfeed
  split
  · exact .refl _ s
  · next st _ =>
    refine Steady.trans ?_ (streamSync_feed _ k)
    refine Steady.more (t := (if st.f == some f.fseq then s.setF k f.prevF else s).modStream k fun st =>
      { st with frames := st.frames.filter fun g => g.fseq != f.fseq }) ?_ rfl
    exact (Steady.ite ((setF_steady s k f.prevF).mono takeFields_feed) (.refl _ s)).trans (modStream_steady _ _ k _)

theorem refuseFeed_steady (s : State) (k : Nat) (f : Frame) : Steady feedFields s (s.refuseFeed k f) :=
  (unfeed_steady s k f).trans (modStream_steady _ _ k _)

theorem holdAu_steady (F : Field → Bool) (s : State) (k : Nat) (st : Stream) (f : Frame) : Steady F s (s.holdAu k st f) :=
  Steady.trans (t := s.dropJobs fun j => j.stream == k && j.fseq == f.fseq && j.kind == .ingest) (.same rfl)
    (modStream_steady F _ k _)

theorem refuseAu_steady (s : State) (k : Nat) (st : Stream) (f : Frame) : Steady feedFields s (s.refuseAu k st f) := by
  have hn : ∀ r, Steady feedFields s (s.notDelivered k f.fseq r) := fun r => (notDelivered_steady s k f.fseq r).mono giveFields_feed
  unfold State.refuseAu
  exact (modStream_steady _ s k _).ite (((hn _).trans (modStream_steady _ _ k _)).ite ((hn 0).ite (.refl _ s)))

theorem feedFields_link : ∀ f ∈ linkFields, feedFields f = false := by decide

theorem poisonFields_link : ∀ f ∈ linkFields, poisonFields f = false := by decide

/-! ## A stream that takes the access unit -/

theorem holdFrame_frame (st : Stream) (q d : Nat) : (st.holdFrame q d).frame? q =
    (st.frame? q).map fun g => { g with phase := .held, deadline := d, accepted := true } :=
  frame?_modFrame st q (fun g => { g with phase := .held, deadline := d, accepted := true }) fun _ h => h

theorem holdAu_frame {s : State} {k : Nat} {st : Stream} {f : Frame} (hs : s.stream? k = some st)
    (hf : st.frame? f.fseq = some f) : ∃ x g, (s.holdAu k st f).stream? k = some x ∧ x.frame? f.fseq = some g ∧
      g.phase = .held ∧ g.accepted = true ∧ g.deadline = max s.now st.prevD + periodOf st.fps := by
  refine ⟨st.holdFrame f.fseq (max s.now st.prevD + periodOf st.fps),
    { f with phase := .held, deadline := max s.now st.prevD + periodOf st.fps, accepted := true }, ?_, ?_, rfl, rfl, rfl⟩
  · exact (stream?_modStream_self _ _ _).trans (by rw [stream?_dropJobs, hs]; rfl)
  · rw [holdFrame_frame, hf]
    rfl

theorem refuseAu_takes {s : State} {k : Nat} {st : Stream} {f : Frame} (hc : st.closingPkt = none) (hs : st.shed = none)
    (hp : st.pipe.isSome = true) (hu : st.unbindPkt = none) : s.refuseAu k st f = s := by
  obtain ⟨q, hq⟩ := Option.isSome_iff_exists.mp hp
  simp [State.refuseAu, hc, hs, hq, hu]

/-! ## FEED_COPY_DONE -/

theorem landed_parts (s : State) (f : Frame) (au : Bytes) : (s.landed f au).packets = s.packets ∧
    (s.landed f au).leaseLapsed = s.leaseLapsed ∧ (s.landed f au).streams = s.streams := by
  unfold State.landed State.rewritten
  dsimp only
  split
  · have k := poisonSync_onRegs { s.withBytes f.auAddr au with
      poison := (s.withBytes f.auAddr au).poison.filter fun p => !(decide (f.auAddr ≤ p.1) && decide (p.1 + 64 ≤ f.auAddr + f.auBytes)) }
    exact ⟨k.only.1, k.keeps.leaseLapsed, k.streams⟩
  · exact ⟨rfl, rfl, rfl⟩

/-- What a feed's end goes by besides its access unit: the fences, and the detail of their reply. -/
def State.feedFence (s : State) (id : Nat) : Bool × Nat := (s.feedFenced id, s.roleDetail)

theorem feedFence_congr {s t : State} (hg : ∀ f ∈ [Field.ROLE, .LEASE_VALID], t.get f = s.get f) (hp : t.packets = s.packets)
    (hl : t.leaseLapsed = s.leaseLapsed) (id : Nat) : t.feedFence id = s.feedFence id := by
  simp only [State.feedFence, State.feedFenced, State.roleRefuses, State.roleDetail, State.role, State.pkt?, hp, hl,
    hg .ROLE (by decide), hg .LEASE_VALID (by decide)]

/-- The transfer's end and the access unit in its slot leave the fences as they were. -/
theorem landed_fence (s : State) (f : Frame) (au : Bytes) (id : Nat) :
    ((s.endRead id).landed f au).feedFence id = s.feedFence id := by
  obtain ⟨hp, hl, -⟩ := landed_parts (s.endRead id) f au
  have kl := landed_steady (s.endRead id) f au
  have ke := endRead_readsOnly s id
  refine feedFence_congr (fun g hg => ?_) (hp.trans (ke.part State.packets fun _ _ _ => rfl))
    (hl.trans (ke.part State.leaseLapsed fun _ _ _ => rfl)) id
  have hf : ∀ g ∈ [Field.ROLE, .LEASE_VALID], poisonFields g = false := by decide
  exact (kl.reg g 0 (hf g hg)).trans (ke.part (fun s => s.get g) fun _ _ _ => rfl)

theorem feedCopyDone_runs {s : State} {k fseq id : Nat} {st : Stream} {f : Frame} {au : Bytes} (hs : s.stream? k = some st)
    (hf : st.frame? fseq = some f) (hph : f.phase = .copying id) (hr : s.coresRun = true) (he : s.readMayEnd id = true)
    (hl : au.length = f.auBytes) (hj : ∃ j ∈ s.jobs, j.stream = k ∧ j.fseq = fseq ∧ j.kind = .ingest ∧ j.entry = true) :
    exec (.feedCopyDone k fseq au) s = .next (settle ((s.endRead id).copyDone k id f au)) := by
  have hj' : (s.jobs.any fun j => j.stream == k && j.fseq == fseq && j.kind == .ingest && j.entry) = true := by
    obtain ⟨j, hm, h1, h2, h3, h4⟩ := hj
    exact List.any_eq_true.mpr ⟨j, hm, by simp [h1, h2, h3, h4]⟩
  have hready : s.isReady = true ∧ s.thermal.isNone = true := by
    simp only [State.coresRun, Bool.and_eq_true] at hr
    obtain ⟨⟨⟨⟨h1, -⟩, h2⟩, -⟩, -⟩ := hr
    exact ⟨h1, h2⟩
  change execFeedCopyDone k fseq au s = _
  simp only [execFeedCopyDone, hs, Option.bind_some, hf, hph, hready.1, hready.2, hr, he, hl, beq_self_eq_true, hj', Bool.and_self,
    doneIf_true]

theorem feedCopyDone_completes {s : State} {k fseq id : Nat} {st : Stream} {f : Frame} {p : Pkt} {au : Bytes}
    (hs : s.stream? k = some st) (hf : st.frame? fseq = some f) (hp : s.pkt? id = some p) (hst : s.isStaged id = false)
    (hr : s.coresRun = true) (hl : s.linkClosed = false) :
    let t := settle ((s.endRead id).copyDone k id f au)
    (s.feedFenced id = true → Replied s t p ⟨stAbortedRole, s.roleDetail, 0, 0, 0, 0⟩) ∧
    (∀ code, s.feedFenced id = false → ingestFault st.codec au = some code → Replied s t p ⟨stStreamError, code, 0, 0, 0, 0⟩) ∧
    (s.feedFenced id = false → ingestFault st.codec au = none →
      Replied s t p (Reply.ok (st.auHeld + 1)) ∧
      (st.closingPkt = none → st.shed = none → st.pipe.isSome = true → st.unbindPkt = none →
        ∃ x g, t.stream? k = some x ∧ x.frame? fseq = some g ∧ g.phase = .held ∧ g.accepted = true ∧
          g.deadline = max s.now st.prevD + periodOf st.fps)) := by
  have ke := endRead_readsOnly s id
  have hse : (s.endRead id).stream? k = some st := (ke.part (fun s => s.stream? k) fun _ _ _ => rfl).trans hs
  obtain ⟨hfen, hdet⟩ := Prod.mk.inj (landed_fence s f au id)
  have hq : f.fseq = fseq := by simpa using List.find?_some hf
  have kl := (ke.steady poisonFields).trans (landed_steady (s.endRead id) f au)
  have hsl : ((s.endRead id).landed f au).stream? k = some st := by
    rw [State.stream?, (landed_parts _ f au).2.2, ← hse, State.stream?]
  have hnow : ((s.endRead id).landed f au).now = s.now := kl.reg .EVU_TICK_NOW 0 rfl
  have hpath := kl.path id poisonFields_link
  have hthermal := thermal_of_coresRun hr
  dsimp only
  refine ⟨fun h => ?_, fun c h hc => ?_, fun h hc => ?_⟩
  · rw [copyDone_fenced hse (hfen.trans h), hdet]
    exact RepliedAt.settle ((hpath.trans ((unfeed_steady _ k f).path id feedFields_link)).replied _ hp hst hthermal hl)
  · rw [copyDone_bad hse (hfen.trans h) hc]
    exact RepliedAt.settle ((hpath.trans ((refuseFeed_steady _ k f).path id feedFields_link)).replied _ hp hst hthermal hl)
  · rw [copyDone_held hse (hfen.trans h) hc]
    generalize (s.endRead id).landed f au = v at hsl hnow hpath ⊢
    have hend : Steady feedFields v (((v.holdAu k st f).refuseAu k st f).streamSync k) :=
      ((holdAu_steady _ v k st f).trans (refuseAu_steady _ k st f)).trans (streamSync_feed _ k)
    refine ⟨RepliedAt.settle ((hpath.trans (hend.path id feedFields_link)).replied _ hp hst hthermal hl), fun h1 h2 h3 h4 => ?_⟩
    rw [refuseAu_takes h1 h2 h3 h4]
    obtain ⟨x, g, hx, hg, hrest⟩ := holdAu_frame hsl (hq ▸ hf)
    refine ⟨x, g, ?_, hq ▸ hg, hnow ▸ hrest⟩
    rw [← hx, ← streamSync_stream? (v.holdAu k st f) k k]
    generalize (v.holdAu k st f).streamSync k = w
    rw [State.stream?, (settle_frame _).streams, (complete_frame w id _).streams, State.stream?]

/-- Settles O8: the feed leaves its work through the packets behind it, and the three ends of its copy. -/
theorem streamFeedCompletes : Obligations.StreamFeedCompletes := by
  unfold Obligations.StreamFeedCompletes
  refine ⟨?_, fun s k fseq id st f p au hs hf hph hp hst hr hl he hlen hj => ?_⟩
  · rintro s u p st slot h ho rfl h1 hs h2 hf
    exact feed_starts h ho h1 hs h2 hf
  · exact ⟨_, feedCopyDone_runs hs hf hph hr he hlen hj, feedCopyDone_completes hs hf hp hst hr hl⟩

end Sys2Proof.Machine
end

section
/-! A refused operation (R46, R49): what the breach log, its registers and its event leave as it was. -/

namespace Sys2Proof.Machine

/-- The registers that a breach writes. -/
def breachFields (f : Field) : Bool :=
  linkCounts f || f == .SEC_BREACH_SEQ || f == .BREACH_LOG || f == .SEC_BREACH_TOTAL || f == .SEC_SOOT_IRQ || f == .EVU_PENDING

/-- The entry of a breach (R49). -/
def State.breachWords (s : State) (exit cause requester count addr hostAddr : Nat) : List Nat :=
  [exit * 2 ^ 24 + cause * 65536 + requester % 65536, min count (2 ^ 32 - 1), addr % 2 ^ 32, addr / 2 ^ 32 % 2 ^ 32,
   s.now % 2 ^ 32, s.now / 2 ^ 32 % 2 ^ 32, hostAddr % 2 ^ 32, Num.wrap32 (s.get .SEC_BREACH_SEQ + 1)]

/-- The on-chip log takes an entry under the next number (R49). -/
def State.logBreach (s : State) (ws : List Nat) : State :=
  let seq := Num.wrap32 (s.get .SEC_BREACH_SEQ + 1)
  (List.range 8).foldl (fun s w => s.set .BREACH_LOG (((seq + 63) % 64) * 8 + w) (ws.getD w 0)) (s.set .SEC_BREACH_SEQ 0 seq)

/-- The entries that wait for their copy in the SPI NOR (R50). -/
def State.withQueue (s : State) (q : List (List Nat)) : State := { s with breachQueue := q }

/-- The total counts a breach, and its interrupt and its event are raised (R51, R52). -/
def State.raiseBreach (s : State) (count requester seq d : Nat) : State :=
  ((s.set .SEC_BREACH_TOTAL 0 ((s.get .SEC_BREACH_TOTAL + count) % 2 ^ 64)).irq .SEC_SOOT_IRQ .SEC_SOOT_IRQ_EN 0 0 1).capture 4
    requester seq d 0

/-- An entry of the log is made, waits for its copy and is raised. -/
def State.noteBreach (s : State) (ws : List Nat) (count requester d : Nat) : State :=
  let u := s.logBreach ws
  (u.withQueue (u.breachQueue ++ [ws])).raiseBreach count requester (Num.wrap32 (s.get .SEC_BREACH_SEQ + 1)) d

theorem breach_eq (s : State) (exit cause requester count addr hostAddr : Nat) : s.breach exit cause requester count addr hostAddr =
    s.noteBreach (s.breachWords exit cause requester count addr hostAddr) count requester (exit + 256 * cause) := rfl

theorem linkCounts_breach (f : Field) (h : linkCounts f = true) : breachFields f = true := by simp [breachFields, h]

theorem logBreach_onRegs (s : State) (ws : List Nat) : OnRegs breachFields s (s.logBreach ws) :=
  ((OnRegs.refl _ s).set .SEC_BREACH_SEQ 0 _ rfl).foldl _ (fun u _ => (OnRegs.refl _ u).set .BREACH_LOG _ _ rfl) _

theorem raiseBreach_keeps (s : State) (count requester seq d : Nat) : Keeps breachFields s (s.raiseBreach count requester seq d) :=
  (((Keeps.refl _ s).set .SEC_BREACH_TOTAL 0 _ rfl).trans (irq_frame _ .SEC_SOOT_IRQ .SEC_SOOT_IRQ_EN 0 0 1 linkCounts_breach rfl)).trans
    (capture_frame _ 4 requester seq d 0 (.inr rfl))

theorem raiseBreach_steady (s : State) (count requester seq d : Nat) : Steady breachFields s (s.raiseBreach count requester seq d) :=
  Steady.capture (Steady.irq ((Steady.refl _ s).set .SEC_BREACH_TOTAL 0 _ rfl) .SEC_SOOT_IRQ .SEC_SOOT_IRQ_EN 0 0 1 linkCounts_breach rfl)
    4 requester seq d 0 (.inr rfl)

/-- Two states that a frame relates still are with the same entries waiting. -/
theorem Keeps.withQueue {F : Field → Bool} {s t : State} (k : Keeps F s t) (q : List (List Nat)) :
    Keeps F (s.withQueue q) (t.withQueue q) :=
  ⟨k.1, congrArg (fun s : State => s.withQueue q) k.2.1, k.2.2⟩

theorem noteBreach_keeps (s : State) (ws : List Nat) (count requester d : Nat) :
    ∃ q, Keeps breachFields (s.withQueue q) (s.noteBreach ws count requester d) :=
  ⟨_, ((logBreach_onRegs s ws).keeps.withQueue _).trans (raiseBreach_keeps _ _ _ _ _)⟩

theorem withQueue_steady (F : Field → Bool) (s : State) (q : List (List Nat)) : Steady F s (s.withQueue q) := .same rfl

theorem noteBreach_steady (s : State) (ws : List Nat) (count requester d : Nat) :
    Steady breachFields s (s.noteBreach ws count requester d) :=
  ((logBreach_onRegs s ws).steady.trans (withQueue_steady _ _ _)).trans (raiseBreach_steady _ _ _ _ _)

/-- A breach changes registers of its own, what waits of the log, and events. -/
theorem breach_keeps (s : State) (exit cause requester count addr hostAddr : Nat) :
    ∃ q, Keeps breachFields (s.withQueue q) (s.breach exit cause requester count addr hostAddr) := by
  rw [breach_eq]
  exact noteBreach_keeps _ _ _ _ _

theorem breach_steady (s : State) (exit cause requester count addr hostAddr : Nat) :
    Steady breachFields s (s.breach exit cause requester count addr hostAddr) := by
  rw [breach_eq]
  exact noteBreach_steady _ _ _ _ _

end Sys2Proof.Machine
end

section
/-! The end of a load (R38, R196, R294, R295, R313). -/

namespace Sys2Proof.Machine

/-! ## What the checks of a load read -/

/-- A load writes registers of a breach, of the poison marks and of the pools. -/
def loadFields (f : Field) : Bool := breachFields f || poisonFields f || poolFields f

theorem breachFields_load (f : Field) (h : breachFields f = true) : loadFields f = true := by simp [loadFields, h]
theorem breach_outside_load (f : Field) (h : loadFields f = false) : breachFields f = false := by simp_all [loadFields]
theorem poisonFields_load (f : Field) (h : poisonFields f = true) : loadFields f = true := by simp [loadFields, h]
theorem poolFields_load (f : Field) (h : poolFields f = true) : loadFields f = true := by simp [loadFields, h]

/-- What a load's end decides by, and memory. -/
def State.loadView (s : State) :=
  (s.dram, s.objects, s.loads, s.get .KEY_MODEL_OK)

theorem Keeps.loadView {s t : State} (k : Keeps loadFields s t) : t.loadView = s.loadView := by
  simp only [State.loadView, k.dram, k.objects, k.loads, k.1 .KEY_MODEL_OK 0 rfl]

theorem coreLoad_clear {s : State} {a : Nat} {bs : Bytes} (h : s.sootIn a (a + bs.length) = []) : s.coreLoad a bs = (bs, s) := by
  simp only [State.coreLoad, h]

theorem coreLoad_soot {s : State} {a : Nat} {bs : Bytes} {r : Nat × Nat} {rs : List (Nat × Nat)}
    (h : s.sootIn a (a + bs.length) = r :: rs) : s.coreLoad a bs =
      ((bs.zipIdx).map fun b => if ISet.mem ((a + b.2) / 64) s.soot then 0#8 else b.1,
       s.breach 4 1 (0x0900 + Config.loadCore.val) (ISet.size (r :: rs)) (64 * r.1) 0) := by
  simp only [State.coreLoad, h]

/-- What Choararok loads depends on the tags alone. -/
theorem coreLoad_seen {s t : State} (h : t.soot = s.soot) (a : Nat) (bs : Bytes) : (t.coreLoad a bs).1 = (s.coreLoad a bs).1 := by
  have hs : t.sootIn a (a + bs.length) = s.sootIn a (a + bs.length) := by simp only [State.sootIn, h]
  cases hi : s.sootIn a (a + bs.length) with
  | nil => rw [coreLoad_clear hi, coreLoad_clear (hs.trans hi)]
  | cons r rs => rw [coreLoad_soot hi, coreLoad_soot (hs.trans hi), h]

theorem coreLoad_leaves (s : State) (a : Nat) (bs : Bytes) : Steady loadFields s (s.coreLoad a bs).2 ∧
    (s.coreLoad a bs).2.loadView = s.loadView := by
  cases hi : s.sootIn a (a + bs.length) with
  | nil => rw [coreLoad_clear hi]; exact ⟨.refl _ s, rfl⟩
  | cons r rs =>
    rw [coreLoad_soot hi]
    obtain ⟨q, k⟩ := breach_keeps s 4 1 (0x0900 + Config.loadCore.val) (ISet.size (r :: rs)) (64 * r.1) 0
    exact ⟨(breach_steady s _ _ _ _ _ _).mono breachFields_load, (k.mono breach_outside_load).loadView⟩

/-! ## The image in memory -/

/-- The image stands in memory, and its granules are poisoned no more (R342). -/
def State.loadImage (s : State) (base n : Nat) (image : Bytes) : State :=
  { s with dram := memWrite s.dram base image
           poison := s.poison.filter fun e => decide (e.1 < base) || decide (base + n ≤ e.1) }

/-- The check of a load's image that fails. -/
def loadCheck (tree : Bool) (image : Bytes) (n : Nat) (ok : Bool) : Option Nat :=
  if tree then ensembleCheck image n ok else bundleCheck image n ok

/-- The object of a load. -/
def loadObj (tree : Bool) (image : Bytes) (h c base : Nat) : Obj :=
  if tree then parseEnsemble image h c base else parseModel image h c base

/-- The reply of a load that made object `o`. -/
def loadReply (tree : Bool) (h : Nat) (o : Obj) : Reply := if tree then Reply.ok h o.nTrees o.depth o.nFeat else Reply.ok h

/-- The load ends with its object in `slot`. -/
def State.makeObject (s : State) (tree : Bool) (p : Pkt) (base : Nat) (image : Bytes) (slot : Nat) : State :=
  let c := nextCount (Tab.getD 0 slot s.loads)
  { s.endLoad p.id with
    objects := Tab.put slot (loadObj tree image (slot + 65536 * c) p.client base) s.objects, loads := Tab.put slot c s.loads }

/-- The rest of a load's end once its image is in memory, seen as `seen` in state `s`. -/
def State.judgeLoad (s : State) (tree : Bool) (p : Pkt) (base : Nat) (seen : Bytes) (ok : Bool) : State :=
  match loadCheck tree seen (p.w 4) ok with
  | some c => s.failLoad p.id base (Reply.badStruct c)
  | none =>
    match s.freeSlot with
    | none => s.failLoad p.id base (Reply.noResource 3)
    | some slot =>
      if Config.objectsPerKind ≤ s.objCount tree then s.failLoad p.id base (Reply.noResource 3)
      else
        let h := slot + 65536 * nextCount (Tab.getD 0 slot s.loads)
        (s.makeObject tree p base seen slot).complete p.id (loadReply tree h (loadObj tree seen h p.client base))

theorem loadDone_eq (s : State) (tree : Bool) (p : Pkt) (base : Nat) (image : Bytes) (sigOk : Bool) :
    s.loadDone tree p base image sigOk =
      let x := (s.loadImage base (p.w 4) image).poisonSync.coreLoad base image
      x.2.judgeLoad tree p base x.1 (sigOk && x.2.get .KEY_MODEL_OK == 1) := by
  unfold State.loadDone State.judgeLoad
  cases tree <;> rfl

/-- The image in memory and its check leave the packet's way, and what the load's end decides by but memory. -/
theorem loadImage_leaves (s : State) (base n : Nat) (image : Bytes) :
    let t := (s.loadImage base n image).poisonSync
    Steady loadFields s t ∧ t.soot = s.soot ∧ t.dram = memWrite s.dram base image ∧ t.objects = s.objects ∧ t.loads = s.loads ∧
      t.get .KEY_MODEL_OK = s.get .KEY_MODEL_OK := by
  have k := poisonSync_onRegs (s.loadImage base n image)
  exact ⟨Steady.trans (t := s.loadImage base n image) (.same rfl) (k.steady.mono poisonFields_load), k.keeps.soot, k.keeps.dram,
    k.keeps.objects, k.keeps.loads, k.keeps.1 _ _ rfl⟩

/-! ## The end of a load -/

/-- A load that fails frees its image and takes no slot. -/
def State.dropLoad (s : State) (id base : Nat) : State := ((s.endLoad id).free base).poolSync

theorem free_objects (s : State) (a : Nat) : (s.free a).objects = s.objects := by
  unfold State.free
  split
  · rfl
  · dsimp only
    split <;> rfl

theorem dropLoad_leaves (s : State) (id base : Nat) : Steady loadFields s (s.dropLoad id base) ∧
    (s.dropLoad id base).objects = s.objects := by
  have k := poolSync_onRegs ((s.endLoad id).free base)
  refine ⟨Steady.trans (t := (s.endLoad id).free base) ?_ (k.steady.mono poolFields_load), k.keeps.objects.trans (free_objects _ base)⟩
  exact Steady.trans (t := s.endLoad id) (.same rfl) (.same (free_outward _ base).1)

theorem makeObject_steady (s : State) (tree : Bool) (p : Pkt) (base : Nat) (image : Bytes) (slot : Nat) :
    Steady loadFields s (s.makeObject tree p base image slot) := .same rfl

theorem loadObj_facts (tree : Bool) (image : Bytes) (h c base : Nat) : (loadObj tree image h c base).isTree = tree ∧
    (loadObj tree image h c base).handle = h ∧ (loadObj tree image h c base).base = base := by
  cases tree <;> exact ⟨rfl, rfl, rfl⟩

theorem loadFields_link : ∀ f ∈ linkFields, loadFields f = false := by decide

/-- What a load's end comes to: a check that fails, no slot, or an object. -/
theorem judgeLoad_completes {s t : State} {tree : Bool} {p : Pkt} {base : Nat} {seen : Bytes} {ok : Bool}
    (hpath : Path p.id s t) (hp : s.pkt? p.id = some p) (hst : s.isStaged p.id = false) (hth : s.thermal = none)
    (hl : s.linkClosed = false) :
    let v := settle (t.judgeLoad tree p base seen ok)
    (∀ c, loadCheck tree seen (p.w 4) ok = some c → Replied s v p (Reply.badStruct c) ∧ v.objects = t.objects) ∧
    (loadCheck tree seen (p.w 4) ok = none → (t.freeSlot = none ∨ Config.objectsPerKind ≤ t.objCount tree) →
      Replied s v p (Reply.noResource 3) ∧ v.objects = t.objects) ∧
    (∀ slot, loadCheck tree seen (p.w 4) ok = none → t.freeSlot = some slot → t.objCount tree < Config.objectsPerKind →
      ∃ o, Tab.find? slot v.objects = some o ∧ o.isTree = tree ∧ o.handle % 65536 = slot % 65536 ∧ o.base = base ∧
        Replied s v p (loadReply tree o.handle o) ∧ v.dram = t.dram) := by
  have hfail : ∀ r, Replied s (settle (t.failLoad p.id base r)) p r ∧ (settle (t.failLoad p.id base r)).objects = t.objects := by
    intro r
    obtain ⟨k, ho⟩ := dropLoad_leaves t p.id base
    change Replied s (settle ((t.dropLoad p.id base).complete p.id r)) p r ∧ (settle ((t.dropLoad p.id base).complete p.id r)).objects = _
    refine ⟨RepliedAt.settle ((hpath.trans (k.path p.id loadFields_link)).replied r hp hst hth hl), ?_⟩
    rw [(settle_frame _).objects, (complete_frame _ p.id r).objects, ho]
  dsimp only
  refine ⟨fun c hc => ?_, fun hc hn => ?_, fun slot hc hs hn => ?_⟩
  · simp only [State.judgeLoad, hc]
    exact hfail _
  · simp only [State.judgeLoad, hc]
    split
    · exact hfail _
    · next slot hs =>
      rw [if_pos (hn.resolve_left (by rw [hs]; simp))]
      exact hfail _
  · have hj : t.judgeLoad tree p base seen ok = (t.makeObject tree p base seen slot).complete p.id
        (loadReply tree (slot + 65536 * nextCount (Tab.getD 0 slot t.loads))
          (loadObj tree seen (slot + 65536 * nextCount (Tab.getD 0 slot t.loads)) p.client base)) := by
      simp only [State.judgeLoad, hc, hs]
      exact if_neg (by omega)
    rw [hj]
    have hmade : Tab.find? slot (t.makeObject tree p base seen slot).objects =
        some (loadObj tree seen (slot + 65536 * nextCount (Tab.getD 0 slot t.loads)) p.client base) := Tab.find?_put_self _ _ _
    have hdram : (t.makeObject tree p base seen slot).dram = t.dram := rfl
    have k := makeObject_steady t tree p base seen slot
    have hh : (slot + 65536 * nextCount (Tab.getD 0 slot t.loads)) % 65536 = slot % 65536 := Nat.add_mul_mod_self_left _ _ _
    generalize slot + 65536 * nextCount (Tab.getD 0 slot t.loads) = h at *
    obtain ⟨htree, hhandle, hbase⟩ := loadObj_facts tree seen h p.client base
    generalize loadObj tree seen h p.client base = o at *
    generalize t.makeObject tree p base seen slot = m at *
    refine ⟨o, ?_, htree, by rw [hhandle, hh], hbase, ?_, ?_⟩
    · rw [(settle_frame _).objects, (complete_frame m p.id _).objects, hmade]
    · rw [hhandle]
      exact RepliedAt.settle ((hpath.trans (k.path p.id loadFields_link)).replied _ hp hst hth hl)
    · rw [(settle_frame _).dram, (complete_frame m p.id _).dram, hdram]

/-- The commands that end a load. -/
def loadEnd (tree : Bool) (id : Nat) (image : Bytes) (sigOk : Bool) : Instr :=
  if tree then .treeLoadCopyDone id image sigOk else .modelLoadCopyDone id image sigOk

theorem loadEnd_runs {s : State} {id a : Nat} {p : Pkt} {image : Bytes} {sigOk tree : Bool}
    (h : s.loadOf (if tree then 0x28 else 0x20) id = some (p, a)) (hr : s.coresRun = true) (he : s.readMayEnd id = true)
    (hn : image.length = p.w 4) :
    exec (loadEnd tree id image sigOk) s = .next (settle ((s.endRead id).loadDone tree p a image sigOk)) := by
  cases tree
  · change execModelLoadCopyDone id image sigOk s = _
    simp only [Bool.false_eq_true, if_false] at h
    simp only [execModelLoadCopyDone, h, hr, he, hn, beq_self_eq_true, Bool.and_self, doneIf_true]
  · change execTreeLoadCopyDone id image sigOk s = _
    simp only [if_true] at h
    simp only [execTreeLoadCopyDone, h, hr, he, hn, beq_self_eq_true, Bool.and_self, doneIf_true]

theorem pkt?_of_loadOf {s : State} {op id a : Nat} {p : Pkt} (h : s.loadOf op id = some (p, a)) :
    s.pkt? id = some p ∧ p.id = id := by
  unfold State.loadOf at h
  split at h
  · next q b hq _ =>
    split at h
    · obtain ⟨rfl, rfl⟩ := Prod.mk.inj (Option.some.inj h)
      exact ⟨hq, by simpa using List.find?_some hq⟩
    · cases h
  · cases h

/-- Settles O11: the copy's end, the image and its check leave the packet's way, and the load comes to one of its ends. -/
theorem loadsEnd : Obligations.LoadsEnd := by
  unfold Obligations.LoadsEnd
  intro s id a p image sigOk tree h hr hl hst he hn
  obtain ⟨hp, rfl⟩ := pkt?_of_loadOf h
  refine ⟨_, loadEnd_runs h hr he hn, ?_⟩
  rw [loadDone_eq]
  have ke := endRead_readsOnly s p.id
  obtain ⟨k1, hsoot, hdram, hobj, hloads, hkey⟩ := loadImage_leaves (s.endRead p.id) a (p.w 4) image
  generalize hu : ((s.endRead p.id).loadImage a (p.w 4) image).poisonSync = u at k1 hsoot hdram hobj hloads hkey ⊢
  obtain ⟨k2, hview⟩ := coreLoad_leaves u a image
  have hseen : (u.coreLoad a image).1 = (s.coreLoad a image).1 :=
    coreLoad_seen (hsoot.trans (ke.part State.soot fun _ _ _ => rfl)) a image
  have hpath := (((ke.steady loadFields).trans k1).trans k2).path p.id loadFields_link
  dsimp only
  rw [hseen]
  generalize (u.coreLoad a image).2 = v at k2 hview hpath ⊢
  simp only [State.loadView, Prod.mk.injEq] at hview
  obtain ⟨vdram, vobj, vloads, vkey⟩ := hview
  have eobj : v.objects = s.objects := vobj.trans (hobj.trans (ke.part State.objects fun _ _ _ => rfl))
  have edram : v.dram = memWrite s.dram a image := by rw [vdram, hdram, ke.part State.dram fun _ _ _ => rfl]
  have ekey : v.get .KEY_MODEL_OK = s.get .KEY_MODEL_OK :=
    vkey.trans (hkey.trans (ke.part (fun s => s.get .KEY_MODEL_OK) fun _ _ _ => rfl))
  have hfree : v.freeSlot = s.freeSlot := by simp only [State.freeSlot, eobj]
  have hcount : v.objCount tree = s.objCount tree := by simp only [State.objCount, eobj]
  have hend := judgeLoad_completes (tree := tree) (base := a) (seen := (s.coreLoad a image).1)
    (ok := sigOk && s.get .KEY_MODEL_OK == 1) hpath hp hst (thermal_of_coresRun hr) hl
  rw [hfree, hcount, eobj, edram] at hend
  rw [ekey]
  exact hend

end Sys2Proof.Machine
end

section
/-! The SMBus and the JTAG port (R41, R46, R438, R439, R522, R524). -/

namespace Sys2Proof.Machine

/-! ## SMBus (R522) -/

theorem smbusRead_completes (s : State) (addr cmd len off : Nat) (pecOk : Bool) : Runs (.smbusRead addr cmd len off pecOk) s fun t =>
    KeepsBlock (fun _ => false) 0 s t ∧
    (addr = 0x60 + s.strapAddr → s.boot = .inReset ∨ s.boot = .sramZero ∨ cmd ≠ 1 ∨ len ≠ 4 ∨ pecOk = false → Sent s t .nack) ∧
    (addr = 0x60 + s.strapAddr → s.boot ≠ .inReset → s.boot ≠ .sramZero → cmd = 1 → len = 4 → pecOk = true →
      Sent s t (.readData 5 off (s.smbusWord off))) := by
  have hsent : ∀ x, Sent s (settle (s.emit x)) x := fun x => Sent.settle ((Keeps.refl (fun _ => false) s).sent_emit x)
  have hkeeps : ∀ x, KeepsBlock (fun _ => false) 0 s (settle (s.emit x)) := fun x => ((KeepsBlock.refl _ 0 s).emit x).settle
  by_cases ha : addr = 0x60 + s.strapAddr
  · by_cases hb : s.boot = .inReset ∨ s.boot = .sramZero ∨ cmd ≠ 1 ∨ len ≠ 4 ∨ pecOk = false
    · refine ⟨settle (s.emit .nack), ?_, hkeeps _, fun _ _ => hsent _, fun _ h1 h2 h3 h4 h5 => ?_⟩
      · change execSmbusRead addr cmd len off pecOk s = _
        unfold execSmbusRead
        rw [if_neg (by simp [ha]), if_pos (by simpa [or_assoc] using hb), done]
      · simp [h1, h2, h3, h4, h5] at hb
    · refine ⟨settle (s.emit (.readData 5 off (s.smbusWord off))), ?_, hkeeps _, fun _ h => absurd h hb, fun _ _ _ _ _ _ => hsent _⟩
      change execSmbusRead addr cmd len off pecOk s = _
      unfold execSmbusRead
      rw [if_neg (by simp [ha]), if_neg (by simpa [or_assoc] using hb), done]
  · refine ⟨settle s, ?_, (KeepsBlock.refl _ 0 s).settle, fun h => absurd h ha, fun h => absurd h ha⟩
    change execSmbusRead addr cmd len off pecOk s = _
    unfold execSmbusRead
    rw [if_pos (by simpa using ha), done]

/-! ## Breaches of the port -/

theorem raiseBreach_total (s : State) (count requester seq d : Nat) :
    (s.raiseBreach count requester seq d).get .SEC_BREACH_TOTAL = (s.get .SEC_BREACH_TOTAL + count) % 2 ^ 64 := by
  unfold State.raiseBreach
  generalize hv : (s.get .SEC_BREACH_TOTAL + count) % 2 ^ 64 = v
  have ki := irq_frame (F := fun f => breachFields f && f != .SEC_BREACH_TOTAL) (s.set .SEC_BREACH_TOTAL 0 v) .SEC_SOOT_IRQ .SEC_SOOT_IRQ_EN 0 0 1
    (fun f hf => by cases f <;> simp_all [breachFields, linkCounts]) rfl
  have kc := capture_frame (F := fun f => breachFields f && f != .SEC_BREACH_TOTAL)
    ((s.set .SEC_BREACH_TOTAL 0 v).irq .SEC_SOOT_IRQ .SEC_SOOT_IRQ_EN 0 0 1) 4 requester seq d 0 (.inr rfl)
  rw [kc.1 _ _ rfl, ki.1 _ _ rfl, State.get_set_self]

theorem logBreach_total (s : State) (ws : List Nat) : (s.logBreach ws).get .SEC_BREACH_TOTAL = s.get .SEC_BREACH_TOTAL := by
  have h : OnRegs (fun f => breachFields f && f != .SEC_BREACH_TOTAL) s (s.logBreach ws) :=
    ((OnRegs.refl _ s).set .SEC_BREACH_SEQ 0 _ rfl).foldl _ (fun u _ => (OnRegs.refl _ u).set .BREACH_LOG _ _ rfl) _
  exact h.keeps.1 _ _ rfl

theorem withQueue_get (s : State) (q : List (List Nat)) (f : Field) (i : Nat) : (s.withQueue q).get f i = s.get f i := rfl

/-- SEC_BREACH_TOTAL counts the granules of a breach (R51). -/
theorem breach_total (s : State) (exit cause requester count addr hostAddr : Nat) :
    (s.breach exit cause requester count addr hostAddr).get .SEC_BREACH_TOTAL = (s.get .SEC_BREACH_TOTAL + count) % 2 ^ 64 := by
  rw [breach_eq, State.noteBreach]
  generalize s.breachWords exit cause requester count addr hostAddr = ws
  rw [raiseBreach_total, withQueue_get, logBreach_total]

theorem sent_emit_of_wire {s u : State} (h : ∃ l, u.egress = s.egress ++ l) (x : Egress) : Sent s (u.emit x) x := by
  obtain ⟨l, hl⟩ := h
  exact ⟨l ++ [x], by rw [State.emit, hl, List.append_assoc], by simp⟩

/-- Memory and its tags. -/
def State.store (s : State) := (s.dram, s.soot)

theorem Keeps.store {F : Field → Bool} {s t : State} (k : Keeps F s t) : t.store = s.store := by
  rw [State.store, k.dram, k.soot, State.store]

theorem breach_store (s : State) (exit cause requester count addr hostAddr : Nat) :
    (s.breach exit cause requester count addr hostAddr).store = s.store := by
  obtain ⟨q, k⟩ := breach_keeps s exit cause requester count addr hostAddr
  exact k.store

theorem jtagBreach_store (s : State) (exit cause : Nat) (gs : List Nat) : (s.jtagBreach exit cause gs).store = s.store := by
  unfold State.jtagBreach
  split
  · rfl
  · exact breach_store _ _ _ _ _ _ _

theorem jtagBreach_wire (s : State) (exit cause : Nat) (gs : List Nat) : ∃ l, (s.jtagBreach exit cause gs).egress = s.egress ++ l := by
  unfold State.jtagBreach
  split
  · exact ⟨[], by simp⟩
  · obtain ⟨q, k⟩ := breach_keeps s exit cause 0x0800 _ _ 0
    exact k.2.2

/-! ## Accesses of the port (R438, R439) -/

section Port

variable {s : State}

/-- What an access does outside reset. -/
theorem jtagAccess_runs (ha : s.aonValid = true) (hb : s.boot ≠ .inReset) (req : JtagReq) :
    exec (.jtagAccess req) s = .next (settle (s.jtag req)) := by
  change execJtagAccess req s = _
  simp [execJtagAccess, ha, hb, done]

theorem jtag_refused {req : JtagReq} (h1 : req ≠ .idcode) (h2 : req ≠ .boundaryScan) (h3 : ∀ off, req ≠ .regRead off)
    (hg : ∀ b, s.jtagGrants b = false) : s.jtag req = s := by
  cases req with
  | idcode => exact absurd rfl h1
  | boundaryScan => exact absurd rfl h2
  | regRead off => exact absurd rfl (h3 off)
  | _ => simp [State.jtag, hg]

/-- In reset, and where the port grants nothing, an access does nothing. -/
theorem jtagAccess_nothing (ha : s.aonValid = true) {req : JtagReq} (hi : req ≠ .idcode)
    (h : s.boot = .inReset ∨ (req ≠ .boundaryScan ∧ (∀ off, req ≠ .regRead off) ∧ ∀ b, s.jtagGrants b = false)) :
    exec (.jtagAccess req) s = .next (settle s) := by
  by_cases hb : s.boot = .inReset
  · change execJtagAccess req s = _
    simp [execJtagAccess, ha, hb, hi, done]
  · obtain ⟨h2, h3, hg⟩ := h.resolve_left hb
    rw [jtagAccess_runs ha hb, jtag_refused hi h2 h3 hg]

theorem idcode_runs (ha : s.aonValid = true) : exec (.jtagAccess .idcode) s = .next (settle (s.emit (.readData 6 0 0x109607AB))) := by
  change execJtagAccess .idcode s = _
  simp [execJtagAccess, ha, State.jtag, done]

theorem settle_store (s : State) : (settle s).store = s.store := (settle_frame s).store

/-- The bytes a memory read of the port shows (R46, R342). -/
def State.jtagBytes (s : State) (a n : Nat) : Bytes :=
  (List.range n).map fun i =>
    if s.granuleCause ((a + i) / 64 * 64) != 0 || (Tab.find? ((a + i) / 64 * 64) s.poison).isSome then 0#8 else s.byteAt (a + i)

theorem jtagBytes_hidden {a n i : Nat} (hi : i < n)
    (h : s.granuleCause ((a + i) / 64 * 64) ≠ 0 ∨ (Tab.find? ((a + i) / 64 * 64) s.poison).isSome = true) :
    (s.jtagBytes a n).getD i 0#8 = 0#8 := by
  have hc : (s.granuleCause ((a + i) / 64 * 64) != 0 || (Tab.find? ((a + i) / 64 * 64) s.poison).isSome) = true := by simpa using h
  rw [State.jtagBytes, List.getD_eq_getElem?_getD, List.getElem?_map, List.getElem?_range hi, Option.map_some, if_pos hc, Option.getD_some]

theorem jtagRead_eq (s : State) (a n : Nat) : s.jtagRead a n =
    ((s.jtagBreach 2 1 (s.jtagRefused a n).1).jtagBreach 6 5 (s.jtagRefused a n).2).emit (.readBytes 6 a (s.jtagBytes a n)) := rfl

theorem memRead_completes (ha : s.aonValid = true) (hb : s.boot ≠ .inReset) (hg : s.jtagGrants 2 = true) {a n : Nat}
    (hn : a + n ≤ s.dramBytes) : Runs (.jtagAccess (.memRead a n)) s fun t => t.dram = s.dram ∧ t.soot = s.soot ∧
      ∃ bs : Bytes, Sent s t (.readBytes 6 a bs) ∧ bs.length = n ∧ ∀ i, i < n →
        s.granuleCause ((a + i) / 64 * 64) ≠ 0 ∨ (Tab.find? ((a + i) / 64 * 64) s.poison).isSome = true → bs.getD i 0#8 = 0#8 := by
  refine ⟨_, jtagAccess_runs ha hb _, ?_⟩
  have hj : s.jtag (.memRead a n) = s.jtagRead a n := by simp [State.jtag, hg, hn]
  rw [hj, jtagRead_eq]
  obtain ⟨l, hl⟩ := jtagBreach_wire s 2 1 (s.jtagRefused a n).1
  have hs := jtagBreach_store s 2 1 (s.jtagRefused a n).1
  generalize s.jtagBreach 2 1 (s.jtagRefused a n).1 = u at hl hs ⊢
  obtain ⟨m, hm⟩ := jtagBreach_wire u 6 5 (s.jtagRefused a n).2
  have ht := jtagBreach_store u 6 5 (s.jtagRefused a n).2
  generalize u.jtagBreach 6 5 (s.jtagRefused a n).2 = v at hm ht ⊢
  have hstore : (settle (v.emit (.readBytes 6 a (s.jtagBytes a n)))).store = s.store := (settle_store _).trans (ht.trans hs)
  obtain ⟨hdram, hsoot⟩ := Prod.mk.inj hstore
  have hwire : v.egress = s.egress ++ (l ++ m) := by rw [hm, hl, List.append_assoc]
  exact ⟨hdram, hsoot, s.jtagBytes a n, (sent_emit_of_wire ⟨_, hwire⟩ _).settle, by simp [State.jtagBytes], fun i hi h =>
    jtagBytes_hidden hi h⟩

/-- The bytes of a memory write of the port that reach memory (R41, R342). -/
def State.jtagStored (s : State) (a : Nat) (b : Bytes) : State :=
  { s with
    dram := memWrite s.dram a (b.take (min b.length (s.tagBase - a)))
    poison := s.poison.filter fun e => !(decide (a ≤ e.1) && decide (e.1 + 64 ≤ a + min b.length (s.tagBase - a)))
    freeCtr := s.freeCtr + 1 }

theorem jtagWrite_eq (s : State) (a : Nat) (b : Bytes) : s.jtagWrite a b =
    (s.jtagStored a b).poisonSync.jtagBreach 6 5 ((granules a b.length).filter fun g => s.granuleCause g == 5) := rfl

theorem memWrite_completes (ha : s.aonValid = true) (hb : s.boot ≠ .inReset) (hg : s.jtagGrants 2 = true) {a : Nat} {b : Bytes}
    (hn : a + b.length ≤ s.dramBytes) : Runs (.jtagAccess (.memWrite a b)) s fun t =>
      t.soot = s.soot ∧ t.dram = memWrite s.dram a (b.take (s.tagBase - a)) := by
  refine ⟨_, jtagAccess_runs ha hb _, ?_⟩
  have hj : s.jtag (.memWrite a b) = s.jtagWrite a b := by simp [State.jtag, hg, hn]
  have htake : b.take (min b.length (s.tagBase - a)) = b.take (s.tagBase - a) := by
    rw [min_comm, ← List.take_take, List.take_length]
  have hst : (s.jtagStored a b).store = (memWrite s.dram a (b.take (s.tagBase - a)), s.soot) := by
    rw [State.store, State.jtagStored, htake]
  rw [hj, jtagWrite_eq]
  have hstore := (settle_store _).trans ((jtagBreach_store (s.jtagStored a b).poisonSync 6 5
    ((granules a b.length).filter fun g => s.granuleCause g == 5)).trans ((poisonSync_onRegs _).keeps.store.trans hst))
  obtain ⟨hdram, hsoot⟩ := Prod.mk.inj hstore
  exact ⟨hsoot, hdram⟩

/-- A refused line or working storage reads 0, and its breach counts 1. -/
theorem jtagNoAddr_completes (s : State) (cause : Nat) :
    let t := settle (s.jtagNoAddr cause)
    Sent s t (.readData 6 0 0) ∧ t.get .SEC_BREACH_TOTAL = (s.get .SEC_BREACH_TOTAL + 1) % 2 ^ 64 ∧ t.dram = s.dram ∧ t.soot = s.soot := by
  have hs := breach_store (s.draw (2 ^ 40)).2 2 cause 0x0800 1 (s.draw (2 ^ 40)).1 0
  have ht := breach_total (s.draw (2 ^ 40)).2 2 cause 0x0800 1 (s.draw (2 ^ 40)).1 0
  obtain ⟨q, k⟩ := breach_keeps (s.draw (2 ^ 40)).2 2 cause 0x0800 1 (s.draw (2 ^ 40)).1 0
  have hwire := k.2.2
  simp only [State.jtagNoAddr]
  generalize (s.draw (2 ^ 40)).2.breach 2 cause 0x0800 1 (s.draw (2 ^ 40)).1 0 = u at hs ht hwire ⊢
  have hstore : (settle (u.emit (.readData 6 0 0))).store = s.store := (settle_store _).trans hs
  obtain ⟨hdram, hsoot⟩ := Prod.mk.inj hstore
  refine ⟨(sent_emit_of_wire hwire _).settle, ?_, hdram, hsoot⟩
  rw [settle_get _ _ _ rfl]
  exact ht

theorem jtag_noAddr (hg : s.jtagGrants 2 = true) {req : JtagReq} (h : req = .workingRead ∨
      (∃ staging n, req = .lineRead staging n ∧ n < (if staging then Config.pageSlots * slotLines else 16 * sliceLines) ∧
        (if staging then s.stagingLine n else s.tileLine n) = true)) : ∃ cause, s.jtag req = s.jtagNoAddr cause := by
  rcases h with rfl | ⟨staging, n, rfl, hn, hl⟩
  · exact ⟨6, by simp [State.jtag, hg]⟩
  · refine ⟨2, ?_⟩
    simp only [State.jtag, hg, if_true, State.jtagLine]
    rw [if_neg (by simp [hn]), if_pos hl]

theorem regRead_completes (ha : s.aonValid = true) (hb : s.boot ≠ .inReset) {off : Nat} (h4 : off % 4 = 0)
    (hg : s.jtagGrants 2 = true ∨ off = 0x30000) :
    Runs (.jtagAccess (.regRead off)) s fun t => Sent s t (.readData 6 off (s.readWord off)) := by
  refine ⟨_, jtagAccess_runs ha hb _, ?_⟩
  have hj : s.jtag (.regRead off) = (s.readClear off).emit (.readData 6 off (s.readWord off)) := by
    have hor : (s.jtagGrants 2 || off == 0x30000 || s.jtagAsleep off) = true := by
      rcases hg with h | h <;> simp [h]
    simp only [State.jtag, hor, if_true, State.jtagReg, h4, beq_self_eq_true]
  rw [hj]
  exact ((readClear_frame s off).sent_emit _).settle

theorem haltCores_completes (ha : s.aonValid = true) (hb : s.boot ≠ .inReset) (hg : s.jtagGrants 0 = true)
    (hh : s.get .DBG_CORES_HALTED = 0) : Runs (.jtagAccess .haltCores) s fun t => t.get .DBG_CORES_HALTED = 1 ∧
      t.get .WDG_RUNNING 1 = 0 ∧ RegsBut (fun f => f == .DBG_CORES_HALTED || f == .WDG_RUNNING) 1 (s.set .DBG_CORES_HALTED 0 1) t := by
  refine ⟨_, jtagAccess_runs ha hb _, ?_⟩
  have hj : s.jtag .haltCores = (s.set .DBG_CORES_HALTED 0 1).set .WDG_RUNNING 1 0 := by
    simp [State.jtag, hg, State.haltCores, hh]
  rw [hj]
  refine ⟨?_, ?_, ((RegsBut.refl _ 1 _).set .WDG_RUNNING 0 rfl).settle⟩
  · rw [settle_get _ _ _ rfl, State.get_set_ne _ _ _ _ (by decide), State.get_set_self]
  · rw [settle_get _ _ _ rfl, State.get_set_self]

theorem wdgBegin_halted (s : State) (w : Nat) : (s.wdgBegin w).get .DBG_CORES_HALTED = s.get .DBG_CORES_HALTED := by
  unfold State.wdgBegin
  simp (disch := decide) only [State.get_set_ne]
  rfl

theorem resumeCores_completes (ha : s.aonValid = true) (hb : s.boot ≠ .inReset) (hg : s.jtagGrants 0 = true) :
    Runs (.jtagAccess .resumeCores) s fun t => t.get .DBG_CORES_HALTED = 0 := by
  refine ⟨_, jtagAccess_runs ha hb _, ?_⟩
  have hj : s.jtag .resumeCores = s.resumeCores := by simp [State.jtag, hg]
  rw [hj]
  refine (settle_get _ _ _ rfl).trans ?_
  unfold State.resumeCores
  split
  · next h => simpa using h
  · dsimp only
    have hset := State.get_set_self s .DBG_CORES_HALTED 0 0
    generalize s.set .DBG_CORES_HALTED 0 0 = u at hset ⊢
    split
    · rw [wdgBegin_halted, hset]
    · exact hset

theorem regWrite_unwritable (ha : s.aonValid = true) (hb : s.boot ≠ .inReset) (hg : s.jtagGrants 2 = true) {off v : Nat}
    (h4 : off % 4 = 0) (hw : s.writable off = false) : exec (.jtagAccess (.regWrite off v)) s = .next (settle s) := by
  rw [jtagAccess_runs ha hb]
  simp [State.jtag, hg, h4, State.write32, hw]

end Port

/-- Settles O43: the SMBus by its address and its frame, and JTAG access by access. -/
theorem boardPortsComplete : Obligations.BoardPortsComplete := by
  unfold Obligations.BoardPortsComplete
  have hkeep : ∀ s : State, KeepsBlock (fun _ => false) 0 s (settle s) := fun s => (KeepsBlock.refl _ 0 s).settle
  refine ⟨smbusRead_completes, fun s ha => ⟨?_, ?_, ?_, fun hb hg => ⟨?_, ?_, ?_, ?_⟩, ?_, fun hb hg => ⟨?_, ?_⟩⟩⟩
  · refine ⟨settle s, ?_, hkeep s⟩
    change execTapReset s = _
    rw [execTapReset, ha, doneIf_true]
  · exact ⟨_, idcode_runs ha, Sent.settle ((Keeps.refl (fun _ => false) s).sent_emit _), ((KeepsBlock.refl _ 0 s).emit _).settle⟩
  · exact fun req hi h => ⟨_, jtagAccess_nothing ha hi h, hkeep s⟩
  · exact fun a n hn => memRead_completes ha hb hg hn
  · exact fun a b hn => memWrite_completes ha hb hg hn
  · exact fun off v h4 hw => ⟨_, regWrite_unwritable ha hb hg h4 hw, hkeep s⟩
  · intro req hr
    obtain ⟨cause, hj⟩ := jtag_noAddr hg hr
    exact ⟨_, jtagAccess_runs ha hb req, hj ▸ jtagNoAddr_completes s cause⟩
  · exact fun off hb h4 hg => regRead_completes ha hb h4 hg
  · exact fun hh => haltCores_completes ha hb hg hh
  · exact resumeCores_completes ha hb hg

end Sys2Proof.Machine
end

section
/-! Jobs: their entries, pages, and errors of the on-chip stores (R40, R276, R283, R296 to R298). -/

namespace Sys2Proof.Machine

/-! ## One job of the table -/

theorem mem_modJob {s : State} {id : Nat} {f : Job → Job} {i : Job} (h : i ∈ (s.modJob id f).jobs) :
    ∃ q ∈ s.jobs, i = if q.id == id then f q else q := by
  obtain ⟨q, hq, rfl⟩ := List.mem_map.mp h
  exact ⟨q, hq, rfl⟩

theorem modJob_mem {s : State} {q : Job} (h : q ∈ s.jobs) (f : Job → Job) : f q ∈ (s.modJob q.id f).jobs :=
  List.mem_map.mpr ⟨q, h, by simp⟩

theorem jobEntryGrant_completes {s : State} {j : Job} (hr : s.isReady = true) (hj : s.nextGrant = some j) :
    Runs .jobEntryGrant s fun t => ∀ i ∈ t.jobs, i.id = j.id → i.entry = true := by
  refine ⟨settle ((s.modJob j.id fun j => { j with entry := true }).issueReads), ?_, ?_⟩
  · change execJobEntryGrant s = _
    simp only [execJobEntryGrant, hj, hr, doneIf_true]
  · intro i hi hid
    rw [settle_jobs, (issueReads_readsOnly _).part State.jobs fun _ _ _ => rfl] at hi
    obtain ⟨q, -, rfl⟩ := mem_modJob hi
    by_cases hq : q.id = j.id
    · simp [hq]
    · simp [hq] at hid

/-! ## Pages (R296, R297) -/

/-- Room is made by unpinned pages that leave. -/
theorem evict_pages {s u : State} {keep : List Nat} {need n : Nat} (h : s.evict keep need n = some u) :
    ∃ ps, u = { s with pageSlots := ps } := by
  induction n generalizing s with
  | zero =>
    unfold State.evict at h
    split at h
    · exact ⟨s.pageSlots, (Option.some.inj h).symm⟩
    · cases h
  | succ n ih =>
    unfold State.evict at h
    split at h
    · exact ⟨s.pageSlots, (Option.some.inj h).symm⟩
    · split at h
      · cases h
      · obtain ⟨ps, rfl⟩ := ih h
        exact ⟨ps, rfl⟩

theorem pageStageStart_completes {s u : State} {j : Job} (hr : s.enginesRun = true) (hj : s.nextStage = some j)
    (hs : s.staging = none)
    (he : s.evict (j.pages.map (pageKey j.obj)) (s.missing j).length s.pageSlots.length = some u) :
    Runs .pageStageStart s fun t => t.staging = some j.id ∧ t.pageSlots = u.pageSlots ∧
      t.get .PGR_FETCHES = Num.wrap32 (s.get .PGR_FETCHES + (s.missing j).length) := by
  refine ⟨settle ({ u with staging := some j.id }.inc .PGR_FETCHES 0 (s.missing j).length), ?_, ?_, ?_, ?_⟩
  · change execPageStageStart s = _
    simp only [execPageStageStart, hj, hs, hr, he]
    rfl
  · rw [(settle_frame _).staging]
    rfl
  · rw [(settle_frame _).pageSlots]
    rfl
  · obtain ⟨ps, rfl⟩ := evict_pages he
    exact (settle_get _ _ _ rfl).trans (State.get_set_self _ _ _ _)

/-- Page `key` is resident. -/
def State.holdsPage (s : State) (key : Nat) : Bool := (Tab.find? key s.pageSlots).isSome

theorem find?_put_isSome {α : Type} {k j : Nat} {v : α} {m : List (Nat × α)} (h : (Tab.find? j m).isSome = true) :
    (Tab.find? j (Tab.put k v m)).isSome = true := by
  rw [Tab.find?_put]
  split
  · rfl
  · exact h

theorem stageOne_resident (o : Obj) (s : State) (p : Nat) : (State.stageOne o s p).holdsPage (pageKey o.handle p) = true := by
  unfold State.stageOne
  dsimp only
  split
  · next h => exact h
  · simp [State.holdsPage]

theorem stageOne_keeps (o : Obj) {s : State} (p : Nat) {key : Nat} (h : s.holdsPage key = true) :
    (State.stageOne o s p).holdsPage key = true := by
  unfold State.stageOne
  dsimp only
  split
  · exact h
  · exact find?_put_isSome h

theorem foldl_stageOne_keeps (o : Obj) (ps : List Nat) {s : State} {key : Nat} (h : s.holdsPage key = true) :
    (ps.foldl (State.stageOne o) s).holdsPage key = true := by
  induction ps generalizing s with
  | nil => exact h
  | cons p ps ih => exact ih (stageOne_keeps o p h)

theorem foldl_stageOne_resident (o : Obj) (ps : List Nat) (s : State) {p : Nat} (hp : p ∈ ps) :
    (ps.foldl (State.stageOne o) s).holdsPage (pageKey o.handle p) = true := by
  induction ps generalizing s with
  | nil => simp at hp
  | cons q ps ih =>
    rcases List.mem_cons.mp hp with rfl | hp
    · exact foldl_stageOne_keeps o ps (stageOne_resident o s _)
    · exact ih _ hp

theorem stageOne_staging (o : Obj) (s : State) (p : Nat) : (State.stageOne o s p).staging = s.staging := by
  unfold State.stageOne
  dsimp only
  split <;> rfl

theorem foldl_stageOne_staging (o : Obj) (ps : List Nat) (s : State) : (ps.foldl (State.stageOne o) s).staging = s.staging := by
  induction ps generalizing s with
  | nil => rfl
  | cons p ps ih => exact (ih _).trans (stageOne_staging o s p)

theorem touch_resident {s : State} (j : Job) {key : Nat} (h : s.holdsPage key = true) : (s.touch j).holdsPage key = true := by
  unfold State.holdsPage State.touch at *
  generalize s.pageSlots = m at h ⊢
  induction j.pages generalizing m with
  | nil => exact h
  | cons p ps ih =>
    refine ih _ ?_
    dsimp only
    split
    · exact h
    · exact find?_put_isSome h

theorem obj?_handle {s : State} {h : Nat} {o : Obj} (ho : s.obj? h = some o) : o.handle = h := by
  unfold State.obj? at ho
  split at ho
  · cases ho
  · split at ho
    · next hh =>
      obtain rfl := Option.some.inj ho
      simpa using hh
    · cases ho

theorem pageStageDone_completes {s : State} {j : Job} {o : Obj} (hr : s.enginesRun = true) (hs : s.staging = some j.id)
    (hj : s.job? j.id = some j) (ho : s.obj? j.obj = some o) : Runs .pageStageDone s fun t => t.staging = none ∧
      ∀ p ∈ j.pages, (Tab.find? (pageKey j.obj p) t.pageSlots).isSome = true := by
  have hh := obj?_handle ho
  refine ⟨settle ((((j.pages.foldl (State.stageOne o) { s with staging := none }).touch j).modJob j.id fun j =>
    { j with staged := true }).pinSync), ?_, ?_, ?_⟩
  · change execPageStageDone s = _
    simp only [execPageStageDone, hs, hj, ho, hr, doneIf_true]
  · rw [(settle_frame _).staging]
    exact foldl_stageOne_staging o j.pages { s with staging := none }
  · intro p hp
    rw [(settle_frame _).pageSlots, ← hh]
    exact touch_resident j (foldl_stageOne_resident o j.pages _ hp)

/-! ## Jobs that start again (R40, R276, R298) -/

/-- The unit of a job that starts again is idle. -/
def State.idleUnitOf (s : State) (j : Job) : State :=
  match j.unit with
  | none => s
  | some u => s.unitIdle u

theorem requeue_eq (s : State) (j : Job) :
    s.requeue j = (s.idleUnitOf j).modJob j.id fun j => { j with unit := none, slice := none } := rfl

theorem idleUnitOf_onRegs (s : State) (j : Job) : OnRegs unitFields s (s.idleUnitOf j) := by
  unfold State.idleUnitOf
  split
  · exact .refl _ s
  · exact unitIdle_onRegs s _

/-- A job after job `j` starts again: of the same pages, and on no unit where it is `j`. -/
theorem requeue_jobs (s : State) (j : Job) {i : Job} (hi : i ∈ (s.requeue j).jobs) :
    ∃ q ∈ s.jobs, i = if q.id == j.id then { q with unit := none, slice := none } else q := by
  rw [requeue_eq] at hi
  obtain ⟨q, hq, rfl⟩ := mem_modJob hi
  exact ⟨q, (idleUnitOf_onRegs s j).jobs ▸ hq, rfl⟩

/-- What the pages of the staging store and its lines, and the lines of the tile store, are. -/
def State.lineView (s : State) := (s.pageSlots, s.stagingSoot, s.stagingBad, s.tileSoot, s.tileBad)

theorem requeue_lineView (s : State) (j : Job) : (s.requeue j).lineView = s.lineView := by
  have k := (idleUnitOf_onRegs s j).keeps
  exact show (s.idleUnitOf j).lineView = s.lineView by
    simp only [State.lineView, k.pageSlots, k.stagingSoot, k.stagingBad, k.tileSoot, k.tileBad]

theorem requeue_get (s : State) (j : Job) {f : Field} (i : Nat) (hf : unitFields f = false) : (s.requeue j).get f i = s.get f i :=
  (idleUnitOf_onRegs s j).keeps.1 f i hf

/-- Jobs that all start again. -/
def State.requeueAll (s : State) (js : List Job) : State := js.foldl (fun s j => s.requeue j) s

theorem requeueAll_lineView (s : State) (js : List Job) : (s.requeueAll js).lineView = s.lineView := by
  induction js generalizing s with
  | nil => rfl
  | cons j js ih => exact (ih _).trans (requeue_lineView s j)

theorem requeueAll_get (s : State) (js : List Job) {f : Field} (i : Nat) (hf : unitFields f = false) :
    (s.requeueAll js).get f i = s.get f i := by
  induction js generalizing s with
  | nil => rfl
  | cons j js ih => exact (ih _).trans (requeue_get s j i hf)

/-- A job that has started again is on no unit. -/
theorem requeueAll_jobs (js : List Job) (s : State) {i : Job} (hi : i ∈ (s.requeueAll js).jobs) :
    ∃ q ∈ s.jobs, i.id = q.id ∧ i.obj = q.obj ∧ i.pages = q.pages ∧
      (i = q ∨ i.unit = none) ∧ ((∃ j ∈ js, j.id = q.id) → i.unit = none) := by
  induction js generalizing s with
  | nil => exact ⟨i, hi, rfl, rfl, rfl, .inl rfl, by simp⟩
  | cons j js ih =>
    obtain ⟨r, hr, h1, h2, h3, h4, h5⟩ := ih _ hi
    obtain ⟨q, hq, rfl⟩ := requeue_jobs s j hr
    refine ⟨q, hq, ?_⟩
    by_cases hj : q.id = j.id
    · simp only [hj, beq_self_eq_true, if_true] at h1 h2 h3 h4 h5
      have hu : i.unit = none := by
        rcases h4 with rfl | h
        · rfl
        · exact h
      exact ⟨hj ▸ h1, h2, h3, .inr hu, fun _ => hu⟩
    · rw [if_neg (by simpa using hj)] at h1 h2 h3 h4 h5
      refine ⟨h1, h2, h3, h4, ?_⟩
      rintro ⟨x, hx, hid⟩
      rcases List.mem_cons.mp hx with rfl | hx
      · exact absurd hid.symm hj
      · exact h5 ⟨x, hx, hid⟩

/-- Line `n` of the staging store is bad (R40). -/
def State.badLine (s : State) (n : Nat) : State := { s with stagingBad := ISet.add n (n + 1) s.stagingBad }

theorem mem_add_self (n : Nat) (m : List (Nat × Nat)) : ISet.mem n (ISet.add n (n + 1) m) = true :=
  ISet.mem_add _ _ _ _ (.inl ⟨Nat.le_refl n, Nat.lt_succ_self n⟩)

/-- Page `key` leaves to be staged again (R298). -/
def State.restage (s : State) (key : Nat) : State := { s.inc .PGR_RESTAGED with pageSlots := Tab.del key s.pageSlots }

/-- The jobs on a unit that name page `key`. -/
def State.jobsOnPage (s : State) (key : Nat) : List Job :=
  s.jobs.filter fun j => j.unit.isSome && j.pages.any fun p => pageKey j.obj p == key

theorem stagingUe_some {s : State} {slot line key : Nat} {x : Nat × Nat} (h : s.pageSlots.find? (fun e => e.2.1 == slot) = some (key, x)) :
    s.stagingUe slot line =
      (((s.badLine (slot * slotLines + line)).restage key).requeueAll (s.jobsOnPage key)).pinSync := by
  simp only [State.stagingUe, h]
  rfl

theorem stagingUe_none {s : State} {slot line : Nat} (h : s.pageSlots.find? (fun e => e.2.1 == slot) = none) :
    s.stagingUe slot line = s.badLine (slot * slotLines + line) := by
  simp only [State.stagingUe, h]
  rfl

theorem stagingLine_of_bad {s : State} {n : Nat} (h : ISet.mem n s.stagingBad = true) : s.stagingLine n = true := by
  simp [State.stagingLine, h]

theorem stagingStoreUe_completes {s : State} {slot line : Nat} (hr : s.enginesRun = true) (h1 : slot < Config.pageSlots)
    (h2 : line < slotLines) : Runs (.stagingStoreUe slot line) s fun t => t.stagingLine (slot * slotLines + line) = true ∧
      ∀ key x, s.pageSlots.find? (fun e => e.2.1 == slot) = some (key, x) →
        t.get .PGR_RESTAGED = Num.wrap32 (s.get .PGR_RESTAGED + 1) ∧ Tab.find? key t.pageSlots = none ∧
        ∀ j ∈ t.jobs, j.unit.isSome = true → ∀ p ∈ j.pages, pageKey j.obj p ≠ key := by
  refine ⟨settle (s.stagingUe slot line), ?_, ?_, fun key x h => ?_⟩
  · change execStagingStoreUe slot line s = _
    rw [execStagingStoreUe, if_neg (by omega), hr, doneIf_true]
  · apply stagingLine_of_bad
    rw [(settle_frame _).stagingBad]
    cases h : s.pageSlots.find? fun e => e.2.1 == slot with
    | none =>
      rw [stagingUe_none h]
      exact mem_add_self _ _
    | some e =>
      obtain ⟨key, x⟩ := e
      rw [stagingUe_some h]
      have hv := requeueAll_lineView ((s.badLine (slot * slotLines + line)).restage key) (s.jobsOnPage key)
      exact (congrArg (fun v => ISet.mem (slot * slotLines + line) v.2.2.1) hv).trans (mem_add_self _ _)
  · rw [stagingUe_some h]
    have hv := requeueAll_lineView ((s.badLine (slot * slotLines + line)).restage key) (s.jobsOnPage key)
    refine ⟨?_, ?_, fun j hj hu p hp hk => ?_⟩
    · rw [settle_get _ _ _ rfl, State.pinSync, State.get_set_ne _ _ _ _ (by decide), requeueAll_get _ _ _ rfl]
      exact State.get_set_self _ _ _ _
    · rw [(settle_frame _).pageSlots]
      exact (congrArg (fun v => Tab.find? key v.1) hv).trans (Tab.find?_del_self _ _)
    · rw [settle_jobs] at hj
      obtain ⟨q, hq, -, hobj, hpages, hsame, hstart⟩ := requeueAll_jobs _ _ hj
      have hq' : q ∈ s.jobs := hq
      rcases hsame with rfl | hnone
      · have hin : j ∈ s.jobsOnPage key :=
          List.mem_filter.mpr ⟨hq', by simp only [hu, Bool.true_and, List.any_eq_true]; exact ⟨p, hp, by simp [hk]⟩⟩
        rw [hstart ⟨j, hin, rfl⟩] at hu
        cases hu
      · rw [hnone] at hu
        cases hu

/-- The line of a tile is bad (R40, R276). -/
def State.badTile (s : State) (n : Nat) : State := { s with tileBad := ISet.add n (n + 1) s.tileBad }

theorem tileLine_of_bad {s : State} {n : Nat} (h : ISet.mem n s.tileBad = true) : s.tileLine n = true := by
  simp [State.tileLine, h]

theorem jobOn_unit {s : State} {u : UnitName} {j : Job} (h : s.jobOn u = some j) : j ∈ s.jobs ∧ j.unit = some u :=
  ⟨List.mem_of_find?_eq_some h, by simpa using List.find?_some h⟩

theorem tileStoreUe_completes {s : State} {a i line : Nat} {j : Job} (hr : s.enginesRun = true) (hj : s.jobOn (.array a) = some j)
    (hi : j.slice = some i) (hl : line < Num.cdiv j.work 64) : Runs (.tileStoreUe a line) s fun t =>
      t.get .AR_BUSY a = 0 ∧ t.tileLine (i * sliceLines + line) = true ∧ ∀ q ∈ t.jobs, q.id = j.id → q.unit = none := by
  obtain ⟨-, hu⟩ := jobOn_unit hj
  have hue : s.tileUe j line = (s.badTile (i * sliceLines + line)).requeue j := by
    simp only [State.tileUe, hi]
    rfl
  refine ⟨settle (s.tileUe j line), ?_, ?_, ?_, fun q hq hid => ?_⟩
  · change execTileStoreUe a line s = _
    simp only [execTileStoreUe, hj, hr, hi, Option.isSome_some, decide_eq_true hl, Bool.and_self, doneIf_true]
  · have hidle : (s.badTile (i * sliceLines + line)).idleUnitOf j = (s.badTile (i * sliceLines + line)).set .AR_BUSY a 0 := by
      simp only [State.idleUnitOf, hu]
      rfl
    rw [settle_get _ _ _ rfl, hue, requeue_eq, hidle]
    exact State.get_set_self (s.badTile (i * sliceLines + line)) .AR_BUSY a 0
  · have hv := congrArg (fun v => ISet.mem (i * sliceLines + line) v.2.2.2.2) (requeue_lineView (s.badTile (i * sliceLines + line)) j)
    apply tileLine_of_bad
    rw [(settle_frame _).tileBad, hue]
    exact hv.trans (mem_add_self _ _)
  · rw [settle_jobs, hue] at hq
    obtain ⟨x, -, rfl⟩ := requeue_jobs _ j hq
    by_cases hx : x.id = j.id
    · simp [hx]
    · simp [hx] at hid

end Sys2Proof.Machine
end

section
/-! Work of the units (R43, R284): the registers of the units, the tags and the job numbers. -/

namespace Sys2Proof.Machine

/-- The registers that say what the units do and have done. -/
def workRegs : List Field := [.AR_BUSY, .AR_JOBS, .CL_BUSY, .CL_JOBS, .MENC_BUSY]

/-- Work after a unit's registers are written: no tag falls, and job numbers go up. -/
structure Onward (s t : State) : Prop where
  reg : ∀ f ∈ workRegs, ∀ i, t.get f i = s.get f i
  soot : ∀ g, ISet.mem g s.soot = true → ISet.mem g t.soot = true
  nextJob : s.nextJob ≤ t.nextJob

section Onward

variable {s t u : State}

theorem Onward.refl (s : State) : Onward s s := ⟨fun _ _ _ => rfl, fun _ h => h, Nat.le_refl _⟩

theorem Onward.trans (h : Onward s t) (k : Onward t u) : Onward s u :=
  ⟨fun f hf i => (k.reg f hf i).trans (h.reg f hf i), fun g hg => k.soot g (h.soot g hg), h.nextJob.trans k.nextJob⟩

/-- Other parts change. -/
theorem Onward.same (hf : t.fields = s.fields) (hs : t.soot = s.soot) (hn : t.nextJob = s.nextJob) : Onward s t :=
  ⟨fun f _ i => State.get_congr hf f i, fun _ hg => hs ▸ hg, hn ▸ Nat.le_refl _⟩

theorem Onward.of_keeps {F : Field → Bool} (k : Keeps F s t) (hF : ∀ f ∈ workRegs, F f = false) : Onward s t :=
  ⟨fun f hf i => k.1 f i (hF f hf), fun _ hg => k.soot ▸ hg, k.nextJob ▸ Nat.le_refl _⟩

theorem Onward.of_onRegs {F : Field → Bool} (k : OnRegs F s t) (hF : ∀ f ∈ workRegs, F f = false) : Onward s t :=
  .of_keeps k.keeps hF

theorem Onward.set (h : Onward s t) {f : Field} (hf : f ∉ workRegs) (i v : Nat) : Onward s (t.set f i v) :=
  h.trans ⟨fun _ hg _ => State.get_set_ne _ _ _ _ fun e => hf (e ▸ hg), fun _ h => h, Nat.le_refl _⟩

theorem Onward.ite {c : Prop} [Decidable c] (h : Onward s t) (k : Onward s u) : Onward s (if c then t else u) := by
  split
  · exact h
  · exact k

theorem Onward.foldl {α : Type} (g : State → α → State) (hg : ∀ s a, Onward s (g s a)) (l : List α) (s : State) :
    Onward s (l.foldl g s) := by
  induction l generalizing s with
  | nil => exact .refl s
  | cons a l ih => exact (hg s a).trans (ih _)

end Onward

theorem setStream_onward (s : State) (k : Nat) (st : Stream) : Onward s (s.setStream k st) := .same rfl rfl rfl

theorem modStream_onward (s : State) (k : Nat) (g : Stream → Stream) : Onward s (s.modStream k g) := by
  unfold State.modStream
  split
  · exact .refl s
  · exact setStream_onward s k _

theorem streamSync_onward (s : State) (k : Nat) : Onward s (s.streamSync k) := .of_onRegs (streamSync_onRegs s k) (by decide)

theorem pinSync_onward (s : State) : Onward s s.pinSync := (Onward.refl s).set (by decide) 0 _

theorem mirrorShow_onward (s : State) (k : Nat) : Onward s (s.mirrorShow k) := .of_onRegs (mirrorShow_onRegs s k) (by decide)

theorem modJob_onward (s : State) (id : Nat) (f : Job → Job) : Onward s (s.modJob id f) := .same rfl rfl rfl

theorem raise_onward (s : State) (lo hi : Nat) : Onward s (s.raise lo hi) := by
  unfold State.raise
  split
  · exact ⟨fun _ _ _ => rfl, fun g hg => ISet.mem_add _ _ _ _ (.inr hg), Nat.le_refl _⟩
  · exact .refl s

theorem raiseOuts_onward (s : State) (j : Job) : Onward s (s.raiseOuts j) :=
  .foldl State.raiseBuf (fun s b => raise_onward s b.1 (b.1 + b.2)) j.writes s

theorem mem_raiseBufs (bs : List (Nat × Nat)) (s : State) {b : Nat × Nat} (hb : b ∈ bs) {a : Nat} (h1 : b.1 ≤ a) (h2 : a < b.1 + b.2) :
    ISet.mem (a / 64) (bs.foldl State.raiseBuf s).soot = true := by
  induction bs generalizing s with
  | nil => simp at hb
  | cons c bs ih =>
    rcases List.mem_cons.mp hb with rfl | hb
    · exact (Onward.foldl State.raiseBuf (fun s b => raise_onward s b.1 (b.1 + b.2)) bs _).soot _ (mem_raise h1 h2)
    · exact ih _ hb

/-- The outputs of a job are tagged once they have been raised. -/
theorem raiseOuts_tags (s : State) (j : Job) : ∀ b ∈ j.writes, ∀ a, b.1 ≤ a → a < b.1 + b.2 →
    ISet.mem (a / 64) (s.raiseOuts j).soot = true := fun _ hb _ h1 h2 => mem_raiseBufs j.writes s hb h1 h2

theorem sooted_of_mem {s : State} {a : Nat} (h : ISet.mem (a / 64) s.soot = true) : s.sooted a = true := by
  simp [State.sooted, h]

/-! ## JOB_ISSUE (R43, R284) -/

/-- Job `id` runs on unit `u` from tick `t0` on. -/
def State.RunsOn (s : State) (id : Nat) (u : UnitName) (t0 : Nat) : Prop := ∃ i ∈ s.jobs, i.id = id ∧ i.unit = some u ∧ i.since = t0

/-- What an issue does beside the unit's registers and the job's entry: the registers of the units stay, no tag falls, and the job
runs on. -/
structure IssueWork (id : Nat) (u : UnitName) (t0 : Nat) (s t : State) : Prop extends Onward s t where
  runs : s.RunsOn id u t0 → t.RunsOn id u t0

section IssueWork

variable {id t0 : Nat} {u : UnitName} {s t v : State}

theorem IssueWork.refl (s : State) : IssueWork id u t0 s s := ⟨.refl s, fun h => h⟩

theorem IssueWork.trans (h : IssueWork id u t0 s t) (k : IssueWork id u t0 t v) : IssueWork id u t0 s v :=
  ⟨h.toOnward.trans k.toOnward, fun x => k.runs (h.runs x)⟩

theorem IssueWork.of_jobs (h : Onward s t) (hj : t.jobs = s.jobs) : IssueWork id u t0 s t :=
  ⟨h, fun ⟨i, hi, hr⟩ => ⟨i, hj ▸ hi, hr⟩⟩

theorem IssueWork.ite {c : Prop} [Decidable c] (h : IssueWork id u t0 s t) (k : IssueWork id u t0 s v) :
    IssueWork id u t0 s (if c then t else v) := by
  split
  · exact h
  · exact k

theorem IssueWork.setStream (s : State) (k : Nat) (st : Stream) : IssueWork id u t0 s (s.setStream k st) :=
  .of_jobs (setStream_onward s k st) rfl

theorem IssueWork.modStream (s : State) (k : Nat) (g : Stream → Stream) : IssueWork id u t0 s (s.modStream k g) :=
  .of_jobs (modStream_onward s k g) (modStream_jobs s k g)

/-- A change of a job that leaves it where it runs. -/
theorem IssueWork.modJob (s : State) (i : Nat) (f : Job → Job)
    (hf : ∀ j, (f j).id = j.id ∧ (f j).unit = j.unit ∧ (f j).since = j.since) : IssueWork id u t0 s (s.modJob i f) := by
  refine ⟨modJob_onward s i f, ?_⟩
  rintro ⟨j, hj, h1, h2, h3⟩
  refine ⟨if j.id == i then f j else j, List.mem_map.mpr ⟨j, hj, rfl⟩, ?_⟩
  obtain ⟨e1, e2, e3⟩ := hf j
  split
  · exact ⟨e1.trans h1, e2.trans h2, e3.trans h3⟩
  · exact ⟨h1, h2, h3⟩

end IssueWork

theorem startTree_work {id t0 : Nat} {u : UnitName} (s : State) (j : Job) : IssueWork id u t0 s (s.startTree j) := by
  unfold State.startTree
  split
  · split
    · exact .refl s
    · dsimp only
      have h := IssueWork.modJob (id := id) (u := u) (t0 := t0) s j.id
      split
      · exact h _ fun _ => ⟨rfl, rfl, rfl⟩
      · refine IssueWork.trans ?_ (IssueWork.setStream _ _ _)
        exact h _ fun _ => ⟨rfl, rfl, rfl⟩
  · exact .refl s

theorem startPicture_work {id t0 : Nat} {u : UnitName} (s : State) (j : Job) : IssueWork id u t0 s (s.startPicture j) := by
  unfold State.startPicture
  split
  · exact .refl s
  · split
    · exact .refl s
    · split
      · exact .refl s
      · have h := IssueWork.modJob (id := id) (u := u) (t0 := t0) s j.id
        dsimp only
        split
        · refine IssueWork.trans (IssueWork.trans ?_ (IssueWork.modStream _ j.stream _))
            (.of_jobs (mirrorShow_onward _ j.stream) (mirrorShow_onRegs _ j.stream).jobs)
          exact h _ fun _ => ⟨rfl, rfl, rfl⟩
        · exact h _ fun _ => ⟨rfl, rfl, rfl⟩

theorem writeSlice_onward (s : State) (j : Job) : Onward s (s.writeSlice j) ∧ (s.writeSlice j).jobs = s.jobs := by
  unfold State.writeSlice
  split
  · exact ⟨.refl s, rfl⟩
  · exact ⟨.same rfl rfl rfl, rfl⟩

/-- The effect of the start of a job by its kind. -/
def State.startKind (s : State) (j : Job) : State :=
  if j.kind == .tree then s.startTree j else if j.kind == .mirror then s.startPicture j else s

/-- The job's outputs are tagged where its summary is 1, and the frame counts as issued. -/
def State.tagIssued (s : State) (u : UnitName) (j t : Job) : State :=
  let s := (s.workStorage u t.soot).writeSlice t
  let s := if t.soot then s.raiseOuts t else s
  if j.ofMirror then s else s.modFrame j.stream j.fseq fun f => { f with issued := true }

theorem issue_eq (s : State) (u : UnitName) (j : Job) : s.issue u j =
    ((((((s.unitTakes u j).touch j).modJob j.id fun _ => s.jobIssued u j).startKind j).tagIssued u j (s.jobIssued u j)).pinSync).streamSync
      j.stream := rfl

theorem startKind_work {id t0 : Nat} {u : UnitName} (s : State) (j : Job) : IssueWork id u t0 s (s.startKind j) :=
  (startTree_work s j).ite ((startPicture_work s j).ite (.refl s))

theorem raiseOuts_jobs (s : State) (j : Job) : (s.raiseOuts j).jobs = s.jobs := (raiseBufs_kept j.writes s).2

/-- The unit's working storage and the slice of the tile take the job's summary. -/
def State.fillUnit (s : State) (u : UnitName) (t : Job) : State := (s.workStorage u t.soot).writeSlice t

theorem fillUnit_onward (s : State) (u : UnitName) (t : Job) : Onward s (s.fillUnit u t) ∧ (s.fillUnit u t).jobs = s.jobs := by
  obtain ⟨h, hj⟩ := writeSlice_onward (s.workStorage u t.soot) t
  exact ⟨Onward.trans (t := s.workStorage u t.soot) (.same rfl rfl rfl) h, hj⟩

theorem tagIssued_work {id t0 : Nat} {v : UnitName} (s : State) (u : UnitName) (j t : Job) :
    IssueWork id v t0 s (s.tagIssued u j t) ∧
      (t.soot = true → ∀ b ∈ t.writes, ∀ a, b.1 ≤ a → a < b.1 + b.2 → ISet.mem (a / 64) (s.tagIssued u j t).soot = true) := by
  obtain ⟨hf, hfj⟩ := fillUnit_onward s u t
  have heq : s.tagIssued u j t = (let w := if t.soot then (s.fillUnit u t).raiseOuts t else s.fillUnit u t
      if j.ofMirror then w else w.modStream j.stream fun st => st.modFrame j.fseq fun f => { f with issued := true }) := rfl
  rw [heq]
  generalize s.fillUnit u t = w at hf hfj ⊢
  have hw : IssueWork id v t0 s (if t.soot then w.raiseOuts t else w) :=
    ((IssueWork.of_jobs hf hfj).trans (.of_jobs (raiseOuts_onward w t) (raiseOuts_jobs w t))).ite (.of_jobs hf hfj)
  refine ⟨hw.ite (hw.trans (IssueWork.modStream _ _ _)), fun hs b hb a h1 h2 => ?_⟩
  have hm := raiseOuts_tags w t b hb a h1 h2
  rw [if_pos hs]
  exact ((Onward.refl _).ite (modStream_onward _ _ _)).soot _ hm

theorem unitTakes_parts (s : State) (u : UnitName) (j : Job) : (s.unitTakes u j).jobs = s.jobs ∧
    (∀ n, u = .array n → (s.unitTakes u j).get .AR_BUSY n = 1) ∧ (∀ n, u = .cluster n → (s.unitTakes u j).get .CL_BUSY n = 1) ∧
    ∀ n, u = .menc n → (s.unitTakes u j).get .MENC_BUSY n = 1 := by
  cases u with
  | array n =>
    refine ⟨rfl, fun m h => ?_, nofun, nofun⟩
    obtain rfl := UnitName.array.inj h
    simp (disch := decide) only [State.unitTakes, State.inc, State.get_set_ne, State.get_set_self]
  | cluster n =>
    refine ⟨rfl, nofun, fun m h => ?_, nofun⟩
    obtain rfl := UnitName.cluster.inj h
    simp (disch := decide) only [State.unitTakes, State.inc, State.get_set_ne, State.get_set_self]
  | menc n =>
    refine ⟨rfl, nofun, nofun, fun m h => ?_⟩
    obtain rfl := UnitName.menc.inj h
    simp (disch := decide) only [State.unitTakes, State.inc, State.get_set_ne, State.get_set_self]
  | _ => exact ⟨rfl, nofun, nofun, nofun⟩

theorem mem_of_firstJob {l : List Job} {j : Job} (h : firstJob l = some j) : j ∈ l := by
  induction l with
  | nil => cases h
  | cons a l ih =>
    unfold firstJob at h
    split at h
    · exact Option.some.inj h ▸ List.mem_cons_self
    · next k hk =>
      split at h
      · exact List.mem_cons_of_mem _ (ih (hk.trans h))
      · exact Option.some.inj h ▸ List.mem_cons_self

theorem mem_of_nextIssue {s : State} {u : UnitName} {j : Job} (h : s.nextIssue u = some j) : j ∈ s.jobs :=
  List.mem_of_mem_filter (mem_of_firstJob h)

theorem jobIssue_completes {s : State} {unit : UnitName} {j : Job} (hr : s.enginesRun = true) (hj : s.nextIssue unit = some j)
    (hf : s.unitFree unit = true) : Runs (.jobIssue unit) s fun t =>
      (∃ i ∈ t.jobs, i.id = j.id ∧ i.unit = some unit ∧ i.since = s.now) ∧
      ((s.jobIssued unit j).soot = true → ∀ b ∈ (s.jobIssued unit j).writes, ∀ a, b.1 ≤ a → a < b.1 + b.2 → t.sooted a = true) ∧
      (∀ n, unit = .array n → t.get .AR_BUSY n = 1) ∧ (∀ n, unit = .cluster n → t.get .CL_BUSY n = 1) ∧
      (∀ n, unit = .menc n → t.get .MENC_BUSY n = 1) := by
  refine ⟨settle (s.issue unit j), ?_, ?_⟩
  · change execJobIssue unit s = _
    simp only [execJobIssue, hj, hr, hf, Bool.and_self, doneIf_true]
  rw [issue_eq]
  obtain ⟨tj, ta, tc, tm⟩ := unitTakes_parts s unit j
  have h0 : Onward (s.unitTakes unit j) (((s.unitTakes unit j).touch j).modJob j.id fun _ => s.jobIssued unit j) := .same rfl rfl rfl
  have hruns : (((s.unitTakes unit j).touch j).modJob j.id fun _ => s.jobIssued unit j).RunsOn j.id unit s.now :=
    ⟨s.jobIssued unit j, modJob_mem (s := (s.unitTakes unit j).touch j) (q := j) (tj ▸ mem_of_nextIssue hj) _, rfl, rfl, rfl⟩
  generalize ((s.unitTakes unit j).touch j).modJob j.id (fun _ => s.jobIssued unit j) = v at h0 hruns ⊢
  have h1 := startKind_work (id := j.id) (t0 := s.now) (u := unit) v j
  generalize v.startKind j = w at h1 ⊢
  obtain ⟨h2, htags⟩ := tagIssued_work (id := j.id) (t0 := s.now) (v := unit) w unit j (s.jobIssued unit j)
  generalize w.tagIssued unit j (s.jobIssued unit j) = x at h2 htags ⊢
  have h3 : IssueWork j.id unit s.now x (settle (x.pinSync.streamSync j.stream)) :=
    (IssueWork.of_jobs (pinSync_onward x) rfl).trans ((IssueWork.of_jobs (streamSync_onward _ _) (streamSync_jobs _ _)).trans
      (IssueWork.of_jobs (.of_keeps (settle_frame _) (by decide)) (settle_jobs _)))
  have hall := h1.trans (h2.trans h3)
  have hon := h0.trans hall.toOnward
  refine ⟨hall.runs hruns, fun hs b hb a h1 h2 => sooted_of_mem (h3.soot _ (htags hs b hb a h1 h2)), ?_, ?_, ?_⟩
  · exact fun n hn => (hon.reg _ (by decide) n).trans (ta n hn)
  · exact fun n hn => (hon.reg _ (by decide) n).trans (tc n hn)
  · exact fun n hn => (hon.reg _ (by decide) n).trans (tm n hn)

end Sys2Proof.Machine
end

section
/-! JOB_COMPLETE (R43, R275). -/

namespace Sys2Proof.Machine

/-! ## Work on a frame -/

theorem dropJobs_onward (s : State) (p : Job → Bool) : Onward s (s.dropJobs p) := .same rfl rfl rfl

theorem addJob_onward (s : State) (j : Job) : Onward s (s.addJob j) := ⟨fun _ _ _ => rfl, fun _ h => h, Nat.le_succ _⟩

theorem grantAct_onward (s : State) (k : Nat) : Onward s (s.grantAct k) := by
  unfold State.grantAct
  split
  · exact .refl s
  · exact modStream_onward s k _

theorem fluePassDue_onward (s : State) (k q : Nat) : Onward s (s.fluePassDue k q) := by
  unfold State.fluePassDue
  split
  · exact .refl s
  · exact (Onward.refl s).ite (addJob_onward s _)

theorem dropFrame_onward (s : State) (k q r : Nat) : Onward s (s.dropFrame k q r) :=
  (dropJobs_onward s _).trans ((modStream_onward _ k _).trans ((grantAct_onward _ k).trans
    ((fluePassDue_onward _ k q).trans (streamSync_onward _ k))))

theorem dropLate_onward (s : State) (k q : Nat) : Onward s (s.dropLate k q) := by
  have h : Onward s ((s.inc .SCH_DEADLINE_DROPS).inc .SS_DROPS k) := ((Onward.refl s).set (by decide) 0 _).set (by decide) k _
  unfold State.dropLate
  dsimp only
  generalize (s.inc .SCH_DEADLINE_DROPS).inc .SS_DROPS k = u at h ⊢
  split
  · exact h.trans (Onward.ite ((dropFrame_onward u k q 8).set (by decide) k _) (dropFrame_onward u k q 8))
  · exact h

theorem frameSync_onward (s : State) (k q : Nat) : Onward s (s.frameSync k q) := by
  unfold State.frameSync
  split
  · exact .refl s
  · split
    · exact .refl s
    · exact Onward.ite ((modStream_onward s k _).trans ((grantAct_onward _ k).trans
        ((fluePassDue_onward _ k q).trans (streamSync_onward _ k)))) (streamSync_onward s k)

theorem rewritten_onward (s : State) (b : Nat × Nat) : Onward s (s.rewritten b) := by
  unfold State.rewritten
  dsimp only
  split
  · exact Onward.trans (t := { s with poison := s.poison.filter fun p => !(decide (b.1 ≤ p.1) && decide (p.1 + 64 ≤ b.1 + b.2)) })
      (.same rfl rfl rfl) (.of_onRegs (poisonSync_onRegs _) (by decide))
  · exact .refl s

/-! ## The end of a tracker job and of a tree job -/

/-- The bytes of a record join the epoch. -/
def State.withRecord (s : State) (b : Bytes) : State :=
  { s with w.epochQ := s.w.epochQ ++ bodies b, w.epochBytes := s.w.epochBytes + b.length }

theorem withRecord_onward (s : State) (b : Bytes) : Onward s (s.withRecord b) := .same rfl rfl rfl

theorem queueRecord_onward (s : State) (b : Bytes) : Onward s (s.queueRecord b) := by
  unfold State.queueRecord
  generalize s.epochBuf (s.w.eBuf + 1) + s.w.epochBytes = a
  exact (raise_onward s a (a + b.length)).trans (withRecord_onward _ b)

theorem queueCommit_onward (s : State) : Onward s s.queueCommit := (queueRecord_onward s _).ite (.refl s)

/-- Stream `k` is no longer waited for. -/
def State.snapDue (s : State) (k : Nat) : State := { s with w.snapWait := s.w.snapWait.filter fun i => i != k }

theorem snapDue_onward (s : State) (k : Nat) : Onward s (s.snapDue k) := .same rfl rfl rfl

theorem draw_onward (s : State) (n : Nat) : Onward s (s.draw n).2 := .same rfl rfl rfl

/-- `n` snapshots are queued. -/
def State.withSnaps (s : State) (n : Nat) : State := { s with w.snapDone := n }

theorem withSnaps_onward (s : State) (n : Nat) : Onward s (s.withSnaps n) := .same rfl rfl rfl

theorem takeSnap_onward (s : State) (k : Nat) : Onward s (s.takeSnap k) := by
  have hc : ∀ (u : State) (b : Bytes) (n : Nat), Onward u ((u.queueRecord b).withSnaps n).queueCommit := fun u b n =>
    (queueRecord_onward u b).trans ((withSnaps_onward _ n).trans (queueCommit_onward _))
  have hd := snapDue_onward s k
  unfold State.takeSnap
  split
  · exact .refl s
  · change Onward s (match (s.snapDue k).stream? k with | none => _ | some st => _)
    split
    · exact hd.trans (queueCommit_onward _)
    · next st _ =>
      lift_lets
      intro s0 mode d s1 x
      have hw : Onward s s1 := (hd.trans (draw_onward _ _)).ite hd
      clear_value s1 x
      exact hw.trans (hc s1 x.bytes _)

theorem endTracker_onward (s : State) (j : Job) (ds : List Det) : Onward s (s.endTracker j ds) := by
  unfold State.endTracker
  split
  · exact .refl s
  · split
    · exact .refl s
    · exact (setStream_onward s _ _).trans (takeSnap_onward _ _)

theorem endTree_onward (s : State) (j : Job) : Onward s (s.endTree j) := by
  unfold State.endTree
  split
  · split
    · exact .refl s
    · have h : ∀ x n, Onward s (((s.setStream j.stream x).set .TS_HIST_FILL j.stream n).inc .TRE_JOBS) := fun x n =>
        (((setStream_onward s j.stream x).set (by decide) j.stream n).set (by decide) 0 _)
      exact Onward.ite ((h _ _).set (by decide) 0 _) (h _ _)
  · exact .refl s

theorem badTracks_onward (s : State) (j : Job) : Onward s (s.badTracks j) :=
  (modStream_onward s _ _).trans (dropFrame_onward _ _ _ _)

theorem badHistory_onward (s : State) (j : Job) : Onward s (s.badHistory j) :=
  ((modStream_onward s _ _).set (by decide) j.stream 0).trans (dropFrame_onward _ _ _ _)

/-! ## The end of a job -/

/-- The registers of a unit that ends a job. -/
def doneFields (f : Field) : Bool := unitFields f || f == .AR_JOBS || f == .CL_JOBS || f == .CL_TRACK_JOBS || f == .FFT_JOBS

theorem unitFields_done (f : Field) (h : unitFields f = true) : doneFields f = true := by simp [doneFields, h]

theorem unitDone_onRegs (s : State) (u : UnitName) (j : Job) : OnRegs doneFields s (s.unitDone u j) := by
  have h := (unitIdle_onRegs s u).mono unitFields_done
  unfold State.unitDone
  cases u with
  | array n => exact h.set .AR_JOBS n _ rfl
  | cluster n => exact (h.set .CL_JOBS n _ rfl).set .CL_TRACK_JOBS n _ rfl
  | fft => exact h.set .FFT_JOBS 0 _ rfl
  | _ => exact h

theorem unitDone_counts (s : State) (u : UnitName) (j : Job) :
    (∀ n, u = .array n → (s.unitDone u j).get .AR_BUSY n = 0 ∧ (s.unitDone u j).get .AR_JOBS n = Num.wrap32 (s.get .AR_JOBS n + 1)) ∧
    ∀ n, u = .cluster n → (s.unitDone u j).get .CL_BUSY n = 0 ∧ (s.unitDone u j).get .CL_JOBS n = Num.wrap32 (s.get .CL_JOBS n + 1) := by
  constructor
  · rintro n rfl
    simp (disch := decide) only [State.unitDone, State.unitIdle, State.inc, State.get_set_ne, State.get_set_self, and_self]
  · rintro n rfl
    simp (disch := decide) only [State.unitDone, State.unitIdle, State.inc, State.get_set_ne, State.get_set_self, and_self]

/-- What a job reads in memory and in the staging store is sooted in `t` where it is in `s`. -/
theorem sootRead_congr {s t : State} {F : Field → Bool} (k : Keeps F s t) (h1 : F .SOOT_TAGSTORE_READY = false)
    (h2 : F .SOOT_SRAM_READY = false) (j : Job) : t.sootRead j = s.sootRead j := by
  have hb : t.bufSoot = s.bufSoot := funext fun b => by simp only [State.bufSoot, k.1 _ _ h1, k.1 _ _ h2, k.soot]
  simp only [State.sootRead, hb, State.slotSoot, k.pageSlots, k.stagingSoot, k.stagingBad]

theorem tagOutputs_onward (s : State) (j : Job) : Onward s (s.tagOutputs j) ∧ (s.sootRead j = true → ∀ b ∈ j.writes, ∀ a, b.1 ≤ a →
    a < b.1 + b.2 → ISet.mem (a / 64) (s.tagOutputs j).soot = true) := by
  unfold State.tagOutputs
  split
  · have h1 := raiseOuts_onward s j
    have h2 := (writeSlice_onward (s.raiseOuts j) { j with soot := true }).1
    have htag := raiseOuts_tags s j
    generalize (s.raiseOuts j).writeSlice { j with soot := true } = w at h2 ⊢
    have h3 : Onward w (match j.unit with | none => w | some u => w.workStorage u true) := by
      split
      · exact .refl w
      · exact .same rfl rfl rfl
    exact ⟨h1.trans (h2.trans h3), fun _ b hb a ha1 ha2 => (h2.trans h3).soot _ (htag b hb a ha1 ha2)⟩
  · next hn => exact ⟨.refl s, fun h => absurd h hn⟩

/-- What becomes of the frame of a job that ends. -/
def State.endFrame (s : State) (j : Job) (out : JobOutcome) (live poison trackBad histBad : Bool) : State :=
  if !live then s
  else if poison then s.dropLate j.stream j.fseq
  else match j.kind with
    | .tracker => if trackBad then s.badTracks j else s.endTracker j (detTable out.table)
    | .tree => if histBad then s.badHistory j else s.endTree j
    | _ => s

theorem endFrame_onward (s : State) (j : Job) (out : JobOutcome) (live poison trackBad histBad : Bool) :
    Onward s (s.endFrame j out live poison trackBad histBad) := by
  unfold State.endFrame
  refine (Onward.refl s).ite ((dropLate_onward s _ _).ite ?_)
  split
  · exact (badTracks_onward s j).ite (endTracker_onward s j _)
  · exact (badHistory_onward s j).ite (endTree_onward s j)
  · exact .refl s

theorem endJob_eq (s : State) (u : UnitName) (j : Job) (out : JobOutcome) : ∃ live poison trackBad histBad,
    s.endJob u j out = ((((((j.writes.foldl State.rewritten ((s.unitDone u j).tagOutputs j)).endFrame j out live poison trackBad
      histBad).dropJobs fun i => i.id == j.id).grantAct j.stream).frameSync j.stream j.fseq).streamSync j.stream).pinSync :=
  ⟨_, _, _, _, rfl⟩

/-! ## The job that ended is gone -/

/-- No job of number `id` below `n` is left, and the next ones are numbered from `n` on. -/
def State.Gone (s : State) (id n : Nat) : Prop := n ≤ s.nextJob ∧ ∀ i ∈ s.jobs, i.id = id → n ≤ i.id

section Gone

variable {s t : State} {id n : Nat}

theorem State.Gone.same (h : s.Gone id n) (hj : t.jobs = s.jobs) (hn : t.nextJob = s.nextJob) : t.Gone id n :=
  ⟨hn ▸ h.1, fun i hi => h.2 i (hj ▸ hi)⟩

theorem State.Gone.onRegs {F : Field → Bool} (h : s.Gone id n) (k : OnRegs F s t) : t.Gone id n := h.same k.jobs k.keeps.nextJob

theorem State.Gone.addJob (h : s.Gone id n) (j : Job) : (s.addJob j).Gone id n := by
  refine ⟨h.1.trans (Nat.le_succ _), fun i hi hid => ?_⟩
  rcases List.mem_append.mp hi with hi | hi
  · exact h.2 i hi hid
  · rw [List.mem_singleton.mp hi]
    exact h.1

theorem State.Gone.modStream (h : s.Gone id n) (k : Nat) (g : Stream → Stream) : (s.modStream k g).Gone id n := by
  refine h.same (modStream_jobs s k g) ?_
  unfold State.modStream
  split <;> rfl

theorem State.Gone.grantAct (h : s.Gone id n) (k : Nat) : (s.grantAct k).Gone id n := by
  unfold State.grantAct
  split
  · exact h
  · exact h.modStream k _

theorem State.Gone.fluePassDue (h : s.Gone id n) (k q : Nat) : (s.fluePassDue k q).Gone id n := by
  unfold State.fluePassDue
  split
  · exact h
  · split
    · exact h
    · exact h.addJob _

theorem State.Gone.streamSync (h : s.Gone id n) (k : Nat) : (s.streamSync k).Gone id n := h.onRegs (streamSync_onRegs s k)

theorem State.Gone.frameSync (h : s.Gone id n) (k q : Nat) : (s.frameSync k q).Gone id n := by
  unfold State.frameSync
  split
  · exact h
  · split
    · exact h
    · split
      · exact (((h.modStream k _).grantAct k).fluePassDue k q).streamSync k
      · exact h.streamSync k

theorem dropJobs_gone (h : n ≤ s.nextJob) : (s.dropJobs fun i => i.id == id).Gone id n := by
  refine ⟨h, fun i hi hid => ?_⟩
  have hne := (List.mem_filter.mp hi).2
  simp [hid] at hne

end Gone

theorem jobComplete_completes {s : State} {unit : UnitName} {out : JobOutcome} {j : Job} (hr : s.enginesRun = true)
    (hj : s.jobOn unit = some j) (hk : j.kind ≠ .decode) (hm : j.ofMirror = false) : Runs (.jobComplete unit out) s fun t =>
      (∀ i ∈ t.jobs, i.id = j.id → s.nextJob ≤ i.id) ∧
      (s.sootRead j = true → ∀ b ∈ j.writes, ∀ a, b.1 ≤ a → a < b.1 + b.2 → t.sooted a = true) ∧
      (∀ n, unit = .array n → t.get .AR_BUSY n = 0 ∧ t.get .AR_JOBS n = Num.wrap32 (s.get .AR_JOBS n + 1)) ∧
      (∀ n, unit = .cluster n → t.get .CL_BUSY n = 0 ∧ t.get .CL_JOBS n = Num.wrap32 (s.get .CL_JOBS n + 1)) := by
  refine ⟨settle (s.endJob unit j out), ?_, ?_⟩
  · change execJobComplete unit out s = _
    have hk' : (j.kind != .decode) = true := by simpa using hk
    simp only [execJobComplete, hj, hr, hk', hm, Bool.not_false, Bool.and_self, doneIf_true]
  obtain ⟨live, poison, trackBad, histBad, he⟩ := endJob_eq s unit j out
  rw [he]
  have ku := unitDone_onRegs s unit j
  obtain ⟨ca, cc⟩ := unitDone_counts s unit j
  have hsoot := sootRead_congr ku.keeps rfl rfl j
  have hnext := ku.keeps.nextJob
  generalize s.unitDone unit j = u at ku ca cc hsoot hnext ⊢
  obtain ⟨h1, htags⟩ := tagOutputs_onward u j
  generalize u.tagOutputs j = v at h1 htags ⊢
  have h2 := (Onward.foldl State.rewritten rewritten_onward j.writes v).trans
    (endFrame_onward (j.writes.foldl State.rewritten v) j out live poison trackBad histBad)
  generalize (j.writes.foldl State.rewritten v).endFrame j out live poison trackBad histBad = w at h2 ⊢
  have hle : s.nextJob ≤ w.nextJob := hnext ▸ (h1.trans h2).nextJob
  have hgone := (((dropJobs_gone (id := j.id) hle).grantAct j.stream).frameSync j.stream j.fseq).streamSync j.stream
  have h3 := (dropJobs_onward w fun i => i.id == j.id).trans ((grantAct_onward _ j.stream).trans
    ((frameSync_onward _ j.stream j.fseq).trans (streamSync_onward _ j.stream)))
  generalize (((w.dropJobs fun i => i.id == j.id).grantAct j.stream).frameSync j.stream j.fseq).streamSync j.stream = x at hgone h3 ⊢
  have h4 : Onward x (settle x.pinSync) := (pinSync_onward x).trans (.of_keeps (settle_frame _) (by decide))
  have hrest := h2.trans (h3.trans h4)
  have hall := h1.trans hrest
  refine ⟨fun i hi => hgone.2 i ?_, fun hs b hb a ha1 ha2 => ?_, fun n hn => ?_, fun n hn => ?_⟩
  · rw [settle_jobs] at hi
    exact hi
  · exact sooted_of_mem (hrest.soot _ (htags (hsoot.trans hs) b hb a ha1 ha2))
  · obtain ⟨e1, e2⟩ := ca n hn
    exact ⟨(hall.reg _ (by decide) n).trans e1, (hall.reg _ (by decide) n).trans e2⟩
  · obtain ⟨e1, e2⟩ := cc n hn
    exact ⟨(hall.reg _ (by decide) n).trans e1, (hall.reg _ (by decide) n).trans e2⟩

/-- Settles O53: entry, staging, issue, end and the errors of the on-chip stores, each by its own lemma. -/
theorem jobsComplete : Obligations.JobsComplete := by
  unfold Obligations.JobsComplete
  refine ⟨fun s j => jobEntryGrant_completes, fun s hr => ⟨?_, ?_, ?_, ?_, ?_, ?_⟩⟩
  · exact fun j u hj hs he => pageStageStart_completes hr hj hs he
  · exact fun j o hs hj ho => pageStageDone_completes hr hs hj ho
  · exact fun slot line h1 h2 => stagingStoreUe_completes hr h1 h2
  · exact fun unit j hj hf => jobIssue_completes hr hj hf
  · exact fun unit out j hj hk hm => jobComplete_completes hr hj hk hm
  · exact fun a j i line hj hi hl => tileStoreUe_completes hr hj hi hl

end Sys2Proof.Machine
end

section
/-! An event that comes out of its rank (R102, R110, R112, R113): what its tick and its treatment go by. -/

namespace Sys2Proof.Machine

/-- The registers that the treatment of an event goes by. -/
def rankRegs : List Field := [.EVU_TICK_NOW, .EVU_TICK_STOPPED, .DS_STATE, .RC_CAUSE]

/-- What the tick and the treatment of an event go by. -/
def State.rankView (s : State) :=
  (s.captured, s.thermal, s.boot, s.staleWritten, s.get .EVU_TICK_NOW, s.get .EVU_TICK_STOPPED, s.get .DS_STATE, s.get .RC_CAUSE)

section Rank

variable {s t : State}

theorem OnRegs.rankView {F : Field → Bool} (k : OnRegs F s t) (hF : ∀ f ∈ rankRegs, F f = false) : t.rankView = s.rankView := by
  simp only [State.rankView, k.only.2.1, k.keeps.thermal, k.keeps.boot, k.keeps.staleWritten, k.keeps.1 _ _ (hF .EVU_TICK_NOW (by decide)),
    k.keeps.1 _ _ (hF .EVU_TICK_STOPPED (by decide)), k.keeps.1 _ _ (hF .DS_STATE (by decide)), k.keeps.1 _ _ (hF .RC_CAUSE (by decide))]

theorem rankView_now (h : t.rankView = s.rankView) : t.now = s.now := by
  simp only [State.rankView, Prod.mk.injEq] at h
  exact h.2.2.2.2.1

theorem treatment_congr (h : t.rankView = s.rankView) (c : Nat) : t.treatment c = s.treatment c := by
  simp only [State.rankView, Prod.mk.injEq] at h
  obtain ⟨hc, ht, hb, -, hn, -, hd, hr⟩ := h
  have hs : ∀ c p, t.sameTick c p = s.sameTick c p := fun c p => by simp only [State.sameTick, State.now, hc, hn]
  have hw : t.wdgResetNow = s.wdgResetNow := by simp only [State.wdgResetNow, hs, hb, hr]
  have hf : t.isFault = s.isFault := by simp only [State.isFault, State.dev, hd]
  unfold State.treatment
  rw [hs, hs, hs, hs, hs, hw, hf, ht]

theorem advance_rankView (h : t.rankView = s.rankView) : t.advance.rankView = s.advance.rankView := by
  have hn := rankView_now h
  have part : ∀ u : State, u.advance.thermal = u.thermal ∧ u.advance.boot = u.boot ∧ u.advance.staleWritten = u.staleWritten :=
    fun u => ⟨still_part (advance_still u) State.thermal fun _ => rfl, still_part (advance_still u) State.boot fun _ => rfl,
      still_part (advance_still u) State.staleWritten fun _ => rfl⟩
  have hnow : t.advance.get .EVU_TICK_NOW = s.advance.get .EVU_TICK_NOW := by
    rw [← State.now, ← State.now, advance_now, advance_now, hn]
  simp only [State.rankView, Prod.mk.injEq] at h ⊢
  obtain ⟨hc, ht, hb, hw, -, hs, hd, hr⟩ := h
  obtain ⟨t1, t2, t3⟩ := part t
  obtain ⟨s1, s2, s3⟩ := part s
  refine ⟨by rw [advance_captured, advance_captured, hc], by rw [t1, s1, ht], by rw [t2, s2, hb], by rw [t3, s3, hw], hnow, ?_, ?_, ?_⟩
  · rw [advance_get _ _ rfl, advance_get _ _ rfl, hs]
  · rw [advance_get _ _ rfl, advance_get _ _ rfl, hd]
  · rw [advance_get _ _ rfl, advance_get _ _ rfl, hr]

/-- Two units that agree on what an event goes by treat it alike, and in the same tick. -/
theorem inRank_rankView (h : t.rankView = s.rankView) (c src : Nat) : (t.inRank c src).rankView = (s.inRank c src).rankView := by
  have ho : t.outOfRank c src = s.outOfRank c src := by
    have hn := rankView_now h
    simp only [State.rankView, Prod.mk.injEq] at h
    simp only [State.outOfRank, h.1, hn]
  have hs : t.get .EVU_TICK_STOPPED = s.get .EVU_TICK_STOPPED := by
    simp only [State.rankView, Prod.mk.injEq] at h
    exact h.2.2.2.2.2.1
  unfold State.inRank
  rw [ho, hs]
  split
  · exact advance_rankView h
  · exact h

/-- The tick that an event out of its rank ends leaves the registers that a tick does not write, and the tags. -/
theorem inRank_get (s : State) (c src : Nat) {f : Field} (i : Nat) (hf : rankFields f = false) :
    (s.inRank c src).get f i = s.get f i := by
  unfold State.inRank
  split
  · exact advance_get s i hf
  · rfl

theorem inRank_part {α : Type} (s : State) (c src : Nat) (p : State → α) (hp : ∀ s, p s.still = p s) : p (s.inRank c src) = p s := by
  unfold State.inRank
  split
  · exact still_part (advance_still s) p hp
  · rfl

end Rank

/-! ## A captured event (R99, R102) -/

theorem capture_pending {s : State} {c : Nat} (hc : c ≠ 14) (src d0 d1 d2 : Nat) :
    ((s.capture c src d0 d1 d2).get .EVU_PENDING).testBit c = true := by
  have h : (s.capture c src d0 d1 d2).get .EVU_PENDING = s.get .EVU_PENDING ||| 2 ^ c := by
    unfold State.capture
    simp only [beq_iff_eq, hc, if_false]
    have hs := State.get_set_self s .EVU_PENDING 0 (s.get .EVU_PENDING ||| 2 ^ c)
    split <;> exact hs
  rw [h, Nat.testBit_or, Nat.testBit_two_pow_self, Bool.or_true]

theorem capture_waits (s : State) {c : Nat} (hc : c ≠ 14) (src d0 d1 d2 : Nat) :
    (s.get .EVU_TICK_STOPPED = 1 ∧ s.staleWritten = true) ∨ ⟨s.now, c, src, d0, d1, d2⟩ ∈ (s.capture c src d0 d1 d2).captured := by
  have hs : (s.set .EVU_PENDING 0 (s.get .EVU_PENDING ||| 2 ^ c)).get .EVU_TICK_STOPPED = s.get .EVU_TICK_STOPPED :=
    State.get_set_ne _ _ _ _ (by decide)
  have hn : (s.set .EVU_PENDING 0 (s.get .EVU_PENDING ||| 2 ^ c)).now = s.now := State.get_set_ne _ _ _ _ (by decide)
  by_cases h : s.get .EVU_TICK_STOPPED = 1 ∧ s.staleWritten = true
  · exact .inl h
  · refine .inr ?_
    unfold State.capture
    simp only [beq_iff_eq, hc, if_false]
    rw [hs, State.set_staleWritten, if_neg (by simpa using h), hn]
    exact List.mem_append_right _ (List.mem_singleton_self _)

/-! ## Events wait through completions (R170) -/

/-- Every event captured in `s` still waits in `t`. -/
def KeepsEvents (s t : State) : Prop := ∀ e ∈ s.captured, e ∈ t.captured

theorem KeepsEvents.trans {s t u : State} (h : KeepsEvents s t) (k : KeepsEvents t u) : KeepsEvents s u := fun e he => k e (h e he)

theorem KeepsEvents.same {s t : State} (h : t.captured = s.captured) : KeepsEvents s t := fun _ he => h ▸ he

theorem capture_keepsEvents (s : State) (c src d0 d1 d2 : Nat) : KeepsEvents s (s.capture c src d0 d1 d2) := by
  intro e he
  unfold State.capture
  dsimp only
  split <;> split
  · exact he
  · exact List.mem_append_left _ he
  · exact he
  · exact List.mem_append_left _ he

theorem post_captured (s : State) (x : Egress) : (s.post x).captured = s.captured := by
  unfold State.post
  split <;> rfl

theorem putReply_keepsEvents (s : State) (c tag tick : Nat) (r : Reply) : KeepsEvents s (s.putReply c tag tick r) := by
  have hc := capture_keepsEvents s 14 c 0 0 0
  unfold State.putReply
  dsimp only
  split
  · exact hc
  · split
    · exact hc.trans (.same (discard_only _).2.1)
    · exact hc.trans (.same (post_captured _ _))

theorem writeback_captured (s : State) (c : Nat) : (s.writeback c).captured = s.captured := by
  unfold State.writeback
  split
  · rfl
  · split
    · exact (discard_only s).2.1
    · exact post_captured s _

theorem fenceBump_captured (s : State) (h : Nat) : (s.fenceBump h).captured = s.captured := by
  unfold State.fenceBump
  split <;> rfl

theorem replySignal_captured (s : State) (p : Pkt) (r : Reply) : (s.replySignal p r).captured = s.captured := by
  unfold State.replySignal
  split
  · exact (signal_only s _).2.1
  · rfl

theorem answer_keepsEvents (s : State) (id tick : Nat) (p : Pkt) (r : Reply) : KeepsEvents s (s.answer id tick p r) := by
  unfold State.answer
  exact fun e he => putReply_keepsEvents _ _ _ _ _ e he

theorem completeN_keepsEvents (n : Nat) (s : State) (id tick : Nat) (r : Reply) : KeepsEvents s (completeN n s id tick r) := by
  induction n generalizing s id tick r with
  | zero => exact fun _ h => h
  | succ n ih =>
    have hfold : ∀ (l : List Nat) (v : State) (m : Nat) (q : Reply), KeepsEvents v (l.foldl (fun u w => completeN n u w m q) v) := by
      intro l
      induction l with
      | nil => exact fun _ _ _ _ h => h
      | cons a l ihl => exact fun v m q => (ih v a m q).trans (ihl _ m q)
    cases hp : s.pkt? id with
    | none => simp only [completeN, hp]; exact fun _ h => h
    | some p =>
      have ha : KeepsEvents s ((s.answer id tick p r).writeback p.client) := by
        exact (answer_keepsEvents s id tick p r).trans (.same (writeback_captured _ _))
      simp only [completeN, hp]
      refine KeepsEvents.trans ?_ (.same (replySignal_captured _ _ _))
      split
      · exact (ha.trans (.same (fenceBump_captured _ _))).trans (hfold _ _ _ _)
      · exact ha

theorem complete_keepsEvents (s : State) (id : Nat) (r : Reply) : KeepsEvents s (s.complete id r) := by
  have hj : KeepsEvents s (s.endJobOf id) := .same rfl
  unfold State.complete State.completeAt State.stage
  dsimp only
  split
  · split <;> exact hj
  · exact hj.trans (completeN_keepsEvents _ _ _ _ _)

end Sys2Proof.Machine
end

section
/-! Uncorrectable errors (R59, R342 to R344). -/

namespace Sys2Proof.Machine

/-- The registers of an error's record (R59, R342). -/
def ueRegs : List Field := [.CH_UE_COUNT, .CH_LAST_UE_ADDR, .CH_LAST_UE_TICK, .SEC_TAG_UE_COUNT, .SEC_SOOT_IRQ]

/-- The record, with the pending events and the lost channels. -/
def ueShown : List Field := ueRegs ++ [.EVU_PENDING, .CH_LOST]

/-- Between `s` and `t` the registers of an error's record, the pending events and the lost channels stay. -/
def KeepsUe (s t : State) : Prop := ∀ f ∈ ueShown, ∀ i, t.get f i = s.get f i

section KeepsUe

variable {s t u : State}

theorem KeepsUe.refl (s : State) : KeepsUe s s := fun _ _ _ => rfl

theorem KeepsUe.trans (h : KeepsUe s t) (k : KeepsUe t u) : KeepsUe s u := fun f hf i => (k f hf i).trans (h f hf i)

theorem KeepsUe.of_keeps {F : Field → Bool} (k : Keeps F s t) (hF : ∀ f ∈ ueShown, F f = false) : KeepsUe s t :=
  fun f hf i => k.1 f i (hF f hf)

theorem KeepsUe.of_steady {F : Field → Bool} (k : Steady F s t) (hF : ∀ f ∈ ueShown, F f = false) : KeepsUe s t :=
  fun f hf i => k.reg f i (hF f hf)

theorem KeepsUe.set (h : KeepsUe s t) {f : Field} (hf : f ∉ ueShown) (i v : Nat) : KeepsUe s (t.set f i v) :=
  h.trans fun _ hg _ => State.get_set_ne _ _ _ _ fun e => hf (e ▸ hg)

end KeepsUe

/-! ## What a poisoned granule does to the owner of its buffer (R343) -/

theorem complete_keepsUe (s : State) (id : Nat) (r : Reply) : KeepsUe s (s.complete id r) :=
  .of_keeps (complete_frame s id r) (by decide)

theorem poolSync_keepsUe (s : State) : KeepsUe s s.poolSync := .of_keeps (poolSync_onRegs s).keeps (by decide)

theorem modStream_keepsUe (s : State) (k : Nat) (g : Stream → Stream) : KeepsUe s (s.modStream k g) :=
  fun f _ i => modStream_get s k g f i

theorem failLoad_keepsUe (s : State) (id base : Nat) (r : Reply) : KeepsUe s (s.failLoad id base r) := by
  have h1 : KeepsUe s (s.endLoad id) := fun _ _ _ => rfl
  have h2 : Steady (fun _ => false) (s.endLoad id) ((s.endLoad id).free base) := .same (free_outward _ base).1
  exact h1.trans ((KeepsUe.of_steady h2 fun _ _ => rfl).trans ((poolSync_keepsUe _).trans (complete_keepsUe _ id r)))

theorem dropFrame_keepsUe (s : State) (k q r : Nat) : KeepsUe s (s.dropFrame k q r) :=
  .of_steady (dropFrame_calm s k q r).toSteady (by decide)

theorem dropLate_keepsUe (s : State) (k q : Nat) : KeepsUe s (s.dropLate k q) := by
  have h : KeepsUe s ((s.inc .SCH_DEADLINE_DROPS).inc .SS_DROPS k) := ((KeepsUe.refl s).set (by decide) 0 _).set (by decide) k _
  unfold State.dropLate
  dsimp only
  generalize (s.inc .SCH_DEADLINE_DROPS).inc .SS_DROPS k = u at h ⊢
  split
  · split
    · exact h.trans ((dropFrame_keepsUe u k q 8).set (by decide) k _)
    · exact h.trans (dropFrame_keepsUe u k q 8)
  · exact h

theorem foldl_keepsUe {α : Type} (g : State → α → State) (hg : ∀ s a, KeepsUe s (g s a)) (l : List α) (s : State) :
    KeepsUe s (l.foldl g s) := by
  induction l generalizing s with
  | nil => exact .refl s
  | cons a l ih => exact (hg s a).trans (ih _)

/-- A failed object is marked, and shown. -/
def State.showFailed (s : State) (o : Obj) : State :=
  { s with objects := Tab.put (o.handle % 65536) { o with failed := true } s.objects }.set
    (if o.isTree then .TRE_FAILED_OBJ else .PGR_FAILED_OBJ) 0 o.handle

theorem showFailed_keepsUe (s : State) (o : Obj) : KeepsUe s (s.showFailed o) := by
  have h : (if o.isTree then Field.TRE_FAILED_OBJ else .PGR_FAILED_OBJ) ∉ ueShown := by
    cases o.isTree <;> decide
  exact KeepsUe.set (t := { s with objects := Tab.put (o.handle % 65536) { o with failed := true } s.objects }) (fun _ _ _ => rfl) h 0 _

theorem failObj_keepsUe (s : State) (o : Obj) : KeepsUe s (s.failObj o) :=
  (showFailed_keepsUe s o).trans (foldl_keepsUe (fun s (x : Nat × Nat) => s.dropLate x.1 x.2) (fun s x => dropLate_keepsUe s x.1 x.2) _ _)

/-- An error in the buffers that a mirror receives into asks for an IDR (R400). -/
def State.poisonMirror (s : State) (k : Nat) (st : Stream) (a : Nat) : State :=
  let within (b : Nat × Nat) : Bool := decide (b.1 ≤ a) && decide (a < b.1 + b.2)
  let rx (m : MirrorSt) : Bool := (m.bufs.head?.any within) || (m.bufs[mirrorRing]?).any within
  if s.receivesMirror && st.mirror.any rx then (s.modMirror k fun m => { m with needIdr := true }).mirrorShow k else s

/-- An error in the track state or the tree history of a pipeline is read by its next job (R343). -/
def State.poisonPipe (s : State) (k : Nat) (st : Stream) (a : Nat) : State :=
  match st.pipe with
  | none => s
  | some p =>
    let i := p.bufs.findIdx fun b => decide (b.1 ≤ a) && decide (a < b.1 + b.2)
    if i == p.depth + 2 then s.modStream k fun st => { st with trackBad := true }
    else if i == p.depth + 3 then s.modStream k fun st => { st with histBad := true }
    else s

theorem poisonStream_eq (s : State) (k : Nat) (st : Stream) (a : Nat) :
    s.poisonStream k st a = (s.poisonMirror k st a).poisonPipe k st a := rfl

theorem poisonMirror_keepsUe (s : State) (k : Nat) (st : Stream) (a : Nat) : KeepsUe s (s.poisonMirror k st a) := by
  unfold State.poisonMirror
  dsimp only
  split
  · exact (modStream_keepsUe s k _).trans (.of_keeps (mirrorShow_onRegs _ k).keeps (by decide))
  · exact .refl s

theorem poisonPipe_keepsUe (s : State) (k : Nat) (st : Stream) (a : Nat) : KeepsUe s (s.poisonPipe k st a) := by
  unfold State.poisonPipe
  split
  · exact .refl s
  · dsimp only
    split
    · exact modStream_keepsUe s k _
    · split
      · exact modStream_keepsUe s k _
      · exact .refl s

theorem poisonStream_keepsUe (s : State) (k : Nat) (st : Stream) (a : Nat) : KeepsUe s (s.poisonStream k st a) := by
  rw [poisonStream_eq]
  exact (poisonMirror_keepsUe s k st a).trans (poisonPipe_keepsUe _ k st a)

theorem poisoned_keepsUe (s : State) (a : Nat) : KeepsUe s (s.poisoned a) := by
  unfold State.poisoned
  split
  · exact .refl s
  · split
    · exact failLoad_keepsUe s _ _ _
    · split
      · exact failObj_keepsUe s _
      · split
        · exact (modStream_keepsUe s _ _).set (by decide) _ 0
        · split
          · exact .refl s
          · exact poisonStream_keepsUe s _ _ a

/-! ## FAULT (R98, R344) -/

/-- The unit shows FAULT. -/
def State.showFault (s : State) (code ch : Nat) : State := ((s.set .DS_STATE 0 7).set .DS_FAULT_CODE 0 code).set .DS_CHANNEL 0 ch

/-- The FAULT frame to the partner (R377). -/
def State.sendFault (s : State) (code ch : Nat) : State :=
  if s.get .WRN_LSTATE == 6 && !s.clockIsLost 20 then s.wrenSend 0x06 0 [code + 256 * ch, s.now] else s

/-- Every packet in flight ends with DEVICE_FAULT. -/
def State.faultPackets (s : State) : State :=
  if s.clockIsLost 19 || s.clockIsLost 0 then s
  else (s.packets.map Pkt.id).foldl (fun s id => s.complete id (Reply.deviceFault 0x0001)) s

theorem enterFault_nine (s : State) (ch : Nat) :
    s.enterFault 9 ch = if s.isFault then s else ((s.showFault 9 ch).sendFault 9 ch).faultPackets := rfl

/-- What FAULT leaves of an error: its record, STATE once it is shown, the events that wait, and the tags. -/
structure FaultTail (s t : State) : Prop where
  ue : KeepsUe s t
  dev : t.dev = s.dev
  events : KeepsEvents s t
  soot : t.soot = s.soot

theorem FaultTail.trans {s t u : State} (h : FaultTail s t) (k : FaultTail t u) : FaultTail s u :=
  ⟨h.ue.trans k.ue, k.dev.trans h.dev, h.events.trans k.events, k.soot.trans h.soot⟩

theorem FaultTail.refl (s : State) : FaultTail s s := ⟨.refl s, rfl, fun _ h => h, rfl⟩

theorem complete_faultTail (s : State) (id : Nat) (r : Reply) : FaultTail s (s.complete id r) :=
  ⟨complete_keepsUe s id r, (complete_frame s id r).1 _ _ rfl, complete_keepsEvents s id r, (complete_frame s id r).soot⟩

theorem foldl_complete_faultTail (ids : List Nat) (r : Reply) (s : State) :
    FaultTail s (ids.foldl (fun s id => s.complete id r) s) := by
  induction ids generalizing s with
  | nil => exact .refl s
  | cons id ids ih => exact (complete_faultTail s id r).trans (ih _)

theorem sendFault_faultTail (s : State) (code ch : Nat) : FaultTail s (s.sendFault code ch) := by
  unfold State.sendFault
  split
  · refine ⟨fun f hf i => ?_, ?_, fun _ h => h, rfl⟩
    · refine State.get_set_ne _ _ _ _ ?_
      rintro rfl
      exact absurd hf (by decide)
    · exact State.get_set_ne _ _ _ _ (by decide)
  · exact .refl s

theorem faultPackets_faultTail (s : State) : FaultTail s s.faultPackets := by
  unfold State.faultPackets
  split
  · exact .refl s
  · exact foldl_complete_faultTail _ _ s

theorem showFault_parts (s : State) (code ch : Nat) : KeepsUe s (s.showFault code ch) ∧ (s.showFault code ch).dev = 7 ∧
    (s.showFault code ch).captured = s.captured ∧ (s.showFault code ch).soot = s.soot := by
  refine ⟨(((KeepsUe.refl s).set (by decide) 0 7).set (by decide) 0 code).set (by decide) 0 ch, ?_, rfl, rfl⟩
  simp (disch := decide) only [State.dev, State.showFault, State.get_set_ne, State.get_set_self]

theorem enterFault_completes (s : State) (ch : Nat) : KeepsUe s (s.enterFault 9 ch) ∧ (s.enterFault 9 ch).dev = 7 ∧
    KeepsEvents s (s.enterFault 9 ch) ∧ (s.enterFault 9 ch).soot = s.soot := by
  rw [enterFault_nine]
  split
  · next h => exact ⟨.refl s, by simpa [State.isFault] using h, fun _ h => h, rfl⟩
  · obtain ⟨hu, hd, hc, hs⟩ := showFault_parts s 9 ch
    have k := (sendFault_faultTail (s.showFault 9 ch) 9 ch).trans (faultPackets_faultTail _)
    exact ⟨hu.trans k.ue, k.dev.trans hd, (KeepsEvents.same hc).trans k.events, k.soot.trans hs⟩

/-! ## DRAM_UE is raised (R344) -/

/-- The event of an error is captured, and a fatal one loses the channel. -/
def State.captureUe (s : State) (c d0 d1 : Nat) (fatal : Bool) : State :=
  if fatal then (s.capture 10 c d0 d1 (Num.b2n fatal)).set .CH_LOST c 1 else s.capture 10 c d0 d1 (Num.b2n fatal)

/-- The consequence of an error under treatment `t`. -/
def State.ueEffect (s : State) (t : Treat) (c : Nat) (fatal : Bool) (body : State → State) : State :=
  match t with
  | .apply => if fatal then s.enterFault 9 c else body s
  | _ => s

theorem raiseUe_eq (s : State) (c d0 d1 : Nat) (fatal : Bool) (body : State → State) : s.raiseUe c d0 d1 fatal body =
    ((s.inRank 10 c).captureUe c d0 d1 fatal).ueEffect ((s.inRank 10 c).treatment 10) c fatal body := rfl

section RaiseUe

variable {s : State} {c d0 d1 : Nat} {fatal : Bool} {body : State → State}

theorem captureUe_get (s : State) (c d0 d1 : Nat) (fatal : Bool) {f : Field} (i : Nat) (hf : f ∈ ueRegs) :
    (s.captureUe c d0 d1 fatal).get f i = s.get f i := by
  have hne : ∀ f ∈ ueRegs, f ≠ .CH_LOST ∧ (f == Field.EVU_PENDING) = false := by decide
  have k := (capture_frame (F := (· == .EVU_PENDING)) s 10 c d0 d1 (Num.b2n fatal) (.inr rfl)).1 f i (hne f hf).2
  unfold State.captureUe
  split
  · exact (State.get_set_ne _ _ _ _ (hne f hf).1).trans k
  · exact k

theorem captureUe_pending (s : State) (c d0 d1 : Nat) (fatal : Bool) : ((s.captureUe c d0 d1 fatal).get .EVU_PENDING).testBit 10 = true := by
  have h := capture_pending (s := s) (c := 10) (by decide) c d0 d1 (Num.b2n fatal)
  unfold State.captureUe
  split
  · rwa [State.get_set_ne _ _ _ _ (by decide)]
  · exact h

theorem captureUe_soot (s : State) (c d0 d1 : Nat) (fatal : Bool) : (s.captureUe c d0 d1 fatal).soot = s.soot := by
  have k := (capture_frame (F := (· == .EVU_PENDING)) s 10 c d0 d1 (Num.b2n fatal) (.inr rfl)).soot
  unfold State.captureUe
  split <;> exact k

theorem ueEffect_keepsUe (hb : ∀ v, KeepsUe v (body v)) (v : State) (t : Treat) : KeepsUe v (v.ueEffect t c fatal body) := by
  unfold State.ueEffect
  split
  · split
    · exact (enterFault_completes v c).1
    · exact hb v
  · exact .refl v

/-- An error raised leaves its record, and its event pending. -/
theorem raiseUe_keeps (hb : ∀ v, KeepsUe v (body v)) :
    (∀ f ∈ ueRegs, ∀ i, (s.raiseUe c d0 d1 fatal body).get f i = s.get f i) ∧
    ((s.raiseUe c d0 d1 fatal body).get .EVU_PENDING).testBit 10 = true := by
  rw [raiseUe_eq]
  have hu : ∀ f ∈ ueRegs, ∀ i, ((s.inRank 10 c).captureUe c d0 d1 fatal).get f i = s.get f i := fun f hf i => by
    have hr : ∀ f ∈ ueRegs, rankFields f = false := by decide
    rw [captureUe_get _ _ _ _ _ _ hf, inRank_get _ _ _ _ (hr f hf)]
  have hp := captureUe_pending (s.inRank 10 c) c d0 d1 fatal
  have k := ueEffect_keepsUe (c := c) (fatal := fatal) hb ((s.inRank 10 c).captureUe c d0 d1 fatal) ((s.inRank 10 c).treatment 10)
  refine ⟨fun f hf i => (k f (List.mem_append_left _ hf) i).trans (hu f hf i), ?_⟩
  rw [k .EVU_PENDING (by decide) 0]
  exact hp

theorem raiseUe_soot : (s.raiseUe c d0 d1 fatal id).soot = s.soot := by
  have hs : (s.inRank 10 c).soot = s.soot := inRank_part s 10 c State.soot fun _ => rfl
  rw [raiseUe_eq, ← hs, ← captureUe_soot (s.inRank 10 c) c d0 d1 fatal]
  unfold State.ueEffect
  split
  · split
    · exact (enterFault_completes _ c).2.2.2
    · rfl
  · rfl

/-- A fatal error loses its channel, waits for its group, and is FAULT where its column applies. -/
theorem raiseUe_fatal : (s.raiseUe c d0 d1 true body).get .CH_LOST c = 1 ∧
    ((s.get .EVU_TICK_STOPPED = 1 ∧ s.staleWritten = true) ∨
      ⟨(s.inRank 10 c).now, 10, c, d0, d1, 1⟩ ∈ (s.raiseUe c d0 d1 true body).captured) ∧
    ((s.inRank 10 c).treatment 10 = .apply → (s.raiseUe c d0 d1 true body).dev = 7) := by
  rw [raiseUe_eq]
  have hstop : (s.inRank 10 c).get .EVU_TICK_STOPPED = s.get .EVU_TICK_STOPPED := inRank_get s 10 c 0 rfl
  have hstale : (s.inRank 10 c).staleWritten = s.staleWritten := inRank_part s 10 c State.staleWritten fun _ => rfl
  have hw := capture_waits (s.inRank 10 c) (c := 10) (by decide) c d0 d1 1
  rw [hstop, hstale] at hw
  generalize s.inRank 10 c = u at hw ⊢
  have hlost : (u.captureUe c d0 d1 true).get .CH_LOST c = 1 := State.get_set_self _ _ _ _
  have hcap : (u.captureUe c d0 d1 true).captured = (u.capture 10 c d0 d1 1).captured := rfl
  generalize u.captureUe c d0 d1 true = v at hlost hcap ⊢
  obtain ⟨ku, hd, ke, -⟩ := enterFault_completes v c
  have heff : ∀ t, v.ueEffect t c true body = if t = .apply then v.enterFault 9 c else v := by
    intro t
    cases t <;> rfl
  rw [← hcap] at hw
  rw [heff]
  split
  · exact ⟨(ku _ (by decide) c).trans hlost, hw.imp_right (ke _), fun _ => hd⟩
  · next hn => exact ⟨hlost, hw, fun h => absurd h hn⟩

end RaiseUe

/-! ## The record of an error (R342) -/

/-- The registers of a channel's last error. -/
def ueRecordFields (f : Field) : Bool := f == .CH_UE_COUNT || f == .CH_LAST_UE_ADDR || f == .CH_LAST_UE_TICK

/-- The registers of a channel show an error at `a`. -/
def State.showUe (s : State) (c a : Nat) : State :=
  ((s.sat 32 .CH_UE_COUNT c).set .CH_LAST_UE_ADDR c a).set .CH_LAST_UE_TICK c s.now

theorem showUe_onRegs (s : State) (c a : Nat) : OnRegs ueRecordFields s (s.showUe c a) :=
  (((OnRegs.refl _ s).set .CH_UE_COUNT c _ rfl).set .CH_LAST_UE_ADDR c a rfl).set .CH_LAST_UE_TICK c s.now rfl

theorem showUe_shows (s : State) (c a : Nat) : (s.showUe c a).get .CH_UE_COUNT c = Num.satAdd 32 (s.get .CH_UE_COUNT c) 1 ∧
    (s.showUe c a).get .CH_LAST_UE_ADDR c = a ∧ (s.showUe c a).get .CH_LAST_UE_TICK c = s.now := by
  simp (disch := decide) only [State.showUe, State.sat, State.get_set_ne, State.get_set_self, and_self]

theorem ueRecord_same (s : State) (c a : Nat) : (∀ f i, (s.ueRecord c a).get f i = (s.showUe c a).get f i) ∧
    (s.ueRecord c a).rankView = (s.showUe c a).rankView ∧ (s.ueRecord c a).soot = (s.showUe c a).soot :=
  ⟨fun _ _ => rfl, rfl, rfl⟩

theorem ueRecord_rankView (s : State) (c a : Nat) : (s.ueRecord c a).rankView = s.rankView :=
  (ueRecord_same s c a).2.1.trans ((showUe_onRegs s c a).rankView (by decide))

/-- An error of channel `c` at `a` is on record in `t`, and pending. -/
def UeRecorded (s : State) (c a : Nat) (t : State) : Prop :=
  t.get .CH_UE_COUNT c = Num.satAdd 32 (s.get .CH_UE_COUNT c) 1 ∧ t.get .CH_LAST_UE_ADDR c = a ∧ t.get .CH_LAST_UE_TICK c = s.now ∧
    (t.get .EVU_PENDING).testBit 10 = true

/-- What is recorded stays on record when the error is raised. -/
theorem ueRecord_raised {s : State} {c a d0 d1 : Nat} {fatal : Bool} {body : State → State} (hb : ∀ v, KeepsUe v (body v)) :
    UeRecorded s c a (settle ((s.ueRecord c a).raiseUe c d0 d1 fatal body)) := by
  obtain ⟨hr, hp⟩ := raiseUe_keeps (s := s.ueRecord c a) (c := c) (d0 := d0) (d1 := d1) (fatal := fatal) hb
  obtain ⟨h1, h2, h3⟩ := showUe_shows s c a
  refine ⟨?_, ?_, ?_, ?_⟩
  · rw [settle_get _ _ _ rfl, hr _ (by decide), (ueRecord_same s c a).1, h1]
  · rw [settle_get _ _ _ rfl, hr _ (by decide), (ueRecord_same s c a).1, h2]
  · rw [settle_get _ _ _ rfl, hr _ (by decide), (ueRecord_same s c a).1, h3]
  · rw [settle_get _ _ _ rfl, hp]

/-- The record speaks of the state before through the channel's count and the tick alone. -/
theorem UeRecorded.congr {s u t : State} {c a : Nat} (h : UeRecorded u c a t) (hc : u.get .CH_UE_COUNT c = s.get .CH_UE_COUNT c)
    (hn : u.now = s.now) : UeRecorded s c a t := by
  obtain ⟨h1, h2, h3, h4⟩ := h
  exact ⟨hc ▸ h1, h2, hn ▸ h3, h4⟩

/-! ## DRAM_UE of a data granule (R342, R344) -/

/-- The granule at `a` is poisoned. -/
def State.poisonAt (s : State) (a : Nat) : State := ({ s with poison := Tab.put a () s.poison } : State).poisonSync

/-- An error is fatal: the 65th poisoned granule of its channel, the 16th error of a second, or Choararok's data (R344). -/
def State.ueFatal (s : State) (c a : Nat) : Bool :=
  decide (64 < s.poison.countP fun p => channelOf p.1 == c) || s.ueBurst c || decide (a < coreData)

theorem dramUe_eq (s : State) (addr : Nat) : s.dramUe addr =
    let a := addr / 64 * 64
    let u := (s.poisonAt a).ueRecord (channelOf a) a
    u.raiseUe (channelOf a) (a % 2 ^ 32) (a / 2 ^ 32) (u.ueFatal (channelOf a) a) fun s => s.poisoned a := rfl

theorem poisonAt_parts (s : State) (a : Nat) : (s.poisonAt a).rankView = s.rankView ∧
    ∀ f i, poisonFields f = false → (s.poisonAt a).get f i = s.get f i := by
  have k := poisonSync_onRegs { s with poison := Tab.put a () s.poison }
  exact ⟨k.rankView (by decide), fun f i hf => k.keeps.1 f i hf⟩

theorem dramUe_runs {s : State} {c addr : Nat} (hu : s.channelUp c = true) (hw : s.wdgResetNow = false ∨ s.isReady = true)
    (ha : addr < s.tagBase) (hc : channelOf addr = c) : exec (.dramUe addr) s = .next (settle (s.dramUe addr)) := by
  have hb : ¬s.dramBytes ≤ addr := by
    simp only [State.tagBase] at ha
    omega
  have hn : (s.wdgResetNow && !s.isReady) = false := by
    rcases hw with h | h <;> simp [h]
  have h16 : ¬16 ≤ c := by
    simp only [State.channelUp, Bool.and_eq_true, decide_eq_true_eq] at hu
    omega
  change execDramUe addr s = _
  rw [execDramUe, if_neg hb, hn, if_neg (by decide), hc, onChannel, if_neg h16, hu, decide_eq_true ha, Bool.and_self, doneIf_true]

theorem dramUe_completes {s : State} {c addr : Nat} (hu : s.channelUp c = true) (hw : s.wdgResetNow = false ∨ s.isReady = true)
    (ha : addr < s.tagBase) (hg : channelOf (addr / 64 * 64) = c) (hc : channelOf addr = c) : Runs (.dramUe addr) s fun t =>
      UeRecorded s c (addr / 64 * 64) t ∧
      (addr / 64 * 64 < coreData → Raised s t 10 c (addr / 64 * 64 % 2 ^ 32) (addr / 64 * 64 / 2 ^ 32) 1 ∧
        t.get .CH_LOST c = 1 ∧ ((s.inRank 10 c).treatment 10 = .apply → t.dev = 7)) := by
  refine ⟨_, dramUe_runs hu hw ha hc, ?_⟩
  rw [dramUe_eq]
  dsimp only
  rw [hg]
  generalize addr / 64 * 64 = a
  obtain ⟨pv, pg⟩ := poisonAt_parts s a
  have hview := (ueRecord_rankView (s.poisonAt a) c a).trans pv
  have hrec := ueRecord_raised (s := s.poisonAt a) (c := c) (a := a) (d0 := a % 2 ^ 32) (d1 := a / 2 ^ 32)
    (fatal := ((s.poisonAt a).ueRecord c a).ueFatal c a) (fun v => poisoned_keepsUe v a)
  have hrec' := hrec.congr (pg _ c rfl) (rankView_now pv)
  refine ⟨hrec', fun hcore => ?_⟩
  obtain ⟨-, -, -, hp⟩ := hrec'
  have hf : ((s.poisonAt a).ueRecord c a).ueFatal c a = true := by
    rw [State.ueFatal, decide_eq_true hcore, Bool.or_true]
  rw [hf] at hp ⊢
  generalize (s.poisonAt a).ueRecord c a = u at hview hp ⊢
  obtain ⟨hl, he, hd⟩ := raiseUe_fatal (s := u) (c := c) (d0 := a % 2 ^ 32) (d1 := a / 2 ^ 32) (body := fun s => s.poisoned a)
  have hrank := inRank_rankView hview 10 c
  rw [rankView_now hrank, treatment_congr hrank] at *
  simp only [State.rankView, Prod.mk.injEq] at hview
  obtain ⟨-, -, -, hstale, -, hstop, -, -⟩ := hview
  rw [hstale, hstop] at he
  refine ⟨⟨hp, ?_⟩, ?_, fun ht => ?_⟩
  · rw [settle_captured]
    exact he
  · rw [settle_get _ _ _ rfl, hl]
  · rw [State.dev, settle_get _ _ _ rfl]
    exact hd ht

/-! ## TAG_WORD_UE (R59) -/

theorem raiseBufs_soot (bs : List (Nat × Nat)) (s : State) : ∃ m, bs.foldl State.raiseBuf s = { s with soot := m } := by
  induction bs generalizing s with
  | nil => exact ⟨s.soot, rfl⟩
  | cons b bs ih =>
    obtain ⟨m, hm⟩ := ih (s.raiseBuf b)
    have hb : ∃ n, s.raiseBuf b = { s with soot := n } := by
      unfold State.raiseBuf State.raise
      split
      · exact ⟨_, rfl⟩
      · exact ⟨s.soot, rfl⟩
    obtain ⟨n, hn⟩ := hb
    exact ⟨m, by rw [List.foldl_cons, hm, hn]⟩

/-- The 4 KiB stripes of a tag word's granules. -/
def tagStripes (c w : Nat) : List (Nat × Nat) := (List.range 8).map fun i => (deviceAddr c (w * 32768 + i * 4096), 4096)

/-- The count of tag words lost, and its interrupt (R59). -/
def State.showTagUe (s : State) : State := (s.sat 32 .SEC_TAG_UE_COUNT).irq .SEC_SOOT_IRQ .SEC_SOOT_IRQ_EN 0 2 1

theorem tagWordUe_eq (s : State) (c w : Nat) : s.tagWordUe c w =
    let v := (tagStripes c w).foldl State.raiseBuf s
    let a := deviceAddr c (v.dramBytes / 16 - v.dramBytes / 16 / 512 + 64 * w)
    let u := v.showTagUe.ueRecord c a
    u.raiseUe c (a % 2 ^ 32) (a / 2 ^ 32) (u.ueBurst c) id := by
  rw [tagStripes, List.foldl_map]
  rfl

/-- A stripe holds the addresses of its 4,096 channel addresses. -/
theorem deviceAddr_stripe (c w i b : Nat) (hb : b < 4096) :
    deviceAddr c (w * 32768 + i * 4096 + b) = deviceAddr c (w * 32768 + i * 4096) + b := by
  simp only [deviceAddr]
  omega

theorem tagStripes_soot (s : State) {c w i b : Nat} (hi : i < 8) (hb : b < 4096) :
    ISet.mem (deviceAddr c (w * 32768 + i * 4096 + b) / 64) ((tagStripes c w).foldl State.raiseBuf s).soot = true := by
  rw [deviceAddr_stripe c w i b hb]
  have hm : (deviceAddr c (w * 32768 + i * 4096), 4096) ∈ tagStripes c w :=
    List.mem_map.mpr ⟨i, List.mem_range.mpr hi, rfl⟩
  exact mem_raiseBufs _ s hm (Nat.le_add_right _ _) (Nat.add_lt_add_left hb _)

/-- The registers of a lost tag word. -/
def tagUeFields (f : Field) : Bool := linkCounts f || f == .SEC_TAG_UE_COUNT || f == .SEC_SOOT_IRQ

theorem showTagUe_onRegs (s : State) : OnRegs tagUeFields s s.showTagUe :=
  ((OnRegs.refl _ s).set .SEC_TAG_UE_COUNT 0 _ rfl).irq .SEC_SOOT_IRQ .SEC_SOOT_IRQ_EN 0 2 1 (fun f h => by simp [tagUeFields, h]) rfl

theorem showTagUe_shows (s : State) : s.showTagUe.get .SEC_TAG_UE_COUNT = Num.satAdd 32 (s.get .SEC_TAG_UE_COUNT) 1 ∧
    (s.showTagUe.get .SEC_SOOT_IRQ).testBit 2 = true := by
  refine ⟨?_, ?_⟩
  · exact (irq_get_ne _ _ _ _ _ _ _ rfl (by decide)).trans (State.get_set_self _ _ _ _)
  · rw [State.showTagUe, irq_testBit _ _ _ _ _ _ _ rfl]
    simp

theorem countSync_sootIrq (s : State) : s.countSync.get .SEC_SOOT_IRQ = s.get .SEC_SOOT_IRQ := by
  simp (disch := decide) only [State.countSync, State.get_set_ne]

theorem certSync_sootIrq (s : State) {b : Nat} (h : (s.get .SEC_SOOT_IRQ).testBit b = true) :
    (s.certSync.get .SEC_SOOT_IRQ).testBit b = true := by
  have hs : (((s.set .CERT_REASON 0 s.certReason).set .CERT_LIFETIME_OUT 0 (Num.b2n (s.certReason % 4 != 0))).set .CERT_CERTIFIED 0
      (Num.b2n (s.certReason == 0))).get .SEC_SOOT_IRQ = s.get .SEC_SOOT_IRQ := by
    simp (disch := decide) only [State.get_set_ne]
  unfold State.certSync
  dsimp only
  split
  · rw [hs, h]
  · rw [irq_testBit _ _ _ _ _ _ _ rfl, hs, h, Bool.true_or]

/-- What every command ends with lowers no bit of SEC_SOOT_IRQ. -/
theorem settle_sootIrq {s : State} {b : Nat} (h : (s.get .SEC_SOOT_IRQ).testBit b = true) :
    ((settle s).get .SEC_SOOT_IRQ).testBit b = true :=
  certSync_sootIrq _ (by rw [countSync_sootIrq, h])

theorem tagWordUe_runs {s : State} {c w : Nat} (hu : s.channelUp c = true)
    (hw : w < (s.dramBytes / 16 - s.dramBytes / 16 / 512) / 32768) : exec (.tagWordUe c w) s = .next (settle (s.tagWordUe c w)) := by
  have h16 : ¬16 ≤ c := by
    simp only [State.channelUp, Bool.and_eq_true, decide_eq_true_eq] at hu
    omega
  change execTagWordUe c w s = _
  rw [execTagWordUe, onChannel, if_neg h16, hu, decide_eq_true hw, Bool.and_self, doneIf_true]

/-- The record of a lost tag word, from the state whose stripes are tagged. -/
theorem tagWordUe_recorded {s v : State} {c a d0 d1 : Nat} {fatal : Bool} (hg : ∀ f i, v.get f i = s.get f i) :
    let t := settle ((v.showTagUe.ueRecord c a).raiseUe c d0 d1 fatal id)
    UeRecorded s c a t ∧ t.get .SEC_TAG_UE_COUNT = Num.satAdd 32 (s.get .SEC_TAG_UE_COUNT) 1 ∧
      (t.get .SEC_SOOT_IRQ).testBit 2 = true ∧ t.soot = v.soot := by
  have k := showTagUe_onRegs v
  obtain ⟨hcount, hirq⟩ := showTagUe_shows v
  obtain ⟨hr, -⟩ := raiseUe_keeps (s := v.showTagUe.ueRecord c a) (c := c) (d0 := d0) (d1 := d1) (fatal := fatal) (body := id) KeepsUe.refl
  have hrec := ueRecord_raised (s := v.showTagUe) (c := c) (a := a) (d0 := d0) (d1 := d1) (fatal := fatal) (body := id) KeepsUe.refl
  obtain ⟨same, -, hsoot⟩ := ueRecord_same v.showTagUe c a
  have shown := (showUe_onRegs v.showTagUe c a).keeps
  refine ⟨hrec.congr ?_ ?_, ?_, settle_sootIrq ?_, ?_⟩
  · rw [k.keeps.1 _ _ (by decide), hg]
  · rw [State.now, k.keeps.1 _ _ (by decide), hg, State.now]
  · rw [settle_get _ _ _ rfl, hr _ (by decide), same, shown.1 _ _ rfl, hcount, hg]
  · rw [hr _ (by decide), same, shown.1 _ _ rfl, hirq]
  · rw [(settle_frame _).soot, raiseUe_soot, hsoot, shown.soot, k.keeps.soot]

theorem tagWordUe_completes {s : State} {c w : Nat} (hu : s.channelUp c = true)
    (hw : w < (s.dramBytes / 16 - s.dramBytes / 16 / 512) / 32768) : Runs (.tagWordUe c w) s fun t =>
      UeRecorded s c (deviceAddr c (s.dramBytes / 16 - s.dramBytes / 16 / 512 + 64 * w)) t ∧
      t.get .SEC_TAG_UE_COUNT = Num.satAdd 32 (s.get .SEC_TAG_UE_COUNT) 1 ∧ (t.get .SEC_SOOT_IRQ).testBit 2 = true ∧
      ∀ i b, i < 8 → b < 4096 → ISet.mem (deviceAddr c (w * 32768 + i * 4096 + b) / 64) t.soot = true := by
  refine ⟨_, tagWordUe_runs hu hw, ?_⟩
  have hstripe := fun i b => tagStripes_soot s (c := c) (w := w) (i := i) (b := b)
  obtain ⟨m, hm⟩ := raiseBufs_soot (tagStripes c w) s
  rw [tagWordUe_eq]
  dsimp only
  rw [hm] at hstripe ⊢
  have hg : ∀ f i, ({ s with soot := m } : State).get f i = s.get f i := fun _ _ => rfl
  have hd : ({ s with soot := m } : State).dramBytes = s.dramBytes := rfl
  rw [hd]
  generalize ({ s with soot := m } : State) = v at hstripe hg ⊢
  obtain ⟨h1, h2, h3, h4⟩ := tagWordUe_recorded hg
  refine ⟨h1, h2, h3, fun i b hi hb => ?_⟩
  rw [h4]
  exact hstripe i b hi hb

/-- Settles O58: the record of an error outlasts what the error does to the owner of its granule, and FAULT. -/
theorem memoryErrorsComplete : Obligations.MemoryErrorsComplete := by
  unfold Obligations.MemoryErrorsComplete
  intro s c hu hw
  exact ⟨fun addr ha hg hc => dramUe_completes hu hw ha hg hc, fun w hb => tagWordUe_completes hu hb⟩

end Sys2Proof.Machine
end

section
/-! The Wren transmitter (R354, R363, R366, R374, R383). -/

namespace Sys2Proof.Machine

/-! ## What the Wren link changes -/

section KeepsWren

variable {F G : Field → Bool} {s t u : State}

theorem KeepsWren.refl (F : Field → Bool) (s : State) : KeepsWren F s s := ⟨fun _ _ _ _ => rfl, rfl, rfl, rfl, [], by simp⟩

theorem KeepsWren.trans (h : KeepsWren F s t) (k : KeepsWren F t u) : KeepsWren F s u := by
  obtain ⟨hr, hq, hp, hf, l, hl⟩ := h
  obtain ⟨kr, kq, kp, kf, m, hm⟩ := k
  exact ⟨fun f i hs hF => (kr f i hs hF).trans (hr f i hs hF), kq.trans hq, kp.trans hp, kf.trans hf, l ++ m,
    by rw [hm, hl, List.append_assoc]⟩

theorem KeepsWren.set (h : KeepsWren F s t) {f : Field} (hf : F f = true) (i v : Nat) : KeepsWren F s (t.set f i v) := by
  refine h.trans ⟨fun g j _ hg => State.get_set_ne _ _ _ _ ?_, rfl, rfl, rfl, [], by simp⟩
  rintro rfl
  exact absurd hg (by simp [hf])

theorem KeepsWren.settle (h : KeepsWren F s t) : KeepsWren F s (settle t) := by
  obtain ⟨kr, kq, kw⟩ := settle_frame t
  obtain ⟨hp, -, hf, -⟩ := settle_only t
  exact h.trans ⟨fun f i hs _ => kr f i hs, congrArg (fun s : State => { s with w := {} }) kq, hp, hf, kw⟩

/-- Only the Wren link changes. -/
theorem KeepsWren.link (h : KeepsWren F s t) (w : WrenSt) : KeepsWren F s { t with w := w } :=
  h.trans ⟨fun _ _ _ _ => rfl, rfl, rfl, rfl, [], by simp⟩

end KeepsWren

/-! ## One frame (R354) -/

section SendFrame

variable (s : State) (cls ty ctx : Nat) (body : List Nat)

theorem sendFrame_egress : (s.sendFrame cls ty ctx body).egress = s.egress ++ [.wren ty s.w.txSeq (ctx :: body)] := rfl

theorem sendFrame_get {f : Field} (hf : f ≠ .WRN_TX_FRAMES) (i : Nat) : (s.sendFrame cls ty ctx body).get f i = s.get f i :=
  State.get_set_ne _ _ _ _ hf

theorem sendFrame_keepsWren : KeepsWren (· == .WRN_TX_FRAMES) s (s.sendFrame cls ty ctx body) := by
  refine ⟨fun f i _ hf => sendFrame_get s cls ty ctx body ?_ i, rfl, rfl, rfl, _, sendFrame_egress s cls ty ctx body⟩
  rintro rfl
  exact absurd hf (by decide)

end SendFrame

/-- A frame is on the wire whatever only keeps the wire does after it. -/
theorem sent_of_egress {s t : State} {x : Egress} (h : t.egress = s.egress ++ [x]) : Sent s (settle t) x :=
  Sent.settle ⟨[x], h, List.mem_singleton_self x⟩

/-! ## CTRL (R354, R366, R374) -/

/-- The first control frame is sent. -/
def State.sendCtrl (s : State) (ty : Nat) (b : List Nat) (rest : List (Nat × List Nat)) : State :=
  ({ s with w.ctrlQ := rest } : State).sendFrame 0 ty 0 b

theorem wrenFrameTx_ctrl {s : State} {ty : Nat} {b : List Nat} {rest : List (Nat × List Nat)} (hq : s.w.ctrlQ = (ty, b) :: rest)
    (hc : s.canSend 0 = true) : exec .wrenFrameTx s = .next (settle (s.sendCtrl ty b rest)) := by
  change execWrenFrameTx s = _
  simp only [execWrenFrameTx, hq, hc, done, State.sendCtrl]

theorem sendCtrl_completes {s : State} {ty : Nat} {b : List Nat} {rest : List (Nat × List Nat)} (hq : s.w.ctrlQ = (ty, b) :: rest)
    (hc : s.canSend 0 = true) : Runs .wrenFrameTx s fun t => Sent s t (.wren ty s.w.txSeq (0 :: b)) ∧ t.w.ctrlQ = rest ∧
      t.w.txSeq = s.w.txSeq + 1 ∧ KeepsWren (· == .WRN_TX_FRAMES) s t := by
  refine ⟨_, wrenFrameTx_ctrl hq hc, sent_of_egress rfl, ?_, ?_, ?_⟩
  · rw [(settle_frame _).w]
    rfl
  · rw [(settle_frame _).w]
    rfl
  · exact (((KeepsWren.refl _ s).link { s.w with ctrlQ := rest }).trans (sendFrame_keepsWren _ 0 ty 0 b)).settle

theorem sendCredit_completes {s : State} (hc : s.canSend 0 = true) : Runs .wrenCreditSend s fun t =>
    Sent s t (.wren 2 s.w.txSeq (0 :: s.creditWords)) ∧ t.w.nak = false ∧ t.w.lastCredit = s.now ∧
      KeepsWren (· == .WRN_TX_FRAMES) s t := by
  have hx : exec .wrenCreditSend s = .next (settle s.sendCredit) := by
    change execWrenCreditSend s = _
    rw [execWrenCreditSend, hc, doneIf_true]
  refine ⟨_, hx, sent_of_egress rfl, ?_, ?_, ?_⟩
  · rw [(settle_frame _).w]
    rfl
  · rw [(settle_frame _).w]
    rfl
  · exact ((sendFrame_keepsWren s 0 0x02 0 s.creditWords).link _).settle

theorem sendTick_completes {s : State} {cycle : Nat} (hc : s.canSend 0 = true) (hk : s.session = 2) (hl : s.get .WRN_LEADER = 1)
    (hn : s.now % 1024 = 0) (hy : cycle < 25) : Runs (.wrenTickSend cycle) s fun t =>
      Sent s t (.wren 3 s.w.txSeq (0 :: (words64 s.now ++ [cycle]))) ∧ KeepsWren (· == .WRN_TX_FRAMES) s t := by
  have hx : exec (.wrenTickSend cycle) s = .next (settle (s.sendFrame 0 0x03 0 (words64 s.now ++ [cycle]))) := by
    change execWrenTickSend cycle s = _
    rw [execWrenTickSend, hc, hk, hl, hn, decide_eq_true hy]
    rfl
  exact ⟨_, hx, sent_of_egress rfl, (sendFrame_keepsWren s 0 0x03 0 _).settle⟩

/-! ## MIRROR and EPOCH through the open gate (R363, R366, R383) -/

section OpenGate

variable {s : State} {k : Nat} {m : Mau}

/-- With no control frame and the gate open, a waiting MAU is sent unless 15 MIRROR frames have gone before a waiting EPOCH frame. -/
theorem wrenFrameTx_mirror (hq : s.w.ctrlQ = []) (hg : s.gateOpen = true) (hm : s.nextMau = some (k, m)) (hc : s.canSend 1 = true)
    (hr : s.w.epochQ = [] ∨ s.w.mirrorRun < 15) : exec .wrenFrameTx s = .next (settle (s.sendMirror k m)) := by
  change execWrenFrameTx s = _
  simp only [execWrenFrameTx, hq, hg, hm, hc, Bool.not_true, Bool.and_false, Bool.false_and, Bool.false_eq_true, if_false, if_true]
  cases he : s.w.epochQ with
  | nil => cases s.canSend 2 <;> rfl
  | cons b rest =>
    have hlt : ¬15 ≤ s.w.mirrorRun := by
      rcases hr with h | h
      · rw [he] at h
        cases h
      · omega
    cases s.canSend 2
    · rfl
    · simp only [if_true, List.head?_cons, if_neg hlt, done]

/-- A waiting EPOCH frame is sent where no MAU waits, and after 15 MIRROR frames. -/
theorem wrenFrameTx_epoch {b : Bytes} {rest : List Bytes} (hq : s.w.ctrlQ = []) (hg : s.gateOpen = true) (he : s.w.epochQ = b :: rest)
    (hc : s.canSend 2 = true) (hr : s.nextMau = none ∨ 15 ≤ s.w.mirrorRun) :
    exec .wrenFrameTx s = .next (settle (s.sendEpoch b rest)) := by
  change execWrenFrameTx s = _
  simp only [execWrenFrameTx, hq, hg, he, hc, Bool.not_true, Bool.and_false, Bool.false_and, Bool.false_eq_true, if_false, if_true,
    List.head?_cons, List.drop_one, List.tail_cons]
  cases hm : s.nextMau with
  | none => cases s.canSend 1 <;> rfl
  | some x =>
    have hge : 15 ≤ s.w.mirrorRun := by
      rcases hr with h | h
      · rw [hm] at h
        cases h
      · exact h
    cases s.canSend 1
    · rfl
    · simp only [if_true, if_pos hge, done]

/-- The context of an MAU's next frame: its stream, FIRST and LAST. -/
def Mau.context (m : Mau) (k : Nat) : Nat := k + 256 * Num.b2n (m.sent == 0) + 512 * Num.b2n (m.sent + 1 == m.size / 256)

/-- A MIRROR frame is on its way, and counted in its run. -/
def State.mirrorSent (s : State) (k : Nat) (m : Mau) : State :=
  let u := s.sendFrame 1 0x10 (m.context k) m.frameWords
  { u with w.mirrorRun := u.w.mirrorRun + 1 }

/-- `q` is the MAU `m` of stream `k`. -/
def isMau (k : Nat) (m : Mau) (q : Nat × Mau) : Bool := q.1 == k && q.2 == m

/-- An MAU that is sent waits no longer, and its job ends. -/
def State.endMau (s : State) (k : Nat) (m : Mau) : State :=
  ({ s with w.maus := s.w.maus.filter fun q => !isMau k m q } : State).dropJobs fun j => j.kind == .wren && j.id == m.job

/-- An MAU waits for its next frame. -/
def State.nextFrame (s : State) (k : Nat) (m : Mau) : State :=
  { s with w.maus := s.w.maus.map fun q => if isMau k m q then (k, { m with sent := m.sent + 1 }) else q }

theorem sendMirror_eq (s : State) (k : Nat) (m : Mau) : s.sendMirror k m =
    if m.sent + 1 == m.size / 256 then ((s.mirrorSent k m).endMau k m).inc .MS_MAUS k else (s.mirrorSent k m).nextFrame k m := rfl

theorem mem_of_nextMau (h : s.nextMau = some (k, m)) : (k, m) ∈ s.w.maus := List.mem_of_find?_eq_some h

theorem isMau_iff (k : Nat) (m : Mau) (q : Nat × Mau) : isMau k m q = true ↔ q = (k, m) := by
  obtain ⟨k', m'⟩ := q
  simp [isMau]

theorem sendMirror_last (hl : m.sent + 1 = m.size / 256) :
    (settle (s.sendMirror k m)).get .MS_MAUS k = Num.wrap32 (s.get .MS_MAUS k + 1) ∧
    (∀ j ∈ (settle (s.sendMirror k m)).jobs, j.kind = .wren → j.id ≠ m.job) ∧
    ∀ q ∈ (settle (s.sendMirror k m)).w.maus, q ≠ (k, m) := by
  rw [sendMirror_eq, if_pos (by simpa using hl)]
  refine ⟨?_, fun j hj hk hid => ?_, fun q hq he => ?_⟩
  · rw [settle_get _ _ _ rfl, State.inc, State.get_set_self]
    exact congrArg (fun n => Num.wrap32 (n + 1)) (sendFrame_get s 1 0x10 _ _ (by decide) k)
  · rw [settle_jobs] at hj
    have h := (List.mem_filter.mp hj).2
    simp [hk, hid] at h
  · rw [(settle_frame _).w] at hq
    have h := (List.mem_filter.mp hq).2
    rw [(isMau_iff k m q).mpr he] at h
    exact absurd h (by decide)

theorem sendMirror_more (hm : (k, m) ∈ s.w.maus) (hl : ¬m.sent + 1 = m.size / 256) :
    (settle (s.sendMirror k m)).jobs = s.jobs ∧ (k, { m with sent := m.sent + 1 }) ∈ (settle (s.sendMirror k m)).w.maus := by
  rw [sendMirror_eq, if_neg (by simpa using hl)]
  refine ⟨settle_jobs _, ?_⟩
  rw [(settle_frame _).w]
  exact List.mem_map.mpr ⟨(k, m), hm, if_pos ((isMau_iff k m _).mpr rfl)⟩

theorem sendMirror_link (s : State) (k : Nat) (m : Mau) :
    (s.sendMirror k m).egress = s.egress ++ [.wren 0x10 s.w.txSeq (m.context k :: m.frameWords)] ∧
    (s.sendMirror k m).w.mirrorRun = s.w.mirrorRun + 1 ∧ (s.sendMirror k m).w.epochQ = s.w.epochQ := by
  rw [sendMirror_eq]
  split <;> exact ⟨rfl, rfl, rfl⟩

theorem sendMirror_completes (hq : s.w.ctrlQ = []) (hg : s.gateOpen = true) (hm : s.nextMau = some (k, m)) (hc : s.canSend 1 = true)
    (hr : s.w.epochQ = [] ∨ s.w.mirrorRun < 15) : Runs .wrenFrameTx s fun t =>
      Sent s t (.wren 0x10 s.w.txSeq (m.context k :: m.frameWords)) ∧ t.w.mirrorRun = s.w.mirrorRun + 1 ∧ t.w.epochQ = s.w.epochQ ∧
      (m.sent + 1 = m.size / 256 → t.get .MS_MAUS k = Num.wrap32 (s.get .MS_MAUS k + 1) ∧
        (∀ j ∈ t.jobs, j.kind = .wren → j.id ≠ m.job) ∧ ∀ q ∈ t.w.maus, q ≠ (k, m)) ∧
      (¬m.sent + 1 = m.size / 256 → t.jobs = s.jobs ∧ (k, { m with sent := m.sent + 1 }) ∈ t.w.maus) := by
  obtain ⟨he, hrun, hep⟩ := sendMirror_link s k m
  refine ⟨_, wrenFrameTx_mirror hq hg hm hc hr, sent_of_egress he, ?_, ?_, sendMirror_last, sendMirror_more (mem_of_nextMau hm)⟩
  · rw [(settle_frame _).w, hrun]
  · rw [(settle_frame _).w, hep]

/-- An EPOCH frame is on its way. -/
def State.epochSent (s : State) (b : Bytes) (rest : List Bytes) : State :=
  { s.sendFrame 2 0x11 s.w.epoch (bodyWordsN 64 b) with w.epochQ := rest, w.mirrorRun := 0 }

theorem sendEpoch_link (s : State) (b : Bytes) (rest : List Bytes) :
    (s.sendEpoch b rest).egress = s.egress ++ [.wren 0x11 s.w.txSeq (s.w.epoch :: bodyWordsN 64 b)] ∧
    (s.sendEpoch b rest).w.epochQ = rest ∧ (s.sendEpoch b rest).w.mirrorRun = 0 ∧ (s.sendEpoch b rest).w.maus = s.w.maus := by
  have h : s.sendEpoch b rest = if rest.isEmpty && (s.epochSent b rest).w.snapWait.isEmpty && (s.epochSent b rest).w.epochOpen then
      { s.epochSent b rest with w.epochOpen := false }.set .WRN_EPOCH_SENT 0 (s.epochSent b rest).w.epoch
    else s.epochSent b rest := rfl
  rw [h]
  split <;> exact ⟨rfl, rfl, rfl, rfl⟩

theorem sendEpoch_completes {b : Bytes} {rest : List Bytes} (hq : s.w.ctrlQ = []) (hg : s.gateOpen = true) (he : s.w.epochQ = b :: rest)
    (hr : s.nextMau = none ∨ 15 ≤ s.w.mirrorRun) (hc : s.canSend 2 = true) : Runs .wrenFrameTx s fun t =>
      Sent s t (.wren 0x11 s.w.txSeq (s.w.epoch :: bodyWordsN 64 b)) ∧ t.w.epochQ = rest ∧ t.w.mirrorRun = 0 ∧ t.w.maus = s.w.maus := by
  obtain ⟨hw, he', hrun, hmaus⟩ := sendEpoch_link s b rest
  refine ⟨_, wrenFrameTx_epoch hq hg he hc hr, sent_of_egress hw, ?_⟩
  rw [(settle_frame _).w]
  exact ⟨he', hrun, hmaus⟩

end OpenGate

/-! ## The closed gate (R46, R363) -/

/-- A refusal leaves the link but for the frames dropped, and the jobs, and puts messages alone on the wire. -/
structure Refused (s t : State) : Prop where
  link : { t.w with gateDrops := 0 } = { s.w with gateDrops := 0 }
  jobs : t.jobs = s.jobs
  adds : AddsMessages s t

section Refused

variable {s t u : State}

theorem Refused.refl (s : State) : Refused s s := ⟨rfl, rfl, .of_egress rfl⟩

theorem Refused.trans (h : Refused s t) (k : Refused t u) : Refused s u := ⟨k.link.trans h.link, k.jobs.trans h.jobs, h.adds.trans k.adds⟩

theorem Refused.of_onRegs {F : Field → Bool} (k : OnRegs F s t) : Refused s t := ⟨by rw [k.keeps.w], k.jobs, k.adds⟩

end Refused

theorem capture_refused (s : State) (c src d0 d1 d2 : Nat) : Refused s (s.capture c src d0 d1 d2) := by
  unfold State.capture
  dsimp only
  split <;> split <;> exact ⟨rfl, rfl, .of_egress rfl⟩

theorem breach_refused (s : State) (exit cause requester count addr hostAddr : Nat) :
    Refused s (s.breach exit cause requester count addr hostAddr) := by
  rw [breach_eq, State.noteBreach]
  generalize s.breachWords exit cause requester count addr hostAddr = ws
  have hl : Refused s (s.logBreach ws) := .of_onRegs (logBreach_onRegs s ws)
  have hq : ∀ u : State, ∀ q, Refused u (u.withQueue q) := fun _ _ => ⟨rfl, rfl, .of_egress rfl⟩
  have hr : ∀ u : State, ∀ n r q d, Refused u (u.raiseBreach n r q d) := fun u n r q d =>
    (Refused.of_onRegs (((OnRegs.refl breachFields u).set .SEC_BREACH_TOTAL 0 _ rfl).irq .SEC_SOOT_IRQ .SEC_SOOT_IRQ_EN 0 0 1
      linkCounts_breach rfl)).trans (capture_refused _ 4 r q d 0)
  exact (hl.trans (hq _ _)).trans (hr _ _ _ _ _)

theorem refuseRange_refused (s : State) (cause lo hi : Nat) : Refused s (s.refuseRange cause lo hi) := by
  unfold State.refuseRange
  split
  · exact .refl s
  · exact breach_refused _ _ _ _ _ _ _

/-- The granules of a range that a refusal counts. -/
theorem refuseRange_total {s : State} {lo hi : Nat} (cause : Nat) (h : s.sootIn lo hi ≠ []) :
    (s.refuseRange cause lo hi).get .SEC_BREACH_TOTAL =
      (s.get .SEC_BREACH_TOTAL + ((s.sootIn lo hi).map fun r => r.2 - r.1).sum) % 2 ^ 64 := by
  unfold State.refuseRange
  split
  · next h0 => exact absurd h0 h
  · next r rs hr =>
    rw [hr, breach_total]

/-- What waits of an MAU is refused, and its frames are dropped. -/
def State.refuseMau (cause : Nat) (s : State) (q : Nat × Mau) : State :=
  let u := s.refuseRange cause (q.2.addr + 256 * q.2.sent) (q.2.addr + q.2.size)
  { u with w.gateDrops := u.w.gateDrops + (q.2.size / 256 - q.2.sent) }

/-- What waits of the epoch is refused. -/
def State.refuseEpoch (s : State) (cause : Nat) : State :=
  let left := (s.w.epochQ.map List.length).sum
  let base := s.epochBuf (s.w.eBuf + 1) + s.w.epochBytes
  if left == 0 then s else s.refuseRange cause (base - left) base

/-- Nothing waits of MIRROR and EPOCH. -/
def State.emptyGate (s : State) : State :=
  ({ s with w.maus := [], w.epochQ := [] } : State).dropJobs fun j => j.kind == .wren

theorem closeGate_eq (s : State) (cause : Nat) :
    s.closeGate cause = ((s.w.maus.foldl (State.refuseMau cause) s).refuseEpoch cause).emptyGate := rfl

theorem refuseMau_refused (cause : Nat) (s : State) (q : Nat × Mau) : Refused s (s.refuseMau cause q) :=
  (refuseRange_refused s cause _ _).trans ⟨rfl, rfl, .of_egress rfl⟩

theorem refuseMaus_refused (cause : Nat) (l : List (Nat × Mau)) (s : State) : Refused s (l.foldl (State.refuseMau cause) s) := by
  induction l generalizing s with
  | nil => exact .refl s
  | cons q l ih => exact (refuseMau_refused cause s q).trans (ih _)

theorem refuseEpoch_refused (s : State) (cause : Nat) : Refused s (s.refuseEpoch cause) := by
  unfold State.refuseEpoch
  dsimp only
  split
  · exact .refl s
  · exact refuseRange_refused s cause _ _

/-- Everything but what waited is refused. -/
theorem closeGate_refused (s : State) (cause : Nat) : ∃ u, Refused s u ∧ s.closeGate cause = u.emptyGate :=
  ⟨_, (refuseMaus_refused cause _ s).trans (refuseEpoch_refused _ cause), closeGate_eq s cause⟩

/-- One MAU alone waits. -/
theorem closeGate_single {s : State} {k : Nat} {m : Mau} (cause : Nat) (hm : s.w.maus = [(k, m)]) (he : s.w.epochQ = []) :
    s.closeGate cause = (s.refuseMau cause (k, m)).emptyGate := by
  have hr : (s.refuseMau cause (k, m)).w.epochQ = [] := by
    have h := congrArg WrenSt.epochQ (refuseMau_refused cause s (k, m)).link
    exact h.trans he
  rw [closeGate_eq, hm, List.foldl_cons, List.foldl_nil, State.refuseEpoch, hr]
  rfl

theorem wrenFrameTx_closed {s : State} (hq : s.w.ctrlQ = []) (hg : s.gateOpen = false) (hd : s.inData = true)
    (hw : s.w.maus ≠ [] ∨ s.w.epochQ ≠ []) : exec .wrenFrameTx s = .next (settle s.refuseFrame) := by
  have hwait : (!s.w.maus.isEmpty || !s.w.epochQ.isEmpty) = true := by
    rcases hw with h | h <;> simp [h]
  change execWrenFrameTx s = _
  simp only [execWrenFrameTx, hq, hg, hd, hwait, Bool.not_false, Bool.and_true, if_true, done]

theorem closeGate_link (s : State) (cause : Nat) : (s.closeGate cause).w.txSeq = s.w.txSeq ∧ (s.closeGate cause).w.maus = [] ∧
    (s.closeGate cause).w.epochQ = [] ∧ (∀ j ∈ (s.closeGate cause).jobs, j.kind ≠ .wren) ∧ AddsMessages s (s.closeGate cause) := by
  obtain ⟨u, ⟨hl, -, ha⟩, he⟩ := closeGate_refused s cause
  rw [he]
  have hseq := congrArg WrenSt.txSeq hl
  refine ⟨hseq, rfl, rfl, fun j hj hk => ?_, ha⟩
  have h := (List.mem_filter.mp hj).2
  simp [hk] at h

theorem refuseMau_counts (s : State) (k cause : Nat) (m : Mau) :
    let rs := s.sootIn (m.addr + 256 * m.sent) (m.addr + m.size)
    (s.refuseMau cause (k, m)).w.gateDrops = s.w.gateDrops + (m.size / 256 - m.sent) ∧
    (rs ≠ [] → (s.refuseMau cause (k, m)).get .SEC_BREACH_TOTAL =
      (s.get .SEC_BREACH_TOTAL + (rs.map fun r => r.2 - r.1).sum) % 2 ^ 64) := by
  refine ⟨?_, refuseRange_total cause⟩
  have h : (s.refuseRange cause (m.addr + 256 * m.sent) (m.addr + m.size)).w = s.w := by
    unfold State.refuseRange
    split
    · rfl
    · obtain ⟨q, k⟩ := breach_keeps s 3 cause 0x0A00 _ _ 0
      exact k.w
  exact congrArg (fun w : WrenSt => w.gateDrops + (m.size / 256 - m.sent)) h

theorem refuseFrame_completes {s : State} (hq : s.w.ctrlQ = []) (hg : s.gateOpen = false) (hd : s.inData = true)
    (hw : s.w.maus ≠ [] ∨ s.w.epochQ ≠ []) : Runs .wrenFrameTx s fun t =>
      t.w.txSeq = s.w.txSeq ∧ t.w.maus = [] ∧ t.w.epochQ = [] ∧ (∀ j ∈ t.jobs, j.kind ≠ .wren) ∧
      (∀ k m, s.w.maus = [(k, m)] → s.w.epochQ = [] →
        let rs := s.sootIn (m.addr + 256 * m.sent) (m.addr + m.size)
        t.w.gateDrops = s.w.gateDrops + (m.size / 256 - m.sent) ∧
        (rs ≠ [] → t.get .SEC_BREACH_TOTAL = (s.get .SEC_BREACH_TOTAL + (rs.map fun r => r.2 - r.1).sum) % 2 ^ 64)) ∧
      ∃ l, t.egress = s.egress ++ l ∧ ∀ x ∈ l, ∀ ty q ws, x ≠ .wren ty q ws := by
  refine ⟨_, wrenFrameTx_closed hq hg hd hw, ?_⟩
  unfold State.refuseFrame
  generalize (if s.partner.isSome then 4 else 3) = cause
  obtain ⟨h1, h2, h3, h4, h5⟩ := closeGate_link s cause
  obtain ⟨l, hl, hmsg⟩ := h5.trans (settle_addsMessages _)
  rw [(settle_frame _).w, settle_jobs, settle_get _ _ _ rfl]
  refine ⟨h1, h2, h3, h4, fun k m hm he => ?_, l, hl, fun x hx ty q ws hxw => ?_⟩
  · rw [closeGate_single cause hm he]
    exact refuseMau_counts s k cause m
  · obtain ⟨v, a, d, hv⟩ := hmsg x hx
    rw [hv] at hxw
    cases hxw

/-- Settles O36: each frame is the head of what may be sent, and the closed gate refuses what waits. -/
theorem wrenSends : Obligations.WrenSends := by
  unfold Obligations.WrenSends
  intro s
  refine ⟨fun hc => ⟨fun ty b rest hq => sendCtrl_completes hq hc, sendCredit_completes hc, fun cycle => sendTick_completes hc⟩,
    fun hq hg => ⟨fun k m hm hr hc => sendMirror_completes hq hg hm hc hr, fun b rest he hr hc => sendEpoch_completes hq hg he hr hc⟩,
    fun hq hg hd hw => refuseFrame_completes hq hg hd hw⟩

end Sys2Proof.Machine
end

section
/-! What the Wren link receives: MIRROR and EPOCH frames, and the epochs (R42, R363, R369 to R373, R398, R405). -/

namespace Sys2Proof.Machine

/-- Other tags. -/
def State.withSoot (s : State) (m : List (Nat × Nat)) : State := { s with soot := m }

theorem KeepsWren.withSoot {F : Field → Bool} {s t : State} (h : KeepsWren F s t) (m : List (Nat × Nat)) : KeepsWren F (s.withSoot m) (t.withSoot m) := by
  obtain ⟨hr, hq, hrest⟩ := h
  exact ⟨hr, congrArg (fun s : State => s.withSoot m) hq, hrest⟩

/-! ## A frame is accepted, and its payload lands (R354, R363, R367) -/

theorem accept_get (s : State) (cls : Nat) {f : Field} (hf : f ≠ .WRN_RX_FRAMES) (i : Nat) : (s.accept cls).get f i = s.get f i :=
  State.get_set_ne _ _ _ _ hf

theorem accept_frames (s : State) (cls : Nat) : (s.accept cls).get .WRN_RX_FRAMES = (s.get .WRN_RX_FRAMES + 1) % 2 ^ 64 :=
  State.get_set_self _ _ _ _

theorem accept_keepsWren {F : Field → Bool} (hF : F .WRN_RX_FRAMES = true) (s : State) (cls : Nat) : KeepsWren F s (s.accept cls) :=
  ((KeepsWren.refl F s).set hF 0 _).link _

theorem raise_withSoot (s : State) (lo hi : Nat) : ∃ m, s.raise lo hi = s.withSoot m := by
  unfold State.raise
  split
  · exact ⟨_, rfl⟩
  · exact ⟨s.soot, rfl⟩

/-- An accepted frame of class `cls` whose payload has landed. -/
def State.arrive (s : State) (cls : Nat) : State := (s.accept cls).land cls

theorem arrive_withSoot (s : State) (cls : Nat) : ∃ m, s.arrive cls = (s.accept cls).withSoot m := raise_withSoot _ _ _

theorem arrive_get (s : State) (cls : Nat) {f : Field} (hf : f ≠ .WRN_RX_FRAMES) (i : Nat) : (s.arrive cls).get f i = s.get f i := by
  obtain ⟨m, hm⟩ := arrive_withSoot s cls
  rw [hm]
  exact accept_get s cls hf i

theorem arrive_frames (s : State) (cls : Nat) : (s.arrive cls).get .WRN_RX_FRAMES = (s.get .WRN_RX_FRAMES + 1) % 2 ^ 64 := by
  obtain ⟨m, hm⟩ := arrive_withSoot s cls
  rw [hm]
  exact accept_frames s cls

/-- The frame counted before it lands leaves the place the same: both rings divide 2^32. -/
theorem landing_accepted (s : State) (cls n : Nat) : s.landing cls (n + 1 + 0xFFFFFFFF) = s.landing cls n := by
  have h1 : (n + 1 + 0xFFFFFFFF) % 2048 = n % 2048 := by omega
  have h2 : (n + 1 + 0xFFFFFFFF) % 1024 = n % 1024 := by omega
  simp only [State.landing, h1, h2]

theorem mem_arrive (s : State) (cls : Nat) {a : Nat} (h1 : s.landing cls (Tab.getD 0 cls s.w.got) ≤ a)
    (h2 : a < s.landing cls (Tab.getD 0 cls s.w.got) + 288) : ISet.mem (a / 64) (s.arrive cls).soot = true := by
  have hg : Tab.getD 0 cls (s.accept cls).w.got = Tab.getD 0 cls s.w.got + 1 := by
    change Tab.getD 0 cls (Tab.put cls (Tab.getD 0 cls s.w.got + 1) s.w.got) = _
    rw [Tab.getD, Tab.find?_put_self, Option.getD_some]
  have hl : (s.accept cls).landing cls (Tab.getD 0 cls (s.accept cls).w.got + 0xFFFFFFFF) = s.landing cls (Tab.getD 0 cls s.w.got) := by
    rw [hg]
    exact landing_accepted s cls _
  unfold State.arrive State.land
  dsimp only
  rw [hl]
  exact mem_raise h1 h2

/-! ## What follows the acceptance of a frame -/

/-- The count of frames stays, and no tag falls. -/
structure Receives (s t : State) : Prop where
  frames : t.get .WRN_RX_FRAMES = s.get .WRN_RX_FRAMES
  soot : ∀ g, ISet.mem g s.soot = true → ISet.mem g t.soot = true

section Receives

variable {s t u : State}

theorem Receives.refl (s : State) : Receives s s := ⟨rfl, fun _ h => h⟩

theorem Receives.trans (h : Receives s t) (k : Receives t u) : Receives s u := ⟨k.frames.trans h.frames, fun g hg => k.soot g (h.soot g hg)⟩

/-- Other parts change. -/
theorem Receives.same (hf : t.fields = s.fields) (hs : t.soot = s.soot) : Receives s t :=
  ⟨State.get_congr hf _ _, fun _ hg => hs ▸ hg⟩

theorem Receives.set (h : Receives s t) {f : Field} (hf : Field.WRN_RX_FRAMES ≠ f) (i v : Nat) : Receives s (t.set f i v) :=
  h.trans ⟨State.get_set_ne _ _ _ _ hf, fun _ h => h⟩

theorem Receives.ite {c : Prop} [Decidable c] (h : Receives s t) (k : Receives s u) : Receives s (if c then t else u) := by
  split
  · exact h
  · exact k

theorem Receives.foldl {α : Type} (g : State → α → State) (hg : ∀ s a, Receives s (g s a)) (l : List α) (s : State) :
    Receives s (l.foldl g s) := by
  induction l generalizing s with
  | nil => exact .refl s
  | cons a l ih => exact (hg s a).trans (ih _)

theorem Receives.settle (h : Receives s t) : Receives s (settle t) :=
  h.trans ⟨settle_get _ _ _ rfl, fun _ hg => (settle_frame t).soot ▸ hg⟩

end Receives

theorem raise_receives (s : State) (lo hi : Nat) : Receives s (s.raise lo hi) := by
  unfold State.raise
  split
  · exact ⟨rfl, fun g hg => ISet.mem_add _ _ _ _ (.inr hg)⟩
  · exact .refl s

theorem mirrorShow_receives (s : State) (k : Nat) : Receives s (s.mirrorShow k) :=
  ⟨(mirrorShow_onRegs s k).keeps.1 _ _ rfl, fun _ hg => (mirrorShow_onRegs s k).keeps.soot ▸ hg⟩

theorem modMirror_receives (s : State) (k : Nat) (g : MirrorSt → MirrorSt) : Receives s (s.modMirror k g) := by
  unfold State.modMirror State.modStream
  split
  · exact .refl s
  · exact .same rfl rfl

/-- The payload of an accepted frame is sooted where it landed, whatever follows. -/
theorem landed_sooted {s t : State} {cls : Nat} (h : Receives (s.arrive cls) t) (a : Nat)
    (h1 : s.landing cls (Tab.getD 0 cls s.w.got) ≤ a) (h2 : a < s.landing cls (Tab.getD 0 cls s.w.got) + 288) : t.sooted a = true :=
  sooted_of_mem (h.soot _ (mem_arrive s cls h1 h2))

/-! ## A MIRROR frame (R398) -/

theorem mirrorItem_receives (s : State) (k : Nat) (it : Item) (m : MirrorSt) : Receives s (s.mirrorItem k it m) :=
  (Receives.refl s).ite (.same rfl rfl)

theorem mirrorChunk_receives (s : State) (k : Nat) (b : Bytes) : Receives s (s.mirrorChunk k b) := by
  unfold State.mirrorChunk
  split
  · exact .refl s
  · next m _ =>
    have hm := modMirror_receives
    have hi := fun (u : State) (g : MirrorSt → MirrorSt) (it : Item) => (hm u k g).trans (mirrorItem_receives _ k it m)
    dsimp only
    refine (hm s k _).ite ?_
    have h0 := hm s k fun m' => { m' with rxPos := m.rxPos + 16 }
    generalize s.modMirror k (fun m' => { m' with rxPos := m.rxPos + 16 }) = u at h0 ⊢
    split
    · exact (h0.trans (hm u k _)).ite (h0.trans (hi u _ _))
    · exact h0.ite ((h0.trans (hm u k _)).ite ((h0.trans (hi u _ _)).ite (h0.trans (hm u k _))))

theorem storeMirror_receives (s : State) (k n : Nat) : Receives s (s.storeMirror k n) := by
  unfold State.storeMirror
  split
  · exact .refl s
  · exact ((raise_receives s _ _).trans (raise_receives _ _ _)).trans (modMirror_receives _ k _)

/-- A frame of a stream mirrored here is taken in. -/
theorem mirrorFrame_receives (s : State) (ctx : Nat) (body : Bytes) : Receives s (s.mirrorFrame ctx body) := by
  unfold State.mirrorFrame
  dsimp only
  refine (Receives.refl s).ite (((Receives.refl s).set (by decide) 0 _).ite (((Receives.refl s).set (by decide) 0 _).ite ?_))
  have h1 := storeMirror_receives s (ctx % 128) body.length
  generalize s.storeMirror (ctx % 128) body.length = u at h1 ⊢
  have h2 := h1.trans ((modMirror_receives u (ctx % 128) fun m => { m with rxPos := 0 }).ite (c := ctx.testBit 8 = true) (.refl u))
  generalize (if ctx.testBit 8 then u.modMirror (ctx % 128) fun m => { m with rxPos := 0 } else u) = v at h2 ⊢
  have h3 := h2.trans (Receives.foldl (fun s b => s.mirrorChunk (ctx % 128) b) (fun s b => mirrorChunk_receives s _ b)
    (chunks 16 (body.length / 16) body) v)
  exact ((h3.set (by decide) _ _).ite h3).trans (mirrorShow_receives _ _)

/-! ## An EPOCH frame (R369, R373) -/

theorem dropEpoch_receives (s : State) (n : Nat) : Receives s (s.dropEpoch n) := by
  have h : Receives s { s with w.eRx := none, w.rxSkip := some n } := .same rfl rfl
  exact (h.set (by decide) 0 _).set (by decide) 0 _

theorem dropReception_receives (s : State) : Receives s s.dropReception := by
  unfold State.dropReception
  split
  · exact .refl s
  · exact dropEpoch_receives s _

theorem applyEpoch_receives (s : State) (r : EpochRx) : Receives s (s.applyEpoch r) := by
  have h : Receives s { s with w.eRx := none, w.eDone := some r.snaps, w.applied := r.epoch, w.eBuf := 1 - s.w.eBuf } := .same rfl rfl
  exact ((h.set (by decide) 0 _).set (by decide) 0 1).trans
    (Receives.foldl State.releasePictures (fun s x => (modMirror_receives s _ _).trans (mirrorShow_receives _ _)) r.snaps _)

/-- The epoch in reception is `r`. -/
def State.receiving (s : State) (r : EpochRx) : State := { s with w.eRx := some r }

/-- The epoch `r` begins, and no frames are passed over. -/
def State.beginning (s : State) (r : EpochRx) : State := { s with w.eRx := some r, w.rxSkip := none }

theorem receiving_receives (s : State) (r : EpochRx) : Receives s (s.receiving r) := .same rfl rfl

theorem beginning_receives (s : State) (r : EpochRx) : Receives s (s.beginning r) := .same rfl rfl

theorem epochParse_receives (n : Nat) (s : State) : Receives s (epochParse n s) := by
  induction n generalizing s with
  | zero => exact .refl s
  | succ n ih =>
    unfold epochParse
    split
    · exact .refl s
    · next r _ =>
      have hd := dropEpoch_receives s r.epoch
      dsimp only
      refine (Receives.refl s).ite (Receives.ite (hd.ite ((Receives.refl s).ite ?_)) (((applyEpoch_receives s r).ite hd).ite hd))
      have hc : Receives s (if s.mirroredHere (parseSnap r.bytes r.rest).stream then s else s.inc .GCTL_PAIR_IGNORED) :=
        (Receives.refl s).ite ((Receives.refl s).set (by decide) 0 _)
      generalize (if s.mirroredHere (parseSnap r.bytes r.rest).stream then s else s.inc .GCTL_PAIR_IGNORED) = u at hc ⊢
      exact (hc.trans (receiving_receives u _)).trans (ih (u.receiving _))

theorem storeEpoch_receives (s : State) (off n : Nat) : Receives s (s.storeEpoch off n) := raise_receives s _ _

theorem epochBytes_receives (s : State) (n : Nat) (b : Bytes) : Receives s (s.epochBytes n b) := by
  unfold State.epochBytes
  split
  · next r _ =>
    have hs := storeEpoch_receives s (r.bytes + r.rest.length) b.length
    dsimp only
    generalize s.storeEpoch (r.bytes + r.rest.length) b.length = u at hs ⊢
    exact (hs.trans (receiving_receives u _)).trans (epochParse_receives _ (u.receiving _))
  · refine (Receives.refl s).ite ?_
    have hr := dropReception_receives s
    dsimp only
    generalize s.dropReception = u at hr ⊢
    refine (hr.trans (dropEpoch_receives u n)).ite ?_
    have hs := hr.trans (storeEpoch_receives u 0 b.length)
    generalize u.storeEpoch 0 b.length = v at hs ⊢
    exact (hs.trans (beginning_receives v _)).trans (epochParse_receives _ (v.beginning _))

theorem epochFrame_receives (s : State) (ctx : Nat) (body : Bytes) : Receives s (s.epochFrame ctx body) :=
  (Receives.refl s).ite (((Receives.refl s).set (by decide) 0 _).ite (epochBytes_receives s ctx body))

end Sys2Proof.Machine
end

section
/-! Frames received, EPOCH_START and the snapshot deadline (R363, R369 to R373, R398, R405). -/

namespace Sys2Proof.Machine

/-! ## MIRROR_FRAME_RX -/

/-- A payload lands in a KEYED session alone. -/
def State.arriveKeyed (s : State) (cls : Nat) : State := if s.session == 2 then s.arrive cls else s.accept cls

theorem arriveKeyed_eq (s : State) (cls : Nat) : (if (s.accept cls).session == 2 then (s.accept cls).land cls else s.accept cls) =
    s.arriveKeyed cls := by
  have h : (s.accept cls).session = s.session := accept_get s cls (by decide) 0
  rw [h]
  rfl

theorem arriveKeyed_frames (s : State) (cls : Nat) : (s.arriveKeyed cls).get .WRN_RX_FRAMES = (s.get .WRN_RX_FRAMES + 1) % 2 ^ 64 := by
  unfold State.arriveKeyed
  split
  · exact arrive_frames s cls
  · exact accept_frames s cls

theorem mirrorFrameRx_runs {s : State} {ctx : Nat} {body : Bytes} (hd : s.inData = true) (hb : bodyOk body = true) (hc : ctx < 1024)
    (h7 : ctx.testBit 7 = false) : exec (.mirrorFrameRx ctx body) s = .next (settle ((s.arriveKeyed 1).mirrorFrame ctx body)) := by
  change execMirrorFrameRx ctx body s = _
  rw [execMirrorFrameRx, onFrame, arriveKeyed_eq, hd, hb, h7, decide_eq_true hc]
  rfl

theorem epochFrameRx_runs {s : State} {ctx : Nat} {body : Bytes} (hd : s.inData = true) (hb : bodyOk body = true) (hc : ctx < 2 ^ 32) :
    exec (.epochFrameRx ctx body) s = .next (settle ((s.arriveKeyed 2).epochFrame ctx body)) := by
  change execEpochFrameRx ctx body s = _
  rw [execEpochFrameRx, onFrame, arriveKeyed_eq, hd, hb, decide_eq_true hc]
  rfl

/-- What is counted, and where the payload lies, after a frame that is taken in as `t`. -/
theorem arriveKeyed_receives {s t : State} {cls : Nat} (h : Receives (s.arriveKeyed cls) t) :
    (settle t).get .WRN_RX_FRAMES = (s.get .WRN_RX_FRAMES + 1) % 2 ^ 64 ∧
    (s.session = 2 → ∀ a, s.landing cls (Tab.getD 0 cls s.w.got) ≤ a → a < s.landing cls (Tab.getD 0 cls s.w.got) + 288 →
      (settle t).sooted a = true) := by
  refine ⟨h.settle.frames.trans (arriveKeyed_frames s cls), fun hk a h1 h2 => ?_⟩
  rw [State.arriveKeyed, hk] at h
  exact landed_sooted h.settle a h1 h2

/-- A frame that only counts in `f` besides, once it has landed. -/
theorem arrive_inc_keeps (s : State) (cls : Nat) {f : Field} (hf : f ≠ .WRN_RX_FRAMES) (hset : settleFields f = false) :
    (settle ((s.arrive cls).inc f)).get f = Num.wrap32 (s.get f + 1) ∧
    KeepsWren (fun g => g == .WRN_RX_FRAMES || g == f) { s with soot := (settle ((s.arrive cls).inc f)).soot }
      (settle ((s.arrive cls).inc f)) := by
  have hs : (settle ((s.arrive cls).inc f)).soot = (s.arrive cls).soot := (settle_frame _).soot
  have hg := arrive_get s cls hf 0
  rw [hs]
  refine ⟨?_, ?_⟩
  · rw [settle_get _ _ _ hset, State.inc, State.get_set_self, hg]
  · obtain ⟨m, hm⟩ := arrive_withSoot s cls
    rw [hm]
    exact (((accept_keepsWren (F := fun g => g == .WRN_RX_FRAMES || g == f) rfl s cls).withSoot m).set (by simp) 0 _).settle

/-- A frame received outside a KEYED session is counted alone. -/
theorem accept_settle_keeps (s : State) (cls : Nat) : KeepsWren (· == .WRN_RX_FRAMES) s (settle (s.accept cls)) :=
  (accept_keepsWren rfl s cls).settle

section MirrorFrame

variable {s : State} {ctx : Nat} {body : Bytes}

theorem mirrorFrame_unkeyed (h : s.session ≠ 2) : (s.arriveKeyed 1).mirrorFrame ctx body = s.accept 1 := by
  have hs : (s.accept 1).session = s.session := accept_get s 1 (by decide) 0
  rw [State.arriveKeyed, if_neg (by simpa using h), State.mirrorFrame, if_pos (by simpa [hs] using h)]

theorem mirrorFrame_discards (h : s.session = 2) (hr : s.role ≠ 1) :
    (s.arriveKeyed 1).mirrorFrame ctx body = (s.arrive 1).inc .WRN_RX_DISCARDS := by
  have hs : (s.arrive 1).session = s.session := arrive_get s 1 (by decide) 0
  have hro : (s.arrive 1).role = s.role := arrive_get s 1 (by decide) 0
  rw [State.arriveKeyed, if_pos (by simpa using h), State.mirrorFrame, if_neg (by simpa [hs] using h), if_pos (by simpa [hro] using hr)]

theorem arrive_mirroredHere (s : State) (cls k : Nat) : (s.arrive cls).mirroredHere k = s.mirroredHere k := by
  obtain ⟨m, hm⟩ := arrive_withSoot s cls
  rw [hm]
  rfl

theorem mirrorFrame_ignored (h : s.session = 2) (hr : s.role = 1) (hm : s.mirroredHere (ctx % 128) = false) :
    (s.arriveKeyed 1).mirrorFrame ctx body = (s.arrive 1).inc .GCTL_PAIR_IGNORED := by
  have hs : (s.arrive 1).session = s.session := arrive_get s 1 (by decide) 0
  have hro : (s.arrive 1).role = s.role := arrive_get s 1 (by decide) 0
  rw [State.arriveKeyed, if_pos (by simpa using h), State.mirrorFrame, if_neg (by simpa [hs] using h), if_neg (by simpa [hro] using hr),
    if_pos (by rw [arrive_mirroredHere, hm]; rfl)]

theorem mirrorFrameRx_completes (hd : s.inData = true) (hb : bodyOk body = true) (hc : ctx < 1024) (h7 : ctx.testBit 7 = false) :
    Runs (.mirrorFrameRx ctx body) s fun t =>
      t.get .WRN_RX_FRAMES = (s.get .WRN_RX_FRAMES + 1) % 2 ^ 64 ∧
      (s.session = 2 → ∀ a, s.landing 1 (Tab.getD 0 1 s.w.got) ≤ a → a < s.landing 1 (Tab.getD 0 1 s.w.got) + 288 → t.sooted a = true) ∧
      (s.session ≠ 2 → KeepsWren (· == .WRN_RX_FRAMES) s t) ∧
      (s.session = 2 → s.role ≠ 1 → t.get .WRN_RX_DISCARDS = Num.wrap32 (s.get .WRN_RX_DISCARDS + 1) ∧
        KeepsWren (fun f => f == .WRN_RX_FRAMES || f == .WRN_RX_DISCARDS) { s with soot := t.soot } t) ∧
      (s.session = 2 → s.role = 1 → s.mirroredHere (ctx % 128) = false →
        t.get .GCTL_PAIR_IGNORED = Num.wrap32 (s.get .GCTL_PAIR_IGNORED + 1) ∧
        KeepsWren (fun f => f == .WRN_RX_FRAMES || f == .GCTL_PAIR_IGNORED) { s with soot := t.soot } t) := by
  obtain ⟨hf, hl⟩ := arriveKeyed_receives (mirrorFrame_receives (s.arriveKeyed 1) ctx body)
  refine ⟨_, mirrorFrameRx_runs hd hb hc h7, hf, hl, fun h => ?_, fun h hr => ?_, fun h hr hm => ?_⟩
  · rw [mirrorFrame_unkeyed h]
    exact accept_settle_keeps s 1
  · rw [mirrorFrame_discards h hr]
    exact arrive_inc_keeps s 1 (by decide) rfl
  · rw [mirrorFrame_ignored h hr hm]
    exact arrive_inc_keeps s 1 (by decide) rfl

end MirrorFrame

/-! ## EPOCH_FRAME_RX -/

section EpochFrame

variable {s : State} {ctx : Nat} {body : Bytes}

theorem epochFrame_discards (h : s.session = 2) (hr : s.role ≠ 1) :
    (s.arriveKeyed 2).epochFrame ctx body = (s.arrive 2).inc .WRN_RX_DISCARDS := by
  have hs : (s.arrive 2).session = s.session := arrive_get s 2 (by decide) 0
  have hro : (s.arrive 2).role = s.role := arrive_get s 2 (by decide) 0
  rw [State.arriveKeyed, if_pos (by simpa using h), State.epochFrame, if_neg (by simpa [hs] using h), if_pos (by simpa [hro] using hr)]

theorem epochFrame_standby (h : s.session = 2) (hr : s.role = 1) :
    (s.arriveKeyed 2).epochFrame ctx body = (s.arrive 2).epochBytes ctx body := by
  have hs : (s.arrive 2).session = s.session := arrive_get s 2 (by decide) 0
  have hro : (s.arrive 2).role = s.role := arrive_get s 2 (by decide) 0
  rw [State.arriveKeyed, if_pos (by simpa using h), State.epochFrame, if_neg (by simpa [hs] using h), if_neg (by simpa [hro] using hr)]

/-- With no epoch in reception, bytes that begin none discard theirs. -/
theorem epochBytes_drops (he : s.w.eRx = none) (hk : s.w.rxSkip ≠ some ctx) (h : Num.u8 body 0 ≠ 1 ∨ ctx ≠ s.w.applied + 1) :
    s.epochBytes ctx body = s.dropEpoch ctx := by
  have hbad : (decide (body.length < 64) || Num.u8 body 0 != 1 || Num.u32 body 4 != ctx || ctx != s.w.applied + 1) = true := by
    rcases h with h | h <;> simp [h]
  have hdrop : s.dropReception = s := by rw [State.dropReception, he]
  simp only [State.epochBytes, he, Option.filter_none, hdrop]
  rw [if_neg (by simpa using hk), if_pos hbad]

/-- No record is acted on before its first 64 bytes are there. -/
theorem epochParse_short {n : Nat} {r : EpochRx} (he : s.w.eRx = some r) (hr : r.rest.length < 64) : epochParse n s = s := by
  cases n with
  | zero => rfl
  | succ n => simp only [epochParse, he, if_pos hr]

/-- A BEGIN that follows the epoch applied opens its epoch. -/
theorem epochBytes_begins (he : s.w.eRx = none) (hk : s.w.rxSkip ≠ some ctx) (hl : body.length = 64) (h0 : Num.u8 body 0 = 1)
    (h4 : Num.u32 body 4 = ctx) (ha : ctx = s.w.applied + 1) : (s.epochBytes ctx body).w.eRx = some ⟨ctx, [], 0, 64, []⟩ := by
  have hgood : ¬(decide (body.length < 64) || Num.u8 body 0 != 1 || Num.u32 body 4 != ctx || ctx != s.w.applied + 1) = true := by
    simp [hl, h0, h4, ha]
  have hdrop : s.dropReception = s := by rw [State.dropReception, he]
  have hrest : body.drop 64 = [] := List.drop_of_length_le (by omega)
  simp only [State.epochBytes, he, Option.filter_none, hdrop]
  rw [if_neg (by simpa using hk), if_neg hgood, hrest]
  generalize s.storeEpoch 0 body.length = u
  exact congrArg (fun s : State => s.w.eRx)
    (epochParse_short (s := u.beginning ⟨ctx, [], 0, 64, []⟩) (r := ⟨ctx, [], 0, 64, []⟩) rfl (show 0 < 64 by decide))

theorem dropEpoch_shows (s : State) (n : Nat) : (settle (s.dropEpoch n)).w.rxSkip = some n ∧
    (settle (s.dropEpoch n)).get .WRN_EPOCH_DISCARDED = Num.wrap32 (s.get .WRN_EPOCH_DISCARDED + 1) := by
  refine ⟨?_, ?_⟩
  · rw [(settle_frame _).w]
    rfl
  · rw [settle_get _ _ _ rfl, State.dropEpoch, State.get_set_ne _ _ _ _ (by decide), State.inc, State.get_set_self]
    rfl

theorem epochFrameRx_completes (hd : s.inData = true) (hb : bodyOk body = true) (hc : ctx < 2 ^ 32) :
    Runs (.epochFrameRx ctx body) s fun t =>
      t.get .WRN_RX_FRAMES = (s.get .WRN_RX_FRAMES + 1) % 2 ^ 64 ∧
      (s.session = 2 → ∀ a, s.landing 2 (Tab.getD 0 2 s.w.got) ≤ a → a < s.landing 2 (Tab.getD 0 2 s.w.got) + 288 → t.sooted a = true) ∧
      (s.session = 2 → s.role ≠ 1 → t.get .WRN_RX_DISCARDS = Num.wrap32 (s.get .WRN_RX_DISCARDS + 1) ∧
        KeepsWren (fun f => f == .WRN_RX_FRAMES || f == .WRN_RX_DISCARDS) { s with soot := t.soot } t) ∧
      (s.session = 2 → s.role = 1 → s.w.eRx = none → s.w.rxSkip ≠ some ctx →
        (Num.u8 body 0 ≠ 1 ∨ ctx ≠ s.w.applied + 1 → t.w.rxSkip = some ctx ∧
          t.get .WRN_EPOCH_DISCARDED = Num.wrap32 (s.get .WRN_EPOCH_DISCARDED + 1)) ∧
        (body.length = 64 → Num.u8 body 0 = 1 → Num.u32 body 4 = ctx → ctx = s.w.applied + 1 →
          t.w.eRx = some ⟨ctx, [], 0, 64, []⟩)) := by
  obtain ⟨hf, hl⟩ := arriveKeyed_receives (epochFrame_receives (s.arriveKeyed 2) ctx body)
  refine ⟨_, epochFrameRx_runs hd hb hc, hf, hl, fun h hr => ?_, fun h hr he hk => ?_⟩
  · rw [epochFrame_discards h hr]
    exact arrive_inc_keeps s 2 (by decide) rfl
  · rw [epochFrame_standby h hr]
    have hget : (s.arrive 2).get .WRN_EPOCH_DISCARDED = s.get .WRN_EPOCH_DISCARDED := arrive_get s 2 (by decide) 0
    obtain ⟨m, hm⟩ := arrive_withSoot s 2
    have he' : (s.arrive 2).w.eRx = none := by
      rw [hm]
      exact he
    have hk' : (s.arrive 2).w.rxSkip ≠ some ctx := by
      rw [hm]
      exact hk
    have ha : (s.arrive 2).w.applied = s.w.applied := by
      rw [hm]
      rfl
    refine ⟨fun hbad => ?_, fun hlen h0 h4 hn => ?_⟩
    · rw [epochBytes_drops he' hk' (by rwa [ha]), ← hget]
      exact dropEpoch_shows _ ctx
    · rw [(settle_frame _).w]
      exact epochBytes_begins he' hk' hlen h0 h4 (by rwa [ha])

end EpochFrame

/-! ## EPOCH_START (R370) -/

/-- Records join the epoch's bytes: the tags, the bodies that wait and the bytes counted. -/
def State.recorded (s : State) (m : List (Nat × Nat)) (q : List Bytes) (n : Nat) : State :=
  { s with soot := m, w.epochQ := q, w.epochBytes := n }

theorem queueRecord_recorded (s : State) (b : Bytes) : ∃ m q n, s.queueRecord b = s.recorded m q n := by
  obtain ⟨m, hm⟩ := raise_withSoot s (s.epochBuf (s.w.eBuf + 1) + s.w.epochBytes) (s.epochBuf (s.w.eBuf + 1) + s.w.epochBytes + b.length)
  refine ⟨m, s.w.epochQ ++ bodies b, s.w.epochBytes + b.length, ?_⟩
  unfold State.queueRecord State.raiseBuf
  dsimp only
  rw [hm]
  rfl

theorem queueCommit_recorded (s : State) : ∃ m q n, s.queueCommit = s.recorded m q n := by
  unfold State.queueCommit
  split
  · exact queueRecord_recorded s _
  · exact ⟨s.soot, s.w.epochQ, s.w.epochBytes, rfl⟩

/-- The epoch numbered `n` opens, and waits for every mirrored stream. -/
def State.openEpoch (s : State) (e n : Nat) : State :=
  { s with
    w.e := some (e, s.epochMs * 1000), w.epoch := n, w.epochOpen := true, w.snapWait := s.mirroredStreams, w.snapDone := 0
    w.epochBytes := 0 }

theorem epochStart_eq (s : State) (e len : Nat) : s.epochStart e len =
    let u := s.cutEpoch
    let n := Num.wrap32 (u.w.epoch + 1)
    ((u.openEpoch (e + len) n).queueRecord (beginBytes n (e + len) u.storedGen u.mirroredStreams)).queueCommit := rfl

theorem epochStart_recorded (s : State) (e len : Nat) : ∃ m q k, s.epochStart e len =
    (s.cutEpoch.openEpoch (e + len) (Num.wrap32 (s.cutEpoch.w.epoch + 1))).recorded m q k := by
  rw [epochStart_eq]
  dsimp only
  generalize s.cutEpoch.openEpoch (e + len) (Num.wrap32 (s.cutEpoch.w.epoch + 1)) = u
  obtain ⟨m, q, k, h⟩ := queueRecord_recorded u
    (beginBytes (Num.wrap32 (s.cutEpoch.w.epoch + 1)) (e + len) s.cutEpoch.storedGen s.cutEpoch.mirroredStreams)
  rw [h]
  obtain ⟨m', q', k', h'⟩ := queueCommit_recorded (u.recorded m q k)
  exact ⟨m', q', k', h'⟩

/-- An epoch cut off leaves all but what was left of it, and is counted. -/
theorem cutEpoch_keeps (s : State) : KeepsWren (· == .WRN_EPOCH_ABANDONED) s s.cutEpoch ∧ s.cutEpoch.w.epoch = s.w.epoch ∧
    s.cutEpoch.streams = s.streams ∧ s.cutEpoch.epochMs = s.epochMs ∧
    (s.w.epochOpen = true → s.cutEpoch.get .WRN_EPOCH_ABANDONED = Num.wrap32 (s.get .WRN_EPOCH_ABANDONED + 1)) := by
  unfold State.cutEpoch
  split
  · refine ⟨((KeepsWren.refl _ s).link _).set rfl 0 _, rfl, rfl, ?_, fun _ => State.get_set_self _ _ _ _⟩
    exact congrArg (fun n => max n 1) (State.get_set_ne _ _ _ _ (by decide))
  · next h => exact ⟨.refl _ s, rfl, rfl, rfl, fun h' => absurd h' h⟩

theorem recorded_keepsWren {F : Field → Bool} {s u : State} (h : KeepsWren F s u) (m : List (Nat × Nat)) (q : List Bytes) (n : Nat) :
    KeepsWren F { s with soot := m } (u.recorded m q n) :=
  (h.withSoot m).link { u.w with epochQ := q, epochBytes := n }

theorem epochStart_completes {s : State} {e len : Nat} (he : s.w.e = some (e, len)) (hr : s.isReady = true) (hm : s.sendsMirror = true)
    (hn : e + len ≤ s.now) : Runs .epochStart s fun t =>
      t.w.epoch = Num.wrap32 (s.w.epoch + 1) ∧ t.w.e = some (e + len, s.epochMs * 1000) ∧ t.w.snapWait = s.mirroredStreams ∧
      (s.w.epochOpen = true → t.get .WRN_EPOCH_ABANDONED = Num.wrap32 (s.get .WRN_EPOCH_ABANDONED + 1)) ∧
      KeepsWren (· == .WRN_EPOCH_ABANDONED) { s with soot := t.soot } t := by
  have hx : exec .epochStart s = .next (settle (s.epochStart e len)) := by
    change execEpochStart s = _
    simp only [execEpochStart, he, hr, hm, decide_eq_true hn, Bool.and_self, doneIf_true]
  refine ⟨_, hx, ?_⟩
  obtain ⟨m, q, k, h⟩ := epochStart_recorded s e len
  rw [h, (settle_frame _).w, (settle_frame _).soot, settle_get _ _ _ rfl]
  obtain ⟨hk, hep, hst, hms, hab⟩ := cutEpoch_keeps s
  rw [hep]
  have hstreams : s.cutEpoch.mirroredStreams = s.mirroredStreams := by rw [State.mirroredStreams, hst, State.mirroredStreams]
  generalize s.cutEpoch = u at hk hms hab hstreams ⊢
  refine ⟨rfl, ?_, hstreams, hab, ?_⟩
  · rw [← hms]
    rfl
  · exact (recorded_keepsWren (u := u.openEpoch (e + len) (Num.wrap32 (s.w.epoch + 1))) (hk.link _) m q k).settle

/-! ## SNAPSHOT_DEADLINE (R372) -/

/-- A snapshot leaves the registers, and what is waited for but stream `k`. -/
structure Snapped (k : Nat) (s t : State) : Prop where
  fields : t.fields = s.fields
  waits : ∀ i ∈ t.w.snapWait, i ∈ s.w.snapWait ∧ i ≠ k

theorem snapDue_snapped (s : State) (k : Nat) : Snapped k s (s.snapDue k) := by
  refine ⟨rfl, fun i hi => ?_⟩
  have h := List.mem_filter.mp hi
  exact ⟨h.1, by simpa using h.2⟩

theorem Snapped.more {k : Nat} {s t u : State} (h : Snapped k s t) (hf : u.fields = t.fields) (hw : u.w.snapWait = t.w.snapWait) :
    Snapped k s u := ⟨hf.trans h.fields, fun i hi => h.waits i (hw ▸ hi)⟩

theorem queueRecord_parts (s : State) (b : Bytes) : (s.queueRecord b).fields = s.fields ∧ (s.queueRecord b).w.snapWait = s.w.snapWait := by
  obtain ⟨m, q, n, h⟩ := queueRecord_recorded s b
  rw [h]
  exact ⟨rfl, rfl⟩

theorem queueCommit_parts (s : State) : s.queueCommit.fields = s.fields ∧ s.queueCommit.w.snapWait = s.w.snapWait := by
  obtain ⟨m, q, n, h⟩ := queueCommit_recorded s
  rw [h]
  exact ⟨rfl, rfl⟩

theorem takeSnap_snapped (s : State) (k : Nat) : Snapped k s (s.takeSnap k) := by
  have hd := snapDue_snapped s k
  have hc := fun (u : State) (h : Snapped k s u) => h.more (queueCommit_parts u).1 (queueCommit_parts u).2
  have hr := fun (u : State) (h : Snapped k s u) (b : Bytes) => h.more (queueRecord_parts u b).1 (queueRecord_parts u b).2
  have hn := fun (u : State) (h : Snapped k s u) (n : Nat) => h.more (u := u.withSnaps n) rfl rfl
  unfold State.takeSnap
  split
  · next h =>
    refine ⟨rfl, fun i hi => ⟨hi, ?_⟩⟩
    rintro rfl
    simp [hi] at h
  · change Snapped k s (match (s.snapDue k).stream? k with | none => _ | some st => _)
    split
    · exact hc _ hd
    · next st _ =>
      lift_lets
      intro s0 mode d s1 x
      have h1 : Snapped k s s1 := by
        change Snapped k s (if st.lastTracked.isNone then d.2 else s.snapDue k)
        split
        · exact hd.more rfl rfl
        · exact hd
      clear_value s1 x
      exact hc _ (hn _ (hr s1 h1 x.bytes) _)

theorem takeSnaps_waits (ks : List Nat) (s : State) : (ks.foldl State.takeSnap s).fields = s.fields ∧
    ∀ i ∈ (ks.foldl State.takeSnap s).w.snapWait, i ∈ s.w.snapWait ∧ i ∉ ks := by
  induction ks generalizing s with
  | nil => exact ⟨rfl, fun i hi => ⟨hi, List.not_mem_nil⟩⟩
  | cons k ks ih =>
    obtain ⟨hf, hw⟩ := ih (s.takeSnap k)
    have hs := takeSnap_snapped s k
    refine ⟨hf.trans hs.fields, fun i hi => ?_⟩
    obtain ⟨h1, h2⟩ := hw i hi
    obtain ⟨h3, h4⟩ := hs.waits i h1
    exact ⟨h3, by simp [h2, h4]⟩

theorem snapshotDeadline_completes {s : State} {e len : Nat} (he : s.w.e = some (e, len)) (hr : s.isReady = true)
    (ho : s.w.epochOpen = true) (hw : s.w.snapWait ≠ []) (hn : e + s.epochMs * 500 ≤ s.now) : Runs .snapshotDeadline s fun t =>
      t.w.snapWait = [] ∧ RegsBut (fun _ => false) 0 s t := by
  have hne : (!s.w.snapWait.isEmpty) = true := by simp [hw]
  have hx : exec .snapshotDeadline s = .next (settle (s.w.snapWait.foldl State.takeSnap s)) := by
    change execSnapshotDeadline s = _
    simp only [execSnapshotDeadline, he, hr, ho, hne, decide_eq_true hn, Bool.and_self, doneIf_true]
  obtain ⟨hf, hall⟩ := takeSnaps_waits s.w.snapWait s
  refine ⟨_, hx, ?_, ?_⟩
  · rw [(settle_frame _).w]
    exact List.eq_nil_iff_forall_not_mem.mpr fun i hi => (hall i hi).2 (hall i hi).1
  · exact RegsBut.settle fun f i _ _ => State.get_congr hf f i

/-- Settles O38: taking a frame in, and applying an epoch, lowers no tag and counts no further frame. -/
theorem mirrorAndEpochFramesComplete : Obligations.MirrorAndEpochFramesComplete := by
  unfold Obligations.MirrorAndEpochFramesComplete
  intro s
  refine ⟨fun ctx body hd hb => ⟨mirrorFrameRx_completes hd hb, epochFrameRx_completes hd hb⟩, fun e len he hr => ⟨?_, ?_⟩⟩
  · exact epochStart_completes he hr
  · exact snapshotDeadline_completes he hr

end Sys2Proof.Machine
end

section
/-! FLUE_CONFIG whose zone table has come back ends after a thermal trip as well (R111, R112, R198). -/

namespace Sys2Proof.Machine

open Tests

/-- A FLUE_CONFIG that gives stream 0 one zone. -/
def oneZoneConfig : Pkt := pk 1 0x30 [8 * 65536, 0, 65536, 0x3000, 0]

/-- An entry of a zone table with all bytes 0. -/
def zeroZone : Bytes := List.replicate 32 0#8

theorem tripped_oneZoneConfig :
    let s := tripped oneZoneConfig (withStream (stream0 []) base)
    let p := begun oneZoneConfig
    ((s.packets.map Pkt.id).Nodup ∧ s.reading 0x30 = some p) ∧ s.linkClosed = false ∧ s.held = false ∧
      firstBad ((s.endRead 0).flueChecks p) = none ∧
      badZone 0 (chunks 32 (Num.slice (p.w 4) 22 16) zeroZone) = none ∧
      ((s.endRead 0).alloc false (32 * Num.slice (p.w 4) 22 16) none).isSome = true ∧
      answersNoReply (.flueConfig zeroZone) s = true := by
  decide +kernel

/-- Refutes O13: a FLUE_CONFIG whose job took its entry before a thermal trip ends after it, and its reply is withheld (R112). -/
theorem not_flueConfigAndRingSetComplete : ¬Obligations.FlueConfigAndRingSetComplete := by
  unfold Obligations.FlueConfigAndRingSetComplete
  rintro ⟨-, h, -⟩
  obtain ⟨⟨hn, hr⟩, hl, hh, hb, hz, hm, ha⟩ := tripped_oneZoneConfig
  obtain ⟨t, he, hrep, -⟩ := h _ _ _ zeroZone ⟨hn, .inl ⟨hr, rfl⟩⟩ hl hb (fun _ => hz) fun _ _ => hm
  exact not_replied_of_answersNoReply ha hh he hrep

end Sys2Proof.Machine
end

section
/-! Doorbells (R97, R125, R126, R149, R163, R164): how a write to a doorbell page is taken in each state of the unit. -/

namespace Sys2Proof.Machine

section Doorbells

variable {s : State} {c v : Nat}

/-- A command doorbell that reaches the BARs. -/
theorem commandDoorbell_open (h : s.HostOpen) (hc : c < Config.clients) (v : Nat) :
    exec (.commandDoorbell c 0 4 v) s = .next (settle (s.doorbell c (some v) none)) := by
  change execCommandDoorbell c 0 4 v s = _
  rw [execCommandDoorbell, if_neg (by simpa using hc), hostAct_open h]
  rfl

/-- A completion doorbell that reaches the BARs. -/
theorem completionDoorbell_open (h : s.HostOpen) (hc : c < Config.clients) (v : Nat) :
    exec (.completionDoorbell c v) s = .next (settle (s.doorbell c none (some v))) := by
  change execCompletionDoorbell c v s = _
  rw [execCompletionDoorbell, if_neg (by simpa using hc), hostAct_open h]

/-! ## The three ways a doorbell is taken (R97, R125, R126) -/

theorem doorbell_crossed (hc : s.clockIsLost 19 = true) (c : Nat) (cmd cpl : Option Nat) : s.doorbell c cmd cpl = s.crossed := by
  simp [State.doorbell, hc]

/-- Before READY, and in DOZE and SLEEP, a doorbell is latched. -/
def State.latches (s : State) : Prop := (1 ≤ s.dev ∧ s.dev ≤ 4) ∨ s.dev = 8 ∨ (s.dev = 5 ∧ (s.power = 2 ∨ s.power = 3))

theorem doorbell_latched (hk : s.clockIsLost 19 = false) (hr : s.get .CL_RESETTING c = 0) (h : s.latches) (cmd cpl : Option Nat) :
    s.doorbell c cmd cpl = s.latch c cmd cpl := by
  have h67 : (s.dev == 6 || s.dev == 7) = false := by
    simp only [Bool.or_eq_false_iff, beq_eq_false_iff_ne]
    unfold State.latches at h
    omega
  have hl : (s.dev != 5 || s.power == 2 || s.power == 3) = true := by
    simp only [Bool.or_eq_true, bne_iff_ne, beq_iff_eq]
    unfold State.latches at h
    omega
  simp [State.doorbell, hk, hr, h67, hl]

/-- In RUN and IDLE a doorbell acts. -/
theorem doorbell_acts (hk : s.clockIsLost 19 = false) (hr : s.get .CL_RESETTING c = 0) (hd : s.dev = 5) (hp : s.power < 2) (v : Nat) :
    s.doorbell c (some v) none = s.cmdDoorbell c v ∧ s.doorbell c none (some v) = (s.cplDoorbell c v).flushReply c := by
  have h2 : s.power ≠ 2 := by omega
  have h3 : s.power ≠ 3 := by omega
  simp [State.doorbell, hk, hr, hd, h2, h3]

/-! ## Values in range and out of range (R149, R164) -/

/-- A command doorbell value is in range and not behind the present tail. -/
def State.cmdInRange (s : State) (c v : Nat) : Prop :=
  Num.sub32 v (s.get .CL_CMD_HEAD c) ≤ 2 ^ s.get .CL_CMD_LOG2 c ∧
    Num.sub32 v (s.get .CL_CMD_TAIL c) ≤ Num.sub32 v (s.get .CL_CMD_HEAD c)

/-- A completion doorbell value is in range. -/
def State.cplInRange (s : State) (c v : Nat) : Prop :=
  Num.sub32 v (s.get .CL_CPL_TAIL c) ≤ Num.sub32 (s.get .CL_CPL_HEAD c) (s.get .CL_CPL_TAIL c)

/-- The tail moves, and a stopped fetch restarts. -/
def State.moveCmdTail (s : State) (c v : Nat) : State := (s.set .CL_CMD_TAIL c v).set .CL_FETCH_STOPPED c 0

theorem cmdDoorbell_inRange (he : s.get .CL_ENABLE c = 1) (hv : v < 2 ^ 32) (h : s.cmdInRange c v) : s.cmdDoorbell c v =
    if c == 0 then { s.moveCmdTail c v with covers := s.covers ++ [(v, s.now)] } else s.moveCmdTail c v := by
  obtain ⟨h1, h2⟩ := h
  have hn : (s.moveCmdTail c v).now = s.now := by
    simp (disch := decide) only [State.now, State.moveCmdTail, State.get_set_ne]
  simp only [State.cmdDoorbell, wrap32_of_lt hv, he, h1, h2, decide_true, beq_self_eq_true, Bool.and_self, if_true]
  rw [← hn]
  rfl

theorem cmdDoorbell_rejected (hv : v < 2 ^ 32) (h : ¬s.cmdInRange c v) : s.cmdDoorbell c v = s.reject c := by
  have h' : ¬(Num.sub32 v (s.get .CL_CMD_HEAD c) ≤ 2 ^ s.get .CL_CMD_LOG2 c ∧
    Num.sub32 v (s.get .CL_CMD_TAIL c) ≤ Num.sub32 v (s.get .CL_CMD_HEAD c)) := h
  rw [State.cmdDoorbell]
  simp only [wrap32_of_lt hv]
  rw [if_neg (by simp only [Bool.and_eq_true, decide_eq_true_eq]; tauto)]

theorem cplDoorbell_inRange (he : s.get .CL_ENABLE c = 1) (hv : v < 2 ^ 32) (h : s.cplInRange c v) :
    s.cplDoorbell c v = s.set .CL_CPL_TAIL c v := by
  have h' : Num.sub32 v (s.get .CL_CPL_TAIL c) ≤ Num.sub32 (s.get .CL_CPL_HEAD c) (s.get .CL_CPL_TAIL c) := h
  simp [State.cplDoorbell, wrap32_of_lt hv, he, h']

theorem cplDoorbell_rejected (hv : v < 2 ^ 32) (h : ¬s.cplInRange c v) : s.cplDoorbell c v = s.reject c := by
  have h' : ¬Num.sub32 v (s.get .CL_CPL_TAIL c) ≤ Num.sub32 (s.get .CL_CPL_HEAD c) (s.get .CL_CPL_TAIL c) := h
  simp [State.cplDoorbell, wrap32_of_lt hv, h']

theorem flushReply_none (h : Tab.find? c s.flushes = none) : s.flushReply c = s := by simp [State.flushReply, h]

/-- A discarded doorbell is counted, and changes nothing else. -/
theorem reject_counts (s : State) (c : Nat) : (settle (s.reject c)).get .CL_DB_REJECTS c = Num.satAdd 32 (s.get .CL_DB_REJECTS c) 1 ∧
    KeepsBlock (· == .CL_DB_REJECTS) c s (settle (s.reject c)) :=
  ⟨by rw [settle_get _ _ _ rfl]; exact State.get_set_self _ _ _ _, ((KeepsBlock.refl _ c s).set .CL_DB_REJECTS _ rfl).settle⟩

/-- A doorbell in range is the tail, and restarts a stopped fetch. -/
theorem cmdDoorbell_completes (he : s.get .CL_ENABLE c = 1) (hv : v < 2 ^ 32) (h : s.cmdInRange c v) :
    let t := settle (s.cmdDoorbell c v)
    t.get .CL_CMD_TAIL c = v ∧ t.get .CL_FETCH_STOPPED c = 0 ∧
      RegsBut (fun f => f == .CL_CMD_TAIL || f == .CL_FETCH_STOPPED) c s t ∧
      { t.quiet with covers := [] } = { s.quiet with covers := [] } ∧ t.packets = s.packets := by
  have hg : ∀ f i, (s.cmdDoorbell c v).get f i = (s.moveCmdTail c v).get f i := by
    intro f i
    rw [cmdDoorbell_inRange he hv h]
    split <;> rfl
  have hq : { (s.cmdDoorbell c v).quiet with covers := [] } = { s.quiet with covers := [] } ∧ (s.cmdDoorbell c v).packets = s.packets := by
    rw [cmdDoorbell_inRange he hv h]
    split <;> exact ⟨rfl, rfl⟩
  have hb : RegsBut (fun f => f == .CL_CMD_TAIL || f == .CL_FETCH_STOPPED) c s (s.moveCmdTail c v) :=
    ((RegsBut.refl _ c s).set .CL_CMD_TAIL v rfl).set .CL_FETCH_STOPPED 0 rfl
  refine ⟨?_, ?_, RegsBut.settle fun f j hs hF => (hg f j).trans (hb f j hs hF), ?_, by rw [settle_packets, hq.2]⟩
  · rw [settle_get _ _ _ rfl, hg]
    simp (disch := decide) only [State.moveCmdTail, State.get_set_ne, State.get_set_self]
  · rw [settle_get _ _ _ rfl, hg]
    exact State.get_set_self _ _ _ _
  · rw [(settle_frame _).2.1, hq.1]

/-- A latched doorbell waits, and DB_LATCHED shows it. -/
theorem latch_shows (s : State) (c : Nat) (cmd cpl : Option Nat) : let t := settle (s.latch c cmd cpl)
    (∀ v, cmd = some v → (Tab.find? c t.dbLatch).map Prod.fst = some (some v)) ∧
    (∀ v, cpl = some v → (Tab.find? c t.dbLatch).map Prod.snd = some (some v)) ∧
    t.get .DS_DB_LATCHED = 1 ∧ RegsBut (fun _ => false) c s t := by
  have hf : Tab.find? c (s.latch c cmd cpl).dbLatch =
      some (cmd.orElse fun _ => (Tab.getD (none, none) c s.dbLatch).1, cpl.orElse fun _ => (Tab.getD (none, none) c s.dbLatch).2) :=
    Tab.find?_put_self _ _ _
  have hn : (s.latch c cmd cpl).dbLatch.isEmpty = false := by
    cases h : (s.latch c cmd cpl).dbLatch with
    | nil => simp [h] at hf
    | cons => rfl
  obtain ⟨-, -, -, -, -, -, hl, -⟩ := settle_settled (s.latch c cmd cpl)
  refine ⟨?_, ?_, ?_, RegsBut.settle (RegsBut.refl _ c s)⟩
  · rintro v rfl
    rw [settle_dbLatch, hf]
    rfl
  · rintro v rfl
    rw [settle_dbLatch, hf]
    rfl
  · rw [hl, settle_dbLatch, hn]
    rfl

/-- What the crossing discards is counted; while the link is up nothing else moves that counter. -/
theorem crossed_counts (hb : s.barsReached = true) :
    (settle s.crossed).get .HLT_XING_DISCARDS = Num.satAdd 32 (s.get .HLT_XING_DISCARDS) 1 ∧
    KeepsBlock (· == .HLT_XING_DISCARDS) 0 s (settle s.crossed) := by
  have hd : s.crossed.linkDead = false :=
    (linkDead_keeps (F := (· == .HLT_XING_DISCARDS)) (sat_frame s 32 .HLT_XING_DISCARDS 0 1 rfl) rfl).trans (linkDead_of_barsReached hb)
  refine ⟨?_, ((KeepsBlock.refl _ 0 s).set .HLT_XING_DISCARDS _ rfl).settle⟩
  rw [(settle_frame_linkUp _ hd).1 _ _ rfl]
  exact State.get_set_self _ _ _ _

end Doorbells

/-- Settles O25: a doorbell acts in RUN and IDLE, is latched where the unit cannot act on it, and is counted where CCLK is lost. -/
theorem doorbellsComplete : Obligations.DoorbellsComplete := by
  unfold Obligations.DoorbellsComplete
  intro s c v ho hc hv hr
  have cmd : ∀ {u : State} {P : State → Prop}, s.doorbell c (some v) none = u → P (settle u) → Runs (.commandDoorbell c 0 4 v) s P :=
    fun hu hp => ⟨_, commandDoorbell_open ho hc v, hu ▸ hp⟩
  have cpl : ∀ {u : State} {P : State → Prop}, s.doorbell c none (some v) = u → P (settle u) → Runs (.completionDoorbell c v) s P :=
    fun hu hp => ⟨_, completionDoorbell_open ho hc v, hu ▸ hp⟩
  refine ⟨fun hk hd hp he hf => ?_, fun hk hl => ?_, fun hk => cpl (doorbell_crossed hk _ _ _) (crossed_counts ho.1)⟩
  · obtain ⟨hcmd, hcpl⟩ := doorbell_acts hk hr hd hp v
    refine ⟨fun h => cmd hcmd (cmdDoorbell_completes he hv h), fun h => ?_, fun h => ?_, fun h => ?_⟩
    · exact cmd (hcmd.trans (cmdDoorbell_rejected hv h)) (reject_counts s c)
    · refine cpl (hcpl.trans (flushReply_none ?_)) ?_
      · rw [cplDoorbell_inRange he hv h]
        exact hf
      · rw [cplDoorbell_inRange he hv h]
        exact ⟨by rw [settle_get _ _ _ rfl, State.get_set_self], ((KeepsBlock.refl _ c s).set .CL_CPL_TAIL v rfl).settle⟩
    · refine cpl (hcpl.trans (flushReply_none ?_)) ?_
      · rw [cplDoorbell_rejected hv h]
        exact hf
      · rw [cplDoorbell_rejected hv h]
        exact reject_counts s c
  · obtain ⟨h1, -, h3⟩ := latch_shows s c (some v) none
    obtain ⟨-, h2, h4⟩ := latch_shows s c none (some v)
    exact ⟨cmd (doorbell_latched hk hr hl _ _) ⟨h1 v rfl, h3⟩, cpl (doorbell_latched hk hr hl _ _) ⟨h2 v rfl, h4⟩⟩

end Sys2Proof.Machine
end

section
/-! What the work of the whole unit leaves alone: the events that wait and the registers of the board and of the units' health
(R99, R102, R110). -/

namespace Sys2Proof.Machine

-- One theorem after the other, as in the tests: in parallel, proofs that wait for the kernel hold one thread with its own
-- stack each.
set_option Elab.async false

/-! ## Raised events stay (R102) -/

/-- The registers that no work on streams, jobs, roles and replies writes: the clocks', the link's and the state's, tamper's and the
session's, those of supplies and voltage, and which units are in service. -/
def guarded : List Field :=
  [.DS_STATE, .DS_FAULT_CODE, .EVU_TICK_STOPPED, .RC_CAUSE, .LINK_DOWN, .LINK_DL_UP, .CL_ENABLE, .CL_FETCH_STOPPED, .CLEAN_EIGHTHS,
   .TAMPER_LATCHED, .SEC_TAMPER_COUNT, .DBG_SESSION, .WRN_SESSION,
   .HLT_AVS_FAULT, .HLT_WARN_RAILS, .HLT_SUPPLY_WARNS, .HLT_GOV_HELD, .HLT_ACLK_MHZ, .SCH_ACLK_MHZ, .HLT_OFFSET, .HLT_GOV_MODE,
   .DEC_IN_SERVICE, .DEC_FAULTED, .DEC_CAUSE, .AR_IN_SERVICE, .AR_FAULTED, .AR_CAUSE, .CL_IN_SERVICE, .CL_FAULTED, .CL_CAUSE,
   .FFT_IN_SERVICE, .FFT_FAULTED, .FFT_CAUSE, .FFT_FALLBACK, .TRE_LANE_OUT, .TRE_CAUSE, .TRE_LANES,
   .MENC_IN_SERVICE, .MENC_FAULTED, .MENC_CAUSE]

/-- The registers in which such work sets bits and clears none. -/
def pendingRegs : List Field := [.EVU_PENDING, .HLT_IRQ]

/-- From `s` to `t` the guarded registers stay, no pending bit falls, and every event but a COMPLETION still waits. -/
structure KeepsRaised (s t : State) : Prop where
  reg : ∀ f ∈ guarded, ∀ i, t.get f i = s.get f i
  bits : ∀ f ∈ pendingRegs, ∀ c, (s.get f).testBit c = true → (t.get f).testBit c = true
  events : ∀ e ∈ s.captured, e.code ≠ 14 → e ∈ t.captured

/-- The parts of the board and of memory that such work leaves alone. -/
def State.boardParts (s : State) :=
  (s.clockLost, s.thermal, s.bme, s.boot, s.power, s.powerReq, s.tamperWait, s.tamperFence, s.partner, s.fuses, s.hlt, s.laneTests,
    s.retry, s.dram, s.tileSoot)

/-- Work that keeps what is raised, and the parts of the board and of memory. -/
structure Spares (s t : State) : Prop extends KeepsRaised s t where
  parts : t.boardParts = s.boardParts

section Combine

variable {s t u : State}

/-- The register file and the captured events decide what is raised. -/
theorem KeepsRaised.same (hf : t.fields = s.fields) (hc : t.captured = s.captured) : KeepsRaised s t :=
  ⟨fun f _ i => State.get_congr hf f i, fun f _ _ h => by rwa [State.get_congr hf f 0], fun e he _ => hc ▸ he⟩

theorem KeepsRaised.refl (s : State) : KeepsRaised s s := .same rfl rfl

theorem KeepsRaised.trans (h : KeepsRaised s t) (k : KeepsRaised t u) : KeepsRaised s u :=
  ⟨fun f hf i => (k.reg f hf i).trans (h.reg f hf i), fun f hf c hc => k.bits f hf c (h.bits f hf c hc),
    fun e he hc => k.events e (h.events e he hc) hc⟩

theorem KeepsRaised.foldl {α : Type} (g : State → α → State) (hg : ∀ s a, KeepsRaised s (g s a)) (l : List α) (s : State) :
    KeepsRaised s (l.foldl g s) := by
  induction l generalizing s with
  | nil => exact .refl s
  | cons a l ih => exact (hg s a).trans (ih _)

theorem Spares.refl (s : State) : Spares s s := ⟨.refl s, rfl⟩

theorem Spares.trans (h : Spares s t) (k : Spares t u) : Spares s u :=
  ⟨h.toKeepsRaised.trans k.toKeepsRaised, k.parts.trans h.parts⟩

/-- Other parts of the state change. -/
theorem Spares.same (hf : t.fields = s.fields) (hc : t.captured = s.captured) (hp : t.boardParts = s.boardParts) : Spares s t :=
  ⟨.same hf hc, hp⟩

/-- Other parts of the state change next. -/
theorem Spares.more (h : Spares s t) (hf : u.fields = t.fields) (hc : u.captured = t.captured) (hp : u.boardParts = t.boardParts) :
    Spares s u := h.trans (.same hf hc hp)

theorem Spares.ite {c : Prop} [Decidable c] (h : Spares s t) (k : Spares s u) : Spares s (if c then t else u) := by
  split
  · exact h
  · exact k

theorem Spares.foldl {α : Type} (h : Spares s t) (g : State → α → State) (hg : ∀ s a, Spares s (g s a)) (l : List α) :
    Spares s (l.foldl g t) := by
  induction l generalizing t with
  | nil => exact h
  | cons a l ih => exact ih (h.trans (hg t a))

/-- A frame whose registers are others, and which takes no event away. -/
theorem Spares.of_keeps {F : Field → Bool} (k : Keeps F s t) (hF : ∀ f ∈ guarded ++ pendingRegs, F f = false)
    (he : ∀ e ∈ s.captured, e.code ≠ 14 → e ∈ t.captured) : Spares s t := by
  refine ⟨⟨fun f hf i => k.1 f i (hF f (List.mem_append_left _ hf)), fun f hf c h => ?_, he⟩, ?_⟩
  · rwa [k.1 f 0 (hF f (List.mem_append_right _ hf))]
  · simp only [State.boardParts, k.clockLost, k.thermal, k.bme, k.boot, k.power, k.powerReq, k.tamperWait, k.tamperFence, k.partner,
      k.fuses, k.hlt, k.laneTests, k.retry, k.dram, k.tileSoot]

theorem OnRegs.spares {F : Field → Bool} (h : OnRegs F s t) (hF : ∀ f ∈ guarded ++ pendingRegs, F f = false) : Spares s t :=
  .of_keeps h.keeps hF fun e he _ => by rw [h.only.2.1]; exact he

/-- The parts are projections of a state that a frame keeps. -/
theorem set_parts (s : State) (f : Field) (i v : Nat) : (s.set f i v).boardParts = s.boardParts := rfl

theorem Spares.set (h : Spares s t) (f : Field) (i v : Nat) (hf : f ∉ guarded ++ pendingRegs := by decide) :
    Spares s (t.set f i v) := by
  have hne : ∀ g ∈ guarded ++ pendingRegs, g ≠ f := fun g hg e => hf (e ▸ hg)
  refine h.trans ⟨⟨fun g hg j => State.get_set_ne _ _ _ _ (hne g (List.mem_append_left _ hg)), fun g hg c hc => ?_, fun e he _ => he⟩, rfl⟩
  rwa [State.get_set_ne _ _ _ _ (hne g (List.mem_append_right _ hg))]

theorem signal_spares (s : State) (v : Nat) : Spares s (s.signal v) :=
  .of_keeps (signal_frame (F := linkCounts) s v fun _ h => h) (by decide) fun e he _ => by rw [(signal_only s v).2.1]; exact he

/-- A bit is set in a register that is not guarded. -/
theorem Spares.setBit (s : State) {f : Field} (hf : f ∉ guarded) (b : Nat) : Spares s (s.set f 0 (s.get f ||| 2 ^ b)) := by
  refine ⟨⟨fun g hg i => State.get_set_ne _ _ _ _ fun e => hf (e ▸ hg), fun g _ c hc => ?_, fun e he _ => he⟩, rfl⟩
  rw [State.get_set]
  split
  · next h =>
    obtain ⟨rfl, -⟩ := h
    rw [Nat.testBit_or, hc, Bool.true_or]
  · exact hc

theorem Spares.irq (h : Spares s t) (r e : Field) (b v : Nat) (hr : r ∉ guarded := by decide) : Spares s (t.irq r e 0 b v) := by
  refine h.trans ?_
  unfold State.irq
  exact ((Spares.setBit t hr b).trans (signal_spares _ v)).ite (Spares.setBit t hr b)

theorem Spares.capture (h : Spares s t) (c src d0 d1 d2 : Nat) : Spares s (t.capture c src d0 d1 d2) := by
  have hp : (t.capture c src d0 d1 d2).boardParts = t.boardParts := by
    unfold State.capture
    dsimp only
    split <;> split <;> rfl
  refine h.trans ⟨⟨fun f hf i => ?_, fun f hf b hb => ?_, fun e he _ => capture_keepsEvents t c src d0 d1 d2 e he⟩, hp⟩
  · have hne : ∀ f ∈ guarded, (f == Field.EVU_PENDING) = false := by decide
    exact (capture_frame (F := (· == .EVU_PENDING)) t c src d0 d1 d2 (.inr rfl)).1 f i (hne f hf)
  · by_cases hc : c = 14
    · rwa [(capture_frame (F := fun _ => false) t c src d0 d1 d2 (.inl hc)).1 f 0 rfl]
    · have hs := (Spares.setBit t (f := .EVU_PENDING) (by decide) c).bits f hf b hb
      have hg : (t.capture c src d0 d1 d2).get f = (t.set .EVU_PENDING 0 (t.get .EVU_PENDING ||| 2 ^ c)).get f := by
        unfold State.capture
        simp only [beq_iff_eq, hc, if_false]
        split <;> rfl
      rwa [hg]

/-- One register changes the same way on both sides. -/
theorem Spares.set_both (h : Spares s t) (f : Field) (v : Nat) : Spares (s.set f 0 v) (t.set f 0 v) := by
  refine ⟨⟨fun g hg i => ?_, fun g hg c hc => ?_, h.events⟩, h.parts⟩
  · rw [State.get_set, State.get_set, h.reg g hg i]
  · rw [State.get_set] at hc ⊢
    split
    · next he => rwa [if_pos he] at hc
    · next he => exact h.bits g hg c (by rwa [if_neg he] at hc)

end Combine

theorem modStream_spares (s : State) (k : Nat) (g : Stream → Stream) : Spares s (s.modStream k g) := by
  unfold State.modStream
  split
  · exact .refl s
  · exact .same rfl rfl rfl

theorem settle_spares (s : State) : Spares s (settle s) :=
  .of_keeps (settle_frame s) (by decide) fun e he _ => by rwa [settle_captured]

theorem complete_spares (s : State) (id : Nat) (r : Reply) : Spares s (s.complete id r) :=
  .of_keeps (complete_frame s id r) (by decide) fun e he _ => complete_keepsEvents s id r e he

/-- The tick that an event out of its rank ends takes no event but COMPLETIONs away. -/
theorem inRank_spares (s : State) (c src : Nat) : Spares s (s.inRank c src) := by
  refine ⟨⟨fun f hf i => ?_, fun f hf b hb => ?_, fun e he hc => ?_⟩, inRank_part s c src State.boardParts fun _ => rfl⟩
  · have hr : ∀ f ∈ guarded, rankFields f = false := by decide
    exact inRank_get s c src i (hr f hf)
  · have hr : ∀ f ∈ pendingRegs, rankFields f = false := by decide
    rwa [inRank_get s c src 0 (hr f hf)]
  · unfold State.inRank
    split
    · rw [advance_captured, List.mem_filter]
      exact ⟨he, by simp [hc]⟩
    · exact he

/-! ## An event is raised (R99, R102, R110) -/

/-- No pending bit of an event falls, and every event but a COMPLETION still waits. -/
structure EventsStay (s t : State) : Prop where
  pending : ∀ c, (s.get .EVU_PENDING).testBit c = true → (t.get .EVU_PENDING).testBit c = true
  events : ∀ e ∈ s.captured, e.code ≠ 14 → e ∈ t.captured

section EventsStay

variable {s t u : State}

theorem KeepsRaised.eventsStay (h : KeepsRaised s t) : EventsStay s t := ⟨h.bits .EVU_PENDING (by decide), h.events⟩

theorem EventsStay.same (hf : t.fields = s.fields) (hc : t.captured = s.captured) : EventsStay s t := (KeepsRaised.same hf hc).eventsStay

theorem EventsStay.refl (s : State) : EventsStay s s := (KeepsRaised.refl s).eventsStay

theorem EventsStay.trans (h : EventsStay s t) (k : EventsStay t u) : EventsStay s u :=
  ⟨fun c hc => k.pending c (h.pending c hc), fun e he hc => k.events e (h.events e he hc) hc⟩

/-- Another register changes. -/
theorem EventsStay.set (h : EventsStay s t) (f : Field) (i v : Nat) (hf : Field.EVU_PENDING ≠ f := by decide) :
    EventsStay s (t.set f i v) :=
  ⟨fun c hc => by rw [State.get_set_ne _ _ _ _ hf]; exact h.pending c hc, h.events⟩

theorem EventsStay.ite {c : Prop} [Decidable c] (h : EventsStay s t) (k : EventsStay s u) : EventsStay s (if c then t else u) := by
  split
  · exact h
  · exact k

/-- What is raised stays raised. -/
theorem Raised.stays {c src d0 d1 d2 : Nat} (h : Raised s t c src d0 d1 d2) (hc : c ≠ 14) (k : EventsStay t u) :
    Raised s u c src d0 d1 d2 := by
  obtain ⟨hp, hw⟩ := h
  exact ⟨k.pending c hp, hw.imp_right fun h => k.events _ h hc⟩

/-- An event captured in the tick of its rank is raised. -/
theorem raised_capture {c src : Nat} (hu : u.rankView = (s.inRank c src).rankView) (hc : c ≠ 14) (d0 d1 d2 : Nat) :
    Raised s (u.capture c src d0 d1 d2) c src d0 d1 d2 := by
  refine ⟨capture_pending hc src d0 d1 d2, ?_⟩
  have hn := rankView_now hu
  have hs := (inRank_spares s c src).reg .EVU_TICK_STOPPED (by decide) 0
  have hw := inRank_part s c src State.staleWritten fun _ => rfl
  simp only [State.rankView, Prod.mk.injEq] at hu
  obtain ⟨-, -, -, hst, -, hst', -⟩ := hu
  rw [← hs, ← hst', ← hw, ← hst, ← hn]
  exact capture_waits u hc src d0 d1 d2

/-- An event captured in the tick of its rank, and kept by what follows, is raised. -/
theorem Raised.intro {c src d0 d1 d2 : Nat} (hu : u.rankView = (s.inRank c src).rankView) (hc : c ≠ 14)
    (k : EventsStay (u.capture c src d0 d1 d2) t) : Raised s t c src d0 d1 d2 := (raised_capture hu hc d0 d1 d2).stays hc k

end EventsStay

/-! ## Streams, jobs and budgets -/

theorem streamSync_spares (s : State) (k : Nat) : Spares s (s.streamSync k) := (streamSync_onRegs s k).spares (by decide)

theorem mirrorShow_spares (s : State) (k : Nat) : Spares s (s.mirrorShow k) := (mirrorShow_onRegs s k).spares (by decide)

theorem unitIdle_spares (s : State) (u : UnitName) : Spares s (s.unitIdle u) := (unitIdle_onRegs s u).spares (by decide)

theorem freeUnits_spares (s : State) (p : Job → Bool) : Spares s (s.freeUnits p) := (freeUnits_onRegs s p).spares (by decide)

theorem capacitySync_spares (s : State) : Spares s s.capacitySync := by
  unfold State.capacitySync
  exact (Spares.refl s).ite (((Spares.refl s).set _ 0 _).irq _ _ _ _)

theorem schBudgets_spares (s : State) : Spares s s.schBudgets := by
  unfold State.schBudgets
  refine (((Spares.refl s).foldl _ (fun u c => ?_) _).foldl _ (fun u k => ?_) _).set _ 0 _ |>.set _ 0 _
  · exact ((Spares.refl u).set _ c _).set _ c _
  · exact (((Spares.refl u).set _ k _).set _ k _).set _ k _

theorem schStream_spares (s : State) (e : Nat × Stream) : Spares s (s.schStream e) := by
  have h : ∀ a b c, Spares s ((((s.set .SS_DRAM_MBPS e.1 a).set .SS_DECIMATED e.1 b).set .SS_SHED e.1 c).mirrorSync e.1 e.2) :=
    fun a b c => ((((Spares.refl s).set _ _ a).set _ _ b).set _ _ c).trans
      ((mirrorSync_onRegs _ _ _).spares (by decide))
  unfold State.schStream
  dsimp only
  split
  · exact (h _ _ _).set _ _ _
  · split
    · exact (h _ _ _).set _ _ _
    · exact ((h _ _ _).set _ _ _).set _ _ _

theorem schSync_spares (s : State) : Spares s s.schSync := by
  rw [schSync_eq]
  exact ((schBudgets_spares s).trans (capacitySync_spares _)).foldl State.schStream schStream_spares _

theorem poolSync_spares (s : State) : Spares s s.poolSync := (poolSync_onRegs s).spares (by decide)

/-! ## Dropped frames and the recomputation of admission (R285, R291, R501 to R506) -/

theorem dropJobs_spares (s : State) (p : Job → Bool) : Spares s (s.dropJobs p) := .same rfl rfl rfl

theorem addJob_spares (s : State) (j : Job) : Spares s (s.addJob j) := .same rfl rfl rfl

theorem grantAct_spares (s : State) (k : Nat) : Spares s (s.grantAct k) := by
  unfold State.grantAct
  split
  · exact .refl s
  · exact modStream_spares s k _

theorem fluePassDue_spares (s : State) (k q : Nat) : Spares s (s.fluePassDue k q) := by
  unfold State.fluePassDue
  split
  · exact .refl s
  · exact (Spares.refl s).ite (addJob_spares s _)

theorem dropFrame_spares (s : State) (k q r : Nat) : Spares s (s.dropFrame k q r) :=
  ((((dropJobs_spares s _).trans (modStream_spares _ k _)).trans (grantAct_spares _ k)).trans (fluePassDue_spares _ k q)).trans
    (streamSync_spares _ k)

theorem dropBatch_spares (s : State) (k q r : Nat) : Spares s (s.dropBatch k q r) :=
  (dropFrame_spares s k q r).set .PP_LAST_DROP_FSEQ k q

theorem notDelivered_spares (s : State) (k q r : Nat) : Spares s (s.notDelivered k q r) :=
  (dropFrame_spares s k q r).set .CTX_FRAMES_DROPPED k _

theorem discardHeld_spares (s : State) (k r : Nat) : Spares s (s.discardHeld k r).1 := by
  cases h : s.stream? k with
  | none => simp only [State.discardHeld, h]; exact .refl s
  | some st =>
    rw [discardHeld_some h]
    refine (Spares.refl s).foldl _ (fun u p => ?_) _
    exact notDelivered_spares u k p.1 _

theorem abandonBuild_spares (s : State) (k : Nat) : Spares s (s.abandonBuild k).1 := by
  unfold State.abandonBuild
  split
  · exact .refl s
  · split
    · exact .refl s
    · next f _ => exact ((dropJobs_spares s _).trans (dropBatch_spares _ k f.fseq 0)).set .PP_ABANDONED k _

theorem streamChanged_spares (s : State) : Spares s s.streamChanged := (Spares.refl s).irq .SCH_IRQ .SCH_IRQ_EN 1 6

theorem stepChange_spares (s : State) (a b : Nat) : Spares s (s.stepChange a b) := by
  have h : Spares s { s with degradeQueue := s.degradeQueue ++ [(a, b)] } := .same rfl rfl rfl
  exact h.set .SCH_STEP_CHANGES 0 _

theorem shedStream_spares (s : State) (k step : Nat) : Spares s (s.shedStream k step) := by
  unfold State.shedStream
  dsimp only
  have h2 := (discardHeld_spares s k reasonShed).trans (abandonBuild_spares _ k)
  generalize ((s.discardHeld k reasonShed).1.abandonBuild k).1 = v at h2 ⊢
  refine Spares.trans (Spares.trans (Spares.trans ?_ (modStream_spares _ k _)) (streamChanged_spares _)) (streamSync_spares _ k)
  split
  · exact h2
  · refine h2.foldl _ (fun u f => ?_) _
    exact dropBatch_spares u k f.fseq 0

/-- A reduction joins those in force. -/
theorem addReduction_spares (s : State) (l : List (Nat × Nat)) : Spares s { s with degrade := l } := .same rfl rfl rfl

theorem reduce_spares {s t : State} (h : s.reduce = some t) : Spares s t := by
  unfold State.reduce at h
  split at h
  · obtain rfl := Option.some.inj h
    exact (addReduction_spares s _).trans (stepChange_spares _ 1 0)
  · split at h
    · obtain rfl := Option.some.inj h
      refine Spares.foldl ((addReduction_spares s _).trans (stepChange_spares _ 2 0)) _ (fun u e => ?_) _
      exact shedStream_spares u e.1 2
    · dsimp only at h
      split at h
      · obtain rfl := Option.some.inj h
        refine Spares.trans (Spares.trans (Spares.trans ?_ (addReduction_spares _ _)) (modStream_spares _ _ _)) (streamChanged_spares _)
        exact (stepChange_spares s 3 0).ite (.refl s)
      · split at h
        · obtain rfl := Option.some.inj h
          exact (addReduction_spares s _).trans (stepChange_spares _ 3 0)
        · split at h
          · cases h
          · obtain rfl := Option.some.inj h
            refine Spares.trans (Spares.trans ?_ (addReduction_spares _ _)) (shedStream_spares _ _ 4)
            exact (Spares.refl s).ite (stepChange_spares s 4 0)

theorem reduceN_spares (n : Nat) (s : State) : Spares s (reduceN n s) := by
  induction n generalizing s with
  | zero => exact .refl s
  | succ n ih =>
    unfold reduceN
    split
    · exact .refl s
    · split
      · exact .refl s
      · next t ht => exact (reduce_spares ht).trans (ih t)

theorem reduceAll_spares (s : State) : Spares s s.reduceAll := by
  unfold State.reduceAll
  dsimp only
  refine Spares.foldl ?_ _ (fun u e => ?_) _
  · split
    · exact .refl s
    · exact ((Spares.refl s).set _ 0 _).trans (reduceN_spares _ _)
  · refine Spares.trans (Spares.trans ?_ (addReduction_spares _ _)) (shedStream_spares _ e.1 4)
    exact (Spares.refl u).ite (stepChange_spares u 4 0)

theorem stepSync_spares (s : State) : Spares s s.stepSync := by
  unfold State.stepSync
  have h := (Spares.refl s).set .SCH_STEP 0 (s.degrade.foldl (fun m d => max m d.1) 0)
  exact (h.set .SCH_CAUSE 0 0x1F).ite h

theorem undoTest_spares (s : State) (b : Bool) : Spares s (s.undoTest b) := by
  have h : ∀ o a c, Spares s ((({ s with undoSince := o }).set .SCH_UNDO_PENDING 0 a).set .SCH_UNDO_TICKS 0 c) := by
    intro o a c
    have h0 : Spares s { s with undoSince := o } := .same rfl rfl rfl
    exact (h0.set .SCH_UNDO_PENDING 0 a).set .SCH_UNDO_TICKS 0 c
  unfold State.undoTest
  exact (h _ _ _).ite ((h _ _ _).ite (h _ _ _))

theorem reportStep_spares (s : State) : Spares s s.reportStep := by
  unfold State.reportStep
  split
  · exact .refl s
  · next rest _ =>
    have h0 : Spares s { s with degradeQueue := rest } := .same rfl rfl rfl
    exact (Spares.refl s).ite ((h0.irq .SCH_IRQ .SCH_IRQ_EN 0 6).capture _ _ _ _ _)

theorem recordStep_spares (s : State) : Spares s s.recordStep := by
  unfold State.recordStep
  split
  · exact .refl s
  · exact (Spares.refl s).ite ((Spares.refl s).capture _ _ _ _ _)

/-- A recomputation of the admission unit keeps what is raised (R291, R501). -/
theorem recompute_spares (s : State) : Spares s s.recompute := by
  unfold State.recompute
  refine (Spares.refl s).ite ?_
  have h : Spares s { s with lastAdmission := s.now } := .same rfl rfl rfl
  generalize ({ s with lastAdmission := s.now } : State) = u at h ⊢
  dsimp only
  split
  · exact h.trans (((((reduceAll_spares u).trans (stepSync_spares _)).trans (undoTest_spares _ _)).trans (reportStep_spares _)).trans
      (schSync_spares _))
  · exact (h.trans (recordStep_spares u)).trans (schSync_spares _)

end Sys2Proof.Machine
end

section
/-! Supplies, the voltage loop, the governor, the equaliser and ageing (R486 to R494). -/

namespace Sys2Proof.Machine

-- One theorem after the other, as in the tests: in parallel, proofs that wait for the kernel hold one thread with its own
-- stack each.
set_option Elab.async false

/-! ## Two's complement -/

theorem toSigned_ofSigned_eight {x : Int} (h1 : -128 ≤ x) (h2 : x ≤ 127) : Num.toSigned 8 (Num.ofSigned 8 x) = x := by
  simp only [Num.toSigned, Num.ofSigned]
  norm_num
  split <;> omega

theorem toSigned_eight_bounds (n : Nat) : -128 ≤ Num.toSigned 8 n ∧ Num.toSigned 8 n ≤ 127 := by
  simp only [Num.toSigned]
  norm_num
  split <;> omega

theorem toSigned_six {x : Int} (h1 : -31 ≤ x) (h2 : x ≤ 31) {n : Nat} (hn : n % 64 = Num.ofSigned 6 x) : Num.toSigned 6 n = x := by
  simp only [Num.toSigned, Num.ofSigned] at *
  norm_num at *
  split <;> omega

theorem ofSigned_six_lt (x : Int) : Num.ofSigned 6 x < 64 := by
  simp only [Num.ofSigned]
  norm_num
  omega

/-! ## Supply warnings (R489, R490) -/

theorem testBit_setBit_false (n i : Nat) : (Num.setBit n i false).testBit i = false := by
  cases h : n.testBit i with
  | false => simp [Num.setBit, h]
  | true =>
    rw [Nat.testBit_eq_decide_div_mod_eq, decide_eq_true_eq] at h
    have hp : 0 < 2 ^ i := Nat.two_pow_pos i
    have hd : (n - 2 ^ i) / 2 ^ i = n / 2 ^ i - 1 := by simpa using Nat.sub_mul_div n (2 ^ i) 1
    have hs : Num.setBit n i false = n - 2 ^ i := by simp [Num.setBit, Nat.testBit_eq_decide_div_mod_eq, h]
    rw [hs, Nat.testBit_eq_decide_div_mod_eq, hd]
    simp only [decide_eq_false_iff_not]
    omega

section Warning

variable {s : State}

/-- ACLK and the budgets at 400 MHz, the governor held. -/
def State.held400 (s : State) : State := ((s.set .HLT_GOV_HELD 0 1).set .HLT_ACLK_MHZ 0 400).set .SCH_ACLK_MHZ 0 400

/-- The warning state starts: ACLK and the budgets go to 400 MHz, with an interrupt (R489). -/
theorem warn_enters (h : s.warned = false) :
    KeepsRaised s.held400 s.warn ∧ s.warn.hlt.warnSince = none ∧ (s.warn.get .HLT_IRQ).testBit 1 = true := by
  have hw : ({ s with hlt.warnSince := none } : State).warned = false := h
  have he : s.warn = ((({ s with hlt.warnSince := none }.held400).irq .HLT_IRQ .HLT_IRQ_EN 0 1 4).targetSync.recompute).schSync := by
    rw [State.warn, hw]
    rfl
  rw [he]
  have h0 : KeepsRaised s.held400 ({ s with hlt.warnSince := none } : State).held400 := .same rfl rfl
  have hn : ({ s with hlt.warnSince := none } : State).held400.hlt.warnSince = none := rfl
  generalize ({ s with hlt.warnSince := none } : State).held400 = u at h0 hn ⊢
  have hi : Spares u (u.irq .HLT_IRQ .HLT_IRQ_EN 0 1 4) := (Spares.refl u).irq .HLT_IRQ .HLT_IRQ_EN 1 4
  have hb := irq_testBit u .HLT_IRQ .HLT_IRQ_EN 0 1 4 1 rfl
  generalize u.irq .HLT_IRQ .HLT_IRQ_EN 0 1 4 = v at hi hb ⊢
  have ht : KeepsRaised v v.targetSync := .same rfl rfl
  have hr : Spares v.targetSync v.targetSync.recompute.schSync := (recompute_spares _).trans (schSync_spares _)
  refine ⟨((h0.trans hi.toKeepsRaised).trans ht).trans hr.toKeepsRaised, ?_, ?_⟩
  · have hp := hr.parts
    have hq := hi.parts
    simp only [State.boardParts, Prod.mk.injEq] at hp hq
    obtain ⟨-, -, -, -, -, -, -, -, -, -, hp, -⟩ := hp
    obtain ⟨-, -, -, -, -, -, -, -, -, -, hq, -⟩ := hq
    rw [hp, State.targetSync, hq, hn]
  · exact (ht.trans hr.toKeepsRaised).bits .HLT_IRQ (by decide) 1 (by simp [hb])

/-- Where it already holds, only its end is put off. -/
theorem warn_held (h : s.warned = true) : s.warn = { s with hlt.warnSince := none } := by
  have hw : ({ s with hlt.warnSince := none } : State).warned = true := h
  rw [State.warn, hw]
  rfl

theorem held400_get {f : Field} (hf : f ∉ [Field.HLT_GOV_HELD, .HLT_ACLK_MHZ, .SCH_ACLK_MHZ]) (i : Nat) :
    s.held400.get f i = s.get f i := by
  simp only [List.mem_cons, List.not_mem_nil, or_false, not_or] at hf
  rw [State.held400, State.get_set_ne _ _ _ _ hf.2.2, State.get_set_ne _ _ _ _ hf.2.1, State.get_set_ne _ _ _ _ hf.1]

theorem warn_get (s : State) {f : Field} (hg : f ∈ guarded) (hf : f ∉ [Field.HLT_GOV_HELD, .HLT_ACLK_MHZ, .SCH_ACLK_MHZ]) (i : Nat) :
    s.warn.get f i = s.get f i := by
  cases h : s.warned with
  | false => rw [(warn_enters h).1.reg f hg i, held400_get hf]
  | true => rw [warn_held h]; rfl

theorem warn_eventsStay (s : State) : EventsStay s s.warn := by
  cases h : s.warned with
  | false =>
    have h0 : EventsStay s s.held400 := (((EventsStay.refl s).set .HLT_GOV_HELD 0 1).set .HLT_ACLK_MHZ 0 400).set .SCH_ACLK_MHZ 0 400
    exact h0.trans (warn_enters h).1.eventsStay
  | true =>
    rw [warn_held h]
    exact .same rfl rfl

theorem warn_warned (s : State) : s.warn.warned = true ∧ s.warn.hlt.warnSince = none := by
  cases h : s.warned with
  | false =>
    obtain ⟨hk, hw, -⟩ := warn_enters h
    have hr := hk.reg .HLT_GOV_HELD (by decide) 0
    have hh : s.held400.get .HLT_GOV_HELD = 1 := by
      rw [State.held400, State.get_set_ne _ _ _ _ (by decide), State.get_set_ne _ _ _ _ (by decide), State.get_set_self]
    exact ⟨by rw [State.warned, hr, hh]; rfl, hw⟩
  | true =>
    rw [warn_held h]
    exact ⟨h, rfl⟩

/-- What a rail or the AVSBus in warning records (R490). -/
def State.recordWarn (s : State) (rail : Nat) (avs : Bool) : State :=
  (if avs then s.set .HLT_AVS_FAULT 0 1 else s.set .HLT_WARN_RAILS 0 (s.get .HLT_WARN_RAILS ||| 2 ^ rail)).sat 32 .HLT_SUPPLY_WARNS

def recordFields (f : Field) : Bool := f == .HLT_AVS_FAULT || f == .HLT_WARN_RAILS || f == .HLT_SUPPLY_WARNS

theorem recordWarn_onRegs (s : State) (rail : Nat) (avs : Bool) : OnRegs recordFields s (s.recordWarn rail avs) := by
  unfold State.recordWarn
  refine OnRegs.set ?_ .HLT_SUPPLY_WARNS 0 _ rfl
  exact ((OnRegs.refl _ s).set .HLT_AVS_FAULT 0 1 rfl).ite ((OnRegs.refl _ s).set .HLT_WARN_RAILS 0 _ rfl)

theorem recordWarn_get (s : State) (rail : Nat) (avs : Bool) :
    (avs = true → (s.recordWarn rail avs).get .HLT_AVS_FAULT = 1) ∧
      (avs = false → ((s.recordWarn rail avs).get .HLT_WARN_RAILS).testBit rail = true) ∧
      (s.recordWarn rail avs).get .HLT_SUPPLY_WARNS = Num.satAdd 32 (s.get .HLT_SUPPLY_WARNS) 1 := by
  cases avs <;> simp [State.recordWarn, State.sat, State.get_set, Nat.testBit_or, Nat.testBit_two_pow_self]

theorem supplyWarn_eq (s : State) (rail mv : Nat) (avs : Bool) : s.supplyWarn rail mv avs =
    let u := ((s.inRank 6 rail).recordWarn rail avs).capture 6 rail (if avs then 0 else mv) 0 0
    if (s.inRank 6 rail).treatment 6 == .apply then u.warn else u := by
  cases avs <;> rfl

theorem recordWarn_rankView (s : State) (rail : Nat) (avs : Bool) : (s.recordWarn rail avs).rankView = s.rankView :=
  (recordWarn_onRegs s rail avs).rankView (by decide)

/-- A warning recorded: its registers, its event, and where it takes effect the warning state. -/
theorem supplyWarn_shows (s : State) (rail mv : Nat) (avs : Bool) :
    (avs = true → (s.supplyWarn rail mv avs).get .HLT_AVS_FAULT = 1) ∧
      (avs = false → ((s.supplyWarn rail mv avs).get .HLT_WARN_RAILS).testBit rail = true) ∧
      (s.supplyWarn rail mv avs).get .HLT_SUPPLY_WARNS = Num.satAdd 32 (s.get .HLT_SUPPLY_WARNS) 1 ∧
      Raised s (s.supplyWarn rail mv avs) 6 rail (if avs then 0 else mv) 0 0 ∧
      ((s.inRank 6 rail).treatment 6 = .apply →
        (s.supplyWarn rail mv avs).warned = true ∧ (s.supplyWarn rail mv avs).hlt.warnSince = none ∧
          (s.warned = false → (s.supplyWarn rail mv avs).get .HLT_ACLK_MHZ = 400 ∧ (s.supplyWarn rail mv avs).get .SCH_ACLK_MHZ = 400 ∧
            ((s.supplyWarn rail mv avs).get .HLT_IRQ).testBit 1 = true)) := by
  rw [supplyWarn_eq]
  dsimp only
  obtain ⟨ha, hb, hc⟩ := recordWarn_get (s.inRank 6 rail) rail avs
  rw [inRank_get s 6 rail 0 rfl] at hc
  have hr := raised_capture (s := s) (recordWarn_rankView (s.inRank 6 rail) rail avs) (c := 6) (by decide) (if avs then 0 else mv) 0 0
  have hk := (Spares.refl ((s.inRank 6 rail).recordWarn rail avs)).capture 6 rail (if avs then 0 else mv) 0 0
  have hg : ((s.inRank 6 rail).recordWarn rail avs).get .HLT_GOV_HELD = s.get .HLT_GOV_HELD := by
    rw [(recordWarn_onRegs _ rail avs).keeps.1 _ _ rfl, inRank_get s 6 rail 0 rfl]
  generalize (s.inRank 6 rail).recordWarn rail avs = v at *
  generalize v.capture 6 rail (if avs then 0 else mv) 0 0 = u at *
  rw [← hk.reg _ (by decide)] at ha hb hc hg
  by_cases ht : (s.inRank 6 rail).treatment 6 = .apply
  · simp only [ht, beq_self_eq_true, if_true, forall_const]
    have hw : ∀ {f}, f ∈ guarded → f ∉ [Field.HLT_GOV_HELD, .HLT_ACLK_MHZ, .SCH_ACLK_MHZ] → u.warn.get f = u.get f :=
      fun h1 h2 => warn_get u h1 h2 0
    obtain ⟨h1, h2⟩ := warn_warned u
    refine ⟨?_, ?_, ?_, hr.stays (by decide) (warn_eventsStay u), h1, h2, fun hn => ?_⟩
    · rwa [hw (by decide) (by decide)]
    · rwa [hw (by decide) (by decide)]
    · rwa [hw (by decide) (by decide)]
    · have hn : u.warned = false := by rw [State.warned, hg]; exact hn
      obtain ⟨h3, -, h5⟩ := warn_enters hn
      exact ⟨by rw [h3.reg _ (by decide)]; simp [State.held400, State.get_set],
        by rw [h3.reg _ (by decide)]; simp [State.held400], h5⟩
  · simp only [ht, beq_iff_eq, if_false, false_implies, and_true]
    exact ⟨ha, hb, hc, hr⟩

theorem supplyWarn_runs {rail mv : Nat} {avs : Bool} (hr : rail < 5) (ho : s.avsOn = true) (hw : s.wdgResetNow = false ∨ s.isReady = true)
    (ha : avs = true → rail = 0 ∧ s.get .HLT_AVS_FAULT = 0)
    (hb : avs = false → (s.get .HLT_WARN_RAILS).testBit rail = false ∧ s.outOfBand rail mv = true) :
    exec (.supplyWarn rail mv avs) s = .next (settle (s.supplyWarn rail mv avs)) := by
  change execSupplyWarn rail mv avs s = _
  have hn : ¬(s.wdgResetNow && !s.isReady) = true := by rcases hw with h | h <;> simp [h]
  rw [execSupplyWarn, if_neg (by omega), if_neg hn]
  cases avs with
  | true =>
    obtain ⟨rfl, h⟩ := ha rfl
    rw [if_pos rfl, ho, h]
    rfl
  | false =>
    obtain ⟨h1, h2⟩ := hb rfl
    rw [if_neg (by decide), ho, h1, h2]
    rfl

/-- The registers of a rail, and with rail 0 of the AVSBus, that leaves warning. -/
def State.railDown (s : State) (rail : Nat) : State :=
  let s := s.set .HLT_WARN_RAILS 0 (Num.setBit (s.get .HLT_WARN_RAILS) rail false)
  if rail == 0 then s.set .HLT_AVS_FAULT 0 0 else s

theorem railClear_eq (s : State) (rail : Nat) : s.railClear rail =
    if (s.railDown rail).get .HLT_WARN_RAILS == 0 && (s.railDown rail).get .HLT_AVS_FAULT == 0 then
      { s.railDown rail with hlt.warnSince := some (s.railDown rail).now }
    else s.railDown rail := rfl

theorem railDown_get (s : State) (rail : Nat) : (s.railDown rail).get .HLT_WARN_RAILS = Num.setBit (s.get .HLT_WARN_RAILS) rail false ∧
    (rail = 0 → (s.railDown rail).get .HLT_AVS_FAULT = 0) ∧ (s.railDown rail).now = s.now := by
  by_cases h : rail = 0 <;> simp [State.railDown, h, State.get_set, State.now]

/-- A rail leaves warning; with none left the time to the end of the warning state starts (R490). -/
theorem railClear_shows (s : State) (rail : Nat) :
    ((s.railClear rail).get .HLT_WARN_RAILS).testBit rail = false ∧ (rail = 0 → (s.railClear rail).get .HLT_AVS_FAULT = 0) ∧
      ((s.railClear rail).get .HLT_WARN_RAILS = 0 → (s.railClear rail).get .HLT_AVS_FAULT = 0 →
        (s.railClear rail).hlt.warnSince = some s.now) := by
  obtain ⟨hw, ha, hn⟩ := railDown_get s rail
  have hg : ∀ f, (s.railClear rail).get f = (s.railDown rail).get f := by
    intro f
    rw [railClear_eq]
    split <;> rfl
  simp only [hg]
  refine ⟨by rw [hw]; exact testBit_setBit_false _ _, ha, fun h1 h2 => ?_⟩
  rw [railClear_eq, h1, h2, ← hn]
  rfl

/-- The end of the warning state, before the governor runs. -/
def State.unwarned (s : State) : State := (({ s with hlt.warnSince := none }.set .HLT_GOV_HELD 0 0).set .SCH_ACLK_MHZ 0 1250)

theorem unwarned_get (s : State) : s.unwarned.get .HLT_GOV_HELD = 0 ∧ s.unwarned.get .SCH_ACLK_MHZ = 1250 ∧ s.unwarned.hlt.warnSince = none := by
  simp [State.unwarned, State.get_set]

theorem warnClear_eq (s : State) : s.warnClear = ((s.unwarned.irq .HLT_IRQ .HLT_IRQ_EN 0 1 4).recompute.schSync).govern := rfl

/-- The governor's target is `f`, and ACLK runs at `a`. -/
def State.governed (s : State) (f a : Nat) : State :=
  (({ s with hlt.govLast := s.now }.set .HLT_GOV_TARGET 0 f).set .HLT_ACLK_MHZ 0 a).targetSync

theorem govern_eq (s : State) :
    s.govern = s.governed s.govTarget (if s.warned then 400 else if s.get .HLT_GOV_MODE == 1 then 1250 else s.govTarget) := rfl

theorem governed_keeps (s : State) (x a : Nat) : (s.governed x a).hlt.warnSince = s.hlt.warnSince ∧
    ∀ f, f ≠ .HLT_GOV_TARGET → f ≠ .HLT_ACLK_MHZ → (s.governed x a).get f = s.get f :=
  ⟨rfl, fun _ h1 h2 => (State.get_set_ne _ _ _ _ h2).trans (State.get_set_ne _ _ _ _ h1)⟩

theorem governed_shows (s : State) (x a : Nat) : (s.governed x a).get .HLT_GOV_TARGET = x ∧ (s.governed x a).get .HLT_ACLK_MHZ = a ∧
    RegsBut (fun f => f == .HLT_GOV_TARGET || f == .HLT_ACLK_MHZ) 0 s (s.governed x a) :=
  ⟨(State.get_set_ne _ _ _ _ (by decide)).trans (State.get_set_self _ _ _ _), State.get_set_self _ _ _ _,
    ((RegsBut.refl _ 0 s).set .HLT_GOV_TARGET x rfl).set .HLT_ACLK_MHZ a rfl⟩

/-- The end of the warning state lets ACLK and the budgets go, with an interrupt (R489). -/
theorem warnClear_shows (s : State) : s.warnClear.warned = false ∧ s.warnClear.get .SCH_ACLK_MHZ = 1250 ∧
    s.warnClear.hlt.warnSince = none ∧ (s.warnClear.get .HLT_IRQ).testBit 1 = true := by
  rw [warnClear_eq]
  obtain ⟨h1, h2, h3⟩ := unwarned_get s
  generalize s.unwarned = u at *
  have hk : Spares (u.irq .HLT_IRQ .HLT_IRQ_EN 0 1 4) (u.irq .HLT_IRQ .HLT_IRQ_EN 0 1 4).recompute.schSync :=
    (recompute_spares _).trans (schSync_spares _)
  have hb := hk.bits .HLT_IRQ (by decide) 1 (by rw [irq_testBit _ _ _ _ _ _ _ rfl]; simp)
  have hu := ((Spares.refl u).irq .HLT_IRQ .HLT_IRQ_EN 1 4).trans hk
  generalize (u.irq .HLT_IRQ .HLT_IRQ_EN 0 1 4).recompute.schSync = v at *
  rw [govern_eq]
  obtain ⟨hw, hr⟩ := governed_keeps v v.govTarget (if v.warned then 400 else if v.get .HLT_GOV_MODE == 1 then 1250 else v.govTarget)
  have hp := hu.parts
  simp only [State.boardParts, Prod.mk.injEq] at hp
  obtain ⟨-, -, -, -, -, -, -, -, -, -, hp, -⟩ := hp
  refine ⟨?_, ?_, by rw [hw, hp, h3], by rwa [hr _ (by decide) (by decide)]⟩
  · rw [State.warned, hr _ (by decide) (by decide), hu.reg _ (by decide), h1]
    rfl
  · rw [hr _ (by decide) (by decide), hu.reg _ (by decide), h2]

/-! ## The voltage loop and the governor (R486, R488, R492) -/

theorem moveOffset_offset {d : Int} (h1 : -128 ≤ Num.toSigned 8 (s.get .HLT_OFFSET) + d) (h2 : Num.toSigned 8 (s.get .HLT_OFFSET) + d ≤ 127) :
    Num.toSigned 8 ((s.moveOffset d).get .HLT_OFFSET) = Num.toSigned 8 (s.get .HLT_OFFSET) + d := by
  have h : (s.moveOffset d).get .HLT_OFFSET = Num.ofSigned 8 (Num.toSigned 8 (s.get .HLT_OFFSET) + d) := State.get_set_self _ _ _ _
  rw [h, toSigned_ofSigned_eight h1 h2]

theorem moveOffset_regs (s : State) (d : Int) : RegsBut (· == .HLT_OFFSET) 0 s (s.moveOffset d) := (RegsBut.refl _ 0 s).set .HLT_OFFSET _ rfl

/-- The readings an interval's end reports (R492). -/
def State.readings (s : State) (margin : Nat) (die dram : Int) : State :=
  (((s.set .HLT_VCORE_MV 0 s.hlt.vMax).set .HLT_CPM_MARGIN 0 margin).set .HLT_DIE_TEMP 0 (Num.ofSigned 8 die)).set .HLT_DRAM_TEMP 0
    (Num.ofSigned 8 dram)

theorem readings_get (s : State) (margin : Nat) (die dram : Int) : (s.readings margin die dram).get .HLT_VCORE_MV = s.hlt.vMax ∧
    (s.readings margin die dram).get .HLT_CPM_MARGIN = margin ∧ (s.readings margin die dram).get .HLT_DIE_TEMP = Num.ofSigned 8 die ∧
    (s.readings margin die dram).get .HLT_DRAM_TEMP = Num.ofSigned 8 dram ∧
    (s.readings margin die dram).get .HLT_OFFSET = s.get .HLT_OFFSET ∧ (s.readings margin die dram).warned = s.warned ∧
    (s.readings margin die dram).now = s.now := by
  simp [State.readings, State.get_set, State.warned, State.now]

/-- The readings, and OFFSET a step down where the margin allows one (R486). -/
def State.loopDown (s : State) (margin : Nat) (die dram : Int) : State :=
  if decide (12 < margin) && !(s.readings margin die dram).warned &&
      decide (-10 < Num.toSigned 8 ((s.readings margin die dram).get .HLT_OFFSET)) then (s.readings margin die dram).moveOffset (-1)
  else s.readings margin die dram

/-- The end of an interval reports, and lowers OFFSET by a step with margin to spare (R486, R492). -/
theorem intervalEnd_shows (s : State) (margin : Nat) {die dram : Int} (h1 : s8 die = true) (h2 : s8 dram = true) :
    let t := s.intervalEnd margin die dram
    t.get .HLT_VCORE_MV = s.hlt.vMax ∧ t.get .HLT_CPM_MARGIN = margin ∧ Num.toSigned 8 (t.get .HLT_DIE_TEMP) = die ∧
      Num.toSigned 8 (t.get .HLT_DRAM_TEMP) = dram ∧ t.hlt.start = s.now ∧
      (margin ≤ 12 ∨ s.warned = true → t.get .HLT_OFFSET = s.get .HLT_OFFSET) ∧
      (12 < margin → s.warned = false → -10 < Num.toSigned 8 (s.get .HLT_OFFSET) →
        Num.toSigned 8 (t.get .HLT_OFFSET) = Num.toSigned 8 (s.get .HLT_OFFSET) - 1) := by
  intro t
  simp only [s8, Bool.and_eq_true, decide_eq_true_eq] at h1 h2
  obtain ⟨hv, hm, hd, hr, ho, hw, hn⟩ := readings_get s margin die dram
  have hg : ∀ f, t.get f = (s.loopDown margin die dram).get f := fun f => rfl
  have hs : t.hlt.start = (s.loopDown margin die dram).now := rfl
  have hk : RegsBut (· == .HLT_OFFSET) 0 (s.readings margin die dram) (s.loopDown margin die dram) := by
    unfold State.loopDown
    split
    · exact moveOffset_regs _ _
    · exact .refl _ _ _
  have hl : ∀ f, settleFields f = false → (f == .HLT_OFFSET) = false → t.get f = (s.readings margin die dram).get f :=
    fun f a b => (hg f).trans (hk f 0 a (.inl b))
  refine ⟨(hl _ rfl rfl).trans hv, (hl _ rfl rfl).trans hm, ?_, ?_, ?_, fun h => ?_, fun ha hb hc => ?_⟩
  · rw [hl _ rfl rfl, hd, toSigned_ofSigned_eight h1.1 h1.2]
  · rw [hl _ rfl rfl, hr, toSigned_ofSigned_eight h2.1 h2.2]
  · exact hs.trans ((hk .EVU_TICK_NOW 0 rfl (.inl rfl)).trans hn)
  · rw [hg, State.loopDown, hw, if_neg (by rcases h with h | h <;> simp [h]), ho]
  · have hx : (s.loopDown margin die dram) = (s.readings margin die dram).moveOffset (-1) := by
      rw [State.loopDown, hw, ho, if_pos (by simp [ha, hb, hc])]
    have hbnd := toSigned_eight_bounds (s.get .HLT_OFFSET)
    rw [hg, hx, moveOffset_offset (by rw [ho]; omega) (by rw [ho]; omega), ho, Int.sub_eq_add_neg]

theorem govTarget_bounds (s : State) : 400 ≤ s.govTarget ∧ s.govTarget ≤ 1250 ∧ s.govTarget % 25 = 0 := by
  unfold State.govTarget
  dsimp only
  generalize Num.cdiv _ 25 = c
  omega

/-- The governor recomputes its target, which ACLK follows but in a warning and where it is fixed (R488). -/
theorem govern_shows (s : State) : s.govern.get .HLT_GOV_TARGET = s.govTarget ∧
    s.govern.get .HLT_ACLK_MHZ = (if s.warned then 400 else if s.get .HLT_GOV_MODE = 1 then 1250 else s.govTarget) ∧
    RegsBut (fun f => f == .HLT_GOV_TARGET || f == .HLT_ACLK_MHZ) 0 s s.govern := by
  rw [govern_eq]
  simp only [beq_iff_eq]
  exact governed_shows s _ _

end Warning

/-! ## The equaliser (R491) -/

section Equaliser

variable {s : State} {lane : Nat}

/-- The step of tap `n`, in its register's encoding. -/
def State.movedTap (s : State) (lane : Nat) (steps : List Int) (n : Nat) : Nat := Num.ofSigned 6 (s.tap lane n + steps.getD (n + 1) 0)

/-- The four taps of a TAPS register. -/
def packTaps (a b c d : Nat) : Nat := a + 64 * b + 4096 * c + 262144 * d

theorem packTaps_digit {a b c d : Nat} (ha : a < 64) (hb : b < 64) (hc : c < 64) :
    packTaps a b c d / 2 ^ (6 * 0) % 64 = a ∧ packTaps a b c d / 2 ^ (6 * 1) % 64 = b ∧ packTaps a b c d / 2 ^ (6 * 2) % 64 = c ∧
      packTaps a b c d / 2 ^ (6 * 3) % 64 = d % 64 := by
  unfold packTaps
  norm_num
  omega

theorem eqAdapt_get (s : State) (lane : Nat) (steps : List Int) :
    (s.eqAdapt lane steps).get .WEQ_CTLE lane = ((s.get .WEQ_CTLE lane : Int) + steps.getD 0 0).toNat ∧
      (s.eqAdapt lane steps).get .WEQ_TAPS lane = packTaps (s.movedTap lane steps 0) (s.movedTap lane steps 1) (s.movedTap lane steps 2)
        (s.movedTap lane steps 3) ∧
      (s.eqAdapt lane steps).get .WEQ_TAP5 lane = s.movedTap lane steps 4 :=
  ⟨(State.get_set_ne _ _ _ _ (by decide)).trans ((State.get_set_ne _ _ _ _ (by decide)).trans (State.get_set_self _ _ _ _)),
    (State.get_set_ne _ _ _ _ (by decide)).trans (State.get_set_self _ _ _ _), State.get_set_self _ _ _ _⟩

theorem tap_four (s : State) (lane : Nat) : s.tap lane 4 = Num.toSigned 6 (s.get .WEQ_TAP5 lane) := rfl

theorem tap_below_four (s : State) (lane : Nat) {n : Nat} (h : n < 4) : s.tap lane n = Num.toSigned 6 (s.get .WEQ_TAPS lane / 2 ^ (6 * n)) := by
  have h4 : n ≠ 4 := by omega
  simp [State.tap, h4]

/-- Each tap moves by its step (R491). -/
theorem eqAdapt_tap {steps : List Int} (h : ∀ n, n < 5 → -31 ≤ s.tap lane n + steps.getD (n + 1) 0 ∧ s.tap lane n + steps.getD (n + 1) 0 ≤ 31)
    {n : Nat} (hn : n < 5) : (s.eqAdapt lane steps).tap lane n = s.tap lane n + steps.getD (n + 1) 0 := by
  obtain ⟨-, ht, h5⟩ := eqAdapt_get s lane steps
  have hlt : ∀ k, s.movedTap lane steps k < 64 := fun k => ofSigned_six_lt _
  have hs : ∀ m, m % 64 = s.movedTap lane steps n → Num.toSigned 6 m = s.tap lane n + steps.getD (n + 1) 0 :=
    fun m hm => toSigned_six (h n hn).1 (h n hn).2 hm
  rcases Nat.lt_succ_iff_lt_or_eq.mp hn with h4 | rfl
  · obtain ⟨d0, d1, d2, d3⟩ := packTaps_digit (d := s.movedTap lane steps 3) (hlt 0) (hlt 1) (hlt 2)
    rw [Nat.mod_eq_of_lt (hlt 3)] at d3
    rw [tap_below_four _ _ h4, ht]
    refine hs _ ?_
    interval_cases n
    · exact d0
    · exact d1
    · exact d2
    · exact d3
  · rw [tap_four, h5]
    exact hs _ (Nat.mod_eq_of_lt (hlt 4))

theorem eqAdapt_keeps (s : State) (lane : Nat) (steps : List Int) :
    KeepsBlock (fun f => f == .WEQ_CTLE || f == .WEQ_TAPS || f == .WEQ_TAP5) lane s (s.eqAdapt lane steps) :=
  (((KeepsBlock.refl _ lane s).set .WEQ_CTLE _ rfl).set .WEQ_TAPS _ rfl).set .WEQ_TAP5 _ rfl

theorem laneUsed_lt (h : s.laneUsed lane = true) : lane < 2 := by
  simp only [State.laneUsed, Bool.and_eq_true, decide_eq_true_eq] at h
  exact h.1

theorem wrenEqAdapt_runs {steps : List Int} (hd : s.inData = true) (hl : s.laneUsed lane = true) (ht : Tab.getD 0 lane s.hlt.eqNext ≤ s.now)
    (hn : steps.length = 6) (h1 : ∀ d ∈ steps, -1 ≤ d ∧ d ≤ 1) (h2 : 0 ≤ (s.get .WEQ_CTLE lane : Int) + steps.getD 0 0)
    (h3 : (s.get .WEQ_CTLE lane : Int) + steps.getD 0 0 ≤ 15)
    (h4 : ∀ n, n < 5 → -31 ≤ s.tap lane n + steps.getD (n + 1) 0 ∧ s.tap lane n + steps.getD (n + 1) 0 ≤ 31) :
    exec (.wrenEqAdapt lane steps) s =
      .next (settle ({ s with hlt.eqNext := Tab.put lane (s.now + 1024) s.hlt.eqNext }.eqAdapt lane steps)) := by
  change execWrenEqAdapt lane steps s = _
  have ha : (steps.all fun d => decide (-1 ≤ d) && decide (d ≤ 1)) = true := by simpa [List.all_eq_true] using h1
  have hr : ((List.range 5).all fun n => decide (-31 ≤ s.tap lane n + steps.getD (n + 1) 0) &&
      decide (s.tap lane n + steps.getD (n + 1) 0 ≤ 31)) = true := by
    simpa only [List.all_eq_true, List.mem_range, Bool.and_eq_true, decide_eq_true_eq] using h4
  have hlt := laneUsed_lt hl
  rw [execWrenEqAdapt, if_neg (by omega), hd, hl, ha, hr, hn, decide_eq_true h2, decide_eq_true h3, decide_eq_true ht]
  rfl

/-- The measurement of a lane's eye (R491). -/
def State.measured (s : State) (lane h w : Nat) : State :=
  ({ s with hlt.eyeMin := Tab.put lane (min h (Tab.getD h lane s.hlt.eyeMin)) s.hlt.eyeMin,
            hlt.eyeNext := Tab.put lane (s.now + 65536) s.hlt.eyeNext }.set .WEQ_EYE_H lane h).set .WEQ_EYE_W lane w

theorem wrenEyeMeasure_runs {h w : Nat} (hd : s.inData = true) (hl : s.laneUsed lane = true) (ht : Tab.getD 0 lane s.hlt.eyeNext ≤ s.now)
    (hh : h < 256) (hw : w < 256) : exec (.wrenEyeMeasure lane h w) s = .next (settle (s.measured lane h w)) := by
  change execWrenEyeMeasure lane h w s = _
  have hlt := laneUsed_lt hl
  rw [execWrenEyeMeasure, if_neg (by omega), hd, hl, decide_eq_true ht, decide_eq_true hh, decide_eq_true hw]
  rfl

theorem measured_shows (s : State) (lane h w : Nat) : (s.measured lane h w).get .WEQ_EYE_H lane = h ∧
    (s.measured lane h w).get .WEQ_EYE_W lane = w ∧ Tab.getD 0 lane (s.measured lane h w).hlt.eyeNext = s.now + 65536 ∧
    RegsBut (fun f => f == .WEQ_EYE_H || f == .WEQ_EYE_W) lane s (s.measured lane h w) := by
  refine ⟨(State.get_set_ne _ _ _ _ (by decide)).trans (State.get_set_self _ _ _ _), State.get_set_self _ _ _ _, ?_, ?_⟩
  · simp [State.measured, Tab.getD]
  · exact ((RegsBut.refl _ lane s).set .WEQ_EYE_H h rfl).set .WEQ_EYE_W w rfl

end Equaliser

/-! ## Ageing (R493, R494) -/

section Ageing

/-- The newest value of indicator `i`'s history. -/
def State.newest (s : State) (i : Nat) : Nat := ((s.history i).head?.map Prod.snd).getD 0

theorem indicatorSync_get (s : State) (i j : Nat) :
    (s.indicatorSync i).get .IND_VALUE j = (if j = i then s.newest i else s.get .IND_VALUE j) ∧
      (s.indicatorSync i).get .IND_LIMIT j = (if j = i then indLimit i else s.get .IND_LIMIT j) := by
  by_cases h : j = i
  · subst h
    simp [State.indicatorSync, State.draw, State.get_set, State.newest]
  · simp [State.indicatorSync, State.draw, State.get_set, h]

theorem foldl_indicatorSync_hlt (l : List Nat) (s : State) : (l.foldl (fun s i => s.indicatorSync i) s).hlt = s.hlt := by
  induction l generalizing s with
  | nil => rfl
  | cons i l ih => exact ih _

theorem foldl_indicatorSync_get (l : List Nat) (s : State) (j : Nat) :
    (l.foldl (fun s i => s.indicatorSync i) s).get .IND_VALUE j = (if j ∈ l then s.newest j else s.get .IND_VALUE j) ∧
      (l.foldl (fun s i => s.indicatorSync i) s).get .IND_LIMIT j = (if j ∈ l then indLimit j else s.get .IND_LIMIT j) := by
  induction l generalizing s with
  | nil => simp
  | cons i l ih =>
    obtain ⟨h1, h2⟩ := indicatorSync_get s i j
    have hn : (s.indicatorSync i).newest j = s.newest j := rfl
    rw [List.foldl_cons, (ih _).1, (ih _).2, h1, h2, hn]
    by_cases hi : j = i
    · subst hi
      simp
    · simp [hi]

theorem foldl_min_le (f : Nat → Nat) (l : List Nat) (m : Nat) :
    l.foldl (fun m i => min m (f i)) m ≤ m ∧ ∀ i ∈ l, l.foldl (fun m i => min m (f i)) m ≤ f i := by
  induction l generalizing m with
  | nil => simp
  | cons a l ih =>
    obtain ⟨h1, h2⟩ := ih (min m (f a))
    refine ⟨h1.trans (min_le_left _ _), fun i hi => ?_⟩
    rcases List.mem_cons.mp hi with rfl | hi
    · exact h1.trans (min_le_right _ _)
    · exact h2 i hi

def eolFields (f : Field) : Bool := linkCounts f || f == .HLT_EOL_DAYS || f == .HLT_LIMITER || f == .HLT_EOL_CONF || f == .HLT_IRQ

/-- The least DAYS of the ten indicators. -/
def State.leastDays (s : State) : Nat := (List.range 10).foldl (fun m i => min m (s.get .IND_DAYS i)) 65535

/-- EOL_DAYS, LIMITER and EOL_CONF, with the alarm's interrupt where `p` holds. -/
theorem eolRegs_shows (s : State) (m l c : Nat) (p : Prop) [Decidable p] :
    let u := ((s.set .HLT_EOL_DAYS 0 m).set .HLT_LIMITER 0 l).set .HLT_EOL_CONF 0 c
    OnRegs eolFields s (if p then u.irq .HLT_IRQ .HLT_IRQ_EN 0 0 4 else u) ∧
      (if p then u.irq .HLT_IRQ .HLT_IRQ_EN 0 0 4 else u).get .HLT_EOL_DAYS = m := by
  intro u
  have hu : OnRegs eolFields s u := (((OnRegs.refl _ s).set .HLT_EOL_DAYS 0 m rfl).set .HLT_LIMITER 0 l rfl).set .HLT_EOL_CONF 0 c rfl
  have hm : u.get .HLT_EOL_DAYS = m := by simp [u, State.get_set]
  refine ⟨(hu.irq .HLT_IRQ .HLT_IRQ_EN 0 0 4 (fun f h => by simp [eolFields, h]) rfl).ite hu, ?_⟩
  split
  · rw [irq_get_ne _ _ _ _ _ _ _ rfl (by decide), hm]
  · exact hm

theorem eolSync_shows (s : State) : OnRegs eolFields s s.eolSync ∧ s.eolSync.get .HLT_EOL_DAYS = s.leastDays := by
  unfold State.eolSync
  exact eolRegs_shows s _ _ _ _

/-- The state when a sample has joined the history. -/
def State.aged (s : State) (osc : List Nat) (ce : Nat) : State :=
  { s with hlt.ageing := ((s.now, s.sampleValues osc ce) :: s.hlt.ageing).take 720, hlt.eyeMin := [],
           hlt.ageNext := s.hlt.ageNext + ageTicks }

theorem ageSample_eq (s : State) (osc : List Nat) (ce : Nat) :
    s.ageSample osc ce = ((List.range 10).foldl (fun s i => s.indicatorSync i) (s.aged osc ce)).eolSync := rfl

theorem aged_newest (s : State) (osc : List Nat) (ce i : Nat) : (s.aged osc ce).newest i = (s.sampleValues osc ce).getD i 0 := by
  simp [State.newest, State.history, State.aged]

/-- A sample shows its ten values (R493). -/
theorem ageSample_shows (s : State) (osc : List Nat) (ce : Nat) : (s.ageSample osc ce).hlt = (s.aged osc ce).hlt ∧
    ∀ i, i < 10 → (s.ageSample osc ce).get .IND_VALUE i = (s.sampleValues osc ce).getD i 0 ∧
      (s.ageSample osc ce).get .IND_LIMIT i = indLimit i ∧ (s.ageSample osc ce).get .HLT_EOL_DAYS ≤ (s.ageSample osc ce).get .IND_DAYS i := by
  rw [ageSample_eq]
  have hg := foldl_indicatorSync_get (List.range 10) (s.aged osc ce)
  have hh := foldl_indicatorSync_hlt (List.range 10) (s.aged osc ce)
  generalize (List.range 10).foldl (fun s i => s.indicatorSync i) (s.aged osc ce) = u at hg hh ⊢
  obtain ⟨hk, hm⟩ := eolSync_shows u
  refine ⟨hk.keeps.hlt.trans hh, fun i hi => ?_⟩
  obtain ⟨h1, h2⟩ := hg i
  rw [if_pos (List.mem_range.mpr hi)] at h1 h2
  refine ⟨(hk.keeps.1 _ i rfl).trans (h1.trans (aged_newest s osc ce i)), (hk.keeps.1 _ i rfl).trans h2, ?_⟩
  rw [hm, hk.keeps.1 _ i rfl]
  exact (foldl_min_le _ _ _).2 i (List.mem_range.mpr hi)

end Ageing

theorem settle_tap (s : State) (lane n : Nat) : (settle s).tap lane n = s.tap lane n := by
  unfold State.tap
  simp (disch := decide) only [settle_get]

theorem settle_warned (s : State) : (settle s).warned = s.warned := by
  unfold State.warned
  simp (disch := decide) only [settle_get]

/-- Settles O45: the warning state by what the budgets' recomputation spares, the rest from each event's registers. -/
theorem supplyAndAgeingComplete : Obligations.SupplyAndAgeingComplete := by
  unfold Obligations.SupplyAndAgeingComplete
  refine ⟨fun s => ⟨fun rail mv avs hr ho hw ha hb => ?_, fun rail hr hb => ?_, fun t0 h0 hw ht => ?_, fun margin ho hw hm ht hx => ?_,
    fun margin die dram hd hs hm h1 h2 => ?_, fun he => ?_⟩, fun s => ⟨fun lane steps hd hl hn hlen h1 h2 h3 h4 => ?_,
    fun lane h w hd hl ht hh hw => ?_, fun osc ce hr hp ht hl hn => ?_⟩⟩
  · refine ⟨_, supplyWarn_runs hr ho hw ha hb, ?_⟩
    obtain ⟨h1, h2, h3, h4, h5⟩ := supplyWarn_shows s rail mv avs
    simp (disch := decide) only [settle_warned, settle_get, settle_hlt]
    exact ⟨h1, h2, h3, h4.stays (by decide) (settle_spares _).eventsStay, h5⟩
  · refine ⟨settle (s.railClear rail), ?_, ?_⟩
    · change execSupplyRailClear rail s = _
      rw [execSupplyRailClear, if_neg (by omega)]
      rcases hb with h | ⟨rfl, h⟩ <;> simp [h]
    · simp (disch := decide) only [settle_get, settle_hlt]
      exact railClear_shows s rail
  · refine ⟨settle s.warnClear, ?_, ?_⟩
    · change execWarningStateClear s = _
      rw [execWarningStateClear, h0]
      simp [hw, ht]
    · simp (disch := decide) only [settle_warned, settle_get, settle_hlt]
      exact warnClear_shows s
  · refine ⟨settle { s.moveOffset 1 with hlt.avsLast := s.now }, ?_, ?_⟩
    · change execAvsOffsetRaise margin s = _
      simp [execAvsOffsetRaise, ho, hw, hm, ht, hx]
    · have hb := toSigned_eight_bounds (s.get .HLT_OFFSET)
      have hg : ∀ f i, ({ s.moveOffset 1 with hlt.avsLast := s.now } : State).get f i = (s.moveOffset 1).get f i := fun f i =>
        State.get_congr rfl f i
      simp (disch := decide) only [settle_get, settle_hlt, hg, true_and]
      exact ⟨moveOffset_offset (by omega) (by omega), RegsBut.settle fun f j hf h => (hg f j).trans (moveOffset_regs s 1 f j hf h)⟩
  · refine ⟨settle (s.intervalEnd margin die dram), ?_, ?_⟩
    · change execHltIntervalEnd margin die dram s = _
      simp [execHltIntervalEnd, hd, hs, hm, h1, h2]
    · simp (disch := decide) only [settle_get, settle_hlt]
      exact intervalEnd_shows s margin h1 h2
  · refine ⟨settle s.govern, ?_, ?_⟩
    · change execGovernorRecompute s = _
      simp [execGovernorRecompute, he]
    · obtain ⟨h1, h2, h3⟩ := govern_shows s
      obtain ⟨b1, b2, b3⟩ := govTarget_bounds s
      simp (disch := decide) only [settle_get, h1, h2, true_and]
      exact ⟨b1, b2, b3, h3.settle⟩
  · refine ⟨_, wrenEqAdapt_runs hd hl hn hlen h1 h2 h3 h4, ?_⟩
    obtain ⟨hc, -, -⟩ := eqAdapt_get { s with hlt.eqNext := Tab.put lane (s.now + 1024) s.hlt.eqNext } lane steps
    have hk := (eqAdapt_keeps { s with hlt.eqNext := Tab.put lane (s.now + 1024) s.hlt.eqNext } lane steps).settle
    simp (disch := decide) only [settle_get, settle_hlt, settle_tap, hc]
    refine ⟨Int.toNat_of_nonneg h2, fun n hn => ?_, ?_, hk⟩
    · exact eqAdapt_tap (s := { s with hlt.eqNext := Tab.put lane (s.now + 1024) s.hlt.eqNext }) h4 hn
    · simp [State.eqAdapt, Tab.getD]
  · refine ⟨_, wrenEyeMeasure_runs hd hl ht hh hw, ?_⟩
    obtain ⟨h1, h2, h3, h4⟩ := measured_shows s lane h w
    simp (disch := decide) only [settle_get, settle_hlt]
    exact ⟨h1, h2, h3, h4.settle⟩
  · refine ⟨settle (s.ageSample osc ce), ?_, ?_⟩
    · change execAgeingSample osc ce s = _
      simp [execAgeingSample, hr, hp, ht, hl, hn]
    · obtain ⟨h1, h2⟩ := ageSample_shows s osc ce
      simp (disch := decide) only [settle_get, settle_hlt, h1]
      exact ⟨rfl, by simp [State.aged], h2⟩

end Sys2Proof.Machine
end

section
/-! Units that fault and self-tests (R107, R230, R277, R278, R321, R397). -/

namespace Sys2Proof.Machine

-- One theorem after the other, as in the tests: in parallel, proofs that wait for the kernel hold one thread with its own
-- stack each.
set_option Elab.async false

/-! ## What the jobs of a faulty unit become keeps what is raised -/

section Keeps

variable {s t : State}

/-- A register that is not guarded changes. -/
theorem KeepsRaised.set (h : KeepsRaised s t) (f : Field) (i v : Nat) (hf : f ∉ guarded ++ pendingRegs := by decide) :
    KeepsRaised s (t.set f i v) := h.trans ((Spares.refl t).set f i v hf).toKeepsRaised

theorem KeepsRaised.ite {c : Prop} [Decidable c] {u : State} (h : KeepsRaised s t) (k : KeepsRaised s u) :
    KeepsRaised s (if c then t else u) := by
  split
  · exact h
  · exact k

end Keeps

theorem modMirror_spares (s : State) (k : Nat) (g : MirrorSt → MirrorSt) : Spares s (s.modMirror k g) := modStream_spares s k _

theorem resync_spares (s : State) (k : Nat) : Spares s (s.resync k) := (modMirror_spares s k _).trans (mirrorShow_spares _ k)

theorem setStream_spares (s : State) (k : Nat) (st : Stream) : Spares s (s.setStream k st) := .same rfl rfl rfl

theorem modJob_spares (s : State) (id : Nat) (g : Job → Job) : Spares s (s.modJob id g) := .same rfl rfl rfl

theorem raiseBuf_spares (s : State) (b : Nat × Nat) : Spares s (s.raiseBuf b) := by
  have h : ∀ m, Spares s { s with soot := m } := fun m => .same rfl rfl rfl
  unfold State.raiseBuf State.raise
  exact (h _).ite (.refl s)

theorem queueMau_spares (s : State) (k : Nat) (m : MirrorSt) (due : Option Nat) (mau : Mau) : Spares s (s.queueMau k m due mau) := by
  have h : ∀ l, Spares s { s with w.maus := l } := fun l => .same rfl rfl rfl
  exact ((h _).trans (addJob_spares _ _)).trans (raiseBuf_spares _ _)

theorem formMau_spares (s : State) (k q sz fl : Nat) (due : Option Nat) : Spares s (s.formMau k q sz fl due) := by
  unfold State.formMau
  split
  · exact .refl s
  · split
    · exact .refl s
    · exact (modMirror_spares s k _).trans (queueMau_spares _ k _ due _)

theorem dropPicture_spares (s : State) (k q : Nat) (due : Option Nat) : Spares s (s.dropPicture k q due) := by
  unfold State.dropPicture
  split
  · exact resync_spares s k
  · split
    · exact .refl s
    · split
      · exact .refl s
      · exact formMau_spares s k q _ 2 due

theorem giveUpMirror_spares (s : State) (j : Job) : Spares s (s.giveUpMirror j) := by
  have hd := dropJobs_spares s fun i => i.id == j.id
  unfold State.giveUpMirror
  refine Spares.ite ?_ (Spares.ite ?_ ?_)
  · exact hd.trans ((modMirror_spares _ _ _).trans (mirrorShow_spares _ _))
  · exact (hd.trans (dropPicture_spares _ _ _ _)).trans (resync_spares _ _)
  · exact hd.trans (dropPicture_spares _ _ _ _)

theorem startSelftest_keepsRaised (s : State) (u : UnitName) : KeepsRaised s (s.startSelftest u) := by
  cases u with
  | dec n => exact (KeepsRaised.refl s).set .DEC_SELFTEST n 1
  | array n => exact (KeepsRaised.refl s).set .AR_SELFTEST n 1
  | cluster n => exact (KeepsRaised.refl s).set .CL_SELFTEST n 1
  | fft => exact (KeepsRaised.refl s).set .FFT_SELFTEST 0 1
  | menc n => exact (KeepsRaised.refl s).set .MENC_SELFTEST n 1
  | lane n =>
    have h : KeepsRaised s { s with laneTests := n :: s.laneTests.filter fun l => l != n } := .same rfl rfl
    exact h.set .TRE_SELFTEST 0 1

theorem abandonFrame_spares (s : State) (j : Job) : Spares s (s.abandonFrame j) := by
  unfold State.abandonFrame
  refine (dropJobs_spares s fun i => i.id == j.id).trans ?_
  generalize (s.dropJobs fun i => i.id == j.id) = u
  dsimp only
  split
  · exact .refl u
  · refine Spares.ite (Spares.ite (streamSync_spares u _) ?_) (dropFrame_spares u _ _ 8)
    exact (((dropJobs_spares u _).trans (setStream_spares _ _ _)).trans (grantAct_spares _ _)).trans (streamSync_spares _ _)

theorem reissue_keepsRaised (s : State) (u : UnitName) (j : Job) : KeepsRaised s (s.reissue u j) := by
  unfold State.reissue
  refine (unitIdle_spares s u).toKeepsRaised.trans ?_
  generalize s.unitIdle u = v
  dsimp only
  split
  · exact ((abandonFrame_spares v j).toKeepsRaised.trans (startSelftest_keepsRaised _ u)).trans (startSelftest_keepsRaised _ _)
  · exact (abandonFrame_spares v j).toKeepsRaised.ite (modJob_spares v j.id _).toKeepsRaised

theorem releaseEngine_spares (s : State) (k e : Nat) : Spares s (s.releaseEngine k e) :=
  ((Spares.refl s).set .DEC_BUSY e 0).set .CTX_DECODING k 0

/-! ## ENGINE_FAULT (R107, R111, R112) -/

section EngineFault

variable {s s0 : State} {src n : Nat} {body : State → State}

theorem engineFault_keepsRaised (hb : ∀ v, KeepsRaised v (body v)) : KeepsRaised s (s.engineFault src n body) := by
  have h := ((inRank_spares s 11 src).capture 11 src n 0 0).toKeepsRaised
  unfold State.engineFault
  dsimp only
  split
  · exact (h.trans (hb _)).trans (recompute_spares _).toKeepsRaised
  · exact h

/-- A unit's fault raises ENGINE_FAULT, whatever becomes of its jobs. -/
theorem engineFault_raised (hs : s.rankView = s0.rankView) (hb : ∀ v, KeepsRaised v (body v)) :
    Raised s0 (s.engineFault src n body) 11 src n 0 0 := by
  have h := raised_capture (inRank_rankView hs 11 src) (by decide) n 0 0
  unfold State.engineFault
  dsimp only
  split
  · exact h.stays (by decide) ((hb _).trans (recompute_spares _).toKeepsRaised).eventsStay
  · exact h

theorem unitFault_keepsRaised (jobs : List Job) (hb : ∀ v, KeepsRaised v (body v)) : KeepsRaised s (s.unitFault src jobs body) :=
  (hb s).ite (engineFault_keepsRaised hb)

/-- A job of the stream counts as one to be issued again: its stream does not close. -/
def State.jobOpen (s : State) (j : Job) : Bool := !((s.stream? j.stream).any fun st => st.closingPkt.isSome)

/-- The first failure of every job raises ENGINE_FAULT with the jobs to be issued again (R107). -/
theorem unitFault_raised {jobs : List Job} (hj : ∀ j ∈ jobs, j.failedOn = none) (hs : s.rankView = s0.rankView)
    (hb : ∀ v, KeepsRaised v (body v)) : Raised s0 (s.unitFault src jobs body) 11 src (jobs.countP s.jobOpen) 0 0 := by
  have ha : (jobs.any fun j => j.failedOn.isSome) = false := by
    simp only [List.any_eq_false, Bool.not_eq_true, Option.isSome_eq_false_iff, Option.isNone_iff_eq_none]
    exact hj
  unfold State.unitFault
  rw [ha]
  exact engineFault_raised hs hb

/-- In READY a unit's fault takes effect where its condition holds. -/
theorem unitFaultCmd_ready (hr : s.isReady = true) (src : Nat) (t : State) : unitFaultCmd s src true t = .next (settle t) := by
  simp [unitFaultCmd, hr]

end EngineFault

/-- A register that no rank depends on changes. -/
theorem rankView_set (s : State) {f : Field} (hf : f ∉ rankRegs) (i v : Nat) : (s.set f i v).rankView = s.rankView := by
  have hne : ∀ g ∈ rankRegs, g ≠ f := fun g hg e => hf (e ▸ hg)
  simp only [State.rankView, State.get_set_ne _ _ _ _ (hne .EVU_TICK_NOW (by decide)), State.get_set_ne _ _ _ _ (hne .EVU_TICK_STOPPED (by decide)),
    State.get_set_ne _ _ _ _ (hne .DS_STATE (by decide)), State.get_set_ne _ _ _ _ (hne .RC_CAUSE (by decide))]
  rfl

/-! ## Decode engines (R230) -/

section Decode

variable {s : State} {e cause : Nat}

/-- Engine `e` is out of service. -/
def State.engineDown (s : State) (e cause : Nat) : State := ((s.set .DEC_IN_SERVICE e 0).set .DEC_FAULTED e 1).set .DEC_CAUSE e cause

theorem engineDown_get (s : State) (e cause : Nat) : (s.engineDown e cause).get .DEC_IN_SERVICE e = 0 ∧
    (s.engineDown e cause).get .DEC_FAULTED e = 1 ∧ (s.engineDown e cause).get .DEC_CAUSE e = cause := by
  simp [State.engineDown, State.get_set]

theorem engineDown_rankView (s : State) (e cause : Nat) : (s.engineDown e cause).rankView = s.rankView := by
  simp (disch := decide) only [State.engineDown, rankView_set]

/-- What becomes of an access unit whose engine faults first: it is held again. -/
def State.heldAgain (s : State) (k e : Nat) (f : Frame) (cause : Nat) : State :=
  (((s.releaseEngine k e).dropJobs fun j => j.unit == some (.dec e)).modFrame k f.fseq fun g =>
    { g with phase := .held, hung := if cause == 2 then some e else g.hung }).streamSync k

theorem heldAgain_spares (s : State) (k e : Nat) (f : Frame) (cause : Nat) : Spares s (s.heldAgain k e f cause) :=
  (((releaseEngine_spares s k e).trans (dropJobs_spares _ _)).trans (modStream_spares _ k _)).trans (streamSync_spares _ k)

theorem decodeEngineFault_idle (h : s.inDecode e = none) (au : AuFacts) :
    s.decodeEngineFault e cause au = (s.engineDown e cause).engineFault (0x100 + e) 0 id := by
  have hi : (((s.set .DEC_IN_SERVICE e 0).set .DEC_FAULTED e 1).set .DEC_CAUSE e cause).inDecode e = none := h
  simp only [State.decodeEngineFault, hi, State.engineDown]

theorem decodeEngineFault_held {k : Nat} {st : Stream} {f : Frame} (h : s.inDecode e = some (k, st, f)) (hf : f.hungBefore cause = none)
    (au : AuFacts) : s.decodeEngineFault e cause au =
      (s.engineDown e cause).engineFault (0x100 + e) 1 fun s => s.heldAgain k e f cause := by
  have hi : (((s.set .DEC_IN_SERVICE e 0).set .DEC_FAULTED e 1).set .DEC_CAUSE e cause).inDecode e = some (k, st, f) := h
  simp only [State.decodeEngineFault, hi, hf, State.engineDown]
  rfl

theorem decodeEngineFault_second {k e0 : Nat} {st : Stream} {f : Frame} (h : s.inDecode e = some (k, st, f))
    (hf : f.hungBefore cause = some e0) (au : AuFacts) : s.decodeEngineFault e cause au =
      ((({ s.engineDown e cause with keptDecs := e :: s.keptDecs } : State).abandonDecode k e st f au 0x010A).set .DEC_SELFTEST e 1).set
        .DEC_SELFTEST e0 1 := by
  have hi : (((s.set .DEC_IN_SERVICE e 0).set .DEC_FAULTED e 1).set .DEC_CAUSE e cause).inDecode e = some (k, st, f) := h
  simp only [State.decodeEngineFault, hi, hf, State.engineDown]
  rfl

/-- A fault that is not the second hang of an access unit raises ENGINE_FAULT (R107, R230). -/
theorem decodeEngineFault_raises (h : ∀ x, s.inDecode e = some x → x.2.2.hungBefore cause = none) (au : AuFacts) :
    KeepsRaised (s.engineDown e cause) (s.decodeEngineFault e cause au) ∧
      Raised s (s.decodeEngineFault e cause au) 11 (0x100 + e) (Num.b2n (s.inDecode e).isSome) 0 0 := by
  have hr := engineDown_rankView s e cause
  cases hi : s.inDecode e with
  | none =>
    rw [decodeEngineFault_idle hi]
    exact ⟨engineFault_keepsRaised .refl, engineFault_raised hr .refl⟩
  | some x =>
    obtain ⟨k, st, f⟩ := x
    rw [decodeEngineFault_held hi (h _ hi)]
    have hb := fun v : State => (heldAgain_spares v k e f cause).toKeepsRaised
    exact ⟨engineFault_keepsRaised hb, engineFault_raised hr hb⟩

/-- The registers that an abandoned decode writes. -/
def abandonErrorFields (f : Field) : Bool := abandonFields f || errorFields f || giveFields f || f == .CTX_TAINTED

theorem abandonDecode_steady (s : State) (k e : Nat) (st : Stream) (f : Frame) (au : AuFacts) (c : Nat) :
    Steady abandonErrorFields s (s.abandonDecode k e st f au c) := by
  rw [abandonDecode_eq]
  have h := ((abandoned_steady s k e st f au).mono (G := abandonErrorFields) fun g h => by simp [abandonErrorFields, h]).trans
    ((decodeError_inHand _ k f.fseq c).toSteady.mono fun g h => by simp [abandonErrorFields, h])
  refine Steady.trans (Steady.trans (h.set .CTX_TAINTED k 1 rfl) ((notDelivered_steady _ k f.fseq 0).mono fun g h => ?_))
    ((streamSync_onRegs _ k).steady.mono fun g h => ?_)
  · simp [abandonErrorFields, h]
  · simp [abandonErrorFields, giveFields, h]

/-- The second hang of an access unit abandons its decode and sends both engines to their self-test (R230). -/
theorem decodeEngineFault_abandons {k e0 : Nat} {st : Stream} {f : Frame} (h : s.inDecode e = some (k, st, f))
    (hf : f.hungBefore cause = some e0) (au : AuFacts) :
    let t := s.decodeEngineFault e cause au
    (t.get .DEC_IN_SERVICE e = 0 ∧ t.get .DEC_FAULTED e = 1 ∧ t.get .DEC_CAUSE e = cause) ∧ t.get .DEC_SELFTEST e = 1 ∧
      t.get .DEC_SELFTEST e0 = 1 ∧ t.get .CTX_LAST_ERROR k = 0x010A ∧ t.get .CTX_TAINTED k = 1 := by
  intro t
  obtain ⟨d1, d2, d3⟩ := engineDown_get s e cause
  obtain ⟨-, a1, a2, -⟩ := abandonDecode_get { s.engineDown e cause with keptDecs := e :: s.keptDecs } k e st f au 0x010A
  rw [settle_get _ _ _ rfl] at a1 a2
  have hs := abandonDecode_steady { s.engineDown e cause with keptDecs := e :: s.keptDecs } k e st f au 0x010A
  have hg : ∀ f i, ({ s.engineDown e cause with keptDecs := e :: s.keptDecs } : State).get f i = (s.engineDown e cause).get f i :=
    fun f i => State.get_congr rfl f i
  have ht : t = _ := decodeEngineFault_second h hf au
  clear_value t
  subst ht
  generalize ({ s.engineDown e cause with keptDecs := e :: s.keptDecs } : State).abandonDecode k e st f au 0x010A = v at a1 a2 hs ⊢
  refine ⟨⟨?_, ?_, ?_⟩, ?_, State.get_set_self _ _ _ _, ?_, ?_⟩
  · rw [State.get_set_ne _ _ _ _ (by decide), State.get_set_ne _ _ _ _ (by decide), hs.reg _ _ rfl, hg, d1]
  · rw [State.get_set_ne _ _ _ _ (by decide), State.get_set_ne _ _ _ _ (by decide), hs.reg _ _ rfl, hg, d2]
  · rw [State.get_set_ne _ _ _ _ (by decide), State.get_set_ne _ _ _ _ (by decide), hs.reg _ _ rfl, hg, d3]
  · rw [State.get_set]
    split
    · rfl
    · exact State.get_set_self _ _ _ _
  · rwa [State.get_set_ne _ _ _ _ (by decide), State.get_set_ne _ _ _ _ (by decide)]
  · rwa [State.get_set_ne _ _ _ _ (by decide), State.get_set_ne _ _ _ _ (by decide)]

/-- A decode engine that faults leaves service with its cause (R230). -/
theorem decodeEngineFault_down (s : State) (e cause : Nat) (au : AuFacts) : (s.decodeEngineFault e cause au).get .DEC_IN_SERVICE e = 0 ∧
    (s.decodeEngineFault e cause au).get .DEC_FAULTED e = 1 ∧ (s.decodeEngineFault e cause au).get .DEC_CAUSE e = cause := by
  by_cases h : ∀ x, s.inDecode e = some x → x.2.2.hungBefore cause = none
  · have hk := (decodeEngineFault_raises h au).1
    rw [hk.reg _ (by decide), hk.reg _ (by decide), hk.reg _ (by decide)]
    exact engineDown_get s e cause
  · push Not at h
    obtain ⟨⟨k, st, f⟩, hi, hf⟩ := h
    obtain ⟨e0, hf⟩ := Option.ne_none_iff_exists'.mp hf
    exact (decodeEngineFault_abandons hi hf au).1

end Decode

/-! ## Compute units, tree lanes and encoders (R277, R321, R397) -/

section Compute

variable {s : State} {u : UnitName} {cause : Nat}

/-- What becomes of the jobs of a compute unit that faults. -/
def State.computeJobs (s : State) (u : UnitName) (jobs : List Job) : State :=
  let s := jobs.foldl (fun s j => s.reissue u j) s
  if u == .fft then s.fftToDirect else s

theorem computeJobs_keepsRaised (s : State) (u : UnitName) (jobs : List Job) : KeepsRaised s (s.computeJobs u jobs) := by
  have h := KeepsRaised.foldl _ (fun s j => reissue_keepsRaised s u j) jobs s
  have hf : ∀ v : State, KeepsRaised v v.fftToDirect := fun v => .same rfl rfl
  exact (h.trans (hf _)).ite h

/-- A compute unit's registers when it has faulted. -/
def State.computeDown (s : State) (u : UnitName) (cause : Nat) : State :=
  match u with
  | .array n => (((s.set .AR_IN_SERVICE n 0).set .AR_FAULTED n 1).set .AR_CAUSE n cause).sat 32 .AR_RESIDUE_ERRS n (Num.b2n (cause == 1))
  | .cluster n => (((s.set .CL_IN_SERVICE n 0).set .CL_FAULTED n 1).set .CL_CAUSE n cause).sat 32 .CL_RESIDUE_ERRS n (Num.b2n (cause == 1))
  | _ => ((((s.set .FFT_IN_SERVICE 0 0).set .FFT_FAULTED 0 1).set .FFT_CAUSE 0 cause).sat 32 .FFT_RESIDUE_ERRS 0
      (Num.b2n (cause == 1))).set .FFT_FALLBACK 0 1

theorem computeFault_eq (s : State) (u : UnitName) (cause : Nat) : s.computeFault u cause =
    (s.computeDown u cause).unitFault (computeSource u) (s.jobs.filter fun j => j.unit == some u)
      fun v => v.computeJobs u (s.jobs.filter fun j => j.unit == some u) := by
  cases u <;> rfl

theorem computeDown_get (h : s.computeUnit u = true) (cause : Nat) :
    (∀ r, unitRegs u = some r → (s.computeDown u cause).get r.1.1 r.2.1 = 0 ∧ (s.computeDown u cause).get r.1.2.1 r.2.1 = 1 ∧
      (s.computeDown u cause).get r.1.2.2.2 r.2.1 = cause) ∧ (u = .fft → (s.computeDown u cause).get .FFT_FALLBACK = 1) := by
  cases u with
  | array n => simp [unitRegs, State.computeDown, State.sat, State.get_set]
  | cluster n => simp [unitRegs, State.computeDown, State.sat, State.get_set]
  | fft => simp [unitRegs, State.computeDown, State.sat, State.get_set]
  | _ => cases h

theorem computeDown_rankView (s : State) (u : UnitName) (cause : Nat) : (s.computeDown u cause).rankView = s.rankView := by
  cases u <;> simp (disch := decide) only [State.computeDown, State.sat, rankView_set]

theorem computeDown_jobOpen (s : State) (u : UnitName) (cause : Nat) : (s.computeDown u cause).jobOpen = s.jobOpen := by
  cases u <;> rfl

end Compute

/-- The registers of the five kinds of unit (in service, faulted, self-test, cause). -/
def unitFourFields : List (Field × Field × Field × Field) :=
  [(.DEC_IN_SERVICE, .DEC_FAULTED, .DEC_SELFTEST, .DEC_CAUSE), (.AR_IN_SERVICE, .AR_FAULTED, .AR_SELFTEST, .AR_CAUSE),
    (.CL_IN_SERVICE, .CL_FAULTED, .CL_SELFTEST, .CL_CAUSE), (.FFT_IN_SERVICE, .FFT_FAULTED, .FFT_SELFTEST, .FFT_CAUSE),
    (.MENC_IN_SERVICE, .MENC_FAULTED, .MENC_SELFTEST, .MENC_CAUSE)]

section UnitRegs

variable {u : UnitName} {r : (Field × Field × Field × Field) × Nat × Nat}

theorem unitRegs_mem (h : unitRegs u = some r) : r.1 ∈ unitFourFields := by
  cases u <;> cases h <;> simp [unitFourFields]

theorem unitRegs_guarded (h : unitRegs u = some r) : r.1.1 ∈ guarded ∧ r.1.2.1 ∈ guarded ∧ r.1.2.2.2 ∈ guarded := by
  have hall : ∀ q ∈ unitFourFields, q.1 ∈ guarded ∧ q.2.1 ∈ guarded ∧ q.2.2.2 ∈ guarded := by decide
  exact hall _ (unitRegs_mem h)

/-- The four registers of a unit are four. -/
theorem unitRegs_nodup (h : unitRegs u = some r) : [r.1.1, r.1.2.1, r.1.2.2.1, r.1.2.2.2].Nodup := by
  have hall : ∀ q ∈ unitFourFields, [q.1, q.2.1, q.2.2.1, q.2.2.2].Nodup := by decide
  exact hall _ (unitRegs_mem h)

/-- Neither the recomputation of admission nor the end of a command writes them. -/
theorem unitRegs_kept (h : unitRegs u = some r) : ∀ f ∈ [r.1.1, r.1.2.1, r.1.2.2.1, r.1.2.2.2],
    admitFields f = false ∧ settleFields f = false ∧ f ≠ .FFT_FALLBACK := by
  have hall : ∀ q ∈ unitFourFields, ∀ f ∈ [q.1, q.2.1, q.2.2.1, q.2.2.2], admitFields f = false ∧ settleFields f = false ∧
    f ≠ .FFT_FALLBACK := by decide
  exact hall _ (unitRegs_mem h)

end UnitRegs

/-- A compute unit that faults leaves service, and at its jobs' first failure raises ENGINE_FAULT (R107, R277). -/
theorem computeFault_shows (s : State) (u : UnitName) (cause : Nat) :
    KeepsRaised (s.computeDown u cause) (s.computeFault u cause) ∧ ((∀ j ∈ s.jobs, j.unit = some u → j.failedOn = none) →
      Raised s (s.computeFault u cause) 11 (computeSource u) (s.jobs.countP fun j => j.unit == some u && s.jobOpen j) 0 0) := by
  rw [computeFault_eq]
  have hb := fun v : State => computeJobs_keepsRaised v u (s.jobs.filter fun j => j.unit == some u)
  refine ⟨unitFault_keepsRaised _ hb, fun hj => ?_⟩
  have hf : ∀ j ∈ s.jobs.filter fun j => j.unit == some u, j.failedOn = none := fun j hm => by
    obtain ⟨hm, hu⟩ := List.mem_filter.mp hm
    exact hj j hm (beq_iff_eq.mp hu)
  have hr := unitFault_raised (src := computeSource u) hf (computeDown_rankView s u cause) hb
  rw [computeDown_jobOpen, List.countP_filter] at hr
  simpa only [Bool.and_comm] using hr

section Lanes

variable {s : State} {n cause : Nat}

/-- A tree lane is out of service. -/
def State.laneDown (s : State) (n cause : Nat) : State :=
  ((s.set .TRE_LANE_OUT 0 (Num.setBit (s.get .TRE_LANE_OUT) n true)).set .TRE_CAUSE 0 cause).laneSync

/-- What becomes of the tree jobs of a lane that faults. -/
def State.laneJobs (s : State) (n : Nat) (jobs : List Job) : State :=
  jobs.foldl (fun s j => (if j.failedOn.isNone then s.inc .TRE_REISSUED else s).reissue (.lane n) j) s

theorem laneJobs_keepsRaised (s : State) (n : Nat) (jobs : List Job) : KeepsRaised s (s.laneJobs n jobs) := by
  refine KeepsRaised.foldl _ (fun v j => ?_) jobs s
  have hi : KeepsRaised v (v.inc .TRE_REISSUED) := (KeepsRaised.refl v).set .TRE_REISSUED 0 _
  exact (hi.ite (.refl v)).trans (reissue_keepsRaised _ _ j)

theorem laneFault_eq (s : State) (n cause : Nat) : s.laneFault n cause =
    (s.laneDown n cause).unitFault 0x500 (s.jobs.filter fun j => j.kind == .tree && j.unit.isSome)
      fun v => v.laneJobs n (s.jobs.filter fun j => j.kind == .tree && j.unit.isSome) := rfl

theorem laneSync_get (s : State) : s.laneSync.get .TRE_LANES = 16 - Num.popcount 16 (s.get .TRE_LANE_OUT) ∧
    ∀ f, f ≠ .TRE_LANES → f ≠ .TRE_IN_SERVICE → s.laneSync.get f = s.get f :=
  ⟨(State.get_set_ne _ _ _ _ (by decide)).trans (State.get_set_self _ _ _ _),
    fun _ h1 h2 => (State.get_set_ne _ _ _ _ h2).trans (State.get_set_ne _ _ _ _ h1)⟩

theorem laneDown_get (s : State) (n cause : Nat) : ((s.laneDown n cause).get .TRE_LANE_OUT).testBit n = true ∧
    (s.laneDown n cause).get .TRE_CAUSE = cause ∧
    (s.laneDown n cause).get .TRE_LANES = 16 - Num.popcount 16 ((s.laneDown n cause).get .TRE_LANE_OUT) := by
  unfold State.laneDown
  obtain ⟨h1, h2⟩ := laneSync_get ((s.set .TRE_LANE_OUT 0 (Num.setBit (s.get .TRE_LANE_OUT) n true)).set .TRE_CAUSE 0 cause)
  rw [h1, h2 _ (by decide) (by decide), h2 _ (by decide) (by decide)]
  refine ⟨?_, State.get_set_self _ _ _ _, rfl⟩
  rw [State.get_set_ne _ _ _ _ (by decide), State.get_set_self]
  simp [Num.setBit, Nat.testBit_or, Nat.testBit_two_pow_self]

theorem jobOpen_set (s : State) (f : Field) (i v : Nat) : (s.set f i v).jobOpen = s.jobOpen := rfl

theorem laneDown_jobOpen (s : State) (n cause : Nat) : (s.laneDown n cause).jobOpen = s.jobOpen := by
  simp only [State.laneDown, State.laneSync, jobOpen_set]

theorem laneDown_rankView (s : State) (n cause : Nat) : (s.laneDown n cause).rankView = s.rankView := by
  simp (disch := decide) only [State.laneDown, State.laneSync, rankView_set]

/-- A tree lane that faults leaves service, and at its jobs' first failure raises ENGINE_FAULT (R107, R321). -/
theorem laneFault_shows (s : State) (n cause : Nat) : KeepsRaised (s.laneDown n cause) (s.laneFault n cause) ∧
    ((∀ j ∈ s.jobs, j.kind = .tree → j.unit.isSome = true → j.failedOn = none) → Raised s (s.laneFault n cause) 11 0x500
      (s.jobs.countP fun j => j.kind == .tree && j.unit.isSome && s.jobOpen j) 0 0) := by
  rw [laneFault_eq]
  have hb := fun v : State => laneJobs_keepsRaised v n (s.jobs.filter fun j => j.kind == .tree && j.unit.isSome)
  refine ⟨unitFault_keepsRaised _ hb, fun hj => ?_⟩
  have hf : ∀ j ∈ s.jobs.filter fun j => j.kind == .tree && j.unit.isSome, j.failedOn = none := fun j hm => by
    obtain ⟨hm, hu⟩ := List.mem_filter.mp hm
    obtain ⟨hk, hu⟩ := Bool.and_eq_true_iff.mp hu
    exact hj j hm (beq_iff_eq.mp hk) hu
  have hr := unitFault_raised (src := 0x500) hf (laneDown_rankView s n cause) hb
  rw [laneDown_jobOpen, List.countP_filter] at hr
  have hc : (fun j : Job => j.kind == .tree && j.unit.isSome && s.jobOpen j) = fun j => s.jobOpen j && (j.kind == .tree && j.unit.isSome) :=
    funext fun j => Bool.and_comm _ _
  rw [hc]
  exact hr

end Lanes

section Encoders

variable {s : State} {m cause : Nat}

/-- Encoder `m` is out of service. -/
def State.encoderDown (s : State) (m cause : Nat) : State := ((s.set .MENC_IN_SERVICE m 0).set .MENC_FAULTED m 1).set .MENC_CAUSE m cause

theorem encoderDown_get (s : State) (m cause : Nat) : (s.encoderDown m cause).get .MENC_IN_SERVICE m = 0 ∧
    (s.encoderDown m cause).get .MENC_FAULTED m = 1 ∧ (s.encoderDown m cause).get .MENC_CAUSE m = cause := by
  simp [State.encoderDown, State.get_set]

theorem encoderDown_rankView (s : State) (m cause : Nat) : (s.encoderDown m cause).rankView = s.rankView := by
  simp (disch := decide) only [State.encoderDown, rankView_set]

/-- With one of the two encoders out, an encoder is in service where the other is. -/
theorem encoderDown_others (hm : m < 2) (s : State) (cause : Nat) :
    ((s.encoderDown m cause).unitsOf 6 != 0) = (s.get .MENC_IN_SERVICE (1 - m) == 1) := by
  have h0 : (s.encoderDown m cause).get .MENC_IN_SERVICE m = 0 := (encoderDown_get s m cause).1
  have h1 : (s.encoderDown m cause).get .MENC_IN_SERVICE (1 - m) = s.get .MENC_IN_SERVICE (1 - m) := by
    have : 1 - m ≠ m := by omega
    simp [State.encoderDown, State.get_set, this]
  rw [← h1]
  generalize s.encoderDown m cause = v at h0
  have hu : v.unitsOf 6 = ((List.range 2).filter fun i => v.get .MENC_IN_SERVICE i == 1).length := rfl
  rw [hu]
  interval_cases m
  · simp only [List.range_succ, List.range_zero, List.nil_append, List.cons_append, List.filter_cons, h0]
    cases v.get .MENC_IN_SERVICE 1 == 1 <;> simp
  · simp only [List.range_succ, List.range_zero, List.nil_append, List.cons_append, List.filter_cons, h0]
    cases v.get .MENC_IN_SERVICE 0 == 1 <;> simp

/-- What becomes of the job of an encoder that faults. -/
def State.encoderJob (s : State) (m : Nat) (j : Option Job) : State :=
  match j with
  | none => s
  | some j =>
    let s := s.unitIdle (.menc m)
    match j.failedOn with
    | some u => ((s.giveUpMirror j).startSelftest (.menc m)).startSelftest u
    | none =>
      if s.unitsOf 6 == 0 then s.giveUpMirror j
      else s.modJob j.id fun i => { i with unit := none, failedOn := some (.menc m) }

theorem encoderJob_keepsRaised (s : State) (m : Nat) (j : Option Job) : KeepsRaised s (s.encoderJob m j) := by
  cases j with
  | none => exact .refl s
  | some j =>
    refine (unitIdle_spares s (.menc m)).toKeepsRaised.trans ?_
    simp only [State.encoderJob]
    generalize s.unitIdle (.menc m) = v
    split
    · exact ((giveUpMirror_spares v j).toKeepsRaised.trans (startSelftest_keepsRaised _ _)).trans (startSelftest_keepsRaised _ _)
    · exact (giveUpMirror_spares v j).toKeepsRaised.ite (modJob_spares v j.id _).toKeepsRaised

/-- The job that is issued again, or fails for the second time. -/
def State.encoderAgain (s : State) (v : State) (m : Nat) : Option Job :=
  (s.jobOn (.menc m)).filter fun i => i.failedOn.isSome || v.unitsOf 6 != 0

theorem encoderFault_eq (s : State) (m cause : Nat) : s.encoderFault m cause =
    (s.encoderDown m cause).unitFault (0x600 + m) (s.encoderAgain (s.encoderDown m cause) m).toList
      fun v => v.encoderJob m (s.jobOn (.menc m)) := rfl

/-- An encoder that faults leaves service, and at its job's first failure raises ENGINE_FAULT (R107, R397). -/
theorem encoderFault_shows (hm : m < 2) (s : State) (cause : Nat) : KeepsRaised (s.encoderDown m cause) (s.encoderFault m cause) ∧
    ((∀ j, s.jobOn (.menc m) = some j → j.failedOn = none) → Raised s (s.encoderFault m cause) 11 (0x600 + m)
      (Num.b2n ((s.jobOn (.menc m)).any fun j => s.get .MENC_IN_SERVICE (1 - m) == 1 && s.jobOpen j)) 0 0) := by
  rw [encoderFault_eq]
  have hb := fun v : State => encoderJob_keepsRaised v m (s.jobOn (.menc m))
  refine ⟨unitFault_keepsRaised _ hb, fun hj => ?_⟩
  have ho : (s.encoderDown m cause).jobOpen = s.jobOpen := rfl
  unfold State.encoderAgain
  cases h : s.jobOn (.menc m) with
  | none =>
    exact unitFault_raised (jobs := []) (by simp) (encoderDown_rankView s m cause) (fun v => h ▸ hb v)
  | some j =>
    have hn := hj j h
    have hl : ((some j).filter fun i => i.failedOn.isSome || (s.encoderDown m cause).unitsOf 6 != 0).toList =
        if s.get .MENC_IN_SERVICE (1 - m) == 1 then [j] else [] := by
      rw [Option.filter, hn, encoderDown_others hm]
      cases s.get .MENC_IN_SERVICE (1 - m) == 1 <;> rfl
    have hc : ∀ b : Bool, (if b then [j] else []).countP s.jobOpen = Num.b2n (b && s.jobOpen j) := by
      intro b
      cases b <;> cases ho : s.jobOpen j <;> simp [Num.b2n, ho]
    have hr := unitFault_raised (s0 := s) (jobs := if s.get .MENC_IN_SERVICE (1 - m) == 1 then [j] else []) (src := 0x600 + m)
      (by split <;> simp [hn]) (encoderDown_rankView s m cause) (fun v => encoderJob_keepsRaised v m (some j))
    rw [ho, hc] at hr
    rw [hl]
    exact hr

end Encoders

/-! ## Self-tests (R230, R278, R321, R397) -/

section Selftest

variable {s : State} {u : UnitName}

/-- The registers of a unit whose self-test ends. -/
def State.tested (s : State) (r : (Field × Field × Field × Field) × Nat × Nat) (ok : Bool) : State :=
  let s := s.set r.1.2.2.1 r.2.1 0
  if ok then ((s.set r.1.1 r.2.1 1).set r.1.2.1 r.2.1 0).set r.1.2.2.2 r.2.1 r.2.2 else s.set r.1.2.2.2 r.2.1 3

theorem tested_get {r : (Field × Field × Field × Field) × Nat × Nat} (h : unitRegs u = some r) (s : State) :
    ((s.tested r true).get r.1.1 r.2.1 = 1 ∧ (s.tested r true).get r.1.2.1 r.2.1 = 0 ∧ (s.tested r true).get r.1.2.2.1 r.2.1 = 0 ∧
      (s.tested r true).get r.1.2.2.2 r.2.1 = r.2.2) ∧
    (s.tested r false).get r.1.2.2.1 r.2.1 = 0 ∧ (s.tested r false).get r.1.2.2.2 r.2.1 = 3 := by
  have hn := unitRegs_nodup h
  obtain ⟨⟨svc, flt, tst, cau⟩, i, good⟩ := r
  simp only [List.nodup_cons, List.mem_cons, List.not_mem_nil, or_false, not_or, List.nodup_nil, and_true, not_false_eq_true] at hn
  obtain ⟨⟨h1, h2, h3⟩, ⟨h4, h5⟩, h6⟩ := hn
  simp [State.tested, State.get_set, h1, h3, h5, h6, Ne.symm h2, Ne.symm h4]

/-- The parts beside the registers that the self-test of a decode engine moves. -/
def State.testOver (s : State) : UnitName → State
  | .dec n => { s with keptDecs := s.keptDecs.filter fun e => e != n }
  | _ => s

theorem selftest_eq {r : (Field × Field × Field × Field) × Nat × Nat} (h : unitRegs u = some r) (s : State) (ok : Bool) :
    s.selftest u ok = (if u == .fft && ok then ((s.testOver u).tested r ok).set .FFT_FALLBACK 0 0 else (s.testOver u).tested r ok).recompute := by
  cases u <;> cases h <;> cases ok <;> rfl

/-- A self-test that ends leaves a unit's registers as its result says. -/
theorem selftest_get {r : (Field × Field × Field × Field) × Nat × Nat} (h : unitRegs u = some r) (s : State) (ok : Bool) {f : Field}
    (hf : f ∈ [r.1.1, r.1.2.1, r.1.2.2.1, r.1.2.2.2]) (i : Nat) :
    (settle (s.selftest u ok)).get f i = ((s.testOver u).tested r ok).get f i := by
  obtain ⟨ha, hs, hb⟩ := unitRegs_kept h f hf
  rw [settle_get _ _ _ hs, selftest_eq h, (recompute_calm _).reg f i ha]
  split
  · exact State.get_set_ne _ _ _ _ hb
  · rfl

/-- A lane's registers when its self-test ends. -/
def State.laneTested (s : State) (n : Nat) (ok : Bool) : State :=
  let s := { s with laneTests := s.laneTests.filter fun l => l != n }
  let s := s.set .TRE_SELFTEST 0 (Num.b2n (!s.laneTests.isEmpty))
  if ok then ((s.set .TRE_LANE_OUT 0 (Num.setBit (s.get .TRE_LANE_OUT) n false)).set .TRE_CAUSE 0 5).laneSync
  else s.set .TRE_CAUSE 0 3

theorem selftest_lane (s : State) (n : Nat) (ok : Bool) : s.selftest (.lane n) ok = (s.laneTested n ok).recompute := rfl

theorem set_laneTests (s : State) (f : Field) (i v : Nat) : (s.set f i v).laneTests = s.laneTests := rfl

theorem laneTested_shows (s : State) (n : Nat) (ok : Bool) : (s.laneTested n ok).get .TRE_CAUSE = (if ok then 5 else 3) ∧
    (ok = true → ((s.laneTested n ok).get .TRE_LANE_OUT).testBit n = false) ∧ n ∉ (s.laneTested n ok).laneTests := by
  cases ok with
  | false => exact ⟨State.get_set_self _ _ _ _, nofun, by simp [State.laneTested]⟩
  | true =>
    have hl : ∀ v : State, v.laneSync.laneTests = v.laneTests := fun v => by simp only [State.laneSync, set_laneTests]
    have hg : ∀ v : State, ∀ f, f ≠ .TRE_LANES → f ≠ .TRE_IN_SERVICE → v.laneSync.get f = v.get f := fun v => (laneSync_get v).2
    simp only [State.laneTested, if_true, hl, hg _ .TRE_CAUSE (by decide) (by decide), hg _ .TRE_LANE_OUT (by decide) (by decide)]
    refine ⟨State.get_set_self _ _ _ _, fun _ => ?_, by simp⟩
    rw [State.get_set_ne _ _ _ _ (by decide), State.get_set_self]
    exact testBit_setBit_false _ _

end Selftest

/-- Settles O54: the faulty unit's registers, then what its jobs' new fate and the recomputation spare. -/
theorem unitFaultsComplete : Obligations.UnitFaultsComplete := by
  unfold Obligations.UnitFaultsComplete
  intro s hr
  refine ⟨fun e cause au he hs hc hf => ?_, fun u cause hu hc => ?_, fun n cause hn ho hc => ?_, fun m cause hm hs hc => ?_,
    fun u r hu hk => ⟨?_, ?_⟩, fun n ok hn => ?_⟩
  · have hx : exec (.decodeEngineFault e cause au) s = .next (settle (s.decodeEngineFault e cause au)) := by
      change execDecodeEngineFault e cause au s = _
      have ha : ((s.inDecode e).all fun x => au.fits x.2.1.codec) = true := by
        cases h : s.inDecode e with
        | none => rfl
        | some x => exact hf x h
      rw [execDecodeEngineFault, if_neg (by omega), hs, ha]
      rcases hc with rfl | ⟨rfl, hh⟩
      · exact unitFaultCmd_ready hr _ _
      · rw [hh]
        exact unitFaultCmd_ready hr _ _
    refine ⟨_, hx, ?_⟩
    simp (disch := decide) only [settle_get]
    obtain ⟨h1, h2, h3⟩ := decodeEngineFault_down s e cause au
    refine ⟨h1, h2, h3, fun h => ?_, fun k st f e0 h hf => ?_⟩
    · exact (decodeEngineFault_raises h au).2.stays (by decide) (settle_spares _).eventsStay
    · exact (decodeEngineFault_abandons h hf au).2
  · have hx : exec (.computeUnitFault u cause) s = .next (settle (s.computeFault u cause)) := by
      change execComputeUnitFault u cause s = _
      rw [execComputeUnitFault, hu]
      rcases hc with rfl | rfl | rfl <;> exact unitFaultCmd_ready hr _ _
    obtain ⟨hk, hrs⟩ := computeFault_shows s u cause
    obtain ⟨h1, h2⟩ := computeDown_get hu cause
    refine ⟨_, hx, fun r hu => ?_, fun hu => ?_, fun hj => (hrs hj).stays (by decide) (settle_spares _).eventsStay⟩
    · obtain ⟨g1, g2, g3⟩ := unitRegs_guarded hu
      obtain ⟨r1, r2, r3⟩ := h1 r hu
      exact ⟨((settle_spares _).reg _ g1 _).trans ((hk.reg _ g1 _).trans r1), ((settle_spares _).reg _ g2 _).trans ((hk.reg _ g2 _).trans r2),
        ((settle_spares _).reg _ g3 _).trans ((hk.reg _ g3 _).trans r3)⟩
    · rw [settle_get _ _ _ rfl, hk.reg _ (by decide), h2 hu]
  · have hx : exec (.treeLaneFault n cause) s = .next (settle (s.laneFault n cause)) := by
      change execTreeLaneFault n cause s = _
      rw [execTreeLaneFault, if_neg (by omega), ho]
      rcases hc with rfl | rfl | rfl <;> exact unitFaultCmd_ready hr _ _
    obtain ⟨hk, hrs⟩ := laneFault_shows s n cause
    obtain ⟨h1, h2, h3⟩ := laneDown_get s n cause
    refine ⟨_, hx, ?_⟩
    simp (disch := decide) only [settle_get, hk.reg]
    exact ⟨h1, h2, h3, fun hj => (hrs hj).stays (by decide) (settle_spares _).eventsStay⟩
  · have hx : exec (.mirrorEncoderFault m cause) s = .next (settle (s.encoderFault m cause)) := by
      change execMirrorEncoderFault m cause s = _
      rw [execMirrorEncoderFault, if_neg (by omega), hs]
      rcases hc with rfl | rfl <;> exact unitFaultCmd_ready hr _ _
    obtain ⟨hk, hrs⟩ := encoderFault_shows hm s cause
    obtain ⟨h1, h2, h3⟩ := encoderDown_get s m cause
    refine ⟨_, hx, ?_⟩
    simp (disch := decide) only [settle_get, hk.reg]
    exact ⟨h1, h2, h3, fun hj => (hrs hj).stays (by decide) (settle_spares _).eventsStay⟩
  · have hx : exec (.selftestDone u true) s = .next (settle (s.selftest u true)) := by
      change execSelftestDone u true s = _
      simp [execSelftestDone, hr, hu]
    refine ⟨_, hx, ?_⟩
    simp only [selftest_get hk s true (f := r.1.1) (by simp), selftest_get hk s true (f := r.1.2.1) (by simp),
      selftest_get hk s true (f := r.1.2.2.1) (by simp), selftest_get hk s true (f := r.1.2.2.2) (by simp)]
    exact (tested_get hk _).1
  · have hx : exec (.selftestDone u false) s = .next (settle (s.selftest u false)) := by
      change execSelftestDone u false s = _
      simp [execSelftestDone, hr, hu]
    refine ⟨_, hx, ?_⟩
    simp only [selftest_get hk s false (f := r.1.2.2.1) (by simp), selftest_get hk s false (f := r.1.2.2.2) (by simp)]
    exact (tested_get hk _).2
  · have hx : exec (.selftestDone (.lane n) ok) s = .next (settle (s.selftest (.lane n) ok)) := by
      change execSelftestDone (.lane n) ok s = _
      simp [execSelftestDone, hr, hn]
    obtain ⟨h1, h2, h3⟩ := laneTested_shows s n ok
    have hk := recompute_spares (s.laneTested n ok)
    have hp := hk.parts
    simp only [State.boardParts, Prod.mk.injEq] at hp
    obtain ⟨-, -, -, -, -, -, -, -, -, -, -, hp, -⟩ := hp
    refine ⟨_, hx, ?_⟩
    simp (disch := decide) only [selftest_lane, settle_get, hk.reg, settle_laneTests, hp]
    exact ⟨h1, h2, h3⟩

end Sys2Proof.Machine
end

section
/-! What the loss of a link, a change of role, a session's end and FAULT leave of what is raised (R97, R98, R152, R360, R443). -/

namespace Sys2Proof.Machine

-- One theorem after the other, as in the tests: in parallel, proofs that wait for the kernel hold one thread with its own
-- stack each.
set_option Elab.async false

/-! ## Guarded registers and parts that change on both sides -/

section Both

variable {s t : State}

theorem Spares.fence_both (h : Spares s t) (b : Bool) : Spares { s with tamperFence := b } { t with tamperFence := b } := by
  refine ⟨⟨h.reg, h.bits, h.events⟩, ?_⟩
  have hp := h.parts
  simp only [State.boardParts, Prod.mk.injEq] at hp ⊢
  simp only [hp, and_self]

theorem Spares.epoch_both (h : Spares s t) (n : Nat) : Spares { s with partner := none, fuses.pairEpoch := n }
    { t with partner := none, fuses.pairEpoch := n } := by
  refine ⟨⟨h.reg, h.bits, h.events⟩, ?_⟩
  have hp := h.parts
  simp only [State.boardParts, Prod.mk.injEq] at hp ⊢
  simp only [hp, and_self]

/-- A register that already holds its value is as good as written. -/
theorem Spares.of_set_same (s : State) (f : Field) : Spares (s.set f 0 (s.get f)) s := by
  have hg : ∀ g i, (s.set f 0 (s.get f)).get g i = s.get g i := fun g i => by
    rw [State.get_set]
    split
    · next h => rw [h.1, h.2]
    · rfl
  exact ⟨⟨fun g _ i => (hg g i).symm, fun g _ c hc => by rwa [hg] at hc, fun e he _ => he⟩, rfl⟩

end Both

/-! ## Streams and mirrors -/

theorem haltMirror_spares (s : State) (k : Nat) : Spares s (s.haltMirror k) := by
  have hm : ∀ (v : State) l, Spares v { v with w.maus := l } := fun v l => .same rfl rfl rfl
  exact (((freeUnits_spares s _).trans (dropJobs_spares _ _)).trans (hm _ _)).trans (resync_spares _ k)

theorem cutEpoch_spares (s : State) : Spares s s.cutEpoch := by
  have h : Spares s { s with w.epochOpen := false, w.snapWait := [], w.epochQ := [] } := .same rfl rfl rfl
  unfold State.cutEpoch
  exact (h.set .WRN_EPOCH_ABANDONED 0 _).ite (.refl s)

theorem stopMirroring_spares (s : State) : Spares s s.stopMirroring := by
  refine Spares.trans ?_ (cutEpoch_spares _)
  exact (Spares.refl s).foldl _ (fun u (e : Nat × Stream) => haltMirror_spares u e.1) _

theorem resyncAll_spares (s : State) : Spares s s.resyncAll := (Spares.refl s).foldl _ (fun u (e : Nat × Stream) => resync_spares u e.1) _

theorem dropDecodes_spares (s : State) (k : Nat) : Spares s (s.dropDecodes k) := (freeUnits_spares s _).trans (dropJobs_spares _ _)

/-! ## Transfers to and from the host that end (R149, R152) -/

theorem discard_spares (s : State) : Spares s s.discard :=
  .of_keeps (discard_frame (F := linkCounts) s rfl rfl) (by decide) fun e he _ => by rw [(discard_only s).2.1]; exact he

theorem emit_spares (s : State) (x : Egress) : Spares s (s.emit x) := .same rfl rfl rfl

theorem completeN_spares (n : Nat) (s : State) (id tick : Nat) (r : Reply) : Spares s (completeN n s id tick r) :=
  .of_keeps (completeN_frame n s id tick r) (by decide) fun e he _ => completeN_keepsEvents n s id tick r e he

theorem drainStaged_spares (s : State) : Spares s s.drainStaged := by
  unfold State.drainStaged
  have h0 : Spares s { s with crossing := [] } := .same rfl rfl rfl
  have h1 := h0.foldl (fun (s : State) (x : Egress) => if s.linkClosed then s.discard else s.emit x) (fun u x => (discard_spares u).ite (emit_spares u x)) s.crossing
  generalize s.crossing.foldl (fun (s : State) (x : Egress) => if s.linkClosed then s.discard else s.emit x) { s with crossing := [] } = v at h1 ⊢
  have h2 : Spares v { v with staged := [] } := .same rfl rfl rfl
  exact (h1.trans h2).foldl _ (fun u (x : Staged) => completeN_spares _ u x.id x.tick x.reply) _

theorem setF_spares (s : State) (k : Nat) (f : Option Nat) : Spares s (s.setF k f) :=
  ((modStream_spares s k _).set .CTX_LAST_FSEQ k _).set .CTX_F_VALID k _

theorem unfeed_spares (s : State) (k : Nat) (f : Frame) : Spares s (s.unfeed k f) := by
  unfold State.unfeed
  split
  · exact .refl s
  · exact ((((setF_spares s k _).ite (.refl s)).trans (modStream_spares _ k _)).trans (dropJobs_spares _ _)).trans (streamSync_spares _ k)

theorem free_spares (s : State) (a : Nat) : Spares s (s.free a) := by
  unfold State.free
  split
  · exact .refl s
  · dsimp only
    split
    · exact .same rfl rfl rfl
    · exact .same rfl rfl rfl

theorem endLoad_spares (s : State) (id : Nat) : Spares s (s.endLoad id) := .same rfl rfl rfl

theorem failLoad_spares (s : State) (id base : Nat) (r : Reply) : Spares s (s.failLoad id base r) :=
  (((endLoad_spares s id).trans (free_spares _ base)).trans (poolSync_spares _)).trans (complete_spares _ id r)

theorem failRead_spares (s : State) (id : Nat) (r : Reply) : Spares s (s.failRead id r) := by
  unfold State.failRead
  split
  · next k f _ => exact (unfeed_spares s k f).trans (complete_spares _ id r)
  · split
    · next base _ => exact failLoad_spares s id base r
    · exact complete_spares s id r

theorem failCopies_spares (s : State) (d : Nat) : Spares s (s.failCopies d) :=
  (Spares.refl s).foldl _ (fun u (r : HostRead) => failRead_spares u r.pkt _) _

/-! ## The Wren link and the role (R360, R410) -/

theorem breach_spares (s : State) (exit cause requester count addr hostAddr : Nat) :
    Spares s (s.breach exit cause requester count addr hostAddr) := by
  rw [breach_eq]
  have hl : ∀ v : State, ∀ ws, Spares v (v.logBreach ws) := fun v ws =>
    ((Spares.refl v).set .SEC_BREACH_SEQ 0 _).foldl _ (fun u _ => (Spares.refl u).set .BREACH_LOG _ _) _
  have hq : ∀ v : State, ∀ l, Spares v (v.withQueue l) := fun v l => .same rfl rfl rfl
  have hr : ∀ v : State, ∀ a b c d, Spares v (v.raiseBreach a b c d) := fun v a b c d =>
    (((Spares.refl v).set .SEC_BREACH_TOTAL 0 _).irq .SEC_SOOT_IRQ .SEC_SOOT_IRQ_EN 0 1).capture _ _ _ _ _
  exact ((hl s _).trans (hq _ _)).trans (hr _ _ _ _ _)

theorem refuseRange_spares (s : State) (cause lo hi : Nat) : Spares s (s.refuseRange cause lo hi) := by
  unfold State.refuseRange
  split
  · exact .refl s
  · exact breach_spares s _ _ _ _ _ _

theorem closeGate_spares (s : State) (cause : Nat) : Spares s (s.closeGate cause) := by
  rw [closeGate_eq]
  have hn : ∀ (v : State) n, Spares v { v with w.gateDrops := n } := fun v n => .same rfl rfl rfl
  have hm : ∀ (v : State) q, Spares v (v.refuseMau cause q) := fun v q =>
    (refuseRange_spares v cause _ _).trans (hn _ _)
  have he : ∀ v : State, Spares v (v.refuseEpoch cause) := fun v => by
    unfold State.refuseEpoch
    exact (Spares.refl v).ite (refuseRange_spares v cause _ _)
  have hg : ∀ v : State, Spares v v.emptyGate := fun v => .same rfl rfl rfl
  exact (((Spares.refl s).foldl _ hm _).trans (he _)).trans (hg _)

theorem dropReception_spares (s : State) : Spares s s.dropReception := by
  unfold State.dropReception
  split
  · exact .refl s
  · have h : ∀ n, Spares s { s with w.eRx := none, w.rxSkip := some n } := fun n => .same rfl rfl rfl
    exact ((h _).set .WRN_EPOCH_DISCARDED 0 _).set .WRN_EVENTS 0 _

theorem failBinds_spares (s : State) (r : Reply) : Spares s (s.failBinds r) := by
  unfold State.failBinds
  split
  · exact .refl s
  · have h : Spares s { s with w.pair := none } := .same rfl rfl rfl
    exact h.foldl _ (fun u id => complete_spares u id r) _

theorem setPartnerRole_spares (s : State) (r : Nat) : Spares s (s.setPartnerRole r) := by
  have hs : Spares s (if s.get .WRN_PARTNER_ROLE == r then s else
      let u := (s.set .WRN_PARTNER_ROLE 0 r).irq .GCTL_PAIR_IRQ .GCTL_PAIR_IRQ_EN 0 3 2
      (if r == 1 then u.resyncAll else if s.get .WRN_PARTNER_ROLE == 1 then u.stopMirroring else u).schSync) := by
    have hu := ((Spares.refl s).set .WRN_PARTNER_ROLE 0 r).irq .GCTL_PAIR_IRQ .GCTL_PAIR_IRQ_EN 3 2
    refine (Spares.refl s).ite (Spares.trans ?_ (schSync_spares _))
    exact (hu.trans (resyncAll_spares _)).ite ((hu.trans (stopMirroring_spares _)).ite hu)
  have he : ∀ (v : State) x, Spares v { v with w.e := x } := fun v x => .same rfl rfl rfl
  exact (hs.trans (he _ _)).ite hs

/-- What the loss of the link does to its own state (R360). -/
def State.linkEmpty (s : State) : State :=
  { s with
    w.train := none, w.leftData := none, w.ctrlQ := [], w.replay := [], w.txSeq := 1, w.rxSeq := 1, w.sent := [], w.lim := [], w.got := []
    w.nak := false, w.badTags := 0, w.rekey := false, w.resend := false, w.again := false, w.pings := [], w.e := none, w.epoch := 0, w.peer := none
    w.applied := 0, w.rxSkip := none, w.slewReq := none }

/-- What waited on the link ends: frames at the gate, an epoch in reception, a bind. -/
def State.linkCut (s : State) : State :=
  ((if s.session == 2 then s.refuseFrame else s).dropReception.failBinds (Reply.deviceFault 0x0201)).linkEmpty

theorem linkCut_spares (s : State) : Spares s s.linkCut := by
  have h := ((closeGate_spares s (if s.partner.isSome then 4 else 3)).ite (c := s.session == 2) (.refl s))
  have he : ∀ v : State, Spares v v.linkEmpty := fun v => .same rfl rfl rfl
  exact ((h.trans (dropReception_spares _)).trans (failBinds_spares _ _)).trans (he _)

theorem linkOff_eq (s : State) (reason : Nat) : s.linkOff reason =
    ((((((s.linkCut.set .WRN_SESSION 0 0).set .WRN_REASON 0 reason).set .WRN_PAYLOAD_MBPS 0 0).set .WRN_LSTATE 0 0).set .WRN_WIDTH 0 0).set
      .WRN_LANE 0 0).setPartnerRole 7 := rfl

/-- The session is gone with the link; the rest of the guarded registers stay. -/
theorem linkOff_spares (s : State) (reason : Nat) : Spares (s.set .WRN_SESSION 0 0) (s.linkOff reason) := by
  rw [linkOff_eq]
  have h := (linkCut_spares s).set_both .WRN_SESSION 0
  exact (((((h.set .WRN_REASON 0 reason).set .WRN_PAYLOAD_MBPS 0 0).set .WRN_LSTATE 0 0).set .WRN_WIDTH 0 0).set .WRN_LANE 0 0).trans
    (setPartnerRole_spares _ 7)

theorem startTraining_spares (s : State) : Spares s s.startTraining := by
  have h : ∀ x, Spares s { s with w.train := x, w.leftData := none, w.again := false } := fun x => .same rfl rfl rfl
  exact (((h _).set .WRN_LSTATE 0 1).set .WRN_WIDTH 0 0).set .WRN_LANE 0 0

theorem enterRole_spares (s : State) (r : Nat) (b : Bool) : Spares s (s.enterRole r b) := by
  have h0 : ∀ v : State, Spares v { v with w.roleDue := true, leaseLapsed := false } := fun v => .same rfl rfl rfl
  have h1 : Spares s { s.set .ROLE 0 r with w.roleDue := true, leaseLapsed := false } := ((Spares.refl s).set .ROLE 0 r).trans (h0 _)
  have h2 := h1.ite (c := (r == 0) = true) ((h1.set .LEASE_VALID 0 0).set .GCTL_LEASE_END 0 0)
  exact h2.ite (h2.irq .GCTL_PAIR_IRQ .GCTL_PAIR_IRQ_EN 0 2)

theorem leaveRole_spares (s : State) (was : Nat) : Spares s (s.leaveRole was) := by
  have h0 : ∀ v : State, Spares v { v with w.eRx := none, w.rxSkip := none } := fun v => .same rfl rfl rfl
  unfold State.leaveRole
  refine Spares.trans (Spares.trans (Spares.foldl ?_ _ (fun u e => ?_) _) (h0 _)) (schSync_spares _)
  · exact (stopMirroring_spares s).ite (.refl s)
  · exact (dropDecodes_spares u e.1).trans (modMirror_spares _ _ _)

theorem setRole_spares (s : State) (r : Nat) (b : Bool) : Spares s (s.setRole r b) := by
  have hf : Spares s (s.roleFence r) := by
    have h : Spares s s.fencePackets := .same rfl rfl rfl
    unfold State.roleFence
    exact h.ite (.refl s)
  by_cases h : s.role = r
  · rw [setRole_of_eq h]
    exact hf
  · rw [setRole_of_ne h]
    exact hf.trans ((enterRole_spares _ r b).trans (leaveRole_spares _ _))

theorem pairRoleDown_spares (s : State) : Spares s s.pairRoleDown := (setRole_spares s 2 false).ite (.refl s)

theorem pairDown_spares (s : State) (t : Treat) : Spares s (s.pairDown t) := by
  unfold State.pairDown
  split
  · exact ((stopMirroring_spares s).trans (pairRoleDown_spares _)).trans (schSync_spares _)
  · have h : Spares s.stopMirroring { s.stopMirroring with deferredPairDown := some s.now } := .same rfl rfl rfl
    exact ((stopMirroring_spares s).trans h).trans (schSync_spares _)
  · exact schSync_spares s

theorem linkDown_eq {s : State} (h : s.linkUp = true) (reason : Nat) : s.linkDown reason =
    let u := (((s.inRank 7 0).linkOff reason).capture 7 0 reason 0 0).pairDown ((s.inRank 7 0).treatment 7)
    if u.wrenOn then u.startTraining else u := by
  rw [State.linkDown, h]
  rfl

theorem linkDown_spares {s : State} (h : s.linkUp = true) (reason : Nat) : Spares (s.set .WRN_SESSION 0 0) (s.linkDown reason) := by
  rw [linkDown_eq h]
  have hu := ((((inRank_spares s 7 0).set_both .WRN_SESSION 0).trans (linkOff_spares _ reason)).capture 7 0 reason 0 0).trans
    (pairDown_spares _ ((s.inRank 7 0).treatment 7))
  exact (hu.trans (startTraining_spares _)).ite hu

/-! ## Sessions, the log and the partner (R432, R443, R469) -/

theorem log_spares (s : State) (type : Nat) (payload : List Nat) : Spares s (s.log type payload) := .same rfl rfl rfl

theorem newChallenge_spares (s : State) : Spares s s.newChallenge := by
  refine (Spares.refl s).foldl _ (fun u i => ?_) _
  have h : Spares u { u with freeCtr := u.freeCtr + 1 } := .same rfl rfl rfl
  exact h.set .SEC_DBG_CHALLENGE i _

theorem wdgBegin_spares (s : State) (w : Nat) : Spares s (s.wdgBegin w) := by
  have h : ∀ a b, Spares s { s with wdg.start := a, wdg.next := b } := fun a b => .same rfl rfl rfl
  exact ((((((h _ _).set .WDG_PERIOD w _).set .WDG_ENABLE w _).set .WDG_CHECKED w 0).set .WDG_OPEN w _).set .WDG_PREWARNED w 0).set
    .WDG_RUNNING w 1

theorem resumeCores_spares (s : State) : Spares s s.resumeCores := by
  have h := (Spares.refl s).set .DBG_CORES_HALTED 0 0
  unfold State.resumeCores
  exact (Spares.refl s).ite ((h.trans (wdgBegin_spares _ 1)).ite h)

/-- The session is gone; the rest of the guarded registers stay. -/
theorem endSession_spares (s : State) (cause : Nat) : Spares (s.set .DBG_SESSION 0 0) (s.endSession cause) := by
  unfold State.endSession
  split
  · next h =>
    have hs := Spares.of_set_same s .DBG_SESSION
    rwa [beq_iff_eq.mp h] at hs
  · have h0 := (((log_spares s 4 [cause]).set_both .DBG_SESSION 0).set .DBG_PORT_OPEN 0 0).set .DBG_SUSPENDED 0 0
    have h1 := ((h0.trans (resumeCores_spares _)).set .DBG_SCOPE 0 0).set .SEC_DBG_EXPIRY 0 0
    have ha : ∀ v : State, Spares v { v with labArm := none } := fun v => .same rfl rfl rfl
    exact ((h1.trans (ha _)).set .DBG_STATE 0 0).trans (newChallenge_spares _)

theorem setPartner_spares (s : State) (p : Option (Nat × Nat)) : Spares { s with partner := p } (s.setPartner p) :=
  ((Spares.refl { s with partner := p }).set .WRN_BOUND 0 _).set .WRN_PARTNER_SERIAL 0 _

theorem tamperUnbind_spares (s : State) : Spares { s with partner := none } s.tamperUnbind :=
  (setPartner_spares s none).trans (setRole_spares _ 3 false)

theorem tamperUnbind_role (s : State) : s.tamperUnbind.role = 3 := setRole_role _ 3 false

theorem burnPairEpoch_spares (s : State) :
    Spares { s with partner := none, fuses.pairEpoch := min (s.fuses.pairEpoch + 1) 32 } s.burnPairEpoch := by
  have h := (Spares.refl { s with partner := none, fuses.pairEpoch := min (s.fuses.pairEpoch + 1) 32 }).set .FUSE_PAIR_EPOCH 0
    (min (s.fuses.pairEpoch + 1) 32)
  exact (h.set .KEY_PAIRING_AVAILABLE 0 0).ite h

/-- Steps 1 to 3 of the tamper response: the session ends, the flues are fenced and the link goes (R450). -/
def State.tamperCut (s : State) : State :=
  if ({ s.endSession 5 with tamperFence := true } : State).linkUp then ({ s.endSession 5 with tamperFence := true } : State).linkDown 6
  else ({ s.endSession 5 with tamperFence := true } : State).set .WRN_SESSION 0 0

theorem tamperKeys_eq (s : State) : s.tamperKeys = s.tamperCut.burnPairEpoch := rfl

theorem tamperCut_spares (s : State) :
    Spares { (s.set .DBG_SESSION 0 0).set .WRN_SESSION 0 0 with tamperFence := true } s.tamperCut := by
  have h := ((endSession_spares s 5).set_both .WRN_SESSION 0).fence_both true
  unfold State.tamperCut
  split
  · next hu => exact h.trans (linkDown_spares hu 6)
  · exact h

/-- What steps 1 to 4 of the tamper response change of the guarded registers and the parts (R450). -/
def State.tampered (s : State) (n : Nat) : State :=
  { (s.set .DBG_SESSION 0 0).set .WRN_SESSION 0 0 with tamperFence := true, partner := none, fuses.pairEpoch := n }

theorem tamperKeys_spares (s : State) : ∃ n, Spares (s.tampered n) s.tamperKeys := by
  rw [tamperKeys_eq]
  exact ⟨_, ((tamperCut_spares s).epoch_both _).trans (burnPairEpoch_spares _)⟩

/-! ## FAULT and the loss of the host link (R98, R152) -/

theorem linkLost_spares (s : State) : Spares { s with retry := [] } s.linkLost := failCopies_spares _ _

theorem wrenSend_spares (s : State) (type ctx : Nat) (body : List Nat) : Spares s (s.wrenSend type ctx body) := by
  have h : ∀ a b, Spares s { s with w.txSeq := a, w.replay := b } := fun a b => .same rfl rfl rfl
  exact ((h _ _).set .WRN_TX_FRAMES 0 _).trans (emit_spares _ _)

/-- Entry into FAULT sets STATE and the code; the rest of the guarded registers stay (R98, R131). -/
theorem enterFault_spares {s : State} (h : s.isFault = false) (code ch : Nat) :
    Spares ((s.set .DS_STATE 0 7).set .DS_FAULT_CODE 0 code) (s.enterFault code ch) := by
  unfold State.enterFault
  rw [h]
  simp only [Bool.false_eq_true, if_false]
  have h0 := (Spares.refl ((s.set .DS_STATE 0 7).set .DS_FAULT_CODE 0 code)).set .DS_CHANNEL 0 ch
  generalize ((s.set .DS_STATE 0 7).set .DS_FAULT_CODE 0 code).set .DS_CHANNEL 0 ch = u at h0 ⊢
  have hs : ∀ l, Spares u { u with staged := l } := fun l => .same rfl rfl rfl
  have h1 := h0.trans ((hs (u.staged.map fun x => if x.tick == u.now then { x with reply := Reply.deviceFault 0x0001 } else x)).ite
    (c := code == 5) (.refl u))
  generalize (if code == 5 then { u with staged := u.staged.map fun x =>
      if x.tick == u.now then { x with reply := Reply.deviceFault 0x0001 } else x } else u : State) = v at h1 ⊢
  have h2 := h1.trans ((wrenSend_spares v 0x06 0 [code + 256 * ch, v.now]).ite (c := v.get .WRN_LSTATE == 6 && !v.clockIsLost 20) (.refl v))
  generalize (if v.get .WRN_LSTATE == 6 && !v.clockIsLost 20 then v.wrenSend 0x06 0 [code + 256 * ch, v.now] else v) = w at h2 ⊢
  exact h2.ite (h2.foldl _ (fun x id => complete_spares x id _) _)

end Sys2Proof.Machine
end

section
/-! Lost clocks, thermal trips, tamper and a failed TRNG (R97 to R99, R111, R112, R435, R449, R450). -/

namespace Sys2Proof.Machine

-- One theorem after the other, as in the tests: in parallel, proofs that wait for the kernel hold one thread with its own
-- stack each.
set_option Elab.async false

/-! ## Lost clocks (R97 to R99) -/

section ClockLoss

variable {s : State} {id : Nat}

/-- A lost clock is recorded; the loss of TCLK stops the tick (R99). -/
def State.clockGone (s : State) (id : Nat) : State :=
  let s := { s with clockLost := Tab.put id () s.clockLost }
  if id == 21 then { s with staleTick := some s.now }.set .EVU_TICK_STOPPED 0 1 else s

/-- How a lost clock is treated (R112, R113). -/
def State.lossTreat (s : State) (id : Nat) : Treat :=
  if s.isFault then .record else s.treatment (if id == 0 then 8 else if id == 20 then 7 else 1)

/-- A lost clock is recorded and raised. -/
def State.clockRaised (s : State) (id : Nat) : State :=
  ((s.inRank 1 id).clockGone id).capture 1 id (Num.b2n (id != 0 && id != 20)) 0 0

theorem clockLoss_eq (s : State) (id : Nat) : s.clockLoss id = (s.clockRaised id).clockLost' id ((s.inRank 1 id).lossTreat id) := rfl

theorem clockGone_get (s : State) (id : Nat) {f : Field} (hf : f ≠ .EVU_TICK_STOPPED) (i : Nat) : (s.clockGone id).get f i = s.get f i := by
  unfold State.clockGone
  split
  · exact State.get_set_ne _ _ _ _ hf
  · rfl

theorem clockGone_stopped (s : State) : (s.clockGone 21).get .EVU_TICK_STOPPED = 1 := State.get_set_self _ _ _ _

theorem clockGone_lost (s : State) (id : Nat) : (s.clockGone id).clockLost = Tab.put id () s.clockLost := by
  unfold State.clockGone
  split <;> rfl

theorem capture_spares (s : State) (c src d0 d1 d2 : Nat) : Spares s (s.capture c src d0 d1 d2) := (Spares.refl s).capture _ _ _ _ _

theorem Spares.clockIsLost {t : State} (h : Spares s t) (id : Nat) : t.clockIsLost id = s.clockIsLost id := by
  have hp := h.parts
  simp only [State.boardParts, Prod.mk.injEq] at hp
  rw [State.clockIsLost, State.clockIsLost, hp.1]

theorem clockRaised_lost (s : State) (id : Nat) : (s.clockRaised id).clockIsLost id = true := by
  rw [State.clockRaised, (capture_spares _ _ _ _ _ _).clockIsLost, State.clockIsLost, clockGone_lost]
  simp

theorem clockRaised_get (s : State) (id : Nat) {f : Field} (hg : f ∈ guarded) (hf : f ≠ .EVU_TICK_STOPPED) (i : Nat) :
    (s.clockRaised id).get f i = s.get f i := by
  rw [State.clockRaised, (capture_spares _ _ _ _ _ _).reg f hg, clockGone_get _ _ hf, (inRank_spares s 1 id).reg f hg]

theorem clockRaised_stopped (s : State) : (s.clockRaised 21).get .EVU_TICK_STOPPED = 1 := by
  rw [State.clockRaised, (capture_spares _ _ _ _ _ _).reg _ (by decide), clockGone_stopped]

/-- The loss is raised; that of TCLK before the stop is over. -/
theorem clockRaised_raised (hw : id = 21 → s.staleWritten = false) :
    Raised s (s.clockRaised id) 1 id (Num.b2n (id != 0 && id != 20)) 0 0 := by
  by_cases h : id = 21
  · subst h
    have hn : ((s.inRank 1 21).clockGone 21).now = (s.inRank 1 21).now := clockGone_get _ _ (by decide) 0
    have hs : ((s.inRank 1 21).clockGone 21).staleWritten = false := (inRank_part s 1 21 State.staleWritten fun _ => rfl).trans (hw rfl)
    refine ⟨capture_pending (by decide) _ _ _ _, .inr ?_⟩
    rcases capture_waits ((s.inRank 1 21).clockGone 21) (c := 1) (by decide) 21 (Num.b2n (21 != 0 && 21 != 20)) 0 0 with ⟨-, hx⟩ | hx
    · rw [hs] at hx
      cases hx
    · rwa [hn] at hx
  · refine raised_capture ?_ (by decide) _ 0 0
    have he : (s.inRank 1 id).clockGone id = { s.inRank 1 id with clockLost := Tab.put id () (s.inRank 1 id).clockLost } := by
      simp [State.clockGone, h]
    rw [he]
    rfl

/-- No event is taken away, and the clocks and the tick are as they were. -/
structure LossKept (s t : State) : Prop where
  events : EventsStay s t
  clocks : t.clockLost = s.clockLost
  stopped : t.get .EVU_TICK_STOPPED = s.get .EVU_TICK_STOPPED

theorem LossKept.refl (s : State) : LossKept s s := ⟨.refl s, rfl, rfl⟩

theorem LossKept.trans {t u : State} (h : LossKept s t) (k : LossKept t u) : LossKept s u :=
  ⟨h.events.trans k.events, k.clocks.trans h.clocks, k.stopped.trans h.stopped⟩

theorem LossKept.set {t : State} (h : LossKept s t) (f : Field) (i v : Nat) (hf : f ∉ [Field.EVU_PENDING, .EVU_TICK_STOPPED] := by decide) :
    LossKept s (t.set f i v) := by
  simp only [List.mem_cons, List.not_mem_nil, or_false, not_or] at hf
  exact ⟨h.events.set f i v (Ne.symm hf.1), h.clocks, (State.get_set_ne _ _ _ _ (Ne.symm hf.2)).trans h.stopped⟩

theorem Spares.lossKept {t : State} (h : Spares s t) : LossKept s t := by
  have hp := h.parts
  simp only [State.boardParts, Prod.mk.injEq] at hp
  exact ⟨h.eventsStay, hp.1, h.reg _ (by decide) 0⟩

theorem enterFault_lossKept (s : State) (code ch : Nat) : LossKept s (s.enterFault code ch) := by
  cases h : s.isFault with
  | true =>
    rw [State.enterFault, h]
    exact .refl s
  | false => exact (((LossKept.refl s).set .DS_STATE 0 7).set .DS_FAULT_CODE 0 code).trans (enterFault_spares h code ch).lossKept

theorem clockLost'_skipped {t : Treat} (h : (t != .apply && t != .defer) = true) (s : State) (id : Nat) : s.clockLost' id t = s := by
  rw [State.clockLost', if_pos h]

theorem clockLost'_acts {t : Treat} (h : (t != .apply && t != .defer) = false) (s : State) (id : Nat) : s.clockLost' id t =
    if id == 0 then (s.set .LINK_DOWN 0 1).drainStaged.linkLost
    else if id == 20 then (s.linkOff (s.get .WRN_REASON)).pairDown t
    else s.enterFault 5 0 := by
  rw [State.clockLost', if_neg (by simp [h])]

/-- The consequence of a lost clock takes no event away, and leaves the clocks and the tick as they are. -/
theorem clockLost'_keeps (s : State) (id : Nat) (t : Treat) : LossKept s (s.clockLost' id t) := by
  cases h : t != .apply && t != .defer with
  | true =>
    rw [clockLost'_skipped h]
    exact .refl s
  | false =>
    rw [clockLost'_acts h]
    split
    · have h0 : ∀ v : State, LossKept v { v with retry := [] } := fun v => ⟨.same rfl rfl, rfl, rfl⟩
      have hd := ((LossKept.refl s).set .LINK_DOWN 0 1).trans (drainStaged_spares (s.set .LINK_DOWN 0 1)).lossKept
      generalize (s.set .LINK_DOWN 0 1).drainStaged = v at hd ⊢
      exact (hd.trans (h0 v)).trans (linkLost_spares v).lossKept
    · split
      · exact (((LossKept.refl s).set .WRN_SESSION 0 0).trans (linkOff_spares s _).lossKept).trans (pairDown_spares _ t).lossKept
      · exact enterFault_lossKept s 5 0

/-- A lost HCLK takes the host link down (R97). -/
theorem clockLost'_hclk (s : State) : (s.clockLost' 0 .apply).get .LINK_DOWN = 1 ∧ (s.clockLost' 0 .apply).retry = [] := by
  rw [clockLost'_acts rfl, if_pos (beq_self_eq_true 0)]
  have hd := (drainStaged_spares (s.set .LINK_DOWN 0 1)).reg .LINK_DOWN (by decide) 0
  have hl := linkLost_spares (s.set .LINK_DOWN 0 1).drainStaged
  generalize (s.set .LINK_DOWN 0 1).drainStaged = v at hd hl ⊢
  have hp := hl.parts
  simp only [State.boardParts, Prod.mk.injEq] at hp
  obtain ⟨-, -, -, -, -, -, -, -, -, -, -, -, hp, -⟩ := hp
  exact ⟨(hl.reg .LINK_DOWN (by decide) 0).trans (hd.trans (State.get_set_self _ _ _ _)), hp⟩

/-- Any other clock but WCLK puts the unit into FAULT (R98). -/
theorem clockLost'_fault (h : s.isFault = false) (h0 : id ≠ 0) (h20 : id ≠ 20) :
    (s.clockLost' id .apply).dev = 7 ∧ (s.clockLost' id .apply).get .DS_FAULT_CODE = 5 := by
  rw [clockLost'_acts rfl, if_neg (by simpa using h0), if_neg (by simpa using h20)]
  have k := enterFault_spares h 5 0
  refine ⟨(k.reg .DS_STATE (by decide) 0).trans ?_, (k.reg .DS_FAULT_CODE (by decide) 0).trans (State.get_set_self _ _ _ _)⟩
  exact (State.get_set_ne _ _ _ _ (by decide)).trans (State.get_set_self _ _ _ _)

theorem clockLoss_runs (hi : id ≤ 22) (ha : s.clockArmed id = true) (hl : s.clockIsLost id = false) :
    exec (.clockLoss id) s = .next (settle (s.clockLoss id)) := by
  change execClockLoss id s = _
  rw [execClockLoss, if_neg (by omega), ha, hl]
  rfl

theorem inRank_isFault (s : State) (c src : Nat) : (s.inRank c src).isFault = s.isFault := by
  rw [State.isFault, State.isFault, State.dev, State.dev, (inRank_spares s c src).reg .DS_STATE (by decide)]

/-- What a lost clock shows (R97 to R99). -/
theorem clockLoss_shows (s : State) (hw : id = 21 → s.staleWritten = false) :
    let t := s.clockLoss id
    t.clockIsLost id = true ∧ Raised s t 1 id (if id = 0 ∨ id = 20 then 0 else 1) 0 0 ∧ (id = 21 → t.get .EVU_TICK_STOPPED = 1) ∧
      (id = 0 → s.isFault = false → (s.inRank 1 id).treatment 8 = .apply → t.get .LINK_DOWN = 1 ∧ t.retry = []) ∧
      (id ≠ 0 → id ≠ 20 → s.isFault = false → (s.inRank 1 id).treatment 1 = .apply → t.dev = 7 ∧ t.get .DS_FAULT_CODE = 5) ∧
      (s.isFault = true → t.dev = s.dev ∧ t.get .DS_FAULT_CODE = s.get .DS_FAULT_CODE) := by
  intro t
  have ht : t = (s.clockRaised id).clockLost' id ((s.inRank 1 id).lossTreat id) := clockLoss_eq s id
  have k := clockLost'_keeps (s.clockRaised id) id ((s.inRank 1 id).lossTreat id)
  have hf := inRank_isFault s 1 id
  have hd : (s.clockRaised id).dev = s.dev := clockRaised_get s id (by decide) (by decide) 0
  have hu : (s.clockRaised id).isFault = s.isFault := by rw [State.isFault, State.isFault, hd]
  have hn : Num.b2n (id != 0 && id != 20) = if id = 0 ∨ id = 20 then 0 else 1 := by
    by_cases h0 : id = 0
    · simp [h0, Num.b2n]
    · by_cases h1 : id = 20 <;> simp [h0, h1, Num.b2n]
  rw [← ht] at k
  refine ⟨?_, ?_, fun h => ?_, fun h hs ha => ?_, fun h0 h20 hs ha => ?_, fun hs => ?_⟩
  · rw [State.clockIsLost, k.clocks]
    exact clockRaised_lost s id
  · rw [← hn]
    exact (clockRaised_raised hw).stays (by decide) k.events
  · subst h
    exact k.stopped.trans (clockRaised_stopped s)
  · subst h
    have hl : (s.inRank 1 0).lossTreat 0 = .apply := by rw [State.lossTreat, hf, hs, ← ha]; rfl
    rw [ht, hl]
    exact clockLost'_hclk _
  · have hl : (s.inRank 1 id).lossTreat id = .apply := by simp [State.lossTreat, hf, hs, h0, h20, ha]
    rw [ht, hl]
    exact clockLost'_fault (hu.trans hs) h0 h20
  · have hl : (s.inRank 1 id).lossTreat id = .record := by rw [State.lossTreat, hf, hs]; rfl
    rw [ht, hl, clockLost'_skipped rfl]
    exact ⟨hd, clockRaised_get s id (by decide) (by decide) 0⟩

end ClockLoss

/-! ## A thermal trip (R111) -/

/-- A capture sets its pending bit and writes no other register. -/
theorem capture_regs (s : State) {c : Nat} (hc : c ≠ 14) (src d0 d1 d2 : Nat) :
    RegsBut (· == .EVU_PENDING) 0 s (s.capture c src d0 d1 d2) := by
  have hf : (s.capture c src d0 d1 d2).fields = (s.set .EVU_PENDING 0 (s.get .EVU_PENDING ||| 2 ^ c)).fields := by
    unfold State.capture
    simp only [beq_iff_eq, hc, if_false]
    split <;> rfl
  intro f j h1 h2
  rw [State.get_congr hf f j]
  exact (RegsBut.refl (· == .EVU_PENDING) 0 s).set .EVU_PENDING _ rfl f j h1 h2

/-- A trip is raised and, where it takes effect, fences the flues and stops the engines. -/
theorem thermalTrip_shows (s : State) (sensor : Nat) (temp : Int) :
    let t := s.thermalTrip sensor temp
    let u := s.inRank 2 sensor
    Raised s t 2 sensor (Num.ofSigned 32 temp) 0 0 ∧ (u.treatment 2 = .apply → s.thermal = none → t.thermal = some u.now) ∧
      RegsBut (· == .EVU_PENDING) 0 u t := by
  intro t u
  have hr : Raised s (u.capture 2 sensor (Num.ofSigned 32 temp) 0 0) 2 sensor (Num.ofSigned 32 temp) 0 0 :=
    raised_capture rfl (by decide) _ 0 0
  have hk := capture_regs u (c := 2) (by decide) sensor (Num.ofSigned 32 temp) 0 0
  have hp := (capture_spares u 2 sensor (Num.ofSigned 32 temp) 0 0).parts
  simp only [State.boardParts, Prod.mk.injEq] at hp
  obtain ⟨-, hth, -⟩ := hp
  have hs : u.thermal = s.thermal := inRank_part s 2 sensor State.thermal fun _ => rfl
  have ha : u.treatment 2 = .apply → t = { u.capture 2 sensor (Num.ofSigned 32 temp) 0 0 with
      thermal := some ((u.capture 2 sensor (Num.ofSigned 32 temp) 0 0).thermal.getD (u.capture 2 sensor (Num.ofSigned 32 temp) 0 0).now) } := by
    intro h
    simp only [t, State.thermalTrip, u] at h ⊢
    rw [h]
  have hn : u.treatment 2 ≠ .apply → t = u.capture 2 sensor (Num.ofSigned 32 temp) 0 0 := by
    intro h
    simp only [t, State.thermalTrip, u] at h ⊢
  clear_value t u
  have hnow : (u.capture 2 sensor (Num.ofSigned 32 temp) 0 0).now = u.now := hk .EVU_TICK_NOW 0 rfl (.inl rfl)
  generalize u.capture 2 sensor (Num.ofSigned 32 temp) 0 0 = v at *
  by_cases h : u.treatment 2 = .apply
  · rw [ha h]
    refine ⟨hr.stays (by decide) (.same rfl rfl), fun _ hnone => ?_, fun f j h1 h2 => hk f j h1 h2⟩
    rw [hnow, hth, hs, hnone]
    rfl
  · rw [hn h]
    exact ⟨hr, fun h' => absurd h' h, hk⟩

/-! ## Tamper (R449, R450) -/

section Tamper

variable {s : State} {src : Nat}

/-- An assertion latched and counted. -/
def State.tamperNoted (s : State) (src : Nat) : State :=
  let s := { s with tamperN := min (s.tamperN + 1) 255 }.set .TAMPER_LATCHED 0 (s.get .TAMPER_LATCHED ||| 2 ^ src)
  (if src < 2 then s.set .TAMPER_LEVEL 0 (s.get .TAMPER_LEVEL ||| 2 ^ src) else s).sat 32 .SEC_TAMPER_COUNT

/-- An assertion raised, and in the log where the boot is done. -/
def State.tamperRaised (s : State) (src : Nat) : State :=
  let n := min ((s.inRank 3 src).tamperN + 1) 255
  let u := ((s.inRank 3 src).tamperNoted src).capture 3 src n 0 0
  if u.boot == .done then u.log 0x08 [src, n] else u

theorem tamper_deferred (h : (s.inRank 3 src).treatment 3 = .defer) :
    s.tamper src = { s.tamperRaised src with tamperWait := (s.tamperRaised src).tamperWait ++ [src] } := by
  simp only [State.tamper, h]
  rfl

theorem tamper_applied (h : (s.inRank 3 src).treatment 3 = .apply) : s.tamper src = (s.tamperRaised src).tamperKeys.tamperEnd := by
  simp only [State.tamper, h]
  rfl

theorem tamper_recorded (h : (s.inRank 3 src).treatment 3 ≠ .defer) (h' : (s.inRank 3 src).treatment 3 ≠ .apply) :
    s.tamper src = (s.tamperRaised src).tamperKeys := by
  unfold State.tamper
  dsimp only
  split
  · contradiction
  · contradiction
  · rfl

theorem tamperNoted_get (s : State) (src : Nat) : ((s.tamperNoted src).get .TAMPER_LATCHED).testBit src = true ∧
    (s.tamperNoted src).get .SEC_TAMPER_COUNT = Num.satAdd 32 (s.get .SEC_TAMPER_COUNT) 1 ∧
    ∀ f, f ∉ [Field.TAMPER_LATCHED, .TAMPER_LEVEL, .SEC_TAMPER_COUNT] → ∀ i, (s.tamperNoted src).get f i = s.get f i := by
  have hg : ∀ m f i, ({ s with tamperN := m } : State).get f i = s.get f i := fun _ _ _ => rfl
  unfold State.tamperNoted
  dsimp only
  by_cases h : src < 2
  · simp only [h, if_true]
    refine ⟨?_, ?_, fun f hf i => ?_⟩
    · simp [State.sat, State.get_set, hg, Nat.testBit_or, Nat.testBit_two_pow_self]
    · simp [State.sat, State.get_set, hg]
    · simp only [List.mem_cons, List.not_mem_nil, or_false, not_or] at hf
      simp [State.sat, State.get_set, hg, hf]
  · simp only [h, if_false]
    refine ⟨?_, ?_, fun f hf i => ?_⟩
    · simp [State.sat, State.get_set, hg, Nat.testBit_or, Nat.testBit_two_pow_self]
    · simp [State.sat, State.get_set, hg]
    · simp only [List.mem_cons, List.not_mem_nil, or_false, not_or] at hf
      simp [State.sat, State.get_set, hg, hf]

theorem tamperNoted_rankView (s : State) (src : Nat) : (s.tamperNoted src).rankView = s.rankView := by
  have h0 : ∀ m, ({ s with tamperN := m } : State).rankView = s.rankView := fun _ => rfl
  unfold State.tamperNoted State.sat
  dsimp only
  split <;> simp (disch := decide) only [rankView_set, h0]

theorem tamperNoted_parts (s : State) (src : Nat) : (s.tamperNoted src).boardParts = s.boardParts := by
  have h0 : ({ s with tamperN := min (s.tamperN + 1) 255 } : State).boardParts = s.boardParts := rfl
  unfold State.tamperNoted State.sat
  dsimp only
  split <;> simp only [set_parts, h0]

/-- An assertion is raised, latched and counted (R449). -/
theorem tamperRaised_shows (s : State) (src : Nat) : Raised s (s.tamperRaised src) 3 src (min (s.tamperN + 1) 255) 0 0 ∧
    ((s.tamperRaised src).get .TAMPER_LATCHED).testBit src = true ∧
    (s.tamperRaised src).get .SEC_TAMPER_COUNT = Num.satAdd 32 (s.get .SEC_TAMPER_COUNT) 1 ∧
    (∀ f ∈ guarded, f ∉ [Field.TAMPER_LATCHED, .TAMPER_LEVEL, .SEC_TAMPER_COUNT] → ∀ i, (s.tamperRaised src).get f i = s.get f i) ∧
    (s.tamperRaised src).boardParts = s.boardParts := by
  have hn : (s.inRank 3 src).tamperN = s.tamperN := inRank_part s 3 src State.tamperN fun _ => rfl
  have hi := inRank_spares s 3 src
  obtain ⟨h1, h2, h3⟩ := tamperNoted_get (s.inRank 3 src) src
  have hr := raised_capture (tamperNoted_rankView (s.inRank 3 src) src) (c := 3) (by decide) (min ((s.inRank 3 src).tamperN + 1) 255) 0 0
  have hk : Spares ((s.inRank 3 src).tamperNoted src) (s.tamperRaised src) := by
    have hc := capture_spares ((s.inRank 3 src).tamperNoted src) 3 src (min ((s.inRank 3 src).tamperN + 1) 255) 0 0
    exact (hc.trans (log_spares _ _ _)).ite hc
  have hl : EventsStay (((s.inRank 3 src).tamperNoted src).capture 3 src (min ((s.inRank 3 src).tamperN + 1) 255) 0 0) (s.tamperRaised src) :=
    (log_spares _ _ _).eventsStay.ite (.refl _)
  rw [← hn]
  refine ⟨hr.stays (by decide) hl, by rwa [hk.reg _ (by decide)], ?_, fun f hf hne i => ?_, ?_⟩
  · rw [hk.reg _ (by decide), h2, hi.reg _ (by decide)]
  · rw [hk.reg f hf, h3 f hne, hi.reg f hf]
  · rw [hk.parts, tamperNoted_parts, hi.parts]

/-! ## Fetch stops and the buffers are zeroed -/

/-- Step 5 of the tamper response: the fetch of every client in service stops. -/
def stopFetchOf (s : State) (c : Nat) : State := if s.get .CL_ENABLE c == 1 then s.set .CL_FETCH_STOPPED c 1 else s

theorem stopFetchOf_get (s : State) (c : Nat) {f : Field} (hf : f ≠ .CL_FETCH_STOPPED) (i : Nat) : (stopFetchOf s c).get f i = s.get f i := by
  unfold stopFetchOf
  split
  · exact State.get_set_ne _ _ _ _ hf
  · rfl

theorem stopFetchOf_stops (s : State) (c i : Nat) (h : s.get .CL_FETCH_STOPPED i = 1 ∨ (i = c ∧ s.get .CL_ENABLE i = 1)) :
    (stopFetchOf s c).get .CL_FETCH_STOPPED i = 1 := by
  unfold stopFetchOf
  by_cases hi : i = c
  · subst hi
    rcases h with h | ⟨-, h⟩
    · split
      · exact State.get_set_self _ _ _ _
      · exact h
    · rw [h]
      exact State.get_set_self _ _ _ _
  · have h : s.get .CL_FETCH_STOPPED i = 1 := h.resolve_right fun e => hi e.1
    split
    · simp [State.get_set, hi, h]
    · exact h

theorem foldl_stopFetchOf (l : List Nat) (s : State) :
    (∀ f, f ≠ .CL_FETCH_STOPPED → ∀ i, (l.foldl stopFetchOf s).get f i = s.get f i) ∧
      (∀ i, s.get .CL_FETCH_STOPPED i = 1 ∨ (i ∈ l ∧ s.get .CL_ENABLE i = 1) → (l.foldl stopFetchOf s).get .CL_FETCH_STOPPED i = 1) ∧
      (l.foldl stopFetchOf s).captured = s.captured ∧ (l.foldl stopFetchOf s).boardParts = s.boardParts := by
  induction l generalizing s with
  | nil => simp
  | cons c l ih =>
    obtain ⟨h1, h2, h3, h4⟩ := ih (stopFetchOf s c)
    have hc : (stopFetchOf s c).captured = s.captured ∧ (stopFetchOf s c).boardParts = s.boardParts := by
      unfold stopFetchOf
      split <;> exact ⟨rfl, rfl⟩
    refine ⟨fun f hf i => (h1 f hf i).trans (stopFetchOf_get s c hf i), fun i hi => h2 i ?_, h3.trans hc.1, h4.trans hc.2⟩
    rcases hi with hi | ⟨hi, he⟩
    · exact .inl (stopFetchOf_stops s c i (.inl hi))
    · rcases List.mem_cons.mp hi with rfl | hi
      · exact .inl (stopFetchOf_stops s i i (.inr ⟨rfl, he⟩))
      · exact .inr ⟨hi, by rwa [stopFetchOf_get s c (by decide)]⟩

/-- Step 5 of the tamper response begins: no client's packets are fetched any more. -/
def State.stopFetch (s : State) : State := (List.range Config.clients).foldl stopFetchOf s

theorem tamperZero_eq (s : State) : s.tamperZero = s.stopFetch.zeroSoot.tamperUnbind := rfl

/-- Every soot buffer reads zero after the zeroisation, and the tile store too (R450). -/
theorem zeroSoot_zeroes (s : State) : KeepsRaised s s.zeroSoot ∧ s.zeroSoot.tileSoot = [] ∧
    (∀ a, s.cleanEnd ≤ a → a < s.tagBase → memByte s.zeroSoot.dram a = 0#8) ∧
    s.zeroSoot.tamperFence = s.tamperFence ∧ s.zeroSoot.partner = s.partner := by
  have he : s.zeroSoot = ((s.zeroRange (s.cleanEnd, s.tagBase)).poisonSync).clearTiles := rfl
  have hz : KeepsRaised s (s.zeroRange (s.cleanEnd, s.tagBase)) := .same rfl rfl
  have hp := (poisonSync_onRegs (s.zeroRange (s.cleanEnd, s.tagBase))).spares (by decide)
  have hq := hp.parts
  rw [he]
  generalize (s.zeroRange (s.cleanEnd, s.tagBase)).poisonSync = v at hp hq ⊢
  have hc : KeepsRaised v v.clearTiles := .same rfl rfl
  have hd : (s.zeroRange (s.cleanEnd, s.tagBase)).dram = memZero s.dram s.cleanEnd s.tagBase := rfl
  simp only [State.boardParts, Prod.mk.injEq] at hq
  obtain ⟨-, -, -, -, -, -, -, hfence, hpart, -, -, -, -, hdram, -⟩ := hq
  refine ⟨(hz.trans hp.toKeepsRaised).trans hc, rfl, fun a h1 h2 => ?_, hfence, hpart⟩
  change memByte v.dram a = 0#8
  rw [hdram, hd, memByte_memZero, if_pos ⟨h1, h2⟩]

/-- Step 6 leaves the fence, memory and what is raised, and forgets the partner (R410, R450). -/
theorem tamperUnbind_keeps (s : State) : KeepsRaised s s.tamperUnbind ∧ s.tamperUnbind.tamperFence = s.tamperFence ∧
    s.tamperUnbind.partner = none ∧ s.tamperUnbind.dram = s.dram ∧ s.tamperUnbind.tileSoot = s.tileSoot := by
  have h := tamperUnbind_spares s
  have h0 : KeepsRaised s { s with partner := none } := .same rfl rfl
  have hp := h.parts
  simp only [State.boardParts, Prod.mk.injEq] at hp
  obtain ⟨-, -, -, -, -, -, -, hfence, hpart, -, -, -, -, hdram, htile⟩ := hp
  exact ⟨h0.trans h.toKeepsRaised, hfence, hpart, hdram, htile⟩

/-- Steps 5 and 6 where the unit runs (R450). -/
theorem tamperZero_shows (s : State) :
    (∀ f ∈ guarded, f ≠ .CL_FETCH_STOPPED → ∀ i, s.tamperZero.get f i = s.get f i) ∧ EventsStay s s.tamperZero ∧
      s.tamperZero.tamperFence = s.tamperFence ∧ s.tamperZero.partner = none ∧ s.tamperZero.role = 3 ∧ s.tamperZero.tileSoot = [] ∧
      (∀ a, s.cleanEnd ≤ a → a < s.tagBase → memByte s.tamperZero.dram a = 0#8) ∧
      ∀ c, c < Config.clients → s.get .CL_ENABLE c = 1 → s.tamperZero.get .CL_FETCH_STOPPED c = 1 := by
  have hro : s.tamperZero.role = 3 := by
    rw [tamperZero_eq]
    exact tamperUnbind_role _
  rw [tamperZero_eq] at hro ⊢
  obtain ⟨hg, hst, hcap, hparts⟩ := foldl_stopFetchOf (List.range Config.clients) s
  change (∀ f, f ≠ .CL_FETCH_STOPPED → ∀ i, s.stopFetch.get f i = s.get f i) at hg
  change ∀ i, _ → s.stopFetch.get .CL_FETCH_STOPPED i = 1 at hst
  change s.stopFetch.captured = s.captured at hcap
  change s.stopFetch.boardParts = s.boardParts at hparts
  simp only [State.boardParts, Prod.mk.injEq] at hparts
  obtain ⟨-, -, -, -, -, -, -, hfence, -, hfuses, -⟩ := hparts
  have hev : EventsStay s s.stopFetch := ⟨fun c hc => by rwa [hg _ (by decide)], fun e he _ => by rw [hcap]; exact he⟩
  have hce : s.stopFetch.cleanEnd = s.cleanEnd := by
    rw [State.cleanEnd, State.eighth, State.dramBytes, hg _ (by decide), hfuses, State.cleanEnd, State.eighth, State.dramBytes]
  have htb : s.stopFetch.tagBase = s.tagBase := by rw [State.tagBase, State.dramBytes, hfuses, State.tagBase, State.dramBytes]
  generalize s.stopFetch = v at hg hst hev hfence hce htb hro ⊢
  obtain ⟨z1, z2, z3, z4, -⟩ := zeroSoot_zeroes v
  generalize v.zeroSoot = z at z1 z2 z3 z4 hro ⊢
  obtain ⟨u1, u2, u3, u4, u5⟩ := tamperUnbind_keeps z
  have k := z1.trans u1
  refine ⟨fun f hf hne i => (k.reg f hf i).trans (hg f hne i), hev.trans k.eventsStay, u2.trans (z4.trans hfence), u3, hro,
    u5.trans z2, fun a h1 h2 => ?_, fun c hc he => ?_⟩
  · rw [u4]
    exact z3 a (hce ▸ h1) (htb ▸ h2)
  · rw [k.reg _ (by decide)]
    exact hst c (.inr ⟨List.mem_range.mpr hc, he⟩)

/-- Steps 5 and 6 keep what the first four did (R450). -/
theorem tamperEnd_keeps (s : State) :
    (∀ f ∈ guarded, f ≠ .CL_FETCH_STOPPED → ∀ i, s.tamperEnd.get f i = s.get f i) ∧ EventsStay s s.tamperEnd ∧
      s.tamperEnd.tamperFence = s.tamperFence ∧ (s.partner = none → s.tamperEnd.partner = none) := by
  unfold State.tamperEnd
  split
  · obtain ⟨h1, h2, h3, h4, -⟩ := tamperZero_shows s
    exact ⟨h1, h2, h3, fun _ => h4⟩
  · split
    · exact ⟨fun _ _ _ _ => rfl, .same rfl rfl, rfl, id⟩
    · obtain ⟨h1, h2, h3, -⟩ := tamperUnbind_keeps s
      exact ⟨fun f hf _ i => h1.reg f hf i, h1.eventsStay, h2, fun _ => h3⟩

theorem tamperEnd_ready (hr : s.isReady = true) (hp : s.power < 2) (hq : s.powerReq = none) : s.tamperEnd = s.tamperZero := by
  simp [State.tamperEnd, hr, hp, hq]

/-- What the first four steps show. -/
theorem tamperKeys_shows (s : State) : EventsStay s s.tamperKeys ∧ s.tamperKeys.tamperFence = true ∧ s.tamperKeys.partner = none ∧
    s.tamperKeys.get .DBG_SESSION = 0 ∧ s.tamperKeys.get .WRN_SESSION = 0 ∧ s.tamperKeys.power = s.power ∧
    s.tamperKeys.powerReq = s.powerReq ∧ s.tamperKeys.fuses.v256 = s.fuses.v256 ∧
    ∀ f ∈ guarded, f ∉ [Field.DBG_SESSION, .WRN_SESSION] → ∀ i, s.tamperKeys.get f i = s.get f i := by
  obtain ⟨n, h⟩ := tamperKeys_spares s
  have h0 : EventsStay s (s.tampered n) := (((EventsStay.refl s).set .DBG_SESSION 0 0).set .WRN_SESSION 0 0).trans (.same rfl rfl)
  have hg : ∀ f i, (s.tampered n).get f i = ((s.set .DBG_SESSION 0 0).set .WRN_SESSION 0 0).get f i := fun _ _ => rfl
  have hp := h.parts
  simp only [State.boardParts, Prod.mk.injEq] at hp
  obtain ⟨-, -, -, -, hpow, hreq, -, hfence, hpart, hfuses, -⟩ := hp
  refine ⟨h0.trans h.eventsStay, hfence, hpart, ?_, ?_, hpow, hreq, by rw [hfuses]; rfl, fun f hf hne i => ?_⟩
  · rw [h.reg _ (by decide), hg, State.get_set_ne _ _ _ _ (by decide), State.get_set_self]
  · rw [h.reg _ (by decide), hg, State.get_set_self]
  · simp only [List.mem_cons, List.not_mem_nil, or_false, not_or] at hne
    rw [h.reg f hf, hg, State.get_set_ne _ _ _ _ hne.2, State.get_set_ne _ _ _ _ hne.1]

/-- The response to an assertion that does not wait: what every treatment shows (R449, R450). -/
theorem tamper_responds (h : (s.inRank 3 src).treatment 3 ≠ .defer) :
    EventsStay (s.tamperRaised src) (s.tamper src) ∧
      (∀ f ∈ guarded, f ∉ [Field.DBG_SESSION, .WRN_SESSION, .CL_FETCH_STOPPED] → ∀ i, (s.tamper src).get f i = (s.tamperRaised src).get f i) ∧
      (s.tamper src).tamperFence = true ∧ (s.tamper src).get .DBG_SESSION = 0 ∧ (s.tamper src).get .WRN_SESSION = 0 ∧
      (s.tamper src).partner = none := by
  obtain ⟨k1, k2, k3, k4, k5, -, -, -, k6⟩ := tamperKeys_shows (s.tamperRaised src)
  have k6' : ∀ f ∈ guarded, f ∉ [Field.DBG_SESSION, .WRN_SESSION, .CL_FETCH_STOPPED] → ∀ i,
      (s.tamperRaised src).tamperKeys.get f i = (s.tamperRaised src).get f i := fun f hf hne i => k6 f hf (by simp_all) i
  by_cases ha : (s.inRank 3 src).treatment 3 = .apply
  · rw [tamper_applied ha]
    obtain ⟨e1, e2, e3, e4⟩ := tamperEnd_keeps (s.tamperRaised src).tamperKeys
    refine ⟨k1.trans e2, fun f hf hne i => (e1 f hf (by simp_all) i).trans (k6' f hf hne i), e3.trans k2, ?_, ?_, e4 k3⟩
    · rw [e1 _ (by decide) (by decide), k4]
    · rw [e1 _ (by decide) (by decide), k5]
  · rw [tamper_recorded h ha]
    exact ⟨k1, k6', k2, k4, k5, k3⟩

/-- An assertion is raised, latched and counted, whatever its response (R449). -/
theorem tamper_raises (s : State) (src : Nat) : Raised s (s.tamper src) 3 src (min (s.tamperN + 1) 255) 0 0 ∧
    ((s.tamper src).get .TAMPER_LATCHED).testBit src = true ∧
    (s.tamper src).get .SEC_TAMPER_COUNT = Num.satAdd 32 (s.get .SEC_TAMPER_COUNT) 1 := by
  obtain ⟨h1, h2, h3, -⟩ := tamperRaised_shows s src
  by_cases h : (s.inRank 3 src).treatment 3 = .defer
  · rw [tamper_deferred h]
    generalize s.tamperRaised src = v at h1 h2 h3 ⊢
    exact ⟨h1.stays (by decide) (.same rfl rfl), h2, h3⟩
  · obtain ⟨r1, r2, -⟩ := tamper_responds h
    exact ⟨h1.stays (by decide) r1, by rwa [r2 _ (by decide) (by decide)], by rwa [r2 _ (by decide) (by decide)]⟩

/-- In READY, not asleep, the whole response runs (R450). -/
theorem tamper_zeroes (ha : (s.inRank 3 src).treatment 3 = .apply) (hr : s.isReady = true) (hp : s.power < 2) (hq : s.powerReq = none) :
    (s.tamper src).role = 3 ∧ (s.tamper src).tileSoot = [] ∧
      (∀ a, s.cleanEnd ≤ a → a < s.tagBase → memByte (s.tamper src).dram a = 0#8) ∧
      ∀ c, c < Config.clients → s.get .CL_ENABLE c = 1 → (s.tamper src).get .CL_FETCH_STOPPED c = 1 := by
  obtain ⟨-, -, -, g, parts⟩ := tamperRaised_shows s src
  obtain ⟨-, -, -, -, -, kpow, kreq, kfuse, kg⟩ := tamperKeys_shows (s.tamperRaised src)
  simp only [State.boardParts, Prod.mk.injEq] at parts
  obtain ⟨-, -, -, -, rpow, rreq, -, -, -, rfuse, -⟩ := parts
  have hg : ∀ f ∈ guarded, f ∉ [Field.TAMPER_LATCHED, .TAMPER_LEVEL, .SEC_TAMPER_COUNT, .DBG_SESSION, .WRN_SESSION] → ∀ i,
      (s.tamperRaised src).tamperKeys.get f i = s.get f i :=
    fun f hf hne i => (kg f hf (by simp_all) i).trans (g f hf (by simp_all) i)
  rw [tamper_applied ha, tamperEnd_ready]
  · obtain ⟨-, -, -, -, z1, z2, z3, z4⟩ := tamperZero_shows (s.tamperRaised src).tamperKeys
    have hv : (s.tamperRaised src).tamperKeys.fuses.v256 = s.fuses.v256 := by rw [kfuse, rfuse]
    refine ⟨z1, z2, fun a h1 h2 => z3 a ?_ ?_, fun c hc he => z4 c hc ?_⟩
    · rw [State.cleanEnd, State.eighth, State.dramBytes, hv, hg _ (by decide) (by decide)]
      exact h1
    · rw [State.tagBase, State.dramBytes, hv]
      exact h2
    · rw [hg _ (by decide) (by decide), he]
  · rw [State.isReady, State.dev, hg _ (by decide) (by decide)]
    exact hr
  · rwa [kpow, rpow]
  · rw [kreq, rreq, hq]

end Tamper

/-- Settles O44: each fault's event by `raised_capture`, kept by what its consequence spares. -/
theorem hardwareFaultsComplete : Obligations.HardwareFaultsComplete := by
  unfold Obligations.HardwareFaultsComplete
  refine fun s => ⟨fun id hi ha hl hw => ?_, fun sensor temp ht hp ho => ?_, fun src hsrc ho he => ?_, fun hb => ?_⟩
  · obtain ⟨h1, h2, h3, h4, h5, h6⟩ := clockLoss_shows s hw
    refine ⟨_, clockLoss_runs hi ha hl, ?_⟩
    have hk := settle_spares (s.clockLoss id)
    have hd : (settle (s.clockLoss id)).dev = (s.clockLoss id).dev := settle_get _ _ _ rfl
    simp (disch := decide) only [hk.clockIsLost, settle_get, settle_retry, hd]
    exact ⟨h1, h2.stays (by decide) hk.eventsStay, h3, h4, h5, h6⟩
  · obtain ⟨h1, h2, h3⟩ := thermalTrip_shows s sensor temp
    refine ⟨settle (s.thermalTrip sensor temp), ?_, ?_⟩
    · change execThermalTrip sensor temp s = _
      simp [execThermalTrip, ht, hp, ho]
    · simp only [settle_thermal]
      exact ⟨h1.stays (by decide) (settle_spares _).eventsStay, h2, h3.settle⟩
  · obtain ⟨h1, h2, h3⟩ := tamper_raises s src
    refine ⟨settle (s.tamper src), ?_, ?_⟩
    · change execTamper src s = _
      have he : (decide (2 ≤ src) || (s.get .SEC_TAMPER_EN).testBit src) = true := by simpa using he
      rw [execTamper, if_neg (by omega), ho, he]
      rfl
    · have hf : ∀ v : State, v.tamperFence = true → v.fenced = true := fun v h => by simp [State.fenced, h]
      have hro : (settle (s.tamper src)).role = (s.tamper src).role := settle_get _ _ _ rfl
      simp (disch := decide) only [settle_get, settle_tamperWait, settle_tamperFence, settle_partner, settle_tileSoot, settle_dram, hro]
      refine ⟨h1.stays (by decide) (settle_spares _).eventsStay, h2, h3, fun h => ?_, fun h => ?_, fun h hr hp hq => tamper_zeroes h hr hp hq⟩
      · obtain ⟨-, -, -, -, parts⟩ := tamperRaised_shows s src
        simp only [State.boardParts, Prod.mk.injEq] at parts
        obtain ⟨-, -, -, -, -, -, hwait, -⟩ := parts
        rw [tamper_deferred h]
        exact congrArg (· ++ [src]) hwait
      · obtain ⟨-, -, r3, r4, r5, r6⟩ := tamper_responds h
        exact ⟨r3, hf _ (by rw [settle_tamperFence, r3]), r4, r5, r6⟩
  · refine ⟨settle (s.set .KEY_TRNG_FAIL 0 1), ?_, ?_, ?_⟩
    · change execTrngHealthFail s = _
      simp [execTrngHealthFail, hb]
    · rw [settle_get _ _ _ rfl, State.get_set_self]
    · exact ((KeepsBlock.refl _ 0 s).set .KEY_TRNG_FAIL 1 rfl).settle

end Sys2Proof.Machine
end

section
/-! Resets that run the boot ROM (R119, R120, R127, R128, R131, R525, R527, R530): what they wipe, what they keep, and how the boot
begins. -/

namespace Sys2Proof.Machine

-- One theorem after the other, as in the tests: in parallel, proofs that wait for the kernel hold one thread with its own
-- stack each.
set_option Elab.async false

/-! ## The challenge and the end of a session (R442, R443) -/

theorem foldl_challenge {P : State → Prop} (hs : ∀ v i x, P v → P (v.set .SEC_DBG_CHALLENGE i x)) (hc : ∀ (v : State) n, P v → P { v with freeCtr := n })
    (l : List Nat) (s : State) (h : P s) :
    P (l.foldl (fun s i => let d := s.draw (2 ^ 32); d.2.set .SEC_DBG_CHALLENGE i d.1) s) := by
  induction l generalizing s with
  | nil => exact h
  | cons i l ih => exact ih _ (hs _ _ _ (hc _ _ h))

/-- A fresh challenge writes its registers alone. -/
theorem newChallenge_get (s : State) {f : Field} (hf : f ≠ .SEC_DBG_CHALLENGE) (i : Nat) : s.newChallenge.get f i = s.get f i :=
  foldl_challenge (P := fun v => v.get f i = s.get f i) (fun _ _ _ h => (State.get_set_ne _ _ _ _ hf).trans h) (fun _ _ h => h) _ s rfl

/-- What no register and no drawn value tells stays with a fresh challenge. -/
theorem newChallenge_part {α : Type} (p : State → α) (hs : ∀ v f i x, p (State.set v f i x) = p v)
    (hc : ∀ (v : State) n, p { v with freeCtr := n } = p v) (s : State) : p s.newChallenge = p s :=
  foldl_challenge (P := fun v => p v = p s) (fun _ _ _ h => (hs _ _ _ _).trans h) (fun _ _ h => (hc _ _).trans h) _ s rfl

theorem wdgBegin_now (s : State) (w : Nat) : (s.wdgBegin w).now = s.now := by
  unfold State.wdgBegin State.now
  simp (disch := decide) only [State.get_set_ne]
  rfl

theorem resumeCores_now (s : State) : s.resumeCores.now = s.now := by
  have h : (s.set .DBG_CORES_HALTED 0 0).now = s.now := State.get_set_ne _ _ _ _ (by decide)
  unfold State.resumeCores
  split
  · rfl
  · dsimp only
    split
    · exact (wdgBegin_now _ 1).trans h
    · exact h

/-- A session that exists has ended, but for its challenge. -/
def State.sessionOver (s : State) (cause : Nat) : State :=
  let s := (((s.log 4 [cause]).set .DBG_SESSION 0 0).set .DBG_PORT_OPEN 0 0).set .DBG_SUSPENDED 0 0
  { (s.resumeCores.set .DBG_SCOPE 0 0).set .SEC_DBG_EXPIRY 0 0 with labArm := none }

theorem endSession_eq (s : State) (cause : Nat) :
    s.endSession cause = if s.get .DBG_SESSION == 0 then s else ((s.sessionOver cause).set .DBG_STATE 0 0).newChallenge := rfl

theorem sessionOver_now (s : State) (cause : Nat) : (s.sessionOver cause).now = s.now := by
  have hs : ∀ (v : State) f x, f ≠ .EVU_TICK_NOW → (v.set f 0 x).now = v.now := fun v f x h => State.get_set_ne _ _ _ _ (Ne.symm h)
  have ha : ∀ v : State, ({ v with labArm := none } : State).now = v.now := fun _ => rfl
  have hl : (s.log 4 [cause]).now = s.now := rfl
  simp (disch := decide) only [State.sessionOver, ha, hs, resumeCores_now, hl]

theorem endSession_now (s : State) (cause : Nat) : (s.endSession cause).now = s.now := by
  rw [endSession_eq]
  split
  · rfl
  · refine (newChallenge_get _ (by decide) 0).trans ((State.get_set_ne _ _ _ _ (by decide)).trans ?_)
    exact sessionOver_now s cause

/-! ## What is made good before a reset (R112, R449) -/

/-- The tamper steps that waited run, and the session ends. -/
def State.preReset (s : State) : State := (if s.tamperWait.isEmpty then s else s.tamperKeys.tamperUnbind).endSession 4

/-- What is made good before a reset keeps what is raised, the guarded registers but the sessions', the trip and the bus. -/
structure PreKept (s t : State) : Prop where
  events : EventsStay s t
  reg : ∀ f ∈ guarded, f ∉ [Field.DBG_SESSION, .WRN_SESSION] → ∀ i, t.get f i = s.get f i
  thermal : t.thermal = s.thermal
  bme : t.bme = s.bme

theorem PreKept.refl (s : State) : PreKept s s := ⟨.refl s, fun _ _ _ _ => rfl, rfl, rfl⟩

theorem PreKept.trans {s t u : State} (h : PreKept s t) (k : PreKept t u) : PreKept s u :=
  ⟨h.events.trans k.events, fun f hf hn i => (k.reg f hf hn i).trans (h.reg f hf hn i), k.thermal.trans h.thermal, k.bme.trans h.bme⟩

theorem PreKept.of_spares {s t : State} (h : Spares s t) : PreKept s t := by
  have hp := h.parts
  simp only [State.boardParts, Prod.mk.injEq] at hp
  exact ⟨h.eventsStay, fun f hf _ i => h.reg f hf i, hp.2.1, hp.2.2.1⟩

theorem PreKept.set (s : State) (f : Field) (v : Nat) (hf : f ∈ [Field.DBG_SESSION, .WRN_SESSION]) : PreKept s (s.set f 0 v) := by
  have hne : Field.EVU_PENDING ≠ f := fun e => absurd (e ▸ hf) (by decide)
  exact ⟨(EventsStay.refl s).set f 0 v hne, fun g _ hn i => State.get_set_ne _ _ _ _ fun e => hn (e ▸ hf), rfl, rfl⟩

theorem endSession_preKept (s : State) (cause : Nat) : PreKept s (s.endSession cause) :=
  (PreKept.set s .DBG_SESSION 0 (by decide)).trans (.of_spares (endSession_spares s cause))

theorem tamperKeys_preKept (s : State) : PreKept s s.tamperKeys := by
  obtain ⟨n, h⟩ := tamperKeys_spares s
  have h0 : PreKept ((s.set .DBG_SESSION 0 0).set .WRN_SESSION 0 0) (s.tampered n) := ⟨.same rfl rfl, fun _ _ _ _ => rfl, rfl, rfl⟩
  exact (((PreKept.set s .DBG_SESSION 0 (by decide)).trans (PreKept.set _ .WRN_SESSION 0 (by decide))).trans h0).trans (.of_spares h)

theorem tamperUnbind_preKept (s : State) : PreKept s s.tamperUnbind := by
  have h0 : PreKept s { s with partner := none } := ⟨.same rfl rfl, fun _ _ _ _ => rfl, rfl, rfl⟩
  exact h0.trans (.of_spares (tamperUnbind_spares s))

theorem endSession_parts (s : State) (cause : Nat) : (s.endSession cause).dram = s.dram ∧ (s.endSession cause).partner = s.partner ∧
    (s.endSession cause).fuses = s.fuses := by
  have hp := (endSession_spares s cause).parts
  simp only [State.boardParts, Prod.mk.injEq] at hp
  obtain ⟨-, -, -, -, -, -, -, -, hpart, hfuse, -, -, -, hdram, -⟩ := hp
  exact ⟨hdram, hpart, hfuse⟩

theorem preReset_preKept (s : State) : PreKept s s.preReset := by
  refine PreKept.trans ?_ (endSession_preKept _ 4)
  split
  · exact .refl s
  · exact (tamperKeys_preKept s).trans (tamperUnbind_preKept _)

/-- With no tamper waiting, memory, the partner, the fuses and the tick stay. -/
theorem preReset_parts {s : State} (h : s.tamperWait = []) :
    s.preReset.dram = s.dram ∧ s.preReset.partner = s.partner ∧ s.preReset.fuses = s.fuses ∧ s.preReset.now = s.now := by
  rw [State.preReset, h, if_pos List.isEmpty_nil]
  obtain ⟨h1, h2, h3⟩ := endSession_parts s 4
  exact ⟨h1, h2, h3, endSession_now s 4⟩

/-- A tamper that waited forgets the partner. -/
theorem preReset_partner {s : State} (h : s.tamperWait ≠ []) : s.preReset.partner = none := by
  rw [State.preReset, if_neg (by simpa using h), (endSession_parts _ 4).2.1]
  exact (tamperUnbind_keeps _).2.2.1

/-! ## What a reset wipes (R127, R128) -/

/-- From `s`, with the tamper made good, to `w` the reset wipes the state: of the registers those it keeps stay. -/
structure Wiped (link : Bool) (s w : State) : Prop where
  fields : w.fields = s.fields.filter fun e => keptField (e.1 % 512) || (link && linkField (e.1 % 512))
  packets : w.packets = []
  streams : w.streams = []
  boot : w.boot = .inReset
  dram : w.dram = s.dram
  partner : w.partner = s.partner
  fuses : w.fuses = s.fuses
  thermal : w.thermal = s.thermal
  bme : w.bme = (link && s.bme)

/-- What the reset leaves in the registers of its cause. -/
def State.causeRegs (w : State) (cause fault warm : Nat) : State :=
  ((w.set .RC_CAUSE 0 cause).set .RC_WAS_FAULT 0 fault).set .DS_WARM 0 warm

theorem bootReset_wiped (s : State) (cause : Nat) (warm link : Bool) : ∃ w, Wiped link s.preReset w ∧
    s.bootReset cause warm link = (w.causeRegs cause (Num.b2n s.isFault) (Num.b2n warm)).bootRegs := by
  cases warm <;> cases link
  all_goals
    refine ⟨_, ?_, rfl⟩
    exact ⟨rfl, rfl, rfl, rfl, rfl, rfl, rfl, rfl, rfl⟩

theorem get_of_filter {P : Nat → Bool} {s w : State} (h : w.fields = s.fields.filter fun e => P (e.1 % 512)) (f : Field) (i : Nat) :
    w.get f i = if P f.ctorIdx then s.get f i else f.reset i := by
  simp only [State.get, Tab.getD, h]
  rw [Tab.find?_filter_key (fun k => P (k % 512)), Field.key_mod]
  split <;> rfl

/-- The registers that a reset writes by name. -/
def bootFields : List Field := [.RC_CAUSE, .RC_WAS_FAULT, .DS_WARM, .WRN_BOUND, .WRN_PARTNER_SERIAL, .ROLE, .GCTL_GEN, .DBG_STATE]

theorem bootRegs_get (s : State) {f : Field} (hf : f ∉ [Field.WRN_BOUND, .WRN_PARTNER_SERIAL, .ROLE, .GCTL_GEN, .DBG_STATE]) (i : Nat) :
    s.bootRegs.get f i = s.get f i := by
  simp only [List.mem_cons, List.not_mem_nil, or_false, not_or] at hf
  obtain ⟨h1, h2, h3, h4, h5⟩ := hf
  unfold State.bootRegs State.setPartner
  rw [State.get_set_ne _ _ _ _ h5, State.get_set_ne _ _ _ _ h4, State.get_set_ne _ _ _ _ h3, State.get_set_ne _ _ _ _ h2,
    State.get_set_ne _ _ _ _ h1]

theorem bootRegs_role (s : State) : s.bootRegs.role = if s.partner.isSome then 2 else 3 := by
  unfold State.bootRegs State.role
  rw [State.get_set_ne _ _ _ _ (by decide), State.get_set_ne _ _ _ _ (by decide), State.get_set_self]

theorem causeRegs_get (w : State) (cause fault warm : Nat) : (w.causeRegs cause fault warm).get .RC_CAUSE = cause ∧
    (w.causeRegs cause fault warm).get .RC_WAS_FAULT = fault ∧ (w.causeRegs cause fault warm).get .DS_WARM = warm ∧
    ∀ f, f ∉ [Field.RC_CAUSE, .RC_WAS_FAULT, .DS_WARM] → ∀ i, (w.causeRegs cause fault warm).get f i = w.get f i := by
  unfold State.causeRegs
  refine ⟨by simp [State.get_set], by simp [State.get_set], State.get_set_self _ _ _ _, fun f hf i => ?_⟩
  simp only [List.mem_cons, List.not_mem_nil, or_false, not_or] at hf
  simp [State.get_set, hf]

/-- What no register tells is as the wipe left it. -/
theorem bootRegs_part {α : Type} (p : State → α) (hs : ∀ v f i x, p (State.set v f i x) = p v) (w : State) (cause fault warm : Nat) :
    p (w.causeRegs cause fault warm).bootRegs = p w := by
  have hp : ∀ v : State, p (v.setPartner v.partner) = p v := fun v => (hs _ _ _ _).trans (hs _ _ _ _)
  simp only [State.bootRegs, hs, hp, State.causeRegs]

/-- Registers that a reset does not write by name keep their value or take that of reset (R128, R451). -/
theorem wiped_get {link : Bool} {s w : State} (h : Wiped link s w) (cause fault warm : Nat) {f : Field} (hf : f ∉ bootFields) (i : Nat) :
    ((w.causeRegs cause fault warm).bootRegs).get f i =
      if keptField f.ctorIdx || (link && linkField f.ctorIdx) then s.get f i else f.reset i := by
  simp only [bootFields, List.mem_cons, List.not_mem_nil, or_false, not_or] at hf
  rw [bootRegs_get _ (by simp [hf]), (causeRegs_get w cause fault warm).2.2.2 f (by simp [hf])]
  exact get_of_filter (P := fun k => keptField k || (link && linkField k)) h.fields f i

/-! ## What every reset shows (R128) -/

/-- `t` is `s` after a reset: the registers of its state, and what survives it where no tamper waited. -/
structure ResetKept (s t : State) : Prop where
  dev : t.dev = 1
  packets : t.packets = []
  streams : t.streams = []
  fault : t.get .RC_WAS_FAULT = Num.b2n s.isFault
  role : t.role = if t.partner.isSome then 2 else 3
  survives : s.tamperWait = [] → t.dram = s.dram ∧ t.partner = s.partner ∧ t.fuses = s.fuses
  forgets : s.tamperWait ≠ [] → t.partner = none

/-- The tick of the reset, its trip and the pending link-down (R102, R530). -/
structure ResetHere (s t : State) : Prop where
  now : s.tamperWait = [] → t.now = s.now
  thermal : t.thermal = s.thermal
  pending : ∀ c, (s.get .EVU_PENDING).testBit c = true → (t.get .EVU_PENDING).testBit c = true

section Reset

variable {s t u : State}

theorem bootReset_resetKept (s : State) (cause : Nat) (warm link : Bool) : ResetKept s (s.bootReset cause warm link) ∧
    ResetHere s (s.bootReset cause warm link) ∧ (s.bootReset cause warm link).boot = .inReset ∧
    (s.bootReset cause warm link).get .RC_CAUSE = cause ∧ (s.bootReset cause warm link).get .DS_WARM = Num.b2n warm ∧
    (s.bootReset cause warm link).get .LINK_DL_UP = (if link then s.get .LINK_DL_UP else 0) ∧
    (s.bootReset cause warm link).bme = (link && s.bme) := by
  obtain ⟨w, hw, he⟩ := bootReset_wiped s cause warm link
  have hp := preReset_preKept s
  obtain ⟨c1, c2, c3, -⟩ := causeRegs_get w cause (Num.b2n s.isFault) (Num.b2n warm)
  have hg := fun {f} hf i => wiped_get hw cause (Num.b2n s.isFault) (Num.b2n warm) (f := f) hf i
  have hparts := bootRegs_part (fun v => (v.packets, v.streams, v.boot, v.dram, v.partner, v.fuses, v.thermal, v.bme)) (fun _ _ _ _ => rfl) w
    cause (Num.b2n s.isFault) (Num.b2n warm)
  have hrole := bootRegs_role (w.causeRegs cause (Num.b2n s.isFault) (Num.b2n warm))
  have hcp : (w.causeRegs cause (Num.b2n s.isFault) (Num.b2n warm)).partner = w.partner := rfl
  have hr : ∀ {f}, f ∉ _ → _ := fun {f} hf => bootRegs_get (w.causeRegs cause (Num.b2n s.isFault) (Num.b2n warm)) (f := f) hf 0
  rw [he]
  generalize (w.causeRegs cause (Num.b2n s.isFault) (Num.b2n warm)).bootRegs = t at hg hparts hrole hr ⊢
  simp only [Prod.mk.injEq] at hparts
  obtain ⟨q1, q2, q3, q4, q5, q6, q7, q8⟩ := hparts
  refine ⟨⟨?_, q1.trans hw.packets, q2.trans hw.streams, ?_, ?_, fun h => ?_, fun h => ?_⟩,
    ⟨fun h => ?_, q7.trans (hw.thermal.trans hp.thermal), fun c hc => ?_⟩, q3.trans hw.boot, ?_, ?_, ?_, q8.trans (hw.bme.trans (by rw [hp.bme]))⟩
  · refine (hg (f := .DS_STATE) (by decide) 0).trans ?_
    cases link <;> rfl
  · rw [hr (by decide), c2]
  · rw [hrole, hcp, q5]
  · obtain ⟨h1, h2, h3, -⟩ := preReset_parts h
    exact ⟨q4.trans (hw.dram.trans h1), q5.trans (hw.partner.trans h2), q6.trans (hw.fuses.trans h3)⟩
  · exact q5.trans (hw.partner.trans (preReset_partner h))
  · exact (hg (f := .EVU_TICK_NOW) (by decide) 0).trans (preReset_parts h).2.2.2
  · rw [hg (f := .EVU_PENDING) (by decide) 0]
    exact hp.events.pending c hc
  · rw [hr (by decide), c1]
  · rw [hr (by decide), c3]
  · rw [hg (f := .LINK_DL_UP) (by decide) 0, ← hp.reg .LINK_DL_UP (by decide) (by decide)]
    cases link <;> rfl

/-- Other registers and other parts change after the reset. -/
theorem ResetKept.more (h : ResetKept s t) (hg : ∀ f ∈ [Field.DS_STATE, .RC_WAS_FAULT, .ROLE], u.get f = t.get f)
    (hp : (u.packets, u.streams, u.dram, u.partner, u.fuses) = (t.packets, t.streams, t.dram, t.partner, t.fuses)) : ResetKept s u := by
  simp only [Prod.mk.injEq] at hp
  obtain ⟨p1, p2, p3, p4, p5⟩ := hp
  refine ⟨(hg .DS_STATE (by decide)).trans h.dev, p1.trans h.packets, p2.trans h.streams, (hg .RC_WAS_FAULT (by decide)).trans h.fault, ?_,
    fun hw => ?_, fun hw => p4.trans (h.forgets hw)⟩
  · rw [p4]
    exact (hg .ROLE (by decide)).trans h.role
  · rw [p3, p4, p5]
    exact h.survives hw

theorem ResetHere.more (h : ResetHere s t) (hg : ∀ f ∈ [Field.EVU_TICK_NOW, .EVU_PENDING], u.get f = t.get f) (hp : u.thermal = t.thermal) :
    ResetHere s u :=
  ⟨fun hw => (hg .EVU_TICK_NOW (by decide)).trans (h.now hw), hp.trans h.thermal, fun c hc => by
    rw [hg .EVU_PENDING (by decide)]; exact h.pending c hc⟩

/-- What a reset shows goes by the state it starts from. -/
theorem ResetKept.of_start (h : ResetKept t u) (hf : t.isFault = s.isFault)
    (hp : (t.tamperWait, t.dram, t.partner, t.fuses) = (s.tamperWait, s.dram, s.partner, s.fuses)) : ResetKept s u := by
  simp only [Prod.mk.injEq] at hp
  obtain ⟨p1, p2, p3, p4⟩ := hp
  refine ⟨h.dev, h.packets, h.streams, hf ▸ h.fault, h.role, fun hw => ?_, fun hw => h.forgets (p1 ▸ hw)⟩
  rw [← p2, ← p3, ← p4]
  exact h.survives (p1.trans hw)

/-! ## The link-down of a reset, and the boot (R120, R530) -/

theorem resetLinkDown_spares (s : State) (code : Nat) : Spares s (s.resetLinkDown code) := by
  unfold State.resetLinkDown
  exact ((inRank_spares s 8 0).capture 8 0 code 0 0).ite (.refl s)

theorem resetLinkDown_pending (h : s.get .LINK_DL_UP = 1) (code : Nat) : ((s.resetLinkDown code).get .EVU_PENDING).testBit 8 = true := by
  rw [State.resetLinkDown, h]
  exact capture_pending (by decide) _ _ _ _

/-- Where nothing of a later rank is captured, the reset is in this tick. -/
theorem resetLinkDown_now (h : s.outOfRank 8 0 = false) (code : Nat) : (s.resetLinkDown code).now = s.now := by
  have hi : s.inRank 8 0 = s := by rw [State.inRank, h]; rfl
  unfold State.resetLinkDown
  split
  · rw [hi]
    exact capture_regs s (by decide) _ _ _ _ .EVU_TICK_NOW 0 rfl (.inl rfl)
  · rfl

/-- A reset with its link-down shows what any reset does, and has raised the link-down (R530). -/
theorem linkReset_shows (s : State) (code cause : Nat) (warm : Bool) :
    let t := (s.resetLinkDown code).bootReset cause warm false
    ResetKept s t ∧ (s.outOfRank 8 0 = false → s.tamperWait = [] → t.now = s.now) ∧ t.thermal = s.thermal ∧ t.boot = .inReset ∧
      t.get .RC_CAUSE = cause ∧ t.get .DS_WARM = Num.b2n warm ∧ t.get .LINK_DL_UP = 0 ∧ t.bme = false ∧
      (s.get .LINK_DL_UP = 1 → (t.get .EVU_PENDING).testBit 8 = true) := by
  intro t
  have hs := resetLinkDown_spares s code
  have hp := hs.parts
  simp only [State.boardParts, Prod.mk.injEq] at hp
  obtain ⟨-, hth, -, -, -, -, hwait, -, hpart, hfuse, -, -, -, hdram, -⟩ := hp
  obtain ⟨k, h, b, r, w, l, m⟩ := bootReset_resetKept (s.resetLinkDown code) cause warm false
  have hf : (s.resetLinkDown code).isFault = s.isFault := by
    rw [State.isFault, State.isFault, State.dev, State.dev, hs.reg .DS_STATE (by decide)]
  refine ⟨k.of_start hf (by rw [hwait, hdram, hpart, hfuse]), fun ho hw => ?_, h.thermal.trans hth, b, r, w, l, m, fun hl => ?_⟩
  · exact (h.now (hwait.trans hw)).trans (resetLinkDown_now ho code)
  · exact h.pending 8 (resetLinkDown_pending hl code)

theorem tickResume_get (s : State) : s.tickResume.get .EVU_TICK_STOPPED = 0 ∧ ∀ f, f ≠ .EVU_TICK_STOPPED → s.tickResume.get f = s.get f :=
  ⟨State.get_set_self _ _ _ _, fun _ h => State.get_set_ne _ _ _ _ h⟩

/-- The boot begins with the tick running; it writes the challenge alone (R99, R120, R442). -/
theorem bootBegin_shows (s : State) : s.bootBegin.boot = .sramZero ∧ s.bootBegin.get .EVU_TICK_STOPPED = 0 ∧
    (∀ f, f ≠ .SEC_DBG_CHALLENGE → f ≠ .EVU_TICK_STOPPED → s.bootBegin.get f = s.get f) ∧
    (s.bootBegin.packets, s.bootBegin.streams, s.bootBegin.dram, s.bootBegin.partner, s.bootBegin.fuses, s.bootBegin.bme,
      s.bootBegin.perstN, s.bootBegin.bayrstN) = (s.packets, s.streams, s.dram, s.partner, s.fuses, s.bme, s.perstN, s.bayrstN) := by
  have he : s.bootBegin = ({ s.tickResume with boot := .sramZero } : State).newChallenge := rfl
  rw [he]
  refine ⟨newChallenge_part State.boot (fun _ _ _ _ => rfl) (fun _ _ => rfl) _, (newChallenge_get _ (by decide) 0).trans ?_,
    fun f h1 h2 => (newChallenge_get _ h1 0).trans ?_, ?_⟩
  · exact (tickResume_get s).1
  · exact (tickResume_get s).2 f h2
  · exact newChallenge_part (fun v => (v.packets, v.streams, v.dram, v.partner, v.fuses, v.bme, v.perstN, v.bayrstN))
      (fun _ _ _ _ => rfl) (fun _ _ => rfl) _

theorem ResetKept.bootBegin (h : ResetKept s t) : ResetKept s t.bootBegin := by
  obtain ⟨-, -, hg, hp⟩ := bootBegin_shows t
  simp only [Prod.mk.injEq] at hp
  obtain ⟨p1, p2, p3, p4, p5, -⟩ := hp
  have hne : ∀ f ∈ [Field.DS_STATE, .RC_WAS_FAULT, .ROLE], f ≠ .SEC_DBG_CHALLENGE ∧ f ≠ .EVU_TICK_STOPPED := by decide
  exact h.more (fun f hf => hg f (hne f hf).1 (hne f hf).2) (by rw [p1, p2, p3, p4, p5])

theorem ResetKept.settle (h : ResetKept s t) : ResetKept s (settle t) := by
  refine h.more (fun f hf => settle_get _ _ _ ?_) (by simp)
  have hs : ∀ f ∈ [Field.DS_STATE, .RC_WAS_FAULT, .ROLE], settleFields f = false := by decide
  exact hs f hf

/-- A power-on reset keeps the fuses, the SPI NOR and what they give, and nothing else (R119, R127). -/
def State.poweredOn (s : State) (lost : Bool) : State :=
  ({ State.reset with
    pending := s.pending, perstN := s.perstN, bayrstN := s.bayrstN, aonValid := s.aonValid && !lost
    fuses := s.fuses, partner := s.partner, storedGen := s.storedGen, nor := s.nor, egress := s.egress
    freeCtr := s.freeCtr } : State).bootRegs

theorem poweredOn_get (s : State) (lost : Bool) {f : Field} (hf : f ∉ [Field.WRN_BOUND, .WRN_PARTNER_SERIAL, .ROLE, .GCTL_GEN, .DBG_STATE]) :
    (s.poweredOn lost).get f = f.reset 0 := bootRegs_get _ hf 0

theorem powerOnReset_runs {lost : Bool} (h : s.pwrok = true ∨ (lost = true ∧ s.aonValid = true)) :
    exec (.powerOnReset lost) s = .next (settle (s.poweredOn lost)) := by
  change execPowerOnReset lost s = _
  have hc : (s.pwrok || (lost && s.aonValid)) = true := by rcases h with h | ⟨h1, h2⟩ <;> simp_all
  rw [execPowerOnReset, if_pos hc]
  rfl

/-- The reset of a falling PERST_N or BAYRST_N (R119, R127, R530). -/
def State.coldReset (s : State) (bay : Bool) : State :=
  let s1 := if s.boot == .inReset then s else (s.resetLinkDown 0).bootReset (if bay then 4 else 2) false false
  if bay then { s1 with bayrstN := false, boot := .inReset } else { s1 with perstN := false, boot := .inReset }

theorem coldReset_runs {bay : Bool} (h : (if bay then s.bayrstN else s.perstN) = true) :
    exec (.coldReset bay) s = .next (settle (s.coldReset bay)) := by
  change execColdReset bay s = _
  rw [execColdReset, if_pos h]
  rfl

/-- The two inputs and the boot are all that a cold reset changes after its wipe. -/
theorem coldReset_shows (s : State) (bay : Bool) : (s.coldReset bay).boot = .inReset ∧
    (if bay then (s.coldReset bay).bayrstN else (s.coldReset bay).perstN) = false ∧
    (s.boot ≠ .inReset → ∃ t, t = (s.resetLinkDown 0).bootReset (if bay then 4 else 2) false false ∧ (s.coldReset bay).fields = t.fields ∧
      (s.coldReset bay).bme = t.bme ∧
      ((s.coldReset bay).packets, (s.coldReset bay).streams, (s.coldReset bay).dram, (s.coldReset bay).partner, (s.coldReset bay).fuses) =
        (t.packets, t.streams, t.dram, t.partner, t.fuses)) := by
  unfold State.coldReset
  cases bay with
  | true => exact ⟨rfl, rfl, fun hb => ⟨_, rfl, by simp [hb], by simp [hb], by simp [hb]⟩⟩
  | false => exact ⟨rfl, rfl, fun hb => ⟨_, rfl, by simp [hb], by simp [hb], by simp [hb]⟩⟩

/-- GCTL_RESET reaches its register in every state (R131). -/
theorem warmResetWrite_runs (h : s.HostOpen) {v : Nat} (hv : v < 2 ^ 32) :
    exec (.warmResetWrite v) s = .next (settle (s.resetWrite v)) := by
  change execWarmResetWrite v s = _
  have hc : s.clockIsLost 0 = false := by
    have hd := linkDead_of_barsReached h.1
    simp only [State.linkDead, Bool.or_eq_false_iff] at hd
    exact hd.2
  have hb : blockClock 0xC = 0 := rfl
  have hw : s.writable 0xC = true := by simp [State.writable, hb, hc]
  rw [execWarmResetWrite, hostReg_open h hw, wrap32_of_lt hv]
  rfl

theorem resetWrite_warm {v : Nat} (hk : v / 65536 = 0xC0DE) (h0 : v.testBit 0 = true) :
    s.resetWrite v = (s.bootReset 16 true true).bootBegin := by
  have hk : v / 65536 % 65536 = 0xC0DE := by omega
  simp only [State.resetWrite, hk, h0]
  rfl

theorem resetWrite_ignored {v : Nat} (hv : v < 2 ^ 32) (h : v / 65536 ≠ 0xC0DE ∨ v.testBit 0 = false) : s.resetWrite v = s := by
  have hk : v / 65536 % 65536 = v / 65536 := by omega
  rw [State.resetWrite, hk, if_neg]
  rcases h with h | h <;> simp [h]

end Reset

/-- Settles O41: each reset by `bootReset_resetKept`, and what comes before and after it by what it leaves alone. -/
theorem bootResetsComplete : Obligations.BootResetsComplete := by
  unfold Obligations.BootResetsComplete
  intro s kept here
  have hkept : ∀ t, ResetKept s t → kept t := fun t h => ⟨h.dev, h.packets, h.streams, h.fault, h.role, h.survives, h.forgets⟩
  have hnow : ∀ t : State, (settle t).now = t.now := fun t => settle_get _ _ _ rfl
  have hdev : ∀ t : State, (settle t).dev = t.dev := fun t => settle_get _ _ _ rfl
  have hrole : ∀ t : State, (settle t).role = t.role := fun t => settle_get _ _ _ rfl
  refine ⟨fun lost h => ?_, fun h => ?_, fun strap h1 h2 h3 => ?_, fun h1 h2 h3 h4 => ?_, fun bay h => ?_, fun h1 h2 h3 h4 h5 => ?_,
    fun v ho hv => ⟨fun hk h0 => ?_, fun h => ?_⟩, fun t0 ht hw hp => ?_⟩
  · refine ⟨_, powerOnReset_runs h, ?_⟩
    have hg := fun {f} hf => poweredOn_get s lost (f := f) hf
    have hn : (s.poweredOn lost).now = 0 := hg (f := .EVU_TICK_NOW) (by decide)
    have hd : (s.poweredOn lost).dev = 1 := hg (f := .DS_STATE) (by decide)
    have hc : (s.poweredOn lost).get .RC_CAUSE = 1 := hg (f := .RC_CAUSE) (by decide)
    simp (disch := decide) only [settle_get, hnow, hdev, hrole, hn, hd, hc, settle_pwrok, settle_boot, settle_fuses, settle_nor, settle_dram,
      settle_packets, settle_streams, settle_aonValid, true_and]
    exact ⟨rfl, rfl, rfl, rfl, rfl, rfl, rfl, rfl, bootRegs_role _⟩
  · refine ⟨settle { s with aonValid := true }, ?_, settle_aonValid _, (KeepsBlock.refl _ 0 _).settle⟩
    change execAonValid s = _
    rw [execAonValid, h]
    rfl
  · refine ⟨settle { s with pwrok := true, strapAddr := strap }, ?_, settle_pwrok _, settle_strapAddr _, (KeepsBlock.refl _ 0 _).settle⟩
    change execPwrokRise strap s = _
    rw [execPwrokRise, if_neg (by omega), h2, h3]
    rfl
  · refine ⟨settle ({ s with perstN := true, bayrstN := true } : State).bootBegin, ?_, ?_⟩
    · change execResetRelease s = _
      rw [execResetRelease, h1, h2, h3, h4]
      rfl
    · obtain ⟨b1, b2, b3, b4⟩ := bootBegin_shows { s with perstN := true, bayrstN := true }
      simp only [Prod.mk.injEq] at b4
      obtain ⟨-, -, -, -, -, -, p1, p2⟩ := b4
      simp (disch := decide) only [settle_get, hdev, settle_boot, settle_perstN, settle_bayrstN]
      exact ⟨b1, p1, p2, b3 .DS_STATE (by decide) (by decide), b2⟩
  · refine ⟨_, coldReset_runs h, ?_⟩
    obtain ⟨c1, c2, c3⟩ := coldReset_shows s bay
    refine ⟨by rw [settle_boot, c1], by simpa using c2, fun hb => ?_⟩
    obtain ⟨t, rfl, cf, cm, cp⟩ := c3 hb
    have hg : ∀ f i, (s.coldReset bay).get f i = _ := State.get_congr cf
    obtain ⟨r1, r2, -, -, r5, -, r7, r8, r9⟩ := linkReset_shows s 0 (if bay then 4 else 2) false
    refine ⟨hkept _ (r1.more (fun f _ => hg f 0) cp).settle, fun a b => (hnow _).trans ((hg .EVU_TICK_NOW 0).trans (r2 a b)), ?_⟩
    simp (disch := decide) only [settle_get, settle_bme, hg, cm]
    exact ⟨r5, r7, r8, r9⟩
  · refine ⟨settle (((s.resetLinkDown 0x0A).bootReset 8 true false).bootBegin.set .LINK_LTSSM 0 0x0A), ?_, ?_⟩
    · change execHotReset s = _
      simp [execHotReset, h1, h2, h3, h4, h5]
    · obtain ⟨r1, r2, -, -, r5, r6, r7, r8, r9⟩ := linkReset_shows s 0x0A 8 true
      have rb := r1.bootBegin
      obtain ⟨b1, -, b3, b4⟩ := bootBegin_shows ((s.resetLinkDown 0x0A).bootReset 8 true false)
      simp only [Prod.mk.injEq] at b4
      obtain ⟨-, -, -, -, -, b4, -⟩ := b4
      generalize ((s.resetLinkDown 0x0A).bootReset 8 true false).bootBegin = u at rb b1 b3 b4 ⊢
      have hs : ∀ f, f ≠ .LINK_LTSSM → (u.set .LINK_LTSSM 0 0x0A).get f = u.get f := fun f hf => State.get_set_ne _ _ _ _ hf
      have hne : ∀ f ∈ [Field.DS_STATE, .RC_WAS_FAULT, .ROLE], f ≠ .LINK_LTSSM := by decide
      refine ⟨by rw [settle_boot]; exact b1, hkept _ (rb.more (fun f hf => hs f (hne f hf)) rfl).settle, fun a b => ?_, ?_⟩
      · exact (hnow _).trans ((hs .EVU_TICK_NOW (by decide)).trans ((b3 _ (by decide) (by decide)).trans (r2 a b)))
      · simp (disch := decide) only [settle_get, settle_bme, hs, b3, State.get_set_self, true_and]
        exact ⟨r5, r6, r7, b4.trans r8, r9⟩
  · refine ⟨_, warmResetWrite_runs ho hv, ?_⟩
    rw [resetWrite_warm hk h0]
    obtain ⟨k, h, -, r, w, l, m⟩ := bootReset_resetKept s 16 true true
    obtain ⟨b1, -, b3, b4⟩ := bootBegin_shows (s.bootReset 16 true true)
    simp only [Prod.mk.injEq] at b4
    obtain ⟨-, -, -, -, -, b4, -⟩ := b4
    have hup : s.get .LINK_DL_UP = 1 := by
      have hr := ho.1
      simp only [State.barsReached, Bool.and_eq_true, beq_iff_eq] at hr
      obtain ⟨⟨⟨⟨⟨⟨hu, -⟩, -⟩, -⟩, -⟩, -⟩, -⟩ := hr
      exact hu
    refine ⟨by rw [settle_boot, b1], hkept _ k.bootBegin.settle, fun a => ?_, ?_⟩
    · exact (hnow _).trans ((b3 _ (by decide) (by decide)).trans (h.now a))
    · simp (disch := decide) only [settle_get, settle_bme, b3]
      exact ⟨r, w, l.trans hup, b4.trans m⟩
  · refine ⟨_, warmResetWrite_runs ho hv, ?_⟩
    rw [resetWrite_ignored hv h]
    exact (KeepsBlock.refl _ 0 s).settle
  · refine ⟨settle { (s.resetLinkDown 0).bootReset (s.get .RC_CAUSE) false false with pwrdnReq := true, boot := .inReset }, ?_, ?_⟩
    · change execPwrdnReq s = _
      rw [execPwrdnReq, ht]
      rcases hw with hw | hw <;> simp [hp, hw]
    · obtain ⟨r1, r2, r3, -, r5, -⟩ := linkReset_shows s 0 (s.get .RC_CAUSE) false
      generalize (s.resetLinkDown 0).bootReset (s.get .RC_CAUSE) false false = u at r1 r2 r3 r5 ⊢
      have hm : ResetKept s { u with pwrdnReq := true, boot := .inReset } := r1.more (fun _ _ => rfl) rfl
      refine ⟨settle_boot _, settle_pwrdnReq _, ?_, hkept _ hm.settle, fun a b => ?_, ?_⟩
      · rw [settle_thermal]
        exact r3.trans ht
      · exact (hnow _).trans (r2 a b)
      · rw [settle_get _ _ _ rfl]
        exact r5

end Sys2Proof.Machine
end
section
/-! What work on streams, roles and budgets leaves of the host's side: the link, STATE, device memory, objects and fences, and what
waits in the crossing (R129, R147, R155). -/

namespace Sys2Proof.Machine

-- One theorem after the other, as in the tests: in parallel, proofs that wait for the kernel hold one thread with its own
-- stack each.
set_option Elab.async false

/-! ## Two frames -/

/-- The registers of the host link, and STATE. -/
def linkRegs : List Field := [.LINK_LTSSM, .LINK_DL_UP, .LINK_DOWN, .LINK_SPEED, .LINK_WIDTH, .GCTL_LINK_ERR, .DS_STATE]

/-- No context holds a stream. -/
def State.NoStreams (s : State) : Prop := ∀ k, s.stream? k = none

/-- From `s` to `t` the link's registers, STATE and device memory stay, interrupt messages alone are sent, and no stream or packet
comes. -/
structure HostKept (s t : State) : Prop where
  reg : ∀ f ∈ linkRegs, ∀ i, t.get f i = s.get f i
  dram : t.dram = s.dram
  adds : AddsMessages s t
  gone : ∀ k, s.stream? k = none → t.stream? k = none
  packets : s.packets = [] → t.packets = []

/-- Objects, fences, the width offered and the completions that wait. -/
def State.hostParts (s : State) := (s.objects, s.fences, s.offer, s.staged)

/-- `HostKept`, and objects, fences, the width offered and what waits stay, and no job comes where there is no stream. -/
structure Beside (s t : State) : Prop extends HostKept s t where
  parts : t.hostParts = s.hostParts
  crossing : s.held = false → t.crossing = s.crossing
  jobs : s.NoStreams → s.jobs = [] → t.jobs = []

section Frames

variable {F : Field → Bool} {s t u : State}

theorem HostKept.trans (h : HostKept s t) (k : HostKept t u) : HostKept s u :=
  ⟨fun f hf i => (k.reg f hf i).trans (h.reg f hf i), k.dram.trans h.dram, h.adds.trans k.adds, fun j hj => k.gone j (h.gone j hj),
    fun hp => k.packets (h.packets hp)⟩

theorem HostKept.held (h : HostKept s t) : t.held = s.held := by
  simp only [State.held, h.reg .LINK_LTSSM (by decide)]

theorem HostKept.noStreams (h : HostKept s t) (hs : s.NoStreams) : t.NoStreams := fun k => h.gone k (hs k)

/-- What `HostKept` speaks of. -/
def State.hostView (s : State) := (s.fields, s.dram, s.egress, s.streams, s.packets)

/-- Other parts of the state change. -/
theorem HostKept.same (h : t.hostView = s.hostView) : HostKept s t := by
  simp only [State.hostView, Prod.mk.injEq] at h
  obtain ⟨hf, hd, he, hs, hp⟩ := h
  exact ⟨fun f _ i => State.get_congr hf f i, hd, .of_egress he, fun k hk => by rwa [State.stream?, hs], fun h => hp.trans h⟩

theorem HostKept.refl (s : State) : HostKept s s := .same rfl

theorem HostKept.set (h : HostKept s t) (f : Field) (i v : Nat) (hf : f ∉ linkRegs := by decide) : HostKept s (t.set f i v) :=
  h.trans { HostKept.refl t with reg := fun _ hg _ => State.get_set_ne _ _ _ _ fun e => hf (e ▸ hg) }

theorem HostKept.foldl {α : Type} (h : HostKept s t) (g : State → α → State) (hg : ∀ s a, HostKept s (g s a)) (l : List α) :
    HostKept s (l.foldl g t) := by
  induction l generalizing t with
  | nil => exact h
  | cons a l ih => exact ih (h.trans (hg t a))

theorem Beside.refl (s : State) : Beside s s := ⟨.refl s, rfl, fun _ => rfl, fun _ h => h⟩

theorem Beside.trans (h : Beside s t) (k : Beside t u) : Beside s u :=
  ⟨h.toHostKept.trans k.toHostKept, k.parts.trans h.parts, fun hh => (k.crossing (h.held.trans hh)).trans (h.crossing hh),
    fun hs hj => k.jobs (h.noStreams hs) (h.jobs hs hj)⟩

/-- Parts that neither frame speaks of change, or jobs go. -/
theorem Beside.same (h : t.hostView = s.hostView) (hp : (t.hostParts, t.crossing) = (s.hostParts, s.crossing))
    (hj : s.jobs = [] → t.jobs = []) : Beside s t := by
  simp only [Prod.mk.injEq] at hp
  exact ⟨.same h, hp.1, fun _ => hp.2, fun _ => hj⟩

theorem Beside.set (h : Beside s t) (f : Field) (i v : Nat) (hf : f ∉ linkRegs := by decide) : Beside s (t.set f i v) :=
  h.trans ⟨(HostKept.refl t).set f i v hf, rfl, fun _ => rfl, fun _ hj => hj⟩

theorem Beside.ite {c : Prop} [Decidable c] (h : Beside s t) (k : Beside s u) : Beside s (if c then t else u) := by
  split
  · exact h
  · exact k

theorem Beside.foldl {α : Type} (h : Beside s t) (g : State → α → State) (hg : ∀ s a, Beside s (g s a)) (l : List α) :
    Beside s (l.foldl g t) := by
  induction l generalizing t with
  | nil => exact h
  | cons a l ih => exact ih (h.trans (hg t a))

/-- Registers are written and interrupts signalled, and nothing waits in the crossing for it. -/
theorem OnRegs.beside (h : OnRegs F s t) (hF : ∀ f ∈ linkRegs, F f = false) (hc : s.held = false → t.crossing = s.crossing) :
    Beside s t := by
  obtain ⟨hp, -, hf, hj, -, hs⟩ := h.only
  exact ⟨⟨fun f hf i => h.keeps.1 f i (hF f hf), h.keeps.dram, h.adds, fun k hk => by rwa [h.stream? k], fun e => hp.trans e⟩,
    by simp only [State.hostParts, h.keeps.objects, hf, h.keeps.offer, hs], hc, fun _ e => hj.trans e⟩

end Frames

/-! ## Messages and events -/

theorem post_crossing {s : State} (h : s.held = false) (x : Egress) : (s.post x).crossing = s.crossing := by
  rw [State.post, h]
  rfl

theorem discard_crossing (s : State) : s.discard.crossing = s.crossing := by
  unfold State.discard State.sat
  split <;> rfl

/-- While the link takes messages, none waits. -/
theorem signal_crossing {s : State} (h : s.held = false) (v : Nat) : (s.signal v).crossing = s.crossing := by
  unfold State.signal
  split
  · rfl
  · split
    · exact discard_crossing s
    · exact post_crossing h _

theorem signal_onRegs (s : State) (v : Nat) : OnRegs linkCounts s (s.signal v) :=
  ⟨signal_frame s v fun _ h => h, signal_only s v, signal_addsMessages s v⟩

theorem signal_beside (s : State) (v : Nat) : Beside s (s.signal v) :=
  (signal_onRegs s v).beside (by decide) fun h => signal_crossing h v

theorem Beside.irq {s t : State} (h : Beside s t) (r e : Field) (i b v : Nat) (hr : r ∉ linkRegs := by decide) :
    Beside s (t.irq r e i b v) := by
  refine h.trans ?_
  unfold State.irq
  exact (((Beside.refl t).set r i _ hr).trans (signal_beside _ v)).ite ((Beside.refl t).set r i _ hr)

theorem Beside.capture {s t : State} (h : Beside s t) (c src d0 d1 d2 : Nat) : Beside s (t.capture c src d0 d1 d2) := by
  refine h.trans ?_
  have hp : ∀ v : State, Beside v (if c == 14 then v else v.set .EVU_PENDING 0 (v.get .EVU_PENDING ||| 2 ^ c)) := fun v =>
    (Beside.refl v).ite ((Beside.refl v).set .EVU_PENDING 0 _)
  have hc : ∀ v : State, Beside v (if (v.get .EVU_TICK_STOPPED == 1 && v.staleWritten) = true then v
      else { v with captured := v.captured ++ [⟨v.now, c, src, d0, d1, d2⟩] }) := fun v =>
    (Beside.refl v).ite (.same rfl rfl id)
  exact (hp t).trans (hc _)

theorem settle_beside (s : State) : Beside s (settle s) := by
  have h1 : Beside s s.countSync :=
    (((((((Beside.refl s).set .FLU_FENCED 0 _).set .SCH_JOBS 0 _).set .SCH_PKT_JOBS 0 _).set .PGR_RESIDENT 0 _).set .PGR_MODELS 0 _).set
      .PGR_ENSEMBLES 0 _).set .DS_DB_LATCHED 0 _
  refine h1.trans ?_
  change Beside s.countSync s.countSync.certSync
  generalize s.countSync = u
  have h2 := (((Beside.refl u).set .CERT_REASON 0 u.certReason).set .CERT_LIFETIME_OUT 0 (Num.b2n (u.certReason % 4 != 0))).set
    .CERT_CERTIFIED 0 (Num.b2n (u.certReason == 0))
  unfold State.certSync
  exact h2.ite (h2.irq .SEC_SOOT_IRQ .SEC_SOOT_IRQ_EN 0 1 1)

/-! ## Streams, units and budgets -/

theorem modStream_beside (s : State) (k : Nat) (g : Stream → Stream) : Beside s (s.modStream k g) := by
  cases h : s.stream? k with
  | none =>
    rw [show s.modStream k g = s by simp only [State.modStream, h]]
    exact .refl s
  | some st =>
    refine ⟨⟨fun f _ i => modStream_get s k g f i, ?_, ?_, fun j hj => ?_, ?_⟩, ?_, fun _ => ?_, fun hn _ => ?_⟩
    any_goals simp only [State.modStream, h]
    · exact rfl
    · exact .of_egress rfl
    · rw [stream?_setStream, if_neg (by rintro rfl; cases h.symm.trans hj)]
      exact hj
    · exact id
    · exact rfl
    · exact rfl
    · cases h.symm.trans (hn k)

theorem dropJobs_beside (s : State) (p : Job → Bool) : Beside s (s.dropJobs p) :=
  .same rfl rfl fun h => by rw [State.dropJobs, h]; rfl

theorem streamSync_crossing (s : State) (k : Nat) : (s.streamSync k).crossing = s.crossing := by
  unfold State.streamSync
  split
  · rfl
  · dsimp only
    split
    · rfl
    · split <;> rfl

theorem streamSync_beside (s : State) (k : Nat) : Beside s (s.streamSync k) :=
  (streamSync_onRegs s k).beside (by decide) fun _ => streamSync_crossing s k

theorem mirrorSync_crossing (s : State) (k : Nat) (st : Stream) : (s.mirrorSync k st).crossing = s.crossing := by
  unfold State.mirrorSync
  split <;> rfl

theorem mirrorSync_beside (s : State) (k : Nat) (st : Stream) : Beside s (s.mirrorSync k st) :=
  (mirrorSync_onRegs s k st).beside (by decide) fun _ => mirrorSync_crossing s k st

theorem mirrorShow_beside (s : State) (k : Nat) : Beside s (s.mirrorShow k) := by
  unfold State.mirrorShow
  split
  · exact .refl s
  · exact mirrorSync_beside s k _

theorem unitIdle_beside (s : State) (u : UnitName) : Beside s (s.unitIdle u) :=
  (unitIdle_onRegs s u).beside (by decide) fun _ => by cases u <;> rfl

theorem freeUnits_beside (s : State) (p : Job → Bool) : Beside s (s.freeUnits p) := (Beside.refl s).foldl State.unitIdle unitIdle_beside _

theorem poolSync_beside (s : State) : Beside s s.poolSync := (poolSync_onRegs s).beside (by decide) fun _ => rfl

theorem pinSync_beside (s : State) : Beside s s.pinSync := (Beside.refl s).set .PGR_PINNED 0 _

theorem schBudgets_beside (s : State) : Beside s s.schBudgets := by
  unfold State.schBudgets
  refine (((Beside.refl s).foldl _ (fun u c => ?_) _).foldl _ (fun u k => ?_) _).set .SCH_FFT_CAP 0 _ |>.set .SCH_FFT_ADMITTED 0 _
  · exact ((Beside.refl u).set .SCH_MEM_BUDGET c _).set .SCH_MEM_ADMITTED c _
  · exact (((Beside.refl u).set .SCH_CAP k _).set .SCH_ADMITTED k _).set .SCH_UNITS k _

theorem capacitySync_beside (s : State) : Beside s s.capacitySync := by
  unfold State.capacitySync
  exact (Beside.refl s).ite (((Beside.refl s).set .HLT_CAPACITY 0 _).irq .HLT_IRQ .HLT_IRQ_EN 0 2 4)

theorem schStream_beside (s : State) (e : Nat × Stream) : Beside s (s.schStream e) := by
  have h : ∀ a b c, Beside s ((((s.set .SS_DRAM_MBPS e.1 a).set .SS_DECIMATED e.1 b).set .SS_SHED e.1 c).mirrorSync e.1 e.2) :=
    fun a b c => ((((Beside.refl s).set .SS_DRAM_MBPS _ a).set .SS_DECIMATED _ b).set .SS_SHED _ c).trans (mirrorSync_beside _ _ _)
  unfold State.schStream
  dsimp only
  split
  · exact (h _ _ _).set .SS_NET_TICKS _ _
  · split
    · exact (h _ _ _).set .SS_NET_TICKS _ _
    · exact ((h _ _ _).set .SS_NET_TICKS _ _).set .TS_EVAL_CYCLES _ _

theorem schSync_beside (s : State) : Beside s s.schSync := by
  rw [schSync_eq]
  exact ((schBudgets_beside s).trans (capacitySync_beside _)).foldl State.schStream schStream_beside _

/-! ## Dropped frames (R285, R300) -/

theorem grantAct_beside (s : State) (k : Nat) : Beside s (s.grantAct k) := by
  unfold State.grantAct
  split
  · exact .refl s
  · exact modStream_beside s k _

/-- A flue pass is due for a frame of a stream alone. -/
theorem fluePassDue_beside (s : State) (k q : Nat) : Beside s (s.fluePassDue k q) := by
  cases h : s.stream? k with
  | none =>
    simp only [State.fluePassDue, h]
    exact .refl s
  | some st =>
    have hj : ∀ j : Job, Beside s (s.addJob j) := fun j =>
      ⟨.same rfl, rfl, fun _ => rfl, fun hn _ => by cases h.symm.trans (hn k)⟩
    unfold State.fluePassDue
    split
    · exact .refl s
    · exact (Beside.refl s).ite (hj _)

theorem dropFrame_beside (s : State) (k q r : Nat) : Beside s (s.dropFrame k q r) :=
  ((((dropJobs_beside s _).trans (modStream_beside _ k _)).trans (grantAct_beside _ k)).trans (fluePassDue_beside _ k q)).trans
    (streamSync_beside _ k)

theorem dropBatch_beside (s : State) (k q r : Nat) : Beside s (s.dropBatch k q r) :=
  (dropFrame_beside s k q r).set .PP_LAST_DROP_FSEQ k q

theorem notDelivered_beside (s : State) (k q r : Nat) : Beside s (s.notDelivered k q r) :=
  (dropFrame_beside s k q r).set .CTX_FRAMES_DROPPED k _

theorem discardHeld_beside (s : State) (k r : Nat) : Beside s (s.discardHeld k r).1 := by
  cases h : s.stream? k with
  | none => simp only [State.discardHeld, h]; exact .refl s
  | some st =>
    rw [discardHeld_some h]
    refine (Beside.refl s).foldl _ (fun u p => ?_) _
    exact notDelivered_beside u k p.1 _

theorem abandonBuild_beside (s : State) (k : Nat) : Beside s (s.abandonBuild k).1 := by
  unfold State.abandonBuild
  split
  · exact .refl s
  · split
    · exact .refl s
    · next f _ => exact ((dropJobs_beside s _).trans (dropBatch_beside _ k f.fseq 0)).set .PP_ABANDONED k _

/-! ## The recomputation of admission (R291, R501 to R506) -/

theorem streamChanged_beside (s : State) : Beside s s.streamChanged := (Beside.refl s).irq .SCH_IRQ .SCH_IRQ_EN 0 1 6

theorem stepChange_beside (s : State) (a b : Nat) : Beside s (s.stepChange a b) := by
  have h : Beside s { s with degradeQueue := s.degradeQueue ++ [(a, b)] } := .same rfl rfl id
  exact h.set .SCH_STEP_CHANGES 0 _

theorem shedStream_beside (s : State) (k step : Nat) : Beside s (s.shedStream k step) := by
  unfold State.shedStream
  dsimp only
  have h := (discardHeld_beside s k reasonShed).trans (abandonBuild_beside _ k)
  generalize ((s.discardHeld k reasonShed).1.abandonBuild k).1 = v at h ⊢
  refine Beside.trans (Beside.trans (Beside.trans ?_ (modStream_beside _ k _)) (streamChanged_beside _)) (streamSync_beside _ k)
  split
  · exact h
  · refine h.foldl _ (fun u f => ?_) _
    exact dropBatch_beside u k f.fseq 0

theorem addReduction_beside (s : State) (l : List (Nat × Nat)) : Beside s { s with degrade := l } := .same rfl rfl id

theorem reduce_beside {s t : State} (h : s.reduce = some t) : Beside s t := by
  unfold State.reduce at h
  split at h
  · obtain rfl := Option.some.inj h
    exact (addReduction_beside s _).trans (stepChange_beside _ 1 0)
  · split at h
    · obtain rfl := Option.some.inj h
      refine Beside.foldl ((addReduction_beside s _).trans (stepChange_beside _ 2 0)) _ (fun u e => ?_) _
      exact shedStream_beside u e.1 2
    · dsimp only at h
      split at h
      · obtain rfl := Option.some.inj h
        refine Beside.trans (Beside.trans (Beside.trans ?_ (addReduction_beside _ _)) (modStream_beside _ _ _)) (streamChanged_beside _)
        exact (stepChange_beside s 3 0).ite (.refl s)
      · split at h
        · obtain rfl := Option.some.inj h
          exact (addReduction_beside s _).trans (stepChange_beside _ 3 0)
        · split at h
          · cases h
          · obtain rfl := Option.some.inj h
            refine Beside.trans (Beside.trans ?_ (addReduction_beside _ _)) (shedStream_beside _ _ 4)
            exact (Beside.refl s).ite (stepChange_beside s 4 0)

theorem reduceN_beside (n : Nat) (s : State) : Beside s (reduceN n s) := by
  induction n generalizing s with
  | zero => exact .refl s
  | succ n ih =>
    unfold reduceN
    split
    · exact .refl s
    · split
      · exact .refl s
      · next t ht => exact (reduce_beside ht).trans (ih t)

theorem reduceAll_beside (s : State) : Beside s s.reduceAll := by
  unfold State.reduceAll
  dsimp only
  refine Beside.foldl ?_ _ (fun u e => ?_) _
  · split
    · exact .refl s
    · exact ((Beside.refl s).set .SCH_CAUSE 0 _).trans (reduceN_beside _ _)
  · refine Beside.trans (Beside.trans ?_ (addReduction_beside _ _)) (shedStream_beside _ e.1 4)
    exact (Beside.refl u).ite (stepChange_beside u 4 0)

theorem stepSync_beside (s : State) : Beside s s.stepSync := by
  unfold State.stepSync
  have h := (Beside.refl s).set .SCH_STEP 0 (s.degrade.foldl (fun m d => max m d.1) 0)
  exact (h.set .SCH_CAUSE 0 0x1F).ite h

theorem undoTest_beside (s : State) (b : Bool) : Beside s (s.undoTest b) := by
  have h : ∀ o a c, Beside s ((({ s with undoSince := o }).set .SCH_UNDO_PENDING 0 a).set .SCH_UNDO_TICKS 0 c) := by
    intro o a c
    have h0 : Beside s { s with undoSince := o } := .same rfl rfl id
    exact (h0.set .SCH_UNDO_PENDING 0 a).set .SCH_UNDO_TICKS 0 c
  unfold State.undoTest
  exact (h _ _ _).ite ((h _ _ _).ite (h _ _ _))

theorem reportStep_beside (s : State) : Beside s s.reportStep := by
  unfold State.reportStep
  split
  · exact .refl s
  · next rest _ =>
    have h0 : Beside s { s with degradeQueue := rest } := .same rfl rfl id
    exact (Beside.refl s).ite ((h0.irq .SCH_IRQ .SCH_IRQ_EN 0 0 6).capture _ _ _ _ _)

theorem recordStep_beside (s : State) : Beside s s.recordStep := by
  unfold State.recordStep
  split
  · exact .refl s
  · exact (Beside.refl s).ite ((Beside.refl s).capture _ _ _ _ _)

theorem recompute_beside (s : State) : Beside s s.recompute := by
  unfold State.recompute
  refine (Beside.refl s).ite ?_
  have h : Beside s { s with lastAdmission := s.now } := .same rfl rfl id
  generalize ({ s with lastAdmission := s.now } : State) = u at h ⊢
  dsimp only
  split
  · exact h.trans (((((reduceAll_beside u).trans (stepSync_beside _)).trans (undoTest_beside _ _)).trans (reportStep_beside _)).trans
      (schSync_beside _))
  · exact (h.trans (recordStep_beside u)).trans (schSync_beside _)

end Sys2Proof.Machine
end
section
/-! A function-level reset (R128, R129, R132, R153): what a change of role, the end of every stream, packet and object, and the cleared
configuration space leave. -/

namespace Sys2Proof.Tab

variable {α : Type}

theorem mem_del {k : Nat} {m : List (Nat × α)} {e : Nat × α} (h : e ∈ del k m) : e ∈ m ∧ e.1 ≠ k := by
  induction m with
  | nil => cases h
  | cons a m ih =>
    simp only [del] at h
    split at h
    · exact ⟨List.mem_cons_of_mem _ (ih h).1, (ih h).2⟩
    · next hk =>
      rcases List.mem_cons.mp h with rfl | h
      · exact ⟨List.mem_cons_self, Ne.symm hk⟩
      · exact ⟨List.mem_cons_of_mem _ (ih h).1, (ih h).2⟩

theorem find?_none_of_not_mem {k : Nat} {m : List (Nat × α)} (h : k ∉ m.map Prod.fst) : find? k m = none := by
  induction m with
  | nil => rfl
  | cons a m ih =>
    rw [List.map_cons, List.mem_cons, not_or] at h
    rw [find?, if_neg (Ne.symm h.1)]
    exact ih h.2

theorem eq_nil_of_find?_none {m : List (Nat × α)} (h : ∀ k, find? k m = none) : m = [] := by
  cases m with
  | nil => rfl
  | cons a m => simpa [find?] using h a.1

end Sys2Proof.Tab

namespace Sys2Proof.Machine

-- One theorem after the other, as in the tests: in parallel, proofs that wait for the kernel hold one thread with its own
-- stack each.
set_option Elab.async false

theorem State.NoStreams.streams_nil {s : State} (h : s.NoStreams) : s.streams = [] := Tab.eq_nil_of_find?_none h

/-! ## A change of role (R404, R408, R410) -/

theorem resync_beside (s : State) (k : Nat) : Beside s (s.resync k) := (modStream_beside s k _).trans (mirrorShow_beside _ k)

theorem haltMirror_beside (s : State) (k : Nat) : Beside s (s.haltMirror k) := by
  have hm : ∀ (v : State) l, Beside v { v with w.maus := l } := fun v l => .same rfl rfl id
  exact (((freeUnits_beside s _).trans (dropJobs_beside _ _)).trans (hm _ _)).trans (resync_beside _ k)

theorem stopMirroring_beside (s : State) : Beside s s.stopMirroring := by
  have hh : Beside s s.haltMirrors := (Beside.refl s).foldl _ (fun u (e : Nat × Stream) => haltMirror_beside u e.1) _
  refine hh.trans ?_
  change Beside s.haltMirrors s.haltMirrors.cutEpoch
  generalize s.haltMirrors = u
  have h : Beside u { u with w.epochOpen := false, w.snapWait := [], w.epochQ := [] } := .same rfl rfl id
  unfold State.cutEpoch
  exact (h.set .WRN_EPOCH_ABANDONED 0 _).ite (.refl u)

theorem dropDecodes_beside (s : State) (k : Nat) : Beside s (s.dropDecodes k) := (freeUnits_beside s _).trans (dropJobs_beside _ _)

theorem roleFence_beside (s : State) (r : Nat) : Beside s (s.roleFence r) := by
  have h : Beside s s.fencePackets :=
    ⟨{ HostKept.refl s with packets := fun hp => by rw [State.fencePackets, hp]; rfl }, rfl, fun _ => rfl, fun _ hj => hj⟩
  unfold State.roleFence
  exact h.ite (.refl s)

theorem enterRole_beside (s : State) (r : Nat) (b : Bool) : Beside s (s.enterRole r b) := by
  have h0 : ∀ v : State, Beside v { v with w.roleDue := true, leaseLapsed := false } := fun v => .same rfl rfl id
  have h1 : Beside s { s.set .ROLE 0 r with w.roleDue := true, leaseLapsed := false } := ((Beside.refl s).set .ROLE 0 r).trans (h0 _)
  have h2 := h1.ite (c := (r == 0) = true) ((h1.set .LEASE_VALID 0 0).set .GCTL_LEASE_END 0 0)
  exact h2.ite (h2.irq .GCTL_PAIR_IRQ .GCTL_PAIR_IRQ_EN 0 0 2)

theorem leaveRole_beside (s : State) (was : Nat) : Beside s (s.leaveRole was) := by
  have h0 : ∀ v : State, Beside v { v with w.eRx := none, w.rxSkip := none } := fun v => .same rfl rfl id
  unfold State.leaveRole
  refine Beside.trans (Beside.trans (Beside.foldl ?_ _ (fun u e => ?_) _) (h0 _)) (schSync_beside _)
  · exact (stopMirroring_beside s).ite (.refl s)
  · exact (dropDecodes_beside u e.1).trans (modStream_beside _ _ _)

theorem setRole_beside (s : State) (r : Nat) (b : Bool) : Beside s (s.setRole r b) := by
  by_cases h : s.role = r
  · rw [setRole_of_eq h]
    exact roleFence_beside s r
  · rw [setRole_of_ne h]
    exact (roleFence_beside s r).trans ((enterRole_beside _ r b).trans (leaveRole_beside _ _))

/-! ## Registers that return to their reset values -/

theorem clearFields_get (s : State) (p : Nat → Nat → Bool) (f : Field) (i : Nat) :
    (s.clearFields p).get f i = if p f.ctorIdx i then f.reset i else s.get f i := by
  have hd : f.key i / 512 = i := by
    have := f.ctorIdx_lt
    simp only [Field.key]
    omega
  simp only [State.get, State.clearFields, Tab.getD]
  rw [Tab.find?_filter_key (fun k => !p (k % 512) (k / 512)), Field.key_mod, hd]
  cases p f.ctorIdx i <;> rfl

theorem clearFields_beside (s : State) {p : Nat → Nat → Bool} (hp : ∀ f ∈ linkRegs, ∀ i, p f.ctorIdx i = false) :
    Beside s (s.clearFields p) :=
  ⟨⟨fun f hf i => by rw [clearFields_get, hp f hf i]; rfl, rfl, .of_egress rfl, fun _ h => h, id⟩, rfl, fun _ => rfl, fun _ => id⟩

/-! ## A stream goes without a pass or a record (R129) -/

theorem free_beside (s : State) (a : Nat) : Beside s (s.free a) := by
  unfold State.free
  split
  · exact .refl s
  · dsimp only
    split <;> exact .same rfl rfl id

theorem vacate_beside (s : State) (k : Nat) (st : Stream) : Beside s (s.vacate k st) := by
  have hf : Beside s (s.freeAll st.buffers) := (Beside.refl s).foldl _ (fun u (b : Nat × Nat) => free_beside u b.1) _
  have hv : ∀ u : State, Beside u { u with streams := Tab.del k u.streams, jobs := u.jobs.filter fun j => j.stream != k } := fun u => by
    refine ⟨{ HostKept.refl u with gone := fun j hj => ?_ }, rfl, fun _ => rfl, fun _ hj => by rw [hj]; rfl⟩
    rw [State.stream?, Tab.find?_del]
    split
    · rfl
    · exact hj
  exact (hf.trans (freeUnits_beside _ _)).trans (hv _)

theorem blank_beside (s : State) (k : Nat) : Beside s (s.blank k) :=
  ((((((((Beside.refl s).set .CTX_STATE k 0).set .PP_BOUND k 0).set .TS_ENSEMBLE k 0).set .MS_ENABLE k 0).set .SS_NET_TICKS k 0).set
    .SS_DRAM_MBPS k 0).set .SS_DECIMATED k 0).set .SS_SHED k 0

theorem endStream_beside (s : State) (k : Nat) : Beside s (s.endStream k) := by
  cases h : s.stream? k with
  | none =>
    simp only [State.endStream, h]
    exact .refl s
  | some st =>
    rw [endStream_some h]
    exact ((vacate_beside s k st).trans (blank_beside _ k)).trans ((addReduction_beside _ _).trans (stepSync_beside _))

theorem endStream_gone (s : State) (k : Nat) : (s.endStream k).stream? k = none := by
  cases h : s.stream? k with
  | none => simp only [State.endStream, h]
  | some st => exact (endStream_freed h).stream

/-- The engine that decodes a frame lets its stream go. -/
def State.engineFree (s : State) (k : Nat) (f : Frame) : State :=
  match f.phase with
  | .decoding e => s.releaseEngine k e
  | _ => s

theorem engineFree_beside (s : State) (k : Nat) (f : Frame) : Beside s (s.engineFree k f) := by
  unfold State.engineFree
  split
  · next e _ => exact ((Beside.refl s).set .DEC_BUSY e 0).set .CTX_DECODING k 0
  · exact .refl s

theorem killStream_some {s : State} {k : Nat} {st : Stream} (h : s.stream? k = some st) : s.killStream k =
    (((((st.frames.foldl (fun s f => s.engineFree k f) s).haltMirror k).freeUnits fun j => j.stream == k).endStream k).clearFields
      fun f i => streamField f && i == k) := by
  simp only [State.killStream, h]
  rfl

theorem killStream_beside (s : State) (k : Nat) : Beside s (s.killStream k) := by
  have hp : ∀ f ∈ linkRegs, streamField f.ctorIdx = false := by decide
  cases h : s.stream? k with
  | none =>
    simp only [State.killStream, h]
    exact .refl s
  | some st =>
    rw [killStream_some h]
    refine Beside.trans (((Beside.foldl (.refl s) _ (fun u f => engineFree_beside u k f) _).trans (haltMirror_beside _ k)).trans
      ((freeUnits_beside _ _).trans (endStream_beside _ k))) (clearFields_beside _ fun f hf i => ?_)
    rw [hp f hf, Bool.false_and]

theorem killStream_gone (s : State) (k : Nat) : (s.killStream k).stream? k = none := by
  cases h : s.stream? k with
  | none => simp only [State.killStream, h]
  | some st =>
    rw [killStream_some h]
    exact endStream_gone _ k

theorem foldl_killStream_gone (l : List (Nat × Stream)) (s : State) {k : Nat} (h : k ∈ l.map Prod.fst ∨ s.stream? k = none) :
    (l.foldl (fun s e => s.killStream e.1) s).stream? k = none := by
  induction l generalizing s with
  | nil => simpa using h
  | cons e l ih =>
    refine ih (s.killStream e.1) ?_
    by_cases hk : k = e.1
    · exact .inr (hk ▸ killStream_gone s e.1)
    · rcases h with h | h
      · rw [List.map_cons, List.mem_cons] at h
        exact .inl (h.resolve_left hk)
      · exact .inr ((killStream_beside s e.1).gone k h)

/-- Every stream goes. -/
def State.killStreams (s : State) : State := s.streams.foldl (fun s e => s.killStream e.1) s

theorem killStreams_beside (s : State) : Beside s s.killStreams :=
  (Beside.refl s).foldl _ (fun u (e : Nat × Stream) => killStream_beside u e.1) _

theorem killStreams_none (s : State) : s.killStreams.NoStreams := by
  intro k
  by_cases h : k ∈ s.streams.map Prod.fst
  · exact foldl_killStream_gone _ s (.inl h)
  · exact foldl_killStream_gone _ s (.inr (Tab.find?_none_of_not_mem h))

/-! ## Every packet and every object goes (R129) -/

theorem killLoad_beside (s : State) (id : Nat) : Beside s (s.killLoad id) := by
  have he : ∀ (v : State) l, Beside v { v with loadBufs := l } := fun _ _ => .same rfl rfl fun h => h
  unfold State.killLoad
  split
  · exact dropJobs_beside s _
  · exact ((dropJobs_beside s _).trans (he _ _)).trans (free_beside _ _)

/-- The packets are off the list, with what they stage and read. -/
def State.packetsCut (s : State) (p : Pkt → Bool) : State :=
  { s with packets := s.packets.filter fun q => !p q
           staged := s.staged.filter fun x => !((s.packets.filter p).map Pkt.id).contains x.id
           reads := s.reads.filter fun r => !((s.packets.filter p).map Pkt.id).contains r.pkt }

/-- Their loads end too. -/
def State.packetsEnd (s : State) (p : Pkt → Bool) : State := ((s.packets.filter p).map Pkt.id).foldl State.killLoad (s.packetsCut p)

theorem packetsEnd_beside (s : State) (p : Pkt → Bool) : Beside (s.packetsCut p) (s.packetsEnd p) :=
  (Beside.refl _).foldl _ killLoad_beside _

theorem killPackets_eq (s : State) (p : Pkt → Bool) : s.killPackets p = { s.packetsEnd p with
    w.pair := (s.packetsEnd p).w.pair.map fun x => (x.1.filter fun i => !((s.packets.filter p).map Pkt.id).contains i, x.2) } := rfl

theorem killPackets_all (s : State) : HostKept s (s.killPackets fun _ => true) ∧ (s.killPackets fun _ => true).packets = [] ∧
    (s.killPackets fun _ => true).objects = s.objects := by
  have hf : (s.packetsCut fun _ => true).packets = [] := by simp [State.packetsCut]
  have hc : HostKept s (s.packetsCut fun _ => true) := ⟨fun _ _ _ => rfl, rfl, .of_egress rfl, fun _ h => h, fun _ => hf⟩
  have he := packetsEnd_beside s fun _ => true
  have hp := he.parts
  simp only [State.hostParts, Prod.mk.injEq] at hp
  have hw : ∀ (v : State) x, HostKept v { v with w.pair := x } := fun v x => .same rfl
  rw [killPackets_eq]
  exact ⟨(hc.trans he.toHostKept).trans (hw _ _), he.packets hf, hp.1⟩

theorem unload_hostKept (s : State) (o : Obj) : HostKept s (s.unload o) := by
  have h : ∀ (v : State) a b, HostKept v { v with objects := a, pageSlots := b } := fun v a b => .same rfl
  exact (((free_beside s o.base).toHostKept.trans (h _ _ _)).trans (pinSync_beside _).toHostKept).trans (poolSync_beside _).toHostKept

theorem unload_objects (s : State) (o : Obj) : (s.unload o).objects = Tab.del (o.handle % 65536) s.objects := by
  have h : ∀ v : State, v.pinSync.poolSync.objects = v.objects := fun v => by
    have hp := ((pinSync_beside v).trans (poolSync_beside _)).parts
    simp only [State.hostParts, Prod.mk.injEq] at hp
    exact hp.1
  exact h _

/-- Every object goes. -/
def State.unloadAll (s : State) : State := s.objects.foldl (fun s o => s.unload o.2) s

theorem foldl_unload_objects (l : List (Nat × Obj)) (s : State) {e : Nat × Obj} (he : e ∈ (l.foldl (fun s o => s.unload o.2) s).objects) :
    e ∈ s.objects ∧ ∀ o ∈ l, e.1 ≠ o.2.handle % 65536 := by
  induction l generalizing s with
  | nil => exact ⟨he, nofun⟩
  | cons o l ih =>
    obtain ⟨h1, h2⟩ := ih (s.unload o.2) he
    rw [unload_objects] at h1
    obtain ⟨h3, h4⟩ := Tab.mem_del h1
    refine ⟨h3, fun x hx => ?_⟩
    rcases List.mem_cons.mp hx with rfl | hx
    · exact h4
    · exact h2 x hx

theorem unloadAll_hostKept (s : State) : HostKept s s.unloadAll :=
  (HostKept.refl s).foldl _ (fun u (o : Nat × Obj) => unload_hostKept u o.2) _

/-- Where each object stands under its handle's slot, none is left. -/
theorem unloadAll_objects {s : State} (h : ∀ e ∈ s.objects, e.2.handle % 65536 = e.1) : s.unloadAll.objects = [] := by
  refine List.eq_nil_iff_forall_not_mem.mpr fun e he => ?_
  obtain ⟨h1, h2⟩ := foldl_unload_objects s.objects s he
  exact h2 e h1 (h e h1).symm

/-! ## The host-facing state is cleared (R129) -/

/-- Streams, packets and objects are gone, and the units are free. -/
def State.workGone (s : State) : State := (s.killStreams.killPackets fun _ => true).unloadAll.freeUnits fun _ => true

/-- What waits for a client goes, with the registers of clients and streams. -/
def State.hostWipe (s : State) : State :=
  { s with jobs := [], pageSlots := [], staging := none, scrub := none, fences := [], flushes := [], retry := [], covers := [], staged := []
           crossing := [], looked := [], lastFetch := (0, false), dbLatch := [], resetting := [], loadBufs := [], degrade := []
           degradeQueue := [], powerReq := none }.clearFields fun f _ => clientField f || streamField f

/-- The registers of the work that went are brought up to the state. -/
def State.hostSync (s : State) : State :=
  ((((s.set .SOOT_SCRUB_BUSY 0 0).stepSync.undoTest false).pinSync.set .TAKEOVER_BUSY 0 0).recompute).schSync.poolSync

theorem hostClear_eq (s : State) : s.hostClear = s.workGone.hostWipe.hostSync := rfl

theorem workGone_hostKept (s : State) : HostKept s s.workGone :=
  (((killStreams_beside s).toHostKept.trans (killPackets_all _).1).trans (unloadAll_hostKept _)).trans (freeUnits_beside _ _).toHostKept

theorem workGone_empty (s : State) : s.workGone.NoStreams ∧ s.workGone.packets = [] ∧
    ((∀ e ∈ s.objects, e.2.handle % 65536 = e.1) → s.workGone.objects = []) := by
  obtain ⟨kp, hp, ho⟩ := killPackets_all s.killStreams
  have kr := (unloadAll_hostKept (s.killStreams.killPackets fun _ => true)).trans (freeUnits_beside _ fun _ => true).toHostKept
  have ks := (killStreams_beside s).parts
  have kf := (freeUnits_beside (s.killStreams.killPackets fun _ => true).unloadAll fun _ => true).parts
  simp only [State.hostParts, Prod.mk.injEq] at ks kf
  refine ⟨kr.noStreams (kp.noStreams (killStreams_none s)), kr.packets hp, fun h => kf.1.trans (unloadAll_objects ?_)⟩
  rw [ho, ks.1]
  exact h

theorem hostWipe_hostKept (s : State) : HostKept s s.hostWipe := by
  have hp : ∀ f ∈ linkRegs, (clientField f.ctorIdx || streamField f.ctorIdx) = false := by decide
  have h : ∀ f ∈ linkRegs, ∀ i, s.hostWipe.get f i = s.get f i := fun f hf i => by
    rw [State.hostWipe, clearFields_get, hp f hf]
    rfl
  exact ⟨h, rfl, .of_egress rfl, fun _ hk => hk, id⟩

theorem hostWipe_enable (s : State) (c : Nat) : s.hostWipe.get .CL_ENABLE c = 0 := by
  have h : (clientField Field.CL_ENABLE.ctorIdx || streamField Field.CL_ENABLE.ctorIdx) = true := by decide
  rw [State.hostWipe, clearFields_get, h]
  rfl

theorem hostSync_beside (s : State) : Beside s s.hostSync := by
  have h := ((((Beside.refl s).set .SOOT_SCRUB_BUSY 0 0).trans (stepSync_beside _)).trans (undoTest_beside _ false)).trans
      (pinSync_beside _)
  exact (((h.set .TAKEOVER_BUSY 0 0).trans (recompute_beside _)).trans (schSync_beside _)).trans (poolSync_beside _)

theorem hostSync_spares (s : State) : Spares s s.hostSync := by
  have h := (((Spares.refl s).set .SOOT_SCRUB_BUSY 0 0).trans (stepSync_spares _)).trans (undoTest_spares _ false)
  exact ((((h.set .PGR_PINNED 0 _).set .TAKEOVER_BUSY 0 0).trans (recompute_spares _)).trans (schSync_spares _)).trans (poolSync_spares _)

theorem hostClear_hostKept (s : State) : HostKept s s.hostClear := by
  rw [hostClear_eq]
  exact ((workGone_hostKept s).trans (hostWipe_hostKept _)).trans (hostSync_beside _).toHostKept

/-- No client is enabled, and nothing of a client's work is left. -/
theorem hostClear_empty (s : State) : (∀ c, s.hostClear.get .CL_ENABLE c = 0) ∧ s.hostClear.streams = [] ∧ s.hostClear.packets = [] ∧
    s.hostClear.fences = [] ∧ s.hostClear.jobs = [] ∧ ((∀ e ∈ s.objects, e.2.handle % 65536 = e.1) → s.hostClear.objects = []) := by
  obtain ⟨hs, hp, ho⟩ := workGone_empty s
  have kw := hostWipe_hostKept s.workGone
  have kb := hostSync_beside s.workGone.hostWipe
  have kp := kb.parts
  simp only [State.hostParts, Prod.mk.injEq] at kp
  rw [hostClear_eq]
  refine ⟨fun c => ((hostSync_spares _).reg .CL_ENABLE (by decide) c).trans (hostWipe_enable _ c),
    (kb.noStreams (kw.noStreams hs)).streams_nil, kb.packets (kw.packets hp), kp.2.1.trans rfl, kb.jobs (kw.noStreams hs) rfl, fun h => ?_⟩
  exact kp.1.trans (ho h)

/-! ## The reset starts (R128, R129, R484) -/

/-- The event ring's registers. -/
def ringField (f : Nat) : Bool :=
  [Field.EVU_RING_EN, .EVU_IRQ_EN, .EVU_RING_BASE, .EVU_RING_LOG2, .EVU_RING_HEAD, .EVU_RING_TAIL, .EVU_LOST, .EVU_RING_FULL].any
    fun g => g.ctorIdx == f

theorem ringClear_get (s : State) (f : Field) (i : Nat) :
    s.ringClear.get f i = if ringField f.ctorIdx then f.reset i else s.get f i :=
  clearFields_get s (fun g _ => ringField g) f i

/-- An ACTIVE or STANDBY unit becomes ORPHAN, and forgets its epoch. -/
def State.flrRole (s : State) : State :=
  ((if s.role == 0 || s.role == 1 then s.setRole 2 false else s).set .HAS_EPOCH 0 0).set .LAST_ACTIVE 0 0

/-- WDG_SYS loses its host's part, and the reset is in progress. -/
def State.flrMark (s : State) (up : Bool) : State :=
  let s := s.set .WDG_ENABLE 0 (Num.setBit (s.get .WDG_ENABLE 0) 15 false)
  { s with shadowOwner := none, shadowWord := none, w.eDone := none, flr := some (up || s.flr == some true)
           wdg.next := s.wdg.next.map fun (e : Nat × (Nat × Nat)) => if e.1 == 0 then (0, (e.2.1, Num.setBit e.2.2 15 false)) else e }

/-- The reset, but for STATE. -/
def State.flrClear (s : State) (up : Bool) : State := (s.flrRole.hostClear.ringClear.configClear).flrMark up

theorem flrStart_eq (s : State) (up : Bool) :
    s.flrStart up = if (s.flrClear up).isReady then (s.flrClear up).set .DS_STATE 0 6 else s.flrClear up := by
  unfold State.flrStart State.flrClear State.flrMark State.flrRole
  with_reducible rfl

theorem flrRole_beside (s : State) : Beside s s.flrRole :=
  ((((setRole_beside s 2 false).ite (.refl s)).set .HAS_EPOCH 0 0).set .LAST_ACTIVE 0 0)

theorem flrClear_hostKept (s : State) (up : Bool) : HostKept s (s.flrClear up) := by
  have hp : ∀ f ∈ linkRegs, ringField f.ctorIdx = false := by decide
  have hr : ∀ v : State, HostKept v v.ringClear := fun v => by
    have h0 : ∀ u : State, HostKept u { u with lostSinceHead := 0 } := fun u => .same rfl
    exact (clearFields_beside v fun f hf _ => hp f hf).toHostKept.trans (h0 _)
  have hc : ∀ v : State, HostKept v v.configClear := fun v => by
    have h0 : HostKept v { v with bme := false, mse := false, msixEnable := false, funcMask := false, cfg := v.cfg.flr, d3hot := false
                                  msixTable := [], msixPba := [] } := .same rfl
    exact h0.set .LINK_BME 0 0
  have hm : ∀ v : State, HostKept v (v.flrMark up) := fun v => by
    have h0 : ∀ (u : State) a b c d e, HostKept u { u with shadowOwner := a, shadowWord := b, w.eDone := c, flr := d, wdg.next := e } :=
      fun u a b c d e => .same rfl
    exact ((HostKept.refl v).set .WDG_ENABLE 0 _).trans (h0 _ _ _ _ _ _)
  exact ((((flrRole_beside s).toHostKept.trans (hostClear_hostKept _)).trans (hr _)).trans (hc _)).trans (hm _)

/-- The ring's registers, MSI-X and WDG_SYS aside, nothing goes after the clients' work. -/
theorem flrClear_part {α : Type} (s : State) (up : Bool) (p : State → α)
    (hp : ∀ v : State, p ((v.ringClear.configClear).flrMark up) = p v) : p (s.flrClear up) = p s.flrRole.hostClear := hp _

theorem flrClear_get (s : State) (up : Bool) (f : Field) (i : Nat) (h1 : f ≠ .WDG_ENABLE) (h2 : f ≠ .LINK_BME) :
    (s.flrClear up).get f i = s.flrRole.hostClear.ringClear.get f i := by
  have hc : ∀ v : State, v.configClear.get f i = v.get f i := fun v => State.get_set_ne _ _ _ _ h2
  have hm : ∀ v : State, (v.flrMark up).get f i = v.get f i := fun v => State.get_set_ne v _ _ _ h1
  exact (hm _).trans (hc _)

/-- No client and no event ring is enabled (R128, R129). -/
theorem flrClear_enables (s : State) (up : Bool) : (∀ c, (s.flrClear up).get .CL_ENABLE c = 0) ∧ (s.flrClear up).get .EVU_RING_EN = 0 :=
  ⟨fun c => (flrClear_get s up .CL_ENABLE c (by decide) (by decide)).trans (((ringClear_get _ _ c).trans (if_neg (by decide))).trans
      ((hostClear_empty _).1 c)),
    (flrClear_get s up .EVU_RING_EN 0 (by decide) (by decide)).trans ((ringClear_get _ _ 0).trans (if_pos (by decide)))⟩

/-- Nothing of the clients' work is left (R129). -/
theorem flrClear_empty (s : State) (up : Bool) : (s.flrClear up).streams = [] ∧ (s.flrClear up).packets = [] ∧
    (s.flrClear up).fences = [] ∧ (s.flrClear up).jobs = [] ∧
    ((∀ e ∈ s.objects, e.2.handle % 65536 = e.1) → (s.flrClear up).objects = []) := by
  obtain ⟨-, h2, h3, h4, h5, h6⟩ := hostClear_empty s.flrRole
  have ho := (flrRole_beside s).parts
  simp only [State.hostParts, Prod.mk.injEq] at ho
  exact ⟨(flrClear_part s up State.streams fun _ => rfl).trans h2, (flrClear_part s up State.packets fun _ => rfl).trans h3,
    (flrClear_part s up State.fences fun _ => rfl).trans h4, (flrClear_part s up State.jobs fun _ => rfl).trans h5,
    fun h => (flrClear_part s up State.objects fun _ => rfl).trans (h6 (by rw [ho.1]; exact h))⟩

/-- What STATE does not tell is as the reset cleared it. -/
theorem flrStart_part {α : Type} (s : State) (up : Bool) (p : State → α) (hp : ∀ v, p (State.set v .DS_STATE 0 6) = p v) :
    p (s.flrStart up) = p (s.flrClear up) := by
  rw [flrStart_eq]
  split
  · exact hp _
  · rfl

/-- STATE reads FLR where the unit was READY, and stays elsewhere (R129, R132). -/
theorem flrStart_dev (s : State) (up : Bool) : (s.isReady = true → (s.flrStart up).dev = 6) ∧
    (s.isReady = false → (s.flrStart up).dev = s.dev) := by
  have hd : (s.flrClear up).dev = s.dev := (flrClear_hostKept s up).reg .DS_STATE (by decide) 0
  have hr : (s.flrClear up).isReady = s.isReady := by rw [State.isReady, State.isReady, hd]
  rw [flrStart_eq, hr]
  refine ⟨fun h => ?_, fun h => ?_⟩
  · rw [if_pos h]
    exact State.get_set_self _ _ _ _
  · rw [h]
    exact hd

theorem flrStart_get (s : State) (up : Bool) {f : Field} (hf : f ≠ .DS_STATE) (i : Nat) :
    (s.flrStart up).get f i = (s.flrClear up).get f i :=
  flrStart_part s up (fun v => v.get f i) fun _ => State.get_set_ne _ _ _ _ hf

theorem settle_dev (s : State) : (settle s).dev = s.dev := settle_get s _ _ rfl

theorem flrStart_flr (s : State) : (∃ b, (s.flrStart false).flr = some b) ∧ (s.flrStart true).flr = some true :=
  ⟨⟨_, flrStart_part s false State.flr fun _ => rfl⟩, flrStart_part s true State.flr fun _ => rfl⟩

/-! ## FUNCTION_LEVEL_RESET and its end (R129, R132, R153) -/

/-- A GCTL_RESET write of the same cycle that starts a warm reset (R132). -/
def State.warmWins (s : State) (g : Option Nat) : Bool :=
  g.any fun v => v / 65536 % 65536 == 0xC0DE && v.testBit 0 && s.mse && !s.d3hot

theorem warmWins_iff (s : State) (g : Option Nat) : s.warmWins g = true ↔
    ∃ v, g = some v ∧ v / 65536 % 65536 = 0xC0DE ∧ v.testBit 0 = true ∧ s.mse = true ∧ s.d3hot = false := by
  cases g with
  | none => simp [State.warmWins]
  | some v => simp [State.warmWins, and_assoc]

/-- The host's configuration write reaches the function. -/
def State.flrReached (s : State) : Prop :=
  s.get .LINK_DL_UP = 1 ∧ s.get .LINK_DOWN = 0 ∧ s.held = false ∧ s.pwrok = true ∧ s.perstN = true ∧ s.bayrstN = true

theorem functionLevelReset_runs {s : State} (h : s.flrReached) (g : Option Nat) :
    exec (.functionLevelReset g) s = .next (settle (if s.warmWins g then s.warmReset 16 else s.flrStart false)) := by
  obtain ⟨h1, h2, h3, h4, h5, h6⟩ := h
  change execFunctionLevelReset g s = _
  simp [execFunctionLevelReset, State.warmWins, h1, h2, h3, h4, h5, h6]

theorem bootReset_flr (s : State) (cause : Nat) (warm link : Bool) : (s.bootReset cause warm link).flr = none := by
  cases warm <;> cases link <;> rfl

/-- The warm reset that wins completes the function-level reset too (R132). -/
theorem warmReset_shows (s : State) (cause : Nat) : (s.warmReset cause).boot = .sramZero ∧ (s.warmReset cause).get .RC_CAUSE = cause ∧
    (s.warmReset cause).flr = none ∧ (s.warmReset cause).packets = [] ∧ (s.warmReset cause).streams = [] := by
  obtain ⟨k, -, -, r, -⟩ := bootReset_resetKept s cause true true
  obtain ⟨b1, -, b3, b4⟩ := bootBegin_shows (s.bootReset cause true true)
  simp only [Prod.mk.injEq] at b4
  obtain ⟨p1, p2, -⟩ := b4
  have hf := newChallenge_part State.flr (fun _ _ _ _ => rfl) (fun _ _ => rfl)
    { (s.bootReset cause true true).tickResume with boot := .sramZero }
  refine ⟨b1, (b3 .RC_CAUSE (by decide) (by decide)).trans r, hf.trans (bootReset_flr s cause true true), p1.trans k.packets,
      p2.trans k.streams⟩

theorem AddsMessages.noReply {s t : State} (h : AddsMessages s t) :
    ∃ l, t.egress = s.egress ++ l ∧ ∀ x ∈ l, ∀ c n a ws, x ≠ .reply c n a ws := by
  obtain ⟨l, he, hl⟩ := h
  refine ⟨l, he, fun x hx c n a ws => ?_⟩
  obtain ⟨v, b, d, rfl⟩ := hl x hx
  simp

/-- The reset is over, and after the link's return DOWN is cleared. -/
def State.flrLinked (s : State) (up : Bool) : State :=
  if up && s.get .LINK_DL_UP == 1 then ({ s with flr := none } : State).set .LINK_DOWN 0 0 else { s with flr := none }

/-- STATE reads READY again. -/
def State.flrDone (s : State) (up : Bool) : State := if s.dev == 6 then (s.flrLinked up).set .DS_STATE 0 5 else s.flrLinked up

theorem flrComplete_runs {s : State} {up : Bool} (h : s.flr = some up) : exec .flrComplete s = .next (settle (s.flrDone up)) := by
  change execFlrComplete s = _
  simp only [execFlrComplete, h]
  rfl

theorem flrLinked_shows (s : State) (up : Bool) : (s.flrLinked up).flr = none ∧ (s.flrLinked up).dev = s.dev ∧
    (up = true → s.get .LINK_DL_UP = 1 → (s.flrLinked up).get .LINK_DOWN = 0) ∧
    (up = false → (s.flrLinked up).get .LINK_DOWN = s.get .LINK_DOWN) := by
  unfold State.flrLinked
  split
  · next h =>
    exact ⟨rfl, State.get_set_ne _ _ _ _ (by decide), fun _ _ => State.get_set_self _ _ _ _, fun hu => by simp [hu] at h⟩
  · next h => exact ⟨rfl, rfl, fun hu hd => absurd (by simp [hu, hd]) h, fun _ => rfl⟩

theorem flrDone_shows (s : State) (up : Bool) : (s.flrDone up).flr = none ∧ (s.dev = 6 → (s.flrDone up).dev = 5) ∧
    (s.dev ≠ 6 → (s.flrDone up).dev = s.dev) ∧ (up = true → s.get .LINK_DL_UP = 1 → (s.flrDone up).get .LINK_DOWN = 0) ∧
    (up = false → (s.flrDone up).get .LINK_DOWN = s.get .LINK_DOWN) := by
  obtain ⟨hf, hd, hu, hn⟩ := flrLinked_shows s up
  have hg : (s.flrDone up).get .LINK_DOWN = (s.flrLinked up).get .LINK_DOWN := by
    unfold State.flrDone
    split
    · exact State.get_set_ne _ _ _ _ (by decide)
    · rfl
  refine ⟨?_, fun h => ?_, fun h => ?_, fun h1 h2 => hg.trans (hu h1 h2), fun h => hg.trans (hn h)⟩
  · unfold State.flrDone
    split
    · exact hf
    · exact hf
  · rw [State.flrDone, h]
    exact State.get_set_self _ _ _ _
  · rw [State.flrDone, if_neg (by simpa using h)]
    exact hd

/-- What the start leaves, after the step's end too (R128, R129). -/
theorem flrStart_wipes (s : State) (up : Bool) : (∀ c, (s.flrStart up).get .CL_ENABLE c = 0) ∧ (s.flrStart up).get .EVU_RING_EN = 0 ∧
    (s.flrStart up).streams = [] ∧ (s.flrStart up).packets = [] ∧ (s.flrStart up).fences = [] ∧ (s.flrStart up).jobs = [] ∧
    ((∀ e ∈ s.objects, e.2.handle % 65536 = e.1) → (s.flrStart up).objects = []) := by
  obtain ⟨hc, hr⟩ := flrClear_enables s up
  obtain ⟨h1, h2, h3, h4, h5⟩ := flrClear_empty s up
  refine ⟨fun c => (flrStart_get s up (by decide) c).trans (hc c), (flrStart_get s up (by decide) 0).trans hr, ?_, ?_, ?_, ?_, fun h => ?_⟩
  · exact (flrStart_part s up State.streams fun _ => rfl).trans h1
  · exact (flrStart_part s up State.packets fun _ => rfl).trans h2
  · exact (flrStart_part s up State.fences fun _ => rfl).trans h3
  · exact (flrStart_part s up State.jobs fun _ => rfl).trans h4
  · exact (flrStart_part s up State.objects fun _ => rfl).trans (h5 h)

/-- The configuration space is cleared, and device memory stays; interrupt messages alone are sent. -/
theorem flrStart_config (s : State) (up : Bool) : ((s.flrStart up).bme = false ∧ (s.flrStart up).mse = false ∧
    (s.flrStart up).d3hot = false ∧ (s.flrStart up).msixTable = []) ∧ (s.flrStart up).dram = s.dram ∧ AddsMessages s (s.flrStart up) := by
  have hc : ∀ v : State, (((v.configClear).flrMark up).bme, ((v.configClear).flrMark up).mse, ((v.configClear).flrMark up).d3hot,
      ((v.configClear).flrMark up).msixTable) = (false, false, false, []) := fun _ => rfl
  have hk := flrClear_hostKept s up
  have hp := (flrStart_part s up (fun v => (v.bme, v.mse, v.d3hot, v.msixTable)) fun _ => rfl).trans (hc _)
  simp only [Prod.mk.injEq] at hp
  exact ⟨hp, (flrStart_part s up State.dram fun _ => rfl).trans hk.dram,
    hk.adds.trans (.of_egress (flrStart_part s up State.egress fun _ => rfl))⟩

/-- Settles O40: the start by what `flrClear` leaves, or by the warm reset that wins, and the end by what it sets. -/
theorem functionLevelResetCompletes : Obligations.FunctionLevelResetCompletes := by
  unfold Obligations.FunctionLevelResetCompletes
  refine ⟨fun s g h1 h2 h3 h4 h5 h6 => ?_, fun s up h => ?_⟩
  · have hr : s.flrReached := ⟨h1, h2, h3, h4, h5, h6⟩
    dsimp only
    rw [← warmWins_iff]
    refine ⟨fun hw => ⟨_, functionLevelReset_runs hr g, ?_⟩, fun hw => ⟨_, functionLevelReset_runs hr g, ?_⟩⟩
    · dsimp only
      rw [if_pos hw, settle_boot, settle_get _ _ _ rfl, settle_flr, settle_packets, settle_streams]
      exact warmReset_shows s 16
    · rw [if_neg hw]
      obtain ⟨⟨b, hf⟩, -⟩ := flrStart_flr s
      obtain ⟨hr, hn⟩ := flrStart_dev s false
      obtain ⟨w1, w2, w3, w4, w5, w6, w7⟩ := flrStart_wipes s false
      obtain ⟨⟨c1, c2, c3, c4⟩, hd, ha⟩ := flrStart_config s false
      have hm := ha.trans (settle_addsMessages _)
      generalize s.flrStart false = t at *
      simp only [settle_flr, settle_dev, settle_get t .CL_ENABLE _ rfl, settle_get t .EVU_RING_EN 0 rfl, settle_streams, settle_packets,
        settle_fences, settle_jobs, settle_objects,
        settle_bme, settle_mse, settle_d3hot, settle_msixTable, settle_dram]
      exact ⟨by rw [hf]; rfl, hr, hn, w1, w2, w3, w4, w5, w6, w7, c1, c2, c3, c4, hd, hm.noRecord, hm.noReply⟩
  · refine ⟨_, flrComplete_runs h, ?_⟩
    dsimp only
    rw [settle_flr, settle_dev, settle_get _ _ _ rfl]
    exact flrDone_shows s up

end Sys2Proof.Machine
end
section
/-! What waits on the host link: completions in the staging store, the crossing, and the transfers that a lost link ends (R147, R149,
R152, R155). -/

namespace Sys2Proof.Machine

-- One theorem after the other, as in the tests: in parallel, proofs that wait for the kernel hold one thread with its own
-- stack each.
set_option Elab.async false

/-! ## A completion, part by part (R170) -/

section Completion

variable {R : State → State → Prop}

/-- What a completion does after its reply keeps what its parts keep. -/
theorem completeN_rel_after (trans : ∀ {s t u}, R s t → R t u → R s u) (refl : ∀ s, R s s) (writeback : ∀ s c, R s (State.writeback s c))
    (bump : ∀ s h, R s (State.fenceBump s h)) (sig : ∀ s p r, R s (State.replySignal s p r)) (n : Nat)
    (ih : ∀ s id t r, R s (completeN n s id t r)) {s : State} {id : Nat} {p : Pkt} (hp : s.pkt? id = some p) (tick : Nat) (r : Reply) :
    R (s.answer id tick p r) (completeN (n + 1) s id tick r) := by
  have hfold : ∀ (l : List Nat) (v : State) (m : Nat) (q : Reply), R v (l.foldl (fun u w => completeN n u w m q) v) := by
    intro l
    induction l with
    | nil => exact fun v _ _ => refl v
    | cons a l ihl => exact fun v m q => trans (ih v a m q) (ihl _ m q)
  simp only [completeN, hp]
  refine trans ?_ (sig _ p r)
  split
  · exact trans (writeback _ _) (trans (bump _ _) (hfold _ _ _ _))
  · exact writeback _ _

/-- A completion keeps what its reply, its writeback, its fence update and its vector keep. -/
theorem completeN_rel (trans : ∀ {s t u}, R s t → R t u → R s u) (refl : ∀ s, R s s)
    (answer : ∀ s id tick p r, R s (State.answer s id tick p r)) (writeback : ∀ s c, R s (State.writeback s c))
    (bump : ∀ s h, R s (State.fenceBump s h)) (sig : ∀ s p r, R s (State.replySignal s p r)) (n : Nat) (s : State) (id tick : Nat)
    (r : Reply) : R s (completeN n s id tick r) := by
  induction n generalizing s id tick r with
  | zero => exact refl s
  | succ n ih =>
    cases hp : s.pkt? id with
    | none =>
      simp only [completeN, hp]
      exact refl s
    | some p => exact trans (answer s id tick p r) (completeN_rel_after (R := R) trans refl writeback bump sig n ih hp tick r)

end Completion

/-! ## Packets end, each with its transfer -/

/-- The registers that tell a lost link. -/
def lossRegs : List Field := [.LINK_LTSSM, .LINK_DOWN, .LINK_DL_UP, .GCTL_LINK_DOWNS]

/-- From `s` to `t` no packet comes and none joins the crossing, and a sole transfer goes with its packet alone. -/
structure Drains (s t : State) : Prop where
  reg : ∀ f ∈ lossRegs, t.get f = s.get f
  crossing : s.held = false → t.crossing = s.crossing
  packets : ∀ q ∈ t.packets, q ∈ s.packets
  reads : ∀ r, s.reads = [r] → t.reads = [r] ∨ t.pkt? r.pkt = none

section Drains

variable {F : Field → Bool} {s t u : State} {id : Nat}

theorem Drains.held (h : Drains s t) : t.held = s.held := by
  simp only [State.held, h.reg .LINK_LTSSM (by decide)]

/-- A packet that has gone does not come back. -/
theorem Drains.pkt_none (h : Drains s t) (hn : s.pkt? id = none) : t.pkt? id = none := by
  rw [State.pkt?, List.find?_eq_none] at hn ⊢
  exact fun q hq => hn q (h.packets q hq)

theorem Drains.trans (h : Drains s t) (k : Drains t u) : Drains s u :=
  ⟨fun f hf => (k.reg f hf).trans (h.reg f hf), fun hh => (k.crossing (h.held.trans hh)).trans (h.crossing hh),
    fun q hq => h.packets q (k.packets q hq), fun r hr => (h.reads r hr).elim (k.reads r) fun hn => .inr (k.pkt_none hn)⟩

/-- The packets in flight, their transfers and what waits in the crossing. -/
def State.waitView (s : State) := (s.packets, s.reads, s.crossing)

theorem Drains.same (hf : ∀ f ∈ lossRegs, t.get f = s.get f) (h : t.waitView = s.waitView) : Drains s t := by
  simp only [State.waitView, Prod.mk.injEq] at h
  obtain ⟨hp, hr, hc⟩ := h
  exact ⟨hf, fun _ => hc, fun q hq => hp ▸ hq, fun r e => .inl (hr.trans e)⟩

theorem Drains.refl (s : State) : Drains s s := .same (fun _ _ => rfl) rfl

theorem Drains.set (h : Drains s t) (f : Field) (i v : Nat) (hf : f ∉ lossRegs := by decide) : Drains s (t.set f i v) :=
  h.trans (.same (fun _ hg => State.get_set_ne _ _ _ _ fun e => hf (e ▸ hg)) rfl)

theorem Drains.ite {c : Prop} [Decidable c] (h : Drains s t) (k : Drains s u) : Drains s (if c then t else u) := by
  split
  · exact h
  · exact k

theorem Drains.foldl {α : Type} (h : Drains s t) (g : State → α → State) (hg : ∀ s a, Drains s (g s a)) (l : List α) :
    Drains s (l.foldl g t) := by
  induction l generalizing t with
  | nil => exact h
  | cons a l ih => exact ih (h.trans (hg t a))

/-- Registers are written and interrupts signalled, and nothing waits in the crossing for it. -/
theorem OnRegs.drains (h : OnRegs F s t) (hF : ∀ f ∈ lossRegs, F f = false) (hc : s.held = false → t.crossing = s.crossing) :
    Drains s t := by
  obtain ⟨hp, -, -, -, hr, -⟩ := h.only
  exact ⟨fun f hf => h.keeps.1 f 0 (hF f hf), hc, fun q hq => hp ▸ hq, fun r e => .inl (hr.trans e)⟩

end Drains

theorem signal_drains (s : State) (v : Nat) : Drains s (s.signal v) := (signal_onRegs s v).drains (by decide) fun h => signal_crossing h v

theorem discard_drains (s : State) : Drains s s.discard := by
  unfold State.discard
  exact ((Drains.set (.refl s) .HLT_XING_DISCARDS 0 _).ite (.refl s)).set .GCTL_LINK_DISCARDS 0 _

theorem post_drains (s : State) (x : Egress) : Drains s (s.post x) := by
  refine ⟨fun f _ => (post_frame (fun _ => false) s x).1 f 0 rfl, fun h => post_crossing h x, fun q hq => ?_,
    fun r e => .inl ?_⟩
  all_goals unfold State.post at *
  · split at hq <;> exact hq
  · split <;> exact e

theorem capture_drains (s : State) (c src d0 d1 d2 : Nat) : Drains s (s.capture c src d0 d1 d2) := by
  have hp : ∀ v : State, Drains v (if c == 14 then v else v.set .EVU_PENDING 0 (v.get .EVU_PENDING ||| 2 ^ c)) := fun v =>
    (Drains.refl v).ite ((Drains.refl v).set .EVU_PENDING 0 _)
  have hc : ∀ v : State, Drains v (if (v.get .EVU_TICK_STOPPED == 1 && v.staleWritten) = true then v
      else { v with captured := v.captured ++ [⟨v.now, c, src, d0, d1, d2⟩] }) := fun v =>
    (Drains.refl v).ite (.same (fun _ _ => rfl) rfl)
  exact (hp s).trans (hc _)

theorem putReply_drains (s : State) (c tag tick : Nat) (r : Reply) : Drains s (s.putReply c tag tick r) := by
  have h := (capture_drains s 14 c 0 0 0).set .CL_CPL_HEAD c (Num.wrap32 (s.get .CL_CPL_HEAD c + 1))
  unfold State.putReply
  exact h.ite ((h.trans (discard_drains _)).ite (h.trans (post_drains _ _)))

/-- Packet `id` and its transfers leave. -/
def State.leave (s : State) (id : Nat) : State :=
  { s with packets := s.packets.filter fun q => q.id != id, reads := s.reads.filter fun r => r.pkt != id }

theorem leave_pkt (s : State) (id : Nat) : (s.leave id).pkt? id = none := by
  rw [State.pkt?, List.find?_eq_none]
  intro q hq
  simpa using (List.mem_filter.mp hq).2

theorem leave_drains (s : State) (id : Nat) : Drains s (s.leave id) := by
  refine ⟨fun _ _ => rfl, fun _ => rfl, fun q hq => (List.mem_filter.mp hq).1, fun r e => ?_⟩
  by_cases h : r.pkt = id
  · exact .inr (h ▸ leave_pkt s id)
  · exact .inl (by simp [State.leave, e, h])

theorem answer_after (s : State) (id tick : Nat) (p : Pkt) (r : Reply) : Drains (s.leave id) (s.answer id tick p r) :=
  (Drains.set (.refl _) .CL_INFLIGHT p.client _).trans (putReply_drains _ _ _ _ _)

theorem writeback_drains (s : State) (c : Nat) : Drains s (s.writeback c) := by
  unfold State.writeback
  exact (Drains.refl s).ite ((discard_drains s).ite (post_drains s _))

theorem fenceBump_drains (s : State) (h : Nat) : Drains s (s.fenceBump h) := by
  unfold State.fenceBump
  split
  · exact .refl s
  · exact .same (fun _ _ => rfl) rfl

theorem replySignal_drains (s : State) (p : Pkt) (r : Reply) : Drains s (s.replySignal p r) := by
  unfold State.replySignal
  exact (signal_drains s _).ite (.refl s)

theorem completeN_drains (n : Nat) (s : State) (id tick : Nat) (r : Reply) : Drains s (completeN n s id tick r) :=
  completeN_rel (R := Drains) Drains.trans Drains.refl (fun s id tick p r => (leave_drains s id).trans (answer_after s id tick p r))
    writeback_drains fenceBump_drains replySignal_drains n s id tick r

/-- A completion that is written takes its packet with it. -/
theorem completeN_pkt (n : Nat) (s : State) (id tick : Nat) (r : Reply) : (completeN (n + 1) s id tick r).pkt? id = none := by
  cases hp : s.pkt? id with
  | none => simp only [completeN, hp]
  | some p =>
    have h := completeN_rel_after (R := Drains) Drains.trans Drains.refl writeback_drains fenceBump_drains replySignal_drains n
      (completeN_drains n) hp tick r
    exact ((answer_after s id tick p r).trans h).pkt_none (leave_pkt s id)

theorem complete_drains (s : State) (id : Nat) (r : Reply) : Drains s (s.complete id r) := by
  have hj : Drains s (s.endJobOf id) := .same (fun _ _ => rfl) rfl
  have hs : ∀ v : State, Drains v (v.stage s.now id r) := fun v => by
    unfold State.stage
    exact (Drains.refl v).ite (.same (fun _ _ => rfl) rfl)
  unfold State.complete State.completeAt
  exact (hj.trans (hs _)).ite (hj.trans (completeN_drains _ _ _ _ _))

theorem complete_pkt {s : State} (h : s.held = false) (id : Nat) (r : Reply) : (s.complete id r).pkt? id = none := by
  have hh : (s.endJobOf id).held = false := h
  rw [State.complete, State.completeAt, hh]
  exact completeN_pkt _ _ _ _ _

/-! ## The crossing drains (R147, R159) -/

/-- What waits in the crossing is issued, or discarded where no write is. -/
def State.drainCrossing (s : State) : State :=
  s.crossing.foldl (fun s x => if s.linkClosed then s.discard else s.emit x) { s with crossing := [] }

theorem drainStaged_eq (s : State) : s.drainStaged =
    s.staged.foldl (fun s x => completeN (s.packets.length + 1) s x.id x.tick x.reply) { s.drainCrossing with staged := [] } := rfl

theorem drainOne_drains (s : State) (x : Egress) : Drains s (if s.linkClosed then s.discard else s.emit x) :=
  (discard_drains s).ite (.same (fun _ _ => rfl) rfl)

theorem drainCrossing_frame (s : State) : Keeps replyFields s s.drainCrossing := by
  have h0 : Keeps replyFields s { s with crossing := [] } := ⟨fun _ _ _ => rfl, rfl, [], by simp⟩
  refine h0.trans (Keeps.foldl _ (fun u x => ?_) _ _)
  split
  · exact discard_reply u
  · exact emit_frame _ u x

/-- Nothing is left in the crossing while the link takes writes. -/
theorem drainCrossing_empty {s : State} (h : s.held = false) : s.drainCrossing.crossing = [] :=
  (Drains.foldl (.refl _) _ drainOne_drains _).crossing h

theorem drainCrossing_drains (s : State) : (∀ q ∈ s.drainCrossing.packets, q ∈ s.packets) ∧
    ∀ r, s.reads = [r] → s.drainCrossing.reads = [r] ∨ s.drainCrossing.pkt? r.pkt = none := by
  have h : Drains { s with crossing := [] } s.drainCrossing := Drains.foldl (.refl _) _ drainOne_drains _
  exact ⟨h.packets, h.reads⟩

theorem drainStaged_frame (s : State) : Keeps replyFields s s.drainStaged := by
  have h1 : Keeps replyFields s.drainCrossing { s.drainCrossing with staged := [] } := ⟨fun _ _ _ => rfl, rfl, [], by simp⟩
  rw [drainStaged_eq]
  exact ((drainCrossing_frame s).trans h1).trans (Keeps.foldl _ (fun u x => completeN_frame _ _ _ _ _) _ _)

/-- The staged completions are written, and leave the store and the crossing empty. -/
theorem drainStaged_empties {s : State} (h : s.held = false) : s.drainStaged.staged = [] ∧ s.drainStaged.crossing = [] := by
  have hc := drainCrossing_empty h
  have hh : s.drainCrossing.held = false := (held_keeps (drainCrossing_frame s) rfl).trans h
  have hs : ∀ (l : List Staged) (v : State),
      (l.foldl (fun s x => completeN (s.packets.length + 1) s x.id x.tick x.reply) v).staged = v.staged := by
    intro l
    induction l with
    | nil => exact fun _ => rfl
    | cons x l ih => exact fun v => (ih _).trans (completeN_staged _ _ _ _ _)
  have k : Drains { s.drainCrossing with staged := [] } s.drainStaged :=
    Drains.foldl (.refl _) _ (fun u (x : Staged) => completeN_drains _ u x.id x.tick x.reply) _
  exact ⟨hs s.staged _, (k.crossing hh).trans hc⟩

/-- A sole transfer goes with its packet alone. -/
theorem drainStaged_reads {s : State} {r : HostRead} (h : s.reads = [r]) : s.drainStaged.reads = [r] ∨ s.drainStaged.pkt? r.pkt = none := by
  have k : Drains { s.drainCrossing with staged := [] } s.drainStaged :=
    Drains.foldl (.refl _) _ (fun u (x : Staged) => completeN_drains _ u x.id x.tick x.reply) _
  rcases (drainCrossing_drains s).2 r h with hr | hn
  · exact k.reads r hr
  · exact .inr (k.pkt_none hn)

/-! ## Transfers that fail (R149, R152) -/

theorem modStream_drains (s : State) (k : Nat) (g : Stream → Stream) : Drains s (s.modStream k g) := by
  refine .same (fun f _ => modStream_get s k g f 0) ?_
  unfold State.modStream
  split <;> rfl

theorem unfeed_drains (s : State) (k : Nat) (f : Frame) : Drains s (s.unfeed k f) := by
  have hs : ∀ g, Drains s (s.setF k g) := fun g => ((modStream_drains s k _).set .CTX_LAST_FSEQ k _).set .CTX_F_VALID k _
  have hj : ∀ (v : State) p, Drains v (v.dropJobs p) := fun _ _ => .same (fun _ _ => rfl) rfl
  unfold State.unfeed
  split
  · exact .refl s
  · exact ((((hs _).ite (.refl s)).trans (modStream_drains _ k _)).trans (hj _ _)).trans
      ((streamSync_onRegs _ k).drains (by decide) fun _ => streamSync_crossing _ k)

theorem free_drains (s : State) (a : Nat) : Drains s (s.free a) := by
  unfold State.free
  split
  · exact .refl s
  · dsimp only
    split <;> exact .same (fun _ _ => rfl) rfl

/-- A load that failed gives its buffer back. -/
def State.giveBack (s : State) (id base : Nat) : State := ((s.endLoad id).free base).poolSync

theorem giveBack_drains (s : State) (id base : Nat) : Drains s (s.giveBack id base) := by
  have h : Drains s (s.endLoad id) := .same (fun _ _ => rfl) rfl
  exact (h.trans (free_drains _ base)).trans ((poolSync_onRegs _).drains (by decide) fun _ => rfl)

/-- A failed transfer ends its command, after what it had copied is given back. -/
theorem failRead_eq (s : State) (id : Nat) (r : Reply) : ∃ u, Drains s u ∧ s.failRead id r = u.complete id r := by
  unfold State.failRead
  split
  · next k f _ => exact ⟨_, unfeed_drains s k f, rfl⟩
  · split
    · next base _ => exact ⟨_, giveBack_drains s id base, rfl⟩
    · exact ⟨s, .refl s, rfl⟩

theorem failRead_drains (s : State) (id : Nat) (r : Reply) : Drains s (s.failRead id r) := by
  obtain ⟨u, hu, he⟩ := failRead_eq s id r
  rw [he]
  exact hu.trans (complete_drains u id r)

theorem failRead_pkt {s : State} (h : s.held = false) (id : Nat) (r : Reply) : (s.failRead id r).pkt? id = none := by
  obtain ⟨u, hu, he⟩ := failRead_eq s id r
  rw [he]
  exact complete_pkt (hu.held.trans h) id r

theorem failCopies_drains (s : State) (d : Nat) : Drains s (s.failCopies d) :=
  Drains.foldl (.refl s) _ (fun u (r : HostRead) => failRead_drains u r.pkt _) _

/-- The packet of a sole transfer that was asked for ends with it. -/
theorem failCopies_pkt {s : State} {r : HostRead} (h : s.held = false) (hi : r.issued ≠ 0) (hr : s.reads = [r] ∨ s.pkt? r.pkt = none)
    (d : Nat) : (s.failCopies d).pkt? r.pkt = none := by
  rcases hr with hr | hn
  · have hf : s.failCopies d = s.failRead r.pkt (Reply.deviceFault d) := by
      simp [State.failCopies, hr, hi]
    rw [hf]
    exact failRead_pkt h _ _
  · exact (failCopies_drains s d).pkt_none hn

end Sys2Proof.Machine
end
section
/-! The host link: up, down, returned, in Recovery, and its width (R122, R147, R149, R151 to R157). -/

namespace Sys2Proof.Machine

-- One theorem after the other, as in the tests: in parallel, proofs that wait for the kernel hold one thread with its own
-- stack each.
set_option Elab.async false

section HostLink

variable {s : State} {speed width code lane errs : Nat}

/-! ## The link reaches L0 (R122, R153, R155) -/

/-- The registers that a link in L0 shows. -/
def l0Regs : List Field := [.LINK_LTSSM, .LINK_DL_UP, .LINK_SPEED, .LINK_WIDTH]

theorem linkTo_shows (s : State) (speed width : Nat) : (s.linkTo speed width).get .LINK_LTSSM = 3 ∧
    (s.linkTo speed width).get .LINK_DL_UP = 1 ∧
    (s.linkTo speed width).get .LINK_SPEED = speed ∧ (s.linkTo speed width).get .LINK_WIDTH = width := by
  unfold State.linkTo
  simp [State.get_set]

theorem linkTo_get (s : State) (speed width : Nat) {f : Field} (hf : f ∉ l0Regs) (i : Nat) :
    (s.linkTo speed width).get f i = s.get f i := by
  simp only [l0Regs, List.mem_cons, List.not_mem_nil, or_false, not_or] at hf
  obtain ⟨h1, h2, h3, h4⟩ := hf
  unfold State.linkTo
  rw [State.get_set_ne _ _ _ _ h4, State.get_set_ne _ _ _ _ h3, State.get_set_ne _ _ _ _ h2, State.get_set_ne _ _ _ _ h1]

theorem hostLinkUp_runs (hl : s.linkOn = true) (h : linkOk speed width = true) (hu : s.get .LINK_DL_UP = 0) (hd : s.get .LINK_DOWN = 0) :
    exec (.hostLinkUp 3 speed width) s = .next (settle (s.linkTo speed width).recompute.schSync) := by
  change execHostLinkUp 3 speed width s = _
  simp [execHostLinkUp, hl, h, hu, hd]

/-- Polling and Configuration are shown (R122). -/
theorem hostLinkUp_passes {l : Nat} (hl : s.linkOn = true) (h : l = 1 ∨ l = 2) (hu : s.get .LINK_DL_UP = 0) :
    exec (.hostLinkUp l speed width) s = .next (settle (s.set .LINK_LTSSM 0 l)) := by
  change execHostLinkUp l speed width s = _
  rcases h with rfl | rfl <;> simp [execHostLinkUp, hl, hu]

/-- LTSSM alone changes. -/
theorem ltssm_shown (s : State) (v : Nat) : (settle (s.set .LINK_LTSSM 0 v)).get .LINK_LTSSM = v ∧
    KeepsBlock (· == .LINK_LTSSM) 0 s (settle (s.set .LINK_LTSSM 0 v)) :=
  ⟨by rw [settle_get _ _ _ rfl, State.get_set_self], ((KeepsBlock.refl _ 0 s).set .LINK_LTSSM v rfl).settle⟩

/-! ## The link goes down (R151, R152) -/

/-- The link is down in `code`: counted, raised and shown. -/
def State.linkFell (s : State) (code : Nat) : State :=
  (((((s.inRank 8 0).sat 16 .GCTL_LINK_DOWNS).capture 8 0 code 0 0).set .LINK_LTSSM 0 code).set .LINK_DL_UP 0 0).set .LINK_DOWN 0 1

/-- What waited to go out is discarded, and no width is offered (R147, R159). -/
def State.linkDrained (s : State) (code : Nat) : State := { (s.linkFell code).drainStaged with offer := none }

theorem hostLinkDown_eq (s : State) (code : Nat) : s.hostLinkDown code =
    if (s.inRank 8 0).treatment 8 == .apply then (s.linkDrained code).linkLost else s.linkDrained code := rfl

theorem linkFell_shows (s : State) (code : Nat) : (s.linkFell code).get .LINK_DOWN = 1 ∧ (s.linkFell code).get .LINK_DL_UP = 0 ∧
    (s.linkFell code).get .LINK_LTSSM = code ∧ (s.linkFell code).get .GCTL_LINK_DOWNS = Num.satAdd 16 (s.get .GCTL_LINK_DOWNS) 1 := by
  have hc := (capture_drains ((s.inRank 8 0).sat 16 .GCTL_LINK_DOWNS) 8 0 code 0 0).reg .GCTL_LINK_DOWNS (by decide)
  have hn : (s.inRank 8 0).get .GCTL_LINK_DOWNS = s.get .GCTL_LINK_DOWNS := inRank_get s 8 0 0 (by decide)
  unfold State.linkFell
  refine ⟨by simp, by simp [State.get_set], by simp [State.get_set], ?_⟩
  simp (disch := decide) only [State.get_set_ne]
  rw [hc, ← hn]
  exact State.get_set_self _ _ _ _

theorem linkFell_raised (s : State) (code : Nat) : Raised s (s.linkFell code) 8 0 code 0 0 := by
  have hv : ((s.inRank 8 0).sat 16 .GCTL_LINK_DOWNS).rankView = (s.inRank 8 0).rankView :=
    OnRegs.rankView ((OnRegs.refl (· == .GCTL_LINK_DOWNS) _).set .GCTL_LINK_DOWNS 0 _ rfl) (by decide)
  exact (raised_capture hv (by decide) code 0 0).stays (by decide)
    ((((EventsStay.refl _).set .LINK_LTSSM 0 code).set .LINK_DL_UP 0 0).set .LINK_DOWN 0 1)

/-- The transfers and the packets are those of the tick before. -/
theorem linkFell_waits (s : State) (code : Nat) : (s.linkFell code).reads = s.reads ∧ (s.linkFell code).packets = s.packets := by
  have hr : (s.inRank 8 0).reads = s.reads := inRank_part s 8 0 State.reads fun _ => rfl
  have hp : (s.inRank 8 0).packets = s.packets := inRank_part s 8 0 State.packets fun _ => rfl
  have hc := capture_outward ((s.inRank 8 0).sat 16 .GCTL_LINK_DOWNS) 8 0 code 0 0
  refine ⟨?_, hc.1.trans hp⟩
  rw [← hr]
  unfold State.linkFell State.capture
  dsimp only
  split <;> split <;> rfl

theorem linkFell_held (hc : code = 0 ∨ code = 8 ∨ code = 9) : (s.linkFell code).held = false := by
  rw [State.held, (linkFell_shows s code).2.2.1]
  rcases hc with rfl | rfl | rfl <;> rfl

theorem linkDrained_get (s : State) (code : Nat) : ∀ f ∈ lossRegs, (s.linkDrained code).get f = (s.linkFell code).get f := by
  have hr : ∀ f ∈ lossRegs, replyFields f = false := by decide
  exact fun f hf => (drainStaged_frame (s.linkFell code)).1 f 0 (hr f hf)

theorem linkLost_drains (s : State) : Drains s s.linkLost := by
  have h : Drains s { s with retry := [] } := .same (fun _ _ => rfl) rfl
  exact h.trans (failCopies_drains _ _)

/-- The registers of a lost link, whatever its treatment. -/
theorem hostLinkDown_get (s : State) (code : Nat) : ∀ f ∈ lossRegs, (s.hostLinkDown code).get f = (s.linkFell code).get f := by
  intro f hf
  rw [hostLinkDown_eq]
  split
  · exact ((linkLost_drains _).reg f hf).trans (linkDrained_get s code f hf)
  · exact linkDrained_get s code f hf

theorem hostLinkDown_raised (s : State) (code : Nat) : Raised s (s.hostLinkDown code) 8 0 code 0 0 := by
  have hd : EventsStay (s.linkFell code) (s.linkDrained code) :=
    (drainStaged_spares _).eventsStay.trans (.same rfl rfl)
  have hr : EventsStay (s.linkDrained code) { s.linkDrained code with retry := [] } := .same rfl rfl
  have hl := hr.trans (linkLost_spares (s.linkDrained code)).eventsStay
  refine (linkFell_raised s code).stays (by decide) (hd.trans ?_)
  rw [hostLinkDown_eq]
  exact hl.ite (.refl _)

/-- Where the loss takes effect no fetch waits, and a sole transfer that was asked for ends with its packet (R149, R152). -/
theorem hostLinkDown_ends (hc : code = 0 ∨ code = 8 ∨ code = 9) (ht : (s.inRank 8 0).treatment 8 = .apply) :
    (s.hostLinkDown code).retry = [] ∧ ∀ r, s.reads = [r] → r.issued ≠ 0 → (s.hostLinkDown code).pkt? r.pkt = none := by
  have he : s.hostLinkDown code = (s.linkDrained code).linkLost := by rw [hostLinkDown_eq, ht]; rfl
  have hh : ({ s.linkDrained code with retry := [] } : State).held = false :=
    (held_keeps (drainStaged_frame (s.linkFell code)) rfl).trans (linkFell_held hc)
  rw [he]
  refine ⟨?_, fun r hr hi => ?_⟩
  · have hp := (linkLost_spares (s.linkDrained code)).parts
    simp only [State.boardParts, Prod.mk.injEq] at hp
    obtain ⟨-, -, -, -, -, -, -, -, -, -, -, -, hp, -⟩ := hp
    exact hp
  · exact failCopies_pkt hh hi (drainStaged_reads ((linkFell_waits s code).1.trans hr)) _

theorem hostLinkDown_runs (hl : s.linkOn = true) (hc : code = 0 ∨ code = 8 ∨ code = 9) (hu : s.get .LINK_DL_UP = 1) :
    exec (.hostLinkDown code) s = .next (settle (s.hostLinkDown code)) := by
  change execHostLinkDown code s = _
  rcases hc with rfl | rfl | rfl <;> simp [execHostLinkDown, hl, hu]

/-- A lost link, as its registers and its event show it. -/
theorem hostLinkDown_completes (hl : s.linkOn = true) (hc : code = 0 ∨ code = 8 ∨ code = 9) (hu : s.get .LINK_DL_UP = 1) :
    Runs (.hostLinkDown code) s fun t => t.get .LINK_DOWN = 1 ∧ t.get .LINK_DL_UP = 0 ∧ t.get .LINK_LTSSM = code ∧
      t.get .GCTL_LINK_DOWNS = Num.satAdd 16 (s.get .GCTL_LINK_DOWNS) 1 ∧ Raised s t 8 0 code 0 0 ∧
      ((s.inRank 8 0).treatment 8 = .apply → t.retry = [] ∧
        ∀ r p, s.reads = [r] → r.issued ≠ 0 → s.pkt? r.pkt = some p → t.pkt? r.pkt = none) := by
  refine ⟨_, hostLinkDown_runs hl hc hu, ?_⟩
  obtain ⟨h1, h2, h3, h4⟩ := linkFell_shows s code
  have hg := hostLinkDown_get s code
  simp (disch := decide) only [settle_get, settle_retry, hg]
  refine ⟨h1, h2, h3, h4, (hostLinkDown_raised s code).stays (by decide) (settle_spares _).eventsStay, fun ht => ?_⟩
  obtain ⟨k1, k2⟩ := hostLinkDown_ends hc ht
  refine ⟨k1, fun r _ hr hi _ => ?_⟩
  rw [State.pkt?, settle_packets]
  exact k2 r hr hi

/-! ## Recovery (R155) -/

/-- Errors are counted on their lane and noted in AER, and nothing else changes. -/
theorem linkErrs_shows (s : State) (lane errs : Nat) (k : LinkError) :
    (s.linkErrs lane errs k).get .GCTL_LANE_ERR lane = Num.satAdd 16 (s.get .GCTL_LANE_ERR lane) errs ∧
    (s.linkErrs lane errs k).cfg.corStatus = s.cfg.corStatus ||| 2 ^ LinkError.bit k ∧
    ∀ f i, f ≠ .GCTL_LANE_ERR → (s.linkErrs lane errs k).get f i = s.get f i :=
  ⟨State.get_set_self _ _ _ _, rfl, fun _ _ hf => State.get_set_ne _ _ _ _ hf⟩

/-- The errors that the entry into Recovery reports. -/
def State.reported (s : State) (lane errs : Nat) : Option LinkError → State
  | none => s
  | some k => s.linkErrs lane errs k

theorem recoveryEnter_completes (hr : s.linkRuns = true) (hl : lane < 8) (hh : s.held = false) (kind : Option LinkError) :
    Runs (.linkRecovery (.enter lane errs kind)) s fun t => t.get .LINK_LTSSM = 4 ∧ (kind = none → KeepsBlock (· == .LINK_LTSSM) 0 s t) ∧
      ∀ k, kind = some k → t.get .GCTL_LANE_ERR lane = Num.satAdd 16 (s.get .GCTL_LANE_ERR lane) errs ∧
        t.cfg.corStatus = s.cfg.corStatus ||| 2 ^ LinkError.bit k := by
  have he : exec (.linkRecovery (.enter lane errs kind)) s = .next (settle ((s.reported lane errs kind).set .LINK_LTSSM 0 4)) := by
    change execLinkRecovery (.enter lane errs kind) s = _
    rw [execLinkRecovery.eq_def]
    dsimp only
    rw [if_neg (by omega), hr, hh]
    rfl
  refine ⟨_, he, ?_⟩
  cases kind with
  | none =>
    obtain ⟨h1, h2⟩ := ltssm_shown s 4
    exact ⟨h1, fun _ => h2, nofun⟩
  | some k =>
    obtain ⟨h1, h2, -⟩ := linkErrs_shows s lane errs k
    refine ⟨(ltssm_shown _ 4).1, nofun, fun j hj => ?_⟩
    obtain rfl := Option.some.inj hj
    rw [settle_get _ _ _ rfl, settle_cfg, State.get_set_ne _ _ _ _ (by decide)]
    exact ⟨h1, h2⟩

theorem recoverySpeed_completes (hr : s.linkRuns = true) (h4 : s.get .LINK_LTSSM = 4) :
    Runs (.linkRecovery .speed) s fun t => t.get .LINK_LTSSM = 5 ∧ KeepsBlock (· == .LINK_LTSSM) 0 s t := by
  refine ⟨settle (s.set .LINK_LTSSM 0 5), ?_, ltssm_shown s 5⟩
  change execLinkRecovery .speed s = _
  simp [execLinkRecovery, hr, h4]

/-- The link is in L0 at the width that the device takes (R156). -/
def State.atL0 (s : State) (speed width : Nat) : State :=
  match s.offer with
  | none => s.linkTo speed width
  | some w => (s.linkTo speed (min width w)).set .GCTL_LINK_ERR 0 (s.get .GCTL_LINK_ERR ||| 8)

theorem recovered_eq (s : State) (speed width : Nat) : s.recovered speed width =
    ({ s.atL0 speed width with offer := none } : State).drainStaged.issueReads.recompute.schSync := by
  unfold State.recovered State.atL0
  cases s.offer <;> rfl

theorem atL0_shows (s : State) (speed width : Nat) : (s.atL0 speed width).get .LINK_LTSSM = 3 ∧
    (s.atL0 speed width).get .LINK_SPEED = speed ∧
    (s.offer = none → (s.atL0 speed width).get .LINK_WIDTH = width ∧ (s.atL0 speed width).get .GCTL_LINK_ERR = s.get .GCTL_LINK_ERR) ∧
    ∀ w, s.offer = some w → (s.atL0 speed width).get .LINK_WIDTH = min width w ∧
      (s.atL0 speed width).get .GCTL_LINK_ERR = s.get .GCTL_LINK_ERR ||| 8 := by
  unfold State.atL0
  cases s.offer with
  | none =>
    obtain ⟨h1, -, h3, h4⟩ := linkTo_shows s speed width
    exact ⟨h1, h3, fun _ => ⟨h4, linkTo_get s speed width (by decide) 0⟩, nofun⟩
  | some w =>
    obtain ⟨h1, -, h3, h4⟩ := linkTo_shows s speed (min width w)
    simp (disch := decide) only [State.get_set_ne, State.get_set_self]
    refine ⟨h1, h3, nofun, fun v hv => ?_⟩
    obtain rfl := Option.some.inj hv
    exact ⟨h4, trivial⟩

/-- What waited has gone out, and the link's registers are those of L0 (R147, R155). -/
theorem recovered_shows (s : State) (speed width : Nat) : let t := settle (s.recovered speed width)
    t.staged = [] ∧ t.crossing = [] ∧ t.offer = none ∧ ∀ f ∈ linkRegs, t.get f = (s.atL0 speed width).get f := by
  intro t
  have hh : ({ s.atL0 speed width with offer := none } : State).held = false := by
    have h3 : ({ s.atL0 speed width with offer := none } : State).get .LINK_LTSSM = 3 := (atL0_shows s speed width).1
    rw [State.held, h3]
    rfl
  have hg : ∀ f i, ({ s.atL0 speed width with offer := none } : State).get f i = (s.atL0 speed width).get f i := fun _ _ => rfl
  have ho : ({ s.atL0 speed width with offer := none } : State).offer = none := rfl
  have ht : t = settle ({ s.atL0 speed width with offer := none } : State).drainStaged.issueReads.recompute.schSync :=
    congrArg settle (recovered_eq s speed width)
  rw [ht]
  generalize ({ s.atL0 speed width with offer := none } : State) = v at hh hg ho
  obtain ⟨hs, hc⟩ := drainStaged_empties hh
  have kd := drainStaged_frame v
  have hdh : v.drainStaged.held = false := (held_keeps kd rfl).trans hh
  have ki := issueReads_readsOnly v.drainStaged
  have kb := ((recompute_beside v.drainStaged.issueReads).trans (schSync_beside _)).trans (settle_beside _)
  have his := ki.part (fun v => (v.staged, v.crossing, v.offer, v.fields)) fun _ _ _ => rfl
  simp only [Prod.mk.injEq] at his
  obtain ⟨i1, i2, i3, i4⟩ := his
  have hih : v.drainStaged.issueReads.held = false := by
    rw [State.held, State.get_congr i4]
    exact hdh
  have hp := kb.parts
  simp only [State.hostParts, Prod.mk.injEq] at hp
  obtain ⟨-, -, p3, p4⟩ := hp
  have hr : ∀ f ∈ linkRegs, replyFields f = false := by decide
  refine ⟨p4.trans (i1.trans hs), (kb.crossing hih).trans (i2.trans hc), p3.trans (i3.trans (kd.offer.trans ho)), fun f hf => ?_⟩
  exact (kb.reg f hf 0).trans ((State.get_congr i4 f 0).trans ((kd.1 f 0 (hr f hf)).trans (hg f 0)))

theorem recoveryEnd_completes (hr : s.linkRuns = true) (hk : linkOk speed width = true) (hh : s.held = true) :
    Runs (.linkRecovery (.toL0 speed width)) s fun t =>
      t.get .LINK_LTSSM = 3 ∧ t.get .LINK_SPEED = speed ∧ t.staged = [] ∧ t.crossing = [] ∧ t.offer = none ∧
      (s.offer = none → t.get .LINK_WIDTH = width ∧ t.get .GCTL_LINK_ERR = s.get .GCTL_LINK_ERR) ∧
      ∀ w, s.offer = some w → t.get .LINK_WIDTH = min width w ∧ t.get .GCTL_LINK_ERR = s.get .GCTL_LINK_ERR ||| 8 := by
  have he : exec (.linkRecovery (.toL0 speed width)) s = .next (settle (s.recovered speed width)) := by
    change execLinkRecovery (.toL0 speed width) s = _
    simp [execLinkRecovery, hr, hk, hh]
  refine ⟨_, he, ?_⟩
  obtain ⟨hs, hc, ho, hg⟩ := recovered_shows s speed width
  obtain ⟨h1, h2, h3, h4⟩ := atL0_shows s speed width
  rw [hg .LINK_LTSSM (by decide), hg .LINK_SPEED (by decide), hg .LINK_WIDTH (by decide), hg .GCTL_LINK_ERR (by decide)]
  exact ⟨h1, h2, hs, hc, ho, h3, h4⟩

/-! ## The width (R156) -/

/-- The device offers half its width, and enters Recovery where it is not there. -/
def State.narrowed (s : State) (lane errs : Nat) : State :=
  let s1 := { (s.linkErrs lane errs .receiver) with offer := some (s.get .LINK_WIDTH / 2) }
  if s.held then s1 else s1.set .LINK_LTSSM 0 4

theorem linkWidthReduce_completes (hr : s.linkRuns = true) (hl : lane < 8) (ha : s.get .LINK_AUTO_WIDTH = 1)
    (hw : s.cfg.widthDisable = false)
    (he : s.get .LINK_LANE_ERR_LIMIT ≤ errs) (h1 : 1 < s.get .LINK_WIDTH) : Runs (.linkWidthReduce lane errs) s fun t =>
      t.offer = some (s.get .LINK_WIDTH / 2) ∧ t.held = true ∧ t.get .GCTL_LANE_ERR lane = Num.satAdd 16 (s.get .GCTL_LANE_ERR lane) errs ∧
      (s.held = false → t.get .LINK_LTSSM = 4) ∧ t.get .LINK_WIDTH = s.get .LINK_WIDTH := by
  have hx : exec (.linkWidthReduce lane errs) s = .next (settle (s.narrowed lane errs)) := by
    change execLinkWidthReduce lane errs s = _
    rw [execLinkWidthReduce, if_neg (by omega), hr, ha, hw]
    simp only [he, h1, decide_true]
    rfl
  obtain ⟨e1, -, e3⟩ := linkErrs_shows s lane errs .receiver
  have hg : ∀ f i, ({ s.linkErrs lane errs .receiver with offer := some (s.get .LINK_WIDTH / 2) } : State).get f i =
    (s.linkErrs lane errs .receiver).get f i := fun _ _ => rfl
  have hst : ∀ t : State, (settle t).held = t.held := fun t => (settle_beside t).held
  refine ⟨_, hx, ?_⟩
  simp (disch := decide) only [settle_offer, hst, settle_get]
  unfold State.narrowed
  cases hh : s.held with
  | true =>
    rw [if_pos rfl]
    refine ⟨rfl, ?_, e1, nofun, e3 _ _ (by decide)⟩
    rw [State.held, hg, e3 _ _ (by decide)]
    exact hh
  | false =>
    rw [if_neg Bool.false_ne_true]
    simp (disch := decide) only [State.held, State.get_set_self, State.get_set_ne, State.set_offer, hg, e1, e3]
    exact ⟨trivial, rfl, trivial, fun _ => trivial, trivial⟩

/-! ## The first L0, and the link's return (R122, R153) -/

theorem hostLinkUp_completes (hl : s.linkOn = true) (hk : linkOk speed width = true) (hu : s.get .LINK_DL_UP = 0)
    (hd : s.get .LINK_DOWN = 0) : Runs (.hostLinkUp 3 speed width) s fun t =>
      t.get .LINK_DL_UP = 1 ∧ t.get .LINK_LTSSM = 3 ∧ t.get .LINK_SPEED = speed ∧ t.get .LINK_WIDTH = width := by
  have kb := ((recompute_beside (s.linkTo speed width)).trans (schSync_beside _)).trans (settle_beside _)
  obtain ⟨h1, h2, h3, h4⟩ := linkTo_shows s speed width
  refine ⟨_, hostLinkUp_runs hl hk hu hd, ?_⟩
  dsimp only
  rw [kb.reg _ (by decide), kb.reg _ (by decide), kb.reg _ (by decide), kb.reg _ (by decide)]
  exact ⟨h2, h1, h3, h4⟩

/-- The link is up again, and a function-level reset clears what the clients left; DOWN stays until it ends. -/
theorem dlUpReturn_completes (hl : s.linkOn = true) (hk : linkOk speed width = true) (hu : s.get .LINK_DL_UP = 0)
    (hd : s.get .LINK_DOWN = 1) : Runs (.dlUpReturn speed width) s fun t =>
      (t.get .LINK_DL_UP = 1 ∧ t.get .LINK_LTSSM = 3 ∧ t.get .LINK_SPEED = speed ∧ t.get .LINK_WIDTH = width) ∧ t.flr = some true ∧
        t.get .LINK_DOWN = 1 ∧ (s.isReady = true → t.dev = 6) := by
  have hx : exec (.dlUpReturn speed width) s = .next (settle ((s.linkTo speed width).flrStart true)) := by
    change execDlUpReturn speed width s = _
    simp [execDlUpReturn, hl, hu, hd, hk]
  have hg : ∀ f ∈ linkRegs, f ≠ .DS_STATE → ((s.linkTo speed width).flrStart true).get f = (s.linkTo speed width).get f := fun f hf hn =>
    (flrStart_get _ true hn 0).trans ((flrClear_hostKept _ true).reg f hf 0)
  have hr : (s.linkTo speed width).isReady = s.isReady := by
    rw [State.isReady, State.isReady, State.dev, State.dev, linkTo_get s speed width (by decide)]
  obtain ⟨h1, h2, h3, h4⟩ := linkTo_shows s speed width
  refine ⟨_, hx, ?_⟩
  dsimp only
  rw [settle_dev, settle_flr]
  simp (disch := decide) only [settle_get, hg, h1, h2, h3, h4, linkTo_get]
  exact ⟨⟨trivial, trivial, trivial, trivial⟩, (flrStart_flr _).2, hd, fun h => (flrStart_dev _ true).1 (hr.trans h)⟩

end HostLink

/-- Settles O39: each of the link's changes by what it shows, and what it sets off by what that leaves of the link. -/
theorem hostLinkCompletes : Obligations.HostLinkCompletes := by
  unfold Obligations.HostLinkCompletes
  refine fun s hl => ⟨fun speed width hk hu => ⟨hostLinkUp_completes hl hk hu, dlUpReturn_completes hl hk hu⟩,
    fun l speed width h hu => ⟨_, hostLinkUp_passes hl h hu, ltssm_shown s l⟩, fun code hc hu => hostLinkDown_completes hl hc hu,
    fun hr => ⟨?_, ?_, ?_, ?_⟩⟩
  · exact fun lane errs kind hl hh => recoveryEnter_completes hr hl hh kind
  · exact fun h4 => recoverySpeed_completes hr h4
  · exact fun speed width hk hh => recoveryEnd_completes hr hk hh
  · exact fun lane errs hl ha hw he h1 => linkWidthReduce_completes hr hl ha hw he h1

end Sys2Proof.Machine
end
section
/-! The boot ROM's steps (R120, R126, R131, R433, R453, R460, R467, R485). -/

namespace Sys2Proof.Machine

-- One theorem after the other, as in the tests: in parallel, proofs that wait for the kernel hold one thread with its own
-- stack each.
set_option Elab.async false

/-! ## FAULT (R131) -/

/-- The registers that entry into FAULT sets. -/
def faultRegs (f : Field) : Bool := replyFields f || f == .DS_STATE || f == .DS_FAULT_CODE || f == .DS_CHANNEL || f == .WRN_TX_FRAMES

theorem enterFault_eq {s : State} {code : Nat} (h : s.isFault = false) (hc : code ≠ 5) (ch : Nat) :
    s.enterFault code ch = ((s.showFault code ch).sendFault code ch).faultPackets := by
  have h5 : (code == 5) = false := beq_false_of_ne hc
  rw [State.enterFault, h, h5]
  rfl

theorem faultPackets_frame (s : State) : Keeps replyFields s s.faultPackets := by
  unfold State.faultPackets
  split
  · exact .refl _ s
  · exact Keeps.foldl _ (fun u id => complete_frame u id _) _ _

theorem sendFault_get (s : State) (code ch : Nat) {f : Field} (hf : f ≠ .WRN_TX_FRAMES) (i : Nat) :
    (s.sendFault code ch).get f i = s.get f i := by
  unfold State.sendFault
  split
  · exact State.get_set_ne _ _ _ _ hf
  · rfl

theorem sendFault_part {α : Type} (s : State) (code ch : Nat) (p : State → α) (hp : ∀ v t x b, p (State.wrenSend v t x b) = p v) :
    p (s.sendFault code ch) = p s := by
  unfold State.sendFault
  split
  · exact hp _ _ _ _
  · rfl

/-- FAULT shows its code and its channel, and leaves the boot's step. -/
theorem enterFault_shows {s : State} {code : Nat} (h : s.isFault = false) (hc : code ≠ 5) (ch : Nat) :
    (s.enterFault code ch).dev = 7 ∧ (s.enterFault code ch).get .DS_FAULT_CODE = code ∧ (s.enterFault code ch).get .DS_CHANNEL = ch ∧
    (s.enterFault code ch).boot = s.boot ∧ (s.enterFault code ch).certSensed = s.certSensed ∧
    ∀ f i, faultRegs f = false → (s.enterFault code ch).get f i = s.get f i := by
  have hk := faultPackets_frame ((s.showFault code ch).sendFault code ch)
  have hg : ∀ f i, replyFields f = false → f ≠ .WRN_TX_FRAMES → (s.enterFault code ch).get f i = (s.showFault code ch).get f i :=
    fun f i h1 h2 => by rw [enterFault_eq h hc, hk.1 f i h1, sendFault_get _ _ _ h2]
  have hd := (showFault_parts s code ch).2.1
  refine ⟨(hg .DS_STATE 0 (by decide) (by decide)).trans hd, (hg _ 0 (by decide) (by decide)).trans ?_,
    (hg _ 0 (by decide) (by decide)).trans ?_, ?_, ?_, fun f i hf => ?_⟩
  · simp [State.showFault, State.get_set]
  · simp [State.showFault]
  · rw [enterFault_eq h hc, hk.boot]
    exact sendFault_part _ code ch State.boot fun _ _ _ _ => rfl
  · rw [enterFault_eq h hc, hk.certSensed]
    exact sendFault_part _ code ch State.certSensed fun _ _ _ _ => rfl
  · simp only [faultRegs, Bool.or_eq_false_iff, beq_eq_false_iff_ne] at hf
    obtain ⟨⟨⟨⟨h1, h2⟩, h3⟩, h4⟩, h5⟩ := hf
    rw [hg f i h1 h5, State.showFault, State.get_set_ne _ _ _ _ h4, State.get_set_ne _ _ _ _ h3, State.get_set_ne _ _ _ _ h2]

/-- The FAULT of a boot step stands at the step's end. -/
theorem settle_enterFault {s : State} {code : Nat} (h : s.isFault = false) (hc : code ≠ 5) (ch : Nat) :
    (settle (s.enterFault code ch)).dev = 7 ∧ (settle (s.enterFault code ch)).get .DS_FAULT_CODE = code := by
  obtain ⟨h1, h2, -⟩ := enterFault_shows h hc ch
  rw [settle_dev, settle_get _ _ _ rfl]
  exact ⟨h1, h2⟩

theorem isFault_congr {s t : State} (h : t.dev = s.dev) : t.isFault = s.isFault := by rw [State.isFault, State.isFault, h]

theorem booting_noFault {s : State} (h : s.booting = true) : s.isFault = false := by
  simp only [State.booting, Bool.and_eq_true, Bool.not_eq_true'] at h
  exact h.1.1.1.1

/-! ## A register of every channel -/

theorem foldl_set_get (f : Field) (v : Nat → Nat) (l : List Nat) (s : State) (i : Nat) :
    (l.foldl (fun s c => s.set f c (v c)) s).get f i = if i ∈ l then v i else s.get f i := by
  induction l generalizing s with
  | nil => simp
  | cons c l ih =>
    rw [List.foldl_cons, ih, State.get_set]
    by_cases hi : i ∈ l
    · simp [hi]
    · by_cases hc : i = c <;> simp [hi, hc]

theorem foldl_set_frame (f : Field) (v : Nat → Nat) (l : List Nat) (s : State) :
    Keeps (· == f) s (l.foldl (fun s c => s.set f c (v c)) s) :=
  Keeps.foldl _ (fun u c => (Keeps.refl (· == f) u).set f c (v c) (beq_self_eq_true f)) l s

section Steps

variable {s : State} {o : BootOutcome}

theorem sramZeroDone_completes (hb : s.booting = true) (h : s.boot = .sramZero) : Runs .sramZeroDone s fun t =>
    t.boot = .step 1 ∧ t.get .SOOT_SRAM_READY = 1 ∧ RegsBut (· == .SOOT_SRAM_READY) 0 s t := by
  have hx : exec .sramZeroDone s = .next (settle (({ s with boot := .step 1 } : State).set .SOOT_SRAM_READY 0 1)) := by
    change execSramZeroDone s = _
    simp [execSramZeroDone, hb, h]
  have hr : RegsBut (· == .SOOT_SRAM_READY) 0 s { s with boot := .step 1 } := fun _ _ _ _ => rfl
  refine ⟨_, hx, settle_boot _, ?_, (hr.set .SOOT_SRAM_READY 1 rfl).settle⟩
  rw [settle_get _ _ _ rfl, State.get_set_self]

/-! ## Step 1: the fuses (R120, R453) -/

/-- The fuses are read, and shown. -/
def State.fusesShown (s : State) : State :=
  (({ s with certSensed := true, boot := .step 2 } : State).fuseSync.set .FLU_CEILING 0 s.fuses.ceilingBits).set .GCTL_SERIAL 0
    s.fuses.serial

/-- What step 1 leaves where no fuse fails. -/
def State.fusesRead (s : State) : State :=
  (List.range 16).foldl (fun u c => u.set .CH_USABLE_MIB c (if s.fuses.v256 then 16352 else 8176)) s.fusesShown

theorem bootFuses_eq (s : State) : s.bootFuses = if s.fuses.rootFault then s.fusesRead.enterFault 1 0 else s.fusesRead := by
  have k := foldl_set_frame .CH_USABLE_MIB (fun _ => if s.fuses.v256 then 16352 else 8176) (List.range 16) s.fusesShown
  have he : s.bootFuses = if s.fusesRead.fuses.rootFault then s.fusesRead.enterFault 1 0 else s.fusesRead := rfl
  rw [he, show s.fusesRead.fuses = s.fuses from k.fuses]

theorem fusesRead_shows (s : State) : s.fusesRead.boot = .step 2 ∧ s.fusesRead.certSensed = true ∧
    s.fusesRead.get .GCTL_SERIAL = s.fuses.serial ∧ s.fusesRead.dev = s.dev := by
  have k := foldl_set_frame .CH_USABLE_MIB (fun _ => if s.fuses.v256 then 16352 else 8176) (List.range 16) s.fusesShown
  refine ⟨k.boot, k.certSensed, (k.1 .GCTL_SERIAL 0 rfl).trans (State.get_set_self _ _ _ _), (k.1 .DS_STATE 0 rfl).trans ?_⟩
  unfold State.fusesShown State.fuseSync
  simp (disch := decide) only [State.get_set_ne]
  rfl

theorem bootStep1_completes (hb : s.booting = true) (h : s.boot = .step 1) : Runs (.bootStepDone o) s fun t => t.boot = .step 2 ∧
    t.certSensed = true ∧ t.get .GCTL_SERIAL = s.fuses.serial ∧ (s.fuses.rootFault = true → t.dev = 7 ∧ t.get .DS_FAULT_CODE = 1) ∧
    (s.fuses.rootFault = false → t.dev = s.dev) := by
  have hx : exec (.bootStepDone o) s = .next (settle s.bootFuses) := by
    change execBootStepDone o s = _
    simp only [execBootStepDone, hb, h]
    rfl
  obtain ⟨h1, h2, h3, h4⟩ := fusesRead_shows s
  refine ⟨_, hx, ?_⟩
  dsimp only
  rw [settle_boot, settle_certSensed, settle_dev, settle_get _ .GCTL_SERIAL _ rfl, settle_get _ .DS_FAULT_CODE _ rfl, bootFuses_eq]
  cases hf : s.fuses.rootFault with
  | true =>
    obtain ⟨e1, e2, -, e4, e5, e6⟩ := enterFault_shows (code := 1) ((isFault_congr h4).trans (booting_noFault hb)) (by decide) 0
    rw [if_pos rfl]
    exact ⟨e4.trans h1, e5.trans h2, (e6 _ _ (by decide)).trans h3, fun _ => ⟨e1, e2⟩, nofun⟩
  | false =>
    rw [if_neg Bool.false_ne_true]
    exact ⟨h1, h2, h3, nofun, fun _ => h4⟩

/-! ## Step 2: the keys (R433) -/

theorem bootStep2_completes (hb : s.booting = true) (h : s.boot = .step 2) : Runs (.bootStepDone o) s fun t =>
    (o.pufOk = true → t.boot = .step 3 ∧ t.dev = s.dev) ∧ (o.pufOk = false → t.dev = 7 ∧ t.get .DS_FAULT_CODE = 2) := by
  have hx : exec (.bootStepDone o) s = .next (settle (if o.pufOk then
      { s with boot := .step 3, rootSecret := some Config.pufSecret } else s.enterFault 2 0)) := by
    change execBootStepDone o s = _
    simp only [execBootStepDone, hb, h]
    rfl
  refine ⟨_, hx, ?_⟩
  cases o.pufOk with
  | true => exact ⟨fun _ => ⟨settle_boot _, settle_dev _⟩, nofun⟩
  | false => exact ⟨nofun, fun _ => settle_enterFault (booting_noFault hb) (by decide) 0⟩

/-! ## Step 3: the image (R460, R467) -/

theorem fuseSync_dev (s : State) : s.fuseSync.dev = s.dev := by
  unfold State.fuseSync State.dev
  simp (disch := decide) only [State.get_set_ne]

theorem fuseCompletion_dev (s : State) (ok : Bool) : (s.fuseCompletion ok).dev = s.dev := by
  unfold State.fuseCompletion
  split
  · rfl
  · split
    · exact fuseSync_dev _
    · rfl

theorem writeSel_fields (s : State) (r : SelRec) : (s.writeSel r).fields = s.fields := rfl

theorem revert_fields (s : State) (r : SelRec) (event : Nat) (ok : Nat → Bool) : (s.revert r event ok).1.fields = s.fields := by
  dsimp only [State.revert]
  rw [writeSel_fields]
  rfl

/-- The choice writes NOR alone. -/
theorem chooseImage_fields (s : State) (ok : Nat → Bool) : (s.chooseImage ok).1.fields = s.fields := by
  unfold State.chooseImage
  split
  · split
    · rfl
    · split <;> rfl
  · split
    · split
      · exact revert_fields s _ 6 ok
      · dsimp only
        split
        · rfl
        · exact (revert_fields _ _ 8 ok).trans rfl
    · split
      · rfl
      · dsimp only
        split <;> rfl

/-- The outcome of step 3's choice. -/
def State.imagePick (s : State) (o : BootOutcome) : State × BootPick :=
  (s.fuseCompletion o.fuseOk).chooseImage fun k => if k == 0 then o.slotAOk else o.slotBOk

theorem imagePick_dev (s : State) (o : BootOutcome) : (s.imagePick o).1.dev = s.dev :=
  (State.get_congr (chooseImage_fields _ _) .DS_STATE 0).trans (fuseCompletion_dev s o.fuseOk)

/-- The image of slot `k` runs. -/
def State.runImage (s : State) (k : Nat) (trial : Bool) : State :=
  ({ s with fw.slot := k, fw.trial := trial, fwCertified := (s.slotOf k).certified, boot := .step 4 } : State).set .DS_STATE 0 2

/-- What follows the choice. -/
def State.runPick (s : State) : BootPick → State
  | none => s.enterFault 3 0
  | some (k, trial) => s.runImage k trial

theorem bootImage_eq (s : State) (o : BootOutcome) : s.bootImage o = (s.imagePick o).1.runPick (s.imagePick o).2 := rfl

theorem bootStep3_completes (hb : s.booting = true) (h : s.boot = .step 3) : Runs (.bootStepDone o) s fun t =>
    ((s.imagePick o).2 = none → t.dev = 7 ∧ t.get .DS_FAULT_CODE = 3) ∧
    ∀ k trial, (s.imagePick o).2 = some (k, trial) → t.boot = .step 4 ∧ t.dev = 2 ∧ t.fw.slot = k ∧ t.fw.trial = trial := by
  have hx : exec (.bootStepDone o) s = .next (settle (s.bootImage o)) := by
    change execBootStepDone o s = _
    simp only [execBootStepDone, hb, h]
    rfl
  refine ⟨_, hx, fun hp => ?_, fun k trial hp => ?_⟩
  · rw [bootImage_eq, hp]
    exact settle_enterFault ((isFault_congr (imagePick_dev s o)).trans (booting_noFault hb)) (by decide) 0
  · rw [bootImage_eq, hp, settle_boot, settle_dev, settle_fw]
    exact ⟨rfl, State.get_set_self _ _ _ _, rfl, rfl⟩

/-! ## Step 4: DRAM training (R131) -/

/-- Channel `c` trains at the rate found. -/
def State.trainOne (rates : List Nat) (s : State) (c : Nat) : State :=
  let s1 := (s.set .CH_RATE c (rates.getD c 0)).set .CH_TRAINED c (Num.b2n (rates.getD c 0 != 0))
  if rates.getD c 0 == 0 then s1 else { s1 with ch.rates := Tab.put c (rates.getD c 0) s1.ch.rates }

theorem trained_eq (s : State) (rates : List Nat) : s.trained rates = (List.range 16).foldl (State.trainOne rates) s := rfl

theorem trainOne_get (rates : List Nat) (s : State) (c : Nat) {f : Field} (hf : f ≠ .CH_TRAINED) (i : Nat) :
    (s.trainOne rates c).get f i = (s.set .CH_RATE c (rates.getD c 0)).get f i := by
  have h : ((s.set .CH_RATE c (rates.getD c 0)).set .CH_TRAINED c (Num.b2n (rates.getD c 0 != 0))).get f i =
    (s.set .CH_RATE c (rates.getD c 0)).get f i := State.get_set_ne _ _ _ _ hf
  unfold State.trainOne
  dsimp only
  split <;> exact h

theorem foldl_trainOne_rate (rates l : List Nat) (s : State) (i : Nat) :
    (l.foldl (State.trainOne rates) s).get .CH_RATE i = if i ∈ l then rates.getD i 0 else s.get .CH_RATE i := by
  induction l generalizing s with
  | nil => simp
  | cons c l ih =>
    rw [List.foldl_cons, ih, trainOne_get rates s c (by decide), State.get_set]
    by_cases hi : i ∈ l
    · simp [hi]
    · by_cases hc : i = c <;> simp [hi, hc]

theorem foldl_trainOne_dev (rates l : List Nat) (s : State) : (l.foldl (State.trainOne rates) s).dev = s.dev := by
  induction l generalizing s with
  | nil => rfl
  | cons c l ih => exact (ih _).trans ((trainOne_get rates s c (by decide) 0).trans (State.get_set_ne _ _ _ _ (by decide)))

theorem bootTrain_none {rates : List Nat} (h : firstFailing rates = none) :
    s.bootTrain rates = ({ s.trained rates with boot := .step 5 } : State).set .DS_STATE 0 3 := by
  rw [State.bootTrain, h]

theorem bootTrain_some {rates : List Nat} {c : Nat} (h : firstFailing rates = some c) :
    s.bootTrain rates = (s.trained rates).enterFault 4 c := by
  rw [State.bootTrain, h]

theorem bootStep4_completes (hb : s.booting = true) (h : s.boot = .step 4) (hl : o.rates.length = 16) (hr : o.rates.all rateOk = true) :
    Runs (.bootStepDone o) s fun t => (∀ c, c < 16 → t.get .CH_RATE c = o.rates.getD c 0) ∧
      (firstFailing o.rates = none → t.boot = .step 5 ∧ t.dev = 3) ∧
      ∀ c, firstFailing o.rates = some c → (t.dev = 7 ∧ t.get .DS_FAULT_CODE = 4) ∧ t.get .DS_CHANNEL = c := by
  have hx : exec (.bootStepDone o) s = .next (settle (s.bootTrain o.rates)) := by
    change execBootStepDone o s = _
    simp only [execBootStepDone, hb, h, hl, hr]
    rfl
  have hrate : ∀ c, c < 16 → (s.trained o.rates).get .CH_RATE c = o.rates.getD c 0 := fun c hc => by
    rw [trained_eq, foldl_trainOne_rate, if_pos (List.mem_range.mpr hc)]
  have hd : (s.trained o.rates).isFault = false := (isFault_congr (foldl_trainOne_dev o.rates _ s)).trans (booting_noFault hb)
  refine ⟨_, hx, ?_⟩
  dsimp only
  rw [settle_boot, settle_dev, settle_get _ .DS_FAULT_CODE _ rfl, settle_get _ .DS_CHANNEL _ rfl]
  simp only [settle_get _ .CH_RATE _ rfl]
  cases hf : firstFailing o.rates with
  | none =>
    rw [bootTrain_none hf]
    exact ⟨fun c hc => (State.get_set_ne _ _ _ _ (by decide)).trans (hrate c hc), fun _ => ⟨rfl, State.get_set_self _ _ _ _⟩, nofun⟩
  | some c =>
    obtain ⟨e1, e2, e3, -, -, e6⟩ := enterFault_shows (code := 4) hd (by decide) c
    rw [bootTrain_some hf]
    refine ⟨fun i hi => (e6 _ i (by decide)).trans (hrate i hi), nofun, fun j hj => ?_⟩
    obtain rfl := Option.some.inj hj
    exact ⟨⟨e1, e2⟩, e3⟩

/-! ## Step 5: DRAM and its tags (R120) -/

/-- DRAM and every tag are zeroed. -/
def State.dramEmpty (s : State) : State := { s with dram := [], soot := [], marks := [], poison := [], boot := .step 6 }

/-- The channels and the tag store are in service. -/
def State.dramZeroed (s : State) : State :=
  (((List.range 16).foldl (fun u c => u.set .CH_IN_SERVICE c 1) s.dramEmpty).set .SOOT_TAGSTORE_READY 0 1).set .DS_STATE 0 4

theorem bootZero_eq (s : State) : s.bootZero = if s.dramZeroed.wrenOn then s.dramZeroed.startTraining else s.dramZeroed := rfl

theorem dramZeroed_shows (s : State) : (s.dramZeroed.boot = .step 6 ∧ s.dramZeroed.dram = [] ∧ s.dramZeroed.soot = []) ∧
    s.dramZeroed.dev = 4 ∧ s.dramZeroed.get .SOOT_TAGSTORE_READY = 1 ∧ ∀ c, c < 16 → s.dramZeroed.get .CH_IN_SERVICE c = 1 := by
  have k := foldl_set_frame .CH_IN_SERVICE (fun _ => 1) (List.range 16) s.dramEmpty
  have hg := foldl_set_get .CH_IN_SERVICE (fun _ => 1) (List.range 16) s.dramEmpty
  unfold State.dramZeroed
  generalize (List.range 16).foldl (fun u c => u.set .CH_IN_SERVICE c 1) s.dramEmpty = v at k hg
  refine ⟨⟨k.boot, k.dram, k.soot⟩, State.get_set_self _ _ _ _, ?_, fun c hc => ?_⟩
  · rw [State.get_set_ne _ _ _ _ (by decide), State.get_set_self]
  · rw [State.get_set_ne _ _ _ _ (by decide), State.get_set_ne _ _ _ _ (by decide), hg, if_pos (List.mem_range.mpr hc)]

/-- The Wren link's training changes what it shows of the link alone. -/
theorem startTraining_get (s : State) {f : Field} (h1 : f ≠ .WRN_LSTATE) (h2 : f ≠ .WRN_WIDTH) (h3 : f ≠ .WRN_LANE) (i : Nat) :
    s.startTraining.get f i = s.get f i := by
  unfold State.startTraining
  rw [State.get_set_ne _ _ _ _ h3, State.get_set_ne _ _ _ _ h2, State.get_set_ne _ _ _ _ h1]
  rfl

theorem bootStep5_completes (hb : s.booting = true) (h : s.boot = .step 5) : Runs (.bootStepDone o) s fun t =>
    t.boot = .step 6 ∧ t.dev = 4 ∧ t.dram = [] ∧ t.soot = [] ∧ t.get .SOOT_TAGSTORE_READY = 1 ∧
    ∀ c, c < 16 → t.get .CH_IN_SERVICE c = 1 := by
  have hx : exec (.bootStepDone o) s = .next (settle s.bootZero) := by
    change execBootStepDone o s = _
    simp only [execBootStepDone, hb, h]
    rfl
  obtain ⟨⟨h1, h2, h3⟩, h4, h5, h6⟩ := dramZeroed_shows s
  refine ⟨_, hx, ?_⟩
  dsimp only
  rw [settle_boot, settle_dev, settle_dram, settle_soot, settle_get _ .SOOT_TAGSTORE_READY _ rfl, bootZero_eq]
  generalize s.dramZeroed = v at *
  simp only [settle_get _ .CH_IN_SERVICE _ rfl]
  split
  · have hd : v.startTraining.dev = v.dev := startTraining_get _ (by decide) (by decide) (by decide) 0
    simp (disch := decide) only [startTraining_get, hd]
    exact ⟨h1, h4, h2, h3, h5, h6⟩
  · exact ⟨h1, h4, h2, h3, h5, h6⟩

end Steps

end Sys2Proof.Machine
end
section
/-! Step 6 of the boot, and READY (R120, R126, R433, R470, R485). -/

namespace Sys2Proof.Machine

-- One theorem after the other, as in the tests: in parallel, proofs that wait for the kernel hold one thread with its own
-- stack each.
set_option Elab.async false

/-! ## The self-tests (R120, R433) -/

theorem unitTested_frame (s : State) (u : UnitName) (bad : Bool) : Keeps (· != .DS_STATE) s (s.unitTested u bad) := by
  have hs : ∀ f v, f ≠ .DS_STATE → ∀ i, Keeps (· != .DS_STATE) s (s.set f i v) := fun f v hf i =>
    (Keeps.refl _ s).set f i v (bne_iff_ne.mpr hf)
  have hp : ∀ f g i, f ≠ .DS_STATE → g ≠ .DS_STATE → Keeps (· != .DS_STATE) s (if bad then s.set f i 3 else s.set g i 1) :=
    fun f g i hf hg => by
      split
      · exact hs f 3 hf i
      · exact hs g 1 hg i
  cases u with
  | dec n => exact hp _ _ n (by decide) (by decide)
  | array n => exact hp _ _ n (by decide) (by decide)
  | cluster n => exact hp _ _ n (by decide) (by decide)
  | menc n => exact hp _ _ n (by decide) (by decide)
  | fft =>
    cases bad with
    | true => exact (hs .FFT_CAUSE 3 (by decide) 0).set .FFT_FALLBACK 0 1 rfl
    | false => exact hs .FFT_IN_SERVICE 1 (by decide) 0
  | lane n =>
    cases bad with
    | true => exact (hs .TRE_LANE_OUT _ (by decide) 0).set .TRE_CAUSE 0 3 rfl
    | false => exact .refl _ s

/-- The units are tested, and the keys checked. -/
def State.selfTested (s : State) (o : BootOutcome) : State :=
  (allUnits.foldl (fun s u => s.unitTested u (o.failedUnits.contains u)) s).laneSync.keyChecks o.identityOk

theorem selfTested_frame (s : State) (o : BootOutcome) : Keeps (· != .DS_STATE) s (s.selfTested o) := by
  have hu := Keeps.foldl _ (fun s u => unitTested_frame s u (o.failedUnits.contains u)) allUnits s
  have hl : ∀ v : State, Keeps (· != .DS_STATE) v v.laneSync := fun v =>
    ((Keeps.refl _ v).set .TRE_LANES 0 _ rfl).set .TRE_IN_SERVICE 0 _ rfl
  have hk : ∀ v : State, Keeps (· != .DS_STATE) v (v.keyChecks o.identityOk) := fun v =>
    ((((Keeps.refl _ v).set .KEY_IDENTITY_OK 0 _ rfl).set .KEY_MODEL_OK 0 _ rfl).set .KEY_DEBUG_OK 0 _ rfl).set
      .KEY_PAIRING_AVAILABLE 0 _ rfl
  exact (hu.trans (hl _)).trans (hk _)

/-! ## The boot's log and the watchdogs (R470, R485) -/

/-- The log's records change NOR alone. -/
theorem bootLog_part {α : Type} (s : State) (p : State → α) (hp : ∀ (v : State) t w, p (v.log t w) = p v) : p s.bootLog = p s := by
  have hf : ∀ (l : List Nat) (a b c : Nat) (v : State), p (l.foldl (fun s e => s.logUpdate e a b c) v) = p v := by
    intro l a b c
    induction l with
    | nil => exact fun _ => rfl
    | cons e l ih => exact fun v => (ih _).trans (hp v _ _)
  unfold State.bootLog
  split
  · rfl
  · exact (hp _ _ _).trans (hf _ _ _ _ _)

theorem wdgBegin_running (s : State) (w i : Nat) : (s.wdgBegin w).get .WDG_RUNNING i = if i = w then 1 else s.get .WDG_RUNNING i := by
  unfold State.wdgBegin
  dsimp only
  rw [State.get_set]
  by_cases h : i = w
  · simp [h]
  · simp (disch := decide) only [h, and_false, if_false, State.get_set_ne]
    rfl

theorem wdgBegin_lock (s : State) (w : Nat) : (s.wdgBegin w).get .SOOT_LOCK = s.get .SOOT_LOCK := by
  unfold State.wdgBegin
  simp (disch := decide) only [State.get_set_ne]
  rfl

theorem wdgBegin_part (s : State) (w : Nat) : (s.wdgBegin w).fw = s.fw ∧ (s.wdgBegin w).power = s.power := ⟨rfl, rfl⟩

theorem wdgInit_shows (s : State) : s.wdgInit.get .SOOT_LOCK = s.get .SOOT_LOCK ∧ s.wdgInit.get .WDG_RUNNING 0 = 1 ∧
    s.wdgInit.get .WDG_RUNNING 1 = 1 ∧ s.wdgInit.fw = s.fw ∧ s.wdgInit.power = s.power := by
  unfold State.wdgInit
  refine ⟨?_, ?_, ?_, ?_, ?_⟩
  · rw [wdgBegin_lock, wdgBegin_lock]
    simp (disch := decide) only [State.get_set_ne]
  · rw [wdgBegin_running, if_neg (by decide), wdgBegin_running, if_pos rfl]
  · rw [wdgBegin_running, if_pos rfl]
  · rw [(wdgBegin_part _ 1).1, (wdgBegin_part _ 0).1]
    rfl
  · rw [(wdgBegin_part _ 1).2, (wdgBegin_part _ 0).2]
    rfl

/-! ## The latched doorbells (R125, R126) -/

/-- The registers that show READY. -/
def readyRegs : List Field := [.DS_STATE, .SOOT_LOCK, .WDG_RUNNING, .DS_SLOT]

/-- From `s` to `t` the registers that show READY stay, with the boot's step and the power state, and in READY and full power no
doorbell is latched. -/
structure ReadyKept (s t : State) : Prop where
  reg : ∀ f ∈ readyRegs, ∀ i, t.get f i = s.get f i
  parts : (t.boot, t.power) = (s.boot, s.power)
  latched : s.dev = 5 → s.power < 2 → t.dbLatch = s.dbLatch

section ReadyKept

variable {s t u : State}

theorem ReadyKept.trans (h : ReadyKept s t) (k : ReadyKept t u) : ReadyKept s u := by
  refine ⟨fun f hf i => (k.reg f hf i).trans (h.reg f hf i), k.parts.trans h.parts, fun hd hp => ?_⟩
  have hpw : t.power = s.power := (Prod.mk.injEq _ _ _ _ ▸ h.parts).2
  exact (k.latched ((h.reg .DS_STATE (by decide) 0).trans hd) (by rwa [hpw])).trans (h.latched hd hp)

theorem ReadyKept.same (hf : t.fields = s.fields) (hp : (t.boot, t.power) = (s.boot, s.power)) (hl : t.dbLatch = s.dbLatch) :
    ReadyKept s t := ⟨fun f _ i => State.get_congr hf f i, hp, fun _ _ => hl⟩

theorem ReadyKept.refl (s : State) : ReadyKept s s := .same rfl rfl rfl

theorem ReadyKept.set (h : ReadyKept s t) (f : Field) (i v : Nat) (hf : f ∉ readyRegs := by decide) : ReadyKept s (t.set f i v) :=
  h.trans ⟨fun _ hg _ => State.get_set_ne _ _ _ _ fun e => hf (e ▸ hg), rfl, fun _ _ => rfl⟩

theorem ReadyKept.ite {c : Prop} [Decidable c] (h : ReadyKept s t) (k : ReadyKept s u) : ReadyKept s (if c then t else u) := by
  split
  · exact h
  · exact k

theorem ReadyKept.foldl {α : Type} (h : ReadyKept s t) (g : State → α → State) (hg : ∀ s a, ReadyKept s (g s a)) (l : List α) :
    ReadyKept s (l.foldl g t) := by
  induction l generalizing t with
  | nil => exact h
  | cons a l ih => exact ih (h.trans (hg t a))

theorem Keeps.readyKept {F : Field → Bool} (k : Keeps F s t) (hF : ∀ f ∈ readyRegs, F f = false) : ReadyKept s t :=
  ⟨fun f hf i => k.1 f i (hF f hf), by rw [k.boot, k.power], fun _ _ => k.dbLatch⟩

end ReadyKept

theorem replyFields_ready : ∀ f ∈ readyRegs, replyFields f = false := by decide

theorem fenceBump_readyKept (s : State) (h : Nat) : ReadyKept s (s.fenceBump h) := by
  unfold State.fenceBump
  split
  · exact .refl s
  · exact .same rfl rfl rfl

theorem signal_readyKept (s : State) (v : Nat) : ReadyKept s (s.signal v) :=
  (signal_frame (F := linkCounts) s v fun _ h => h).readyKept (by decide)

/-- The flush reply is written (R178). -/
def State.flushWritten (s : State) (c : Nat) (f : FlushRec) : State :=
  let s := { s with flushes := Tab.del c s.flushes }
  let s := (s.set .CL_FLUSH_PENDING c 0).inc .CL_CPL_RESERVED c
  (s.putReply c f.tag s.now ⟨stFlushed, min f.detail 65535, f.r0, f.r1, f.r2, 0⟩).writeback c

/-- Its fence is updated, and its vector signalled. -/
def State.flushTold (s : State) (c : Nat) : State :=
  let s := if s.get .CL_FENCE_EN c == 1 && s.get .CL_CPL_FENCE_VALID c == 1
           then (s.fenceBump (s.get .CL_CPL_FENCE c)).release (s.get .CL_CPL_FENCE c) else s
  if s.get .CL_IRQ_EN c == 1 then s.signal (32 + c) else s

theorem flushReply_some {s : State} {c : Nat} {f : FlushRec} (h : Tab.find? c s.flushes = some f) : s.flushReply c =
    if decide (Num.sub32 (s.get .CL_CPL_RESERVED c) (s.get .CL_CPL_TAIL c) < 2 ^ s.get .CL_CPL_LOG2 c) then (s.flushWritten c f).flushTold c
    else s.set .CL_FLUSH_PENDING c 1 := by
  rw [State.flushReply, h]
  rfl

theorem flushWritten_readyKept (s : State) (c : Nat) (f : FlushRec) : ReadyKept s (s.flushWritten c f) := by
  have hp : ∀ (v : State) t r, ReadyKept v ((v.putReply c f.tag t r).writeback c) := fun v t r =>
    ((putReply_frame v c f.tag t r).trans (writeback_frame _ c)).readyKept replyFields_ready
  have hd : ReadyKept s { s with flushes := Tab.del c s.flushes } := .same rfl rfl rfl
  exact ((hd.set .CL_FLUSH_PENDING c 0).set .CL_CPL_RESERVED c _).trans (hp _ _ _)

theorem flushTold_readyKept (s : State) (c : Nat) : ReadyKept s (s.flushTold c) := by
  have hr : ∀ (v : State) h, ReadyKept v (v.release h) := fun v h => (release_frame v h).readyKept replyFields_ready
  have hs : ∀ v : State, ReadyKept v (if v.get .CL_IRQ_EN c == 1 then v.signal (32 + c) else v) := fun v =>
    (signal_readyKept v _).ite (.refl v)
  exact (((fenceBump_readyKept s _).trans (hr _ _)).ite (.refl s)).trans (hs _)

theorem flushReply_readyKept (s : State) (c : Nat) : ReadyKept s (s.flushReply c) := by
  cases h : Tab.find? c s.flushes with
  | none =>
    rw [flushReply_none h]
    exact .refl s
  | some f =>
    rw [flushReply_some h]
    exact ((flushWritten_readyKept s c f).trans (flushTold_readyKept _ c)).ite ((ReadyKept.refl s).set .CL_FLUSH_PENDING c 1)

theorem cplDoorbell_readyKept (s : State) (c u : Nat) : ReadyKept s (s.cplDoorbell c u) :=
  ((ReadyKept.refl s).set .CL_CPL_TAIL c _).ite ((ReadyKept.refl s).set .CL_DB_REJECTS c _)

theorem cmdDoorbell_readyKept (s : State) (c v : Nat) : ReadyKept s (s.cmdDoorbell c v) := by
  have hc : ∀ (v : State) l, ReadyKept v { v with covers := l } := fun _ _ => .same rfl rfl rfl
  have hs := ((ReadyKept.refl s).set .CL_CMD_TAIL c (Num.wrap32 v)).set .CL_FETCH_STOPPED c 0
  unfold State.cmdDoorbell
  exact ((hs.trans (hc _ _)).ite hs).ite ((ReadyKept.refl s).set .CL_DB_REJECTS c _)

theorem doorbell_readyKept (s : State) (c : Nat) (cmd cpl : Option Nat) : ReadyKept s (s.doorbell c cmd cpl) := by
  unfold State.doorbell
  split
  · exact (ReadyKept.refl s).set .HLT_XING_DISCARDS 0 _
  · split
    · exact .refl s
    · split
      · exact .refl s
      · split
        · next h =>
          refine ⟨fun _ _ _ => rfl, rfl, fun hd hp => ?_⟩
          simp only [hd, bne_self_eq_false, Bool.false_or, Bool.or_eq_true, beq_iff_eq] at h
          omega
        · have hv : ∀ u v, ReadyKept u (u.cmdDoorbell c v) := fun u v => cmdDoorbell_readyKept u c v
          have hu : ∀ u, ReadyKept s ((s.cplDoorbell c u).flushReply c) := fun u =>
            (cplDoorbell_readyKept s c u).trans (flushReply_readyKept _ c)
          cases cpl with
          | none =>
            cases cmd with
            | none => exact .refl s
            | some v => exact hv s v
          | some u =>
            cases cmd with
            | none => exact hu u
            | some v => exact (hu u).trans (hv _ v)

/-- In READY and full power nothing stays latched. -/
theorem applyLatched_shows (s : State) : (∀ f ∈ readyRegs, ∀ i, s.applyLatched.get f i = s.get f i) ∧ s.applyLatched.boot = s.boot ∧
    (s.dev = 5 → s.power < 2 → s.applyLatched.dbLatch = []) := by
  have h : ReadyKept { s with dbLatch := [] } s.applyLatched :=
    (ReadyKept.refl _).foldl _ (fun u (e : Nat × Option Nat × Option Nat) => doorbell_readyKept u e.1 e.2.1 e.2.2) _
  have hp := h.parts
  simp only [Prod.mk.injEq] at hp
  exact ⟨h.reg, hp.1, h.latched⟩

/-! ## READY (R126, R485) -/

/-- The boot is over: the slot that runs, and the trial. -/
def State.bootOver (s : State) : State :=
  let s := (s.set .DS_SLOT 0 s.fw.slot).set .DS_TRIAL 0 (Num.b2n s.fw.trial)
  { s with
    boot := .done
    readyAt := some (if s.captured.any fun e => e.code != 14 && e.tick == s.now then s.now + 1 else s.now)
    fw.upState := if s.fw.trial then 5 else 0
    fw.trialEnd := if s.fw.trial then some (s.now + 600000000) else none
    hlt.start := s.now, hlt.ageNext := s.now + ageTicks, hlt.govLast := s.now }

/-- STATE reads READY, and budgets and pools are published. -/
def State.readyShown (s : State) : State := ((s.bootOver.set .DS_STATE 0 5).recompute).schSync.poolSync

theorem enterReady_eq (s : State) : s.enterReady = s.readyShown.applyLatched := by
  unfold State.enterReady State.readyShown State.bootOver
  with_reducible rfl

theorem readyShown_get (s : State) : ∀ f ∈ readyRegs, ∀ i, s.readyShown.get f i = (s.bootOver.set .DS_STATE 0 5).get f i := by
  have ha : ∀ f ∈ readyRegs, admitFields f = false := by decide
  have hp : ∀ f ∈ readyRegs, poolFields f = false := by decide
  have hk := fun v : State => (recompute_calm v).trans (schSync_calm _)
  exact fun f hf i => ((poolSync_onRegs _).keeps.1 f i (hp f hf)).trans ((hk _).reg f i (ha f hf))

theorem readyShown_parts (s : State) : s.readyShown.boot = .done ∧ s.readyShown.power = s.power := by
  have h := ((recompute_spares (s.bootOver.set .DS_STATE 0 5)).trans (schSync_spares _)).trans (poolSync_spares _)
  have hp := h.parts
  simp only [State.boardParts, Prod.mk.injEq] at hp
  obtain ⟨-, -, -, hb, hw, -⟩ := hp
  exact ⟨hb, hw⟩

theorem enterReady_shows (s : State) : s.enterReady.dev = 5 ∧ s.enterReady.boot = .done ∧
    s.enterReady.get .SOOT_LOCK = s.get .SOOT_LOCK ∧ (∀ i, s.enterReady.get .WDG_RUNNING i = s.get .WDG_RUNNING i) ∧
    s.enterReady.get .DS_SLOT = s.fw.slot ∧ (s.power < 2 → s.enterReady.dbLatch = []) := by
  obtain ⟨hg, hb, hl⟩ := applyLatched_shows s.readyShown
  obtain ⟨pb, pw⟩ := readyShown_parts s
  have hr := fun f hf i => (hg f hf i).trans (readyShown_get s f hf i)
  have ho : ∀ f i, f ≠ .DS_STATE → f ≠ .DS_TRIAL → (s.bootOver.set .DS_STATE 0 5).get f i = (s.set .DS_SLOT 0 s.fw.slot).get f i :=
    fun f i h1 h2 => (State.get_set_ne _ _ _ _ h1).trans (State.get_set_ne _ _ _ _ h2)
  have h5 : s.readyShown.dev = 5 := (readyShown_get s .DS_STATE (by decide) 0).trans (State.get_set_self _ _ _ _)
  rw [enterReady_eq]
  refine ⟨(hg .DS_STATE (by decide) 0).trans h5, hb.trans pb, ?_, fun i => ?_, ?_, fun hp => hl h5 (by rwa [pw])⟩
  · exact (hr _ (by decide) 0).trans ((ho _ 0 (by decide) (by decide)).trans (State.get_set_ne _ _ _ _ (by decide)))
  · exact (hr _ (by decide) i).trans ((ho _ i (by decide) (by decide)).trans (State.get_set_ne _ _ _ _ (by decide)))
  · exact (hr _ (by decide) 0).trans ((ho _ 0 (by decide) (by decide)).trans (State.get_set_self _ _ _ _))

section StepSix

variable {s : State} {o : BootOutcome}

theorem bootFirmware_eq (s : State) (o : BootOutcome) : s.bootFirmware o =
    if !o.selftestOk then (s.selfTested o).enterFault 7 0 else (((s.selfTested o).set .SOOT_LOCK 0 1).bootLog.wdgInit).enterReady := rfl

/-- READY after the self-tests: the lock is set, and the watchdogs run. -/
theorem bootReady_shows (s : State) : let t := ((s.set .SOOT_LOCK 0 1).bootLog.wdgInit).enterReady
    t.dev = 5 ∧ t.boot = .done ∧ t.get .SOOT_LOCK = 1 ∧ t.get .WDG_RUNNING 0 = 1 ∧ t.get .WDG_RUNNING 1 = 1 ∧
    t.get .DS_SLOT = s.fw.slot ∧ (s.power < 2 → t.dbLatch = []) := by
  intro t
  have hl := bootLog_part (s.set .SOOT_LOCK 0 1) (fun v => (v.get .SOOT_LOCK, v.fw, v.power)) fun _ _ _ => rfl
  simp only [Prod.mk.injEq] at hl
  obtain ⟨l1, l2, l3⟩ := hl
  obtain ⟨w1, w2, w3, w4, w5⟩ := wdgInit_shows (s.set .SOOT_LOCK 0 1).bootLog
  obtain ⟨e1, e2, e3, e4, e5, e6⟩ := enterReady_shows (s.set .SOOT_LOCK 0 1).bootLog.wdgInit
  refine ⟨e1, e2, e3.trans (w1.trans (l1.trans (State.get_set_self _ _ _ _))), (e4 0).trans w2, (e4 1).trans w3, ?_, fun hp => e6 ?_⟩
  · rw [e5, w4, l2]
    rfl
  · rw [w5, l3]
    exact hp

theorem bootStep6_completes (hb : s.booting = true) (h : s.boot = .step 6) : Runs (.bootStepDone o) s fun t =>
    (o.selftestOk = false → t.dev = 7 ∧ t.get .DS_FAULT_CODE = 7) ∧ (o.selftestOk = true → t.dev = 5 ∧ t.boot = .done ∧
      t.get .SOOT_LOCK = 1 ∧ t.get .WDG_RUNNING 0 = 1 ∧ t.get .WDG_RUNNING 1 = 1 ∧ t.get .DS_SLOT = s.fw.slot ∧
      (s.power < 2 → t.dbLatch = [])) := by
  have hx : exec (.bootStepDone o) s = .next (settle (s.bootFirmware o)) := by
    change execBootStepDone o s = _
    simp only [execBootStepDone, hb, h]
    rfl
  have k := selfTested_frame s o
  have hf : (s.selfTested o).isFault = false := (isFault_congr (k.1 .DS_STATE 0 rfl)).trans (booting_noFault hb)
  refine ⟨_, hx, ?_⟩
  rw [bootFirmware_eq]
  cases o.selftestOk with
  | false => exact ⟨fun _ => settle_enterFault hf (by decide) 0, nofun⟩
  | true =>
    refine ⟨nofun, fun _ => ?_⟩
    have hr := bootReady_shows (s.selfTested o)
    rw [k.fw, k.power] at hr
    simp only [Bool.not_true, Bool.false_eq_true, if_false]
    rw [settle_dev, settle_boot, settle_dbLatch, settle_get _ .SOOT_LOCK _ rfl, settle_get _ .WDG_RUNNING _ rfl,
      settle_get _ .WDG_RUNNING _ rfl, settle_get _ .DS_SLOT _ rfl]
    exact hr

end StepSix

/-- Settles O42: each step by its own lemma. -/
theorem bootStepsComplete : Obligations.BootStepsComplete := by
  unfold Obligations.BootStepsComplete
  intro s hb
  refine ⟨fun h => sramZeroDone_completes hb h, fun o => ⟨fun h => bootStep1_completes hb h, fun h => bootStep2_completes hb h,
    fun h => bootStep3_completes hb h, fun h hl hr => bootStep4_completes hb h hl hr, fun h => bootStep5_completes hb h,
    fun h => bootStep6_completes hb h⟩⟩

end Sys2Proof.Machine
end
